-- ==== Sys2Proof/Word.lean ====
section
/-! DEFINITION. The words of the block: bytes, the 32-bit lane words and the 64-bit scalar words (manual, "Scope and conventions", R10). -/

namespace Sys2Proof

/-- One byte. -/
abbrev Byte := BitVec 8

/-- One 32-bit word: a vector lane, an accumulator element, a status word. -/
abbrev W32 := BitVec 32

/-- One 64-bit word: a scalar register of a stage program. -/
abbrev W64 := BitVec 64

end Sys2Proof
end

