-- ==== Sys2Proof/Machine/Bits.lean ====
section
/-! DEFINITION. Bit fields of numbers, little-endian byte lists, and finite maps kept as lists of keyed entries
in rising key order (R10, R11). Every multi-byte field of the device is little-endian. -/

namespace Sys2Proof.Machine

/-- The field of width `w` whose lowest bit is bit `lo` (R10). -/
def fld (n lo w : Nat) : Nat := (n >>> lo) % 2 ^ w

/-- Bit `i` of a number. -/
def bit (n i : Nat) : Bool := (n >>> i) % 2 == 1

/-- The number with the field of width `w` at bit `lo` replaced by `v`. -/
def setFld (n lo w v : Nat) : Nat := n - (fld n lo w <<< lo) + ((v % 2 ^ w) <<< lo)

/-- The number with bit `i` set. -/
def setBit (n i : Nat) : Nat := if bit n i then n else n + 2 ^ i

/-- The number with bit `i` cleared. -/
def clrBit (n i : Nat) : Nat := if bit n i then n - 2 ^ i else n

/-- A truth value as one bit. -/
def b2n (b : Bool) : Nat := if b then 1 else 0

/-- The number of bits set among the lowest `w` bits. -/
def popcount : Nat → Nat → Nat
  | 0, _ => 0
  | w + 1, n => n % 2 + popcount w (n / 2)

/-- The position of the lowest bit set, below `w`. -/
def lowBit (w n : Nat) : Option Nat := (List.range w).find? (fun i => bit n i)

/-- Floor division rounding up. -/
def ceilDiv (a b : Nat) : Nat := (a + b - 1) / b

/-- The number spelled by bytes, the first byte lowest (R11). -/
def leNat : List Byte → Nat
  | [] => 0
  | b :: r => b.toNat + 256 * leNat r

/-- The `k` lowest bytes of a number, the lowest first (R11). -/
def leBytes : Nat → Nat → List Byte
  | 0, _ => []
  | k + 1, n => BitVec.ofNat 8 n :: leBytes k (n / 256)

/-- The bytes `off` to `off + len - 1` of a list; bytes past its end read zero. -/
def slice (bs : List Byte) (off len : Nat) : List Byte :=
  (List.range len).map (fun i => bs.getD (off + i) 0)

/-- The little-endian field of `len` bytes at `off`. -/
def leAt (bs : List Byte) (off len : Nat) : Nat := leNat (slice bs off len)

/-- The list with `new` written over its bytes from `off` on; the length does not change. -/
def overlay (bs : List Byte) (off : Nat) (new : List Byte) : List Byte :=
  (List.range bs.length).map (fun i =>
    if off ≤ i ∧ i < off + new.length then new.getD (i - off) 0 else bs.getD i 0)

/-- `n` zero bytes. -/
def zeros (n : Nat) : List Byte := List.replicate n 0

/-- Whether every byte is zero. -/
def allZero (bs : List Byte) : Bool := bs.all (· == 0)

/-- The two's complement value of a `w`-bit number. -/
def sext (w n : Nat) : Int := if n % 2 ^ w < 2 ^ (w - 1) then (n % 2 ^ w : Nat) else (n % 2 ^ w : Nat) - (2 ^ w : Nat)

/-- A number cut down to `w` bits by wrapping. -/
def wrapN (w n : Nat) : Nat := n % 2 ^ w

/-- A number held at the largest `w`-bit value. -/
def satN (w n : Nat) : Nat := if n < 2 ^ w then n else 2 ^ w - 1

/-! ## Keyed lists -/

/-- The entry of key `k`, `d` when there is none. -/
def kget {α : Type} (d : α) (k : Nat) : List (Nat × α) → α
  | [] => d
  | (k', v) :: r => if k = k' then v else kget d k r

/-- The entry of key `k`, if there is one. -/
def kfind {α : Type} (k : Nat) : List (Nat × α) → Option α
  | [] => none
  | (k', v) :: r => if k = k' then some v else kfind k r

/-- The list with the entry of key `k` put in, before the first larger key, in place of an older entry of `k`. -/
def kput {α : Type} (k : Nat) (v : α) : List (Nat × α) → List (Nat × α)
  | [] => [(k, v)]
  | (k', v') :: r =>
    if k < k' then (k, v) :: (k', v') :: r
    else if k = k' then (k, v) :: r
    else (k', v') :: kput k v r

/-- The list without the entry of key `k`. -/
def kdel {α : Type} (k : Nat) (m : List (Nat × α)) : List (Nat × α) := m.filter (fun e => e.1 != k)

/-- The list with the entry of key `k`, if there is one, changed by `f`. -/
def kmod {α : Type} (k : Nat) (f : α → α) (m : List (Nat × α)) : List (Nat × α) :=
  m.map (fun e => if e.1 = k then (e.1, f e.2) else e)

/-- The list without the entries whose key fails `p`. -/
def kkeep {α : Type} (p : Nat → Bool) (m : List (Nat × α)) : List (Nat × α) := m.filter (fun e => p e.1)

/-- The sum of `f` over a list. -/
def sumBy {α : Type} (f : α → Nat) (l : List α) : Nat := l.foldl (fun n a => n + f a) 0

/-- The elements that satisfy `p`, counted. -/
def countBy {α : Type} (p : α → Bool) (l : List α) : Nat := (l.filter p).length

/-- The position of the first element that satisfies `p`. -/
def indexBy {α : Type} (p : α → Bool) (l : List α) : Option Nat := l.findIdx? p

/-- The list with element `i` changed by `f`. -/
def modAt {α : Type} (i : Nat) (f : α → α) (l : List α) : List α := l.modify i f

/-- The first number at or after `start`, among the `span` numbers from `lo` taken in a circle, that `used` does not
hold, tried `fuel` times. -/
def nextFree (used : Nat → Bool) (lo span : Nat) : Nat → Nat → Option Nat
  | 0, _ => none
  | fuel + 1, start =>
    let n := lo + (start - lo) % span
    if used n then nextFree used lo span fuel (n + 1) else some n

/-- Insertion of an element before the first one that `lt` puts after it. -/
def insertBy {α : Type} (lt : α → α → Bool) (a : α) : List α → List α
  | [] => [a]
  | b :: r => if lt a b then a :: b :: r else b :: insertBy lt a r

/-- A list in the order of `lt`; elements that `lt` does not order keep their order. -/
def sortBy {α : Type} (lt : α → α → Bool) : List α → List α
  | [] => []
  | a :: r => insertBy (fun x y => !lt y x) a (sortBy lt r)

end Sys2Proof.Machine
end

