-- ==== Sys2Proof/Syntax.lean ====
section
/-! DEFINITION. The syntax of the commands: one constructor of Instr for each row of spec/opcode_table.json,
with the operands that the row's rule gives it, and the small operand types they need. A value that a command takes
from outside the device (bytes read from a host's memory, the outcome of a medium read, the outcome of a check that
the manual leaves to physics) is an operand of the command. -/

namespace Sys2Proof

/-- A PCI function: fabric port and ARI function number, which is the partition number (R303). -/
structure FnId where
  port : Nat
  num : Nat
deriving DecidableEq, Repr

/-- The common part of an admin command as fetched from the admin submission queue of a function (R182):
the function, the command identifier CID, and whether a reserved field or bit of the 64 bytes is not zero. `run` counts the enables
of the queue up to the one under which the command was fetched; the device notes it at the fetch, so a command arrives with 0. -/
structure Adm where
  fn : FnId
  cid : Nat
  rsv : Bool
  run : Nat := 0
deriving DecidableEq, Repr

/-- The parameters of CH_CREATE, Table 06.4. `args` is RECIPE_ARGS read little-endian. -/
structure ChArgs where
  recipe : Nat
  cls : Nat
  policy : Nat
  sqLog2 : Nat
  cqLog2 : Nat
  loc : Nat
  clusters : Nat
  sqAddr : Nat
  cqAddr : Nat
  sqEp : Nat
  cqEp : Nat
  inflight : Nat
  flags : Nat
  args : Nat
deriving DecidableEq, Repr

/-- The outcome of an access that the device makes outside itself: the bytes (none for a write),
a failed access (timeout, unsupported request, abort), or data that arrived poisoned. -/
inductive Resp where
  | data (bs : List Byte)
  | failed
  | poisoned
  /-- No answer within the completion timeout (R344, R345). -/
  | timedOut
deriving DecidableEq, Repr

/-- A write of a tail or head of an admin queue: its value, and how the read of the queue that it may bring about ends (R181). -/
structure QWrite where
  val : Nat
  acc : Resp
deriving DecidableEq, Repr

/-- The SECDED outcome of a cluster SRAM read (R153). -/
inductive Ecc where
  | ok
  | corrected
  | uncorrectable
deriving DecidableEq, Repr

/-- The residue check of an array result (R167): the first pass agrees, only the replay agrees, or neither does; in a
duplicate window the mismatch may be the Bud's own (R168). -/
inductive Residue where
  | pass
  | masked
  | hard
  | budMasked
  | budHard
deriving DecidableEq, Repr

/-- The comparison of a duplicate window that this STEP ends or continues (R389, R391). -/
inductive DupCheck where
  | agree
  | differ
deriving DecidableEq, Repr

/-- A DRAM device of T2: its DDR channel, its subchannel and its number there (R377, R378). -/
structure DramDev where
  ch : Nat
  sub : Nat
  dev : Nat
deriving DecidableEq, Repr

/-- The outcome of the medium reads and refresh that an access or a scrub makes (R377, R378):
good data, a corrected word, numbered within what is read, with the DRAM device and row that needed correction, or an
uncorrectable error. -/
inductive Med where
  | good
  | corrected (word : Nat) (dram : Option (DramDev × Nat))
  | uncorrectable
deriving DecidableEq, Repr

/-- A host load, store or coherence request as it arrives at a fabric port (Table 11.11).
In native mode `src` and `dst` are endpoints; in CXL mode the port alone names the function. -/
structure HReq where
  port : Nat
  src : Nat
  dst : Nat
  off : Nat
  tag : Nat
  pool : Nat
  lock : Bool
  last : Bool
  lockId : Nat
  poisoned : Bool
deriving DecidableEq, Repr

/-- Who writes a dictionary entry: the FABRIC role, the OBSERVER role, or the PARTITION role of a partition (R427). -/
inductive Role where
  | fabric
  | observer
  | partition (p : Nat)
deriving DecidableEq, Repr

/-- A write or request that reaches the bay registers: a dictionary role, or the bay DVSEC of a function (R362). -/
inductive Writer where
  | role (r : Role)
  | dvsec (fn : FnId)
deriving DecidableEq, Repr

/-- Where a data path parity error is found, Table 12.2, and whether the reissue checks. -/
inductive Beat where
  | hostRead (q : HReq) (masked : Bool)
  | streamRead (c op : Nat) (masked : Bool)
  | streamWrite (c op : Nat) (masked : Bool)
  | hostWrite (q : HReq) (mask : BitVec 64)
  | bar2Write (fn : FnId) (off len : Nat)
  /-- Data of a BAR2 read under the requester's tag. -/
  | bar2Read (fn : FnId) (tag off len : Nat) (masked : Bool)
  /-- Data read for a recipe on the channel of a handle. -/
  | recipeRead (handle : Nat) (masked : Bool)
  | header (q : HReq) (nonPosted : Bool)
  /-- A header of a BAR2 request, under the requester's tag. -/
  | bar2Header (fn : FnId) (tag : Nat) (nonPosted : Bool)
  | issued (tag : Nat)
  | lockBeat (lock : Nat)
  | ring (port : Nat)
deriving DecidableEq, Repr

/-- A move entry of a placement program's output (R54): first page, page count, destination tier, and whether its
seven last bytes are zero. -/
structure Move where
  first : Nat
  count : Nat
  tier : Nat
  zeroTail : Bool
deriving DecidableEq, Repr

/-- The outcome of a link training (R328, R329): whether the link came up, what the partner selected, its UBL major
and minor version and feature bits, and the rate and width trained. -/
structure Training where
  up : Bool
  selUbl : Bool
  selCxl : Bool
  major : Nat
  minor : Nat
  feats : Nat
  speed : Nat
  width : Nat
deriving DecidableEq, Repr

/-- An HBM stack or a DDR channel. -/
inductive MemUnit where
  | stack (s : Nat)
  | ddr (d : Nat)
deriving DecidableEq, Repr

/-- A unit that runs in lockstep (Table 12.3): a cluster sequencer; a memory controller or codec engine with the blocks
(partition, block) of writes partly applied; a directory, dispatcher or arbiter; a Primrose placement core with the
object it was serving; a flash translation core and whether it returns within 1 s. -/
inductive LockUnit where
  | cluster (c : Nat)
  | memory (u : MemUnit) (partly : List (Nat × Nat))
  | control
  | placement (part obj : Nat)
  | flash (bay : Nat) (returns : Bool)
deriving DecidableEq, Repr

/-- What patrol scrub reads: a stored block, or a word of device metadata (R384): a page map entry, the object table of a
partition, a directory entry, the context of a channel or synchronisation object by its handle, a data key. -/
inductive ScrubT where
  | block (part blk : Nat)
  | pageEntry (part page : Nat)
  | objTable (part : Nat)
  | dirEntry (part line : Nat)
  | chanCtx (handle : Nat)
  | syncCtx (handle : Nat)
  | dataKey (part : Nat)
deriving DecidableEq, Repr

/-- The header of a ring frame (R351, R412): destination and source module, SEQ, and whether its checks pass; for a frame without
RAW the payload bytes that LEN gives and the coded bytes that the frame carried (R108). -/
structure RingHdr where
  dst : Nat
  src : Nat
  seq : Nat
  good : Bool
  coded : Option (Nat × List Byte)
deriving DecidableEq, Repr

/-- The payload of HEARTBEAT, Table 13.4. -/
structure HbBody where
  state : Nat
  formats : Nat
  commit : Nat
  lease : Bool
  version : Nat
  digest : Nat
deriving DecidableEq, Repr

/-- An admin command that acts on an object, as it crosses the ring in a COMMAND record (R411). -/
inductive ObjCmd where
  | create (obj n off k desc : Nat)
  | place (obj desc : Nat)
  | destroy (obj : Nat)
  | viewSet (obj kind fmt : Nat)
  | viewCreate (win kind fmt v off backing stoch : Nat)
  | seal (obj base fmt mode sectors : Nat)
  | share (obj acc : Nat)
  | withdraw (obj : Nat)
  | imp (al owner acc oobj off : Nat)
  | acceptStale (count off : Nat)
deriving DecidableEq, Repr

/-- A logged channel context (R411): index, generation, parameters, bound port, indexes, phase, and the TAGs of the
descriptors fetched and not completed. -/
structure ChanCtx where
  idx : Nat
  gen : Nat
  a : ChArgs
  port : Nat
  sqHead : Nat
  cqTail : Nat
  cqHead : Nat
  phase : Bool
  tags : List Nat
  gone : Bool
deriving DecidableEq, Repr

/-- The body of a mirror log record, Table 13.3. Offsets, blocks and pages are those of the primary's range. -/
inductive LogBody where
  /-- A whole block, in host form or as ciphertext, and its metadata word. -/
  | block (blk : Nat) (data : List Byte) (word : Nat)
  | line (off mask : Nat) (data : List Byte)
  | poison (page mask : Nat)
  | discard (first count : Nat)
  | command (cmd : ObjCmd)
  | dir (line st vec window : Nat) (coarse : Bool)
  | channel (ctx : ChanCtx)
  | grant (slot first count : Nat) (rw draining : Bool)
  | slot (i v : Nat)
  | key (id : Nat)
  /-- The mark behind a drained log that a HANDOVER passes to the partner (R421; it has no type in Table 13.3). -/
  | handed
deriving DecidableEq, Repr

/-- A mirror log record: the primary's partition and the body (R410). -/
structure LogRec where
  part : Nat
  body : LogBody
deriving DecidableEq, Repr

/-- The transport of an Enwary session (R436, R446): Ethernet, or MCTP with the endpoint ID of the client. -/
inductive Transport where
  | ethernet
  | mctp (eid : Nat)
deriving DecidableEq, Repr

/-- The header of a message in an open Enwary session (R437, R440): SESSION, SEQ, and whether its MAC verifies. -/
structure MsgHdr where
  sess : Nat
  seq : Nat
  macOk : Bool
deriving DecidableEq, Repr

/-- How a start stage ends (Table 15.1): done, with the clusters that failed its test; or failed with a code of
Table 15.2. -/
inductive StageResult where
  | done (bad : List Nat)
  | failed (code : Nat)
deriving DecidableEq, Repr

/-- A sensor reading in thousandths of its unit, or no report (R485). -/
inductive SensorVal where
  | reads (milli : Int)
  | silent
deriving DecidableEq, Repr

/-- A register that REGISTER_WRITE writes: a dictionary entry by a role, a BAR0 offset, a configuration offset, or an
offset of the expansion ROM window (R339, R332, R464). -/
inductive RegTarget where
  | dict (r : Role) (idx sub : Nat)
  | bar0 (fn : FnId) (off : Nat)
  | config (fn : FnId) (off : Nat)
  | rom (off : Nat)
deriving DecidableEq, Repr


/-- The commands of the block, one constructor for each row of the operation table of the manual. The rows of bays, of the
CXL mailbox, of mirrored pairs, of management and of power stand last: Lean's runtime, though not its kernel, can hold values
of the first 244 constructors only. -/
inductive Instr where
  /-- CH_CREATE (R186): Admin command that creates a channel, checks quota, class, recipe, clusters and queue locations, and returns its handle. -/
  | chCreate (h : Adm) (a : ChArgs)
  /-- CH_DESTROY (R190): Admin command that halts a channel with CHANNEL_RESET, enters ENDING and frees the context and clusters once the last completion is written. -/
  | chDestroy (h : Adm) (handle : Nat)
  /-- CH_RESET (R188): Admin command that halts a channel and completes its fetched descriptors with the halt status. -/
  | chReset (h : Adm) (handle : Nat)
  /-- CH_RESTART (R189): Admin command that re-places a HALTED channel's pipeline, optionally rewinds its queues, and makes it ACTIVE. -/
  | chRestart (h : Adm) (handle flags : Nat)
  /-- CH_MODIFY (R191): Admin command that changes a channel's class, policy or bound port for later descriptors. -/
  | chModify (h : Adm) (handle cls policy mask port : Nat)
  /-- CH_MODIFY_PORT_BIND (R191): After every descriptor fetched before a port change has completed, the new port is bound, fetching resumes and CH_MODIFY completes. -/
  | chModifyPortBind (handle : Nat)
  /-- CH_QUERY (R191): Admin command that returns a channel's SQ head, in-flight count, state, last halt status, class and policy. -/
  | chQuery (h : Adm) (handle : Nat)
  /-- SYNC_ALLOC (R203): Admin command that allocates a synchronisation object with an initial value and a notify location. -/
  | syncAlloc (h : Adm) (loc init addr ep : Nat)
  /-- SYNC_FREE (R207): Admin command that frees a synchronisation object unless a fetched descriptor waits on it. -/
  | syncFree (h : Adm) (handle : Nat)
  /-- SYNC_SIGNAL (R203): Admin command that adds an addend to a synchronisation counter, saturating at 2^64 - 1. -/
  | syncSignal (h : Adm) (handle addend : Nat)
  /-- SYNC_QUERY (R207): Admin command that returns a synchronisation counter. -/
  | syncQuery (h : Adm) (handle : Nat)
  /-- SYNC_ARM (R206): Admin command that arms a single event for when the counter reaches a threshold. -/
  | syncArm (h : Adm) (handle threshold : Nat)
  /-- OBJ_CREATE (R49): Admin command that maps N extents as an object with every page NONE and commits K extents at the floor tier. -/
  | objCreate (h : Adm) (obj n off k desc : Nat)
  /-- OBJ_PLACE (R45): Admin command that replaces an object's placement descriptor, checks and moves its commitment, migrates pages out of removed tiers and invokes its program. -/
  | objPlace (h : Adm) (obj desc : Nat)
  /-- OBJ_DISCARD (R42): Admin command that makes a run of blocks invalid and releases the frames of pages left wholly invalid. -/
  | objDiscard (h : Adm) (obj first count : Nat)
  /-- OBJ_QUERY (R47): Admin command that writes an object's descriptor, view record, commitment and page map entries to a buffer. -/
  | objQuery (h : Adm) (obj loc count first ep addr : Nat)
  /-- OBJ_DESTROY (R47): Admin command that destroys an object with its windows and aliases, recalls host-cached lines, clears valid bits and releases frames and commitment. -/
  | objDestroy (h : Adm) (obj : Nat)
  /-- VIEW_SET (R83): Admin command that sets the view kind and format of an ordinary object. -/
  | viewSet (h : Adm) (obj kind fmt : Nat)
  /-- VIEW_SET_TH_DRAINED (R84): When the last TH page of a RAW object under VIEW_SET has left TH, the device rebuilds its metadata, sets the new kind and completes the command. -/
  | viewSetThDrained (part obj : Nat)
  /-- VIEW_CREATE (R85): Admin command that creates a FIXED or DELTA window over named objects. -/
  | viewCreate (h : Adm) (win kind fmt v off backing stoch : Nat)
  /-- DELTA_SEAL (R104): Admin command that starts sealing a delta object into a DELTA_STORE with per-extent code tables. -/
  | deltaSeal (h : Adm) (obj base fmt mode sectors : Nat)
  /-- SEAL_DONE (R104): The seal passes end, the declared sizes are recorded, the kind becomes DELTA_STORE and held reads are released. -/
  | sealDone (part obj : Nat)
  /-- SHARE_EXPORT (R126): Admin command that makes an object tracked and importable. -/
  | shareExport (h : Adm) (obj acc : Nat)
  /-- SHARE_WITHDRAW (R127): Admin command that destroys every alias of an exported object and makes it private. -/
  | shareWithdraw (h : Adm) (obj : Nat)
  /-- SHARE_IMPORT (R127): Admin command that creates an alias of an exported object in the importer's range. -/
  | shareImport (h : Adm) (al owner acc oobj off : Nat)
  /-- GRANT (R129): Admin command that creates a grant record for a host slot over a run of extents. -/
  | grant (h : Adm) (slot acc count first : Nat)
  /-- REVOKE (R130): Admin command that puts a run of a slot's extents into DRAINING and refuses new requests from the slot to the run. -/
  | revoke (h : Adm) (slot count first : Nat)
  /-- REVOKE_DRAINED (R130): Once the requests that passed the check before the revoke have completed, the device sends the revoke notice and recalls the slot's lines in the run. -/
  | revokeDrained (op : Nat)
  /-- RELEASE_TIMEOUT_EXPIRY (R130): RELEASE_TIMEOUT expires without the CXL host's release, a Forced Capacity Release record is queued, and the record is freed. -/
  | releaseTimeoutExpiry (op : Nat)
  /-- ACCEPT_STALE (R146): Admin command that returns the orphaned lines of a range to I. -/
  | acceptStale (h : Adm) (count off : Nat)
  /-- UNKNOWN_ADMIN_OPCODE (R183): An admin command with an unknown opcode is refused with NO_RESERVATION and DETAIL 0x0001. -/
  | unknownAdminOpcode (h : Adm) (opcode : Nat)
  /-- AQ_ENABLE (R181): A write of the admin queue enable register starts or stops fetching, or sets SIZE_ERROR. -/
  | aqEnable (fn : FnId) (v : Nat)
  /-- ASQ_TAIL (R181): A write of the admin submission doorbell makes new commands visible, or is ignored and counted. -/
  | asqTail (fn : FnId) (v : QWrite)
  /-- ACQ_HEAD (R181): A write of the admin completion doorbell releases completions, or is ignored and counted. -/
  | acqHead (fn : FnId) (v : QWrite)
  /-- CHANNEL_DOORBELL (R195): A BAR0 write of a channel doorbell updates the SQ tail and the CQ head, or is ignored and counted. -/
  | channelDoorbell (fn : FnId) (idx part word : Nat)
  /-- DOORBELL (R195): A UBL doorbell message carrying a channel handle and a doorbell word acts as a BAR0 doorbell write. -/
  | doorbell (port dst handle word : Nat)
  /-- DESCRIPTOR_FETCH (R199): The device fetches a descriptor once INFLIGHT, a free CQ slot and the pipeline credits allow, and tests its wait. -/
  | descriptorFetch (handle : Nat) (r : Resp)
  /-- DESCRIPTOR_COMPLETE (R198): A descriptor's work ends, its signal is applied and its 16-byte completion is written, or suppressed under NO_CQE. -/
  | descriptorComplete (handle : Nat) (ok : Bool)
  /-- NOP_DESCRIPTOR (R197): Descriptor opcode NOP, which carries out only its wait and its signal. -/
  | nopDescriptor (handle : Nat)
  /-- APPEND (R223): Recipe opcode that writes COUNT token rows of one layer into a FIXED window as whole quantized groups. -/
  | append (handle : Nat) (r : Resp)
  /-- DECODE (R228): Recipe opcode that computes attention for one query token over a token range and writes partial records with log-sum-exp. -/
  | decode (handle : Nat) (r : Resp)
  /-- PREFILL (R232): Recipe opcode that computes causal attention for a chunk of query tokens and writes partial records. -/
  | prefill (handle : Nat) (r : Resp)
  /-- MERGE (R234): Recipe opcode that combines PARTS partial sets by log-sum-exp into partials or BF16 outputs. -/
  | merge (handle : Nat) (r : Resp)
  /-- PUSH (R237): WSTREAM opcode that starts the promotions of unready pages and pushes reconstructed variant weights to a destination. -/
  | push (handle : Nat) (r : Resp)
  /-- PUSH_DECISION (R238): At the decision instant of a PUSH, the channel's deadline policy streams the full push, a fallback, or waits. -/
  | pushDecision (handle : Nat) (late : Bool)
  /-- PREFETCH (R236): WSTREAM opcode that starts demand promotions of the T3 pages of a range in the base and the delta store. -/
  | prefetch (handle : Nat)
  /-- ACCUMULATE (R243): REDUCE opcode that decodes a source into FP32 and adds it to accumulators block by block. -/
  | accumulate (handle : Nat) (r : Resp)
  /-- READOUT (R244): REDUCE opcode that writes accumulators in a format, with error feedback for GQ4 and an optional clear. -/
  | readout (handle : Nat) (r : Resp)
  /-- GATHER (R246): Recipe opcode that reads items at listed partition offsets and writes them one after another. -/
  | gather (handle : Nat) (r : Resp)
  /-- ADD (R256): Scalar instruction RD := RS1 + RS2. -/
  | add (c : Nat) (rd rs1 rs2 : Fin 32)
  /-- SUB (R256): Scalar instruction RD := RS1 - RS2. -/
  | sub (c : Nat) (rd rs1 rs2 : Fin 32)
  /-- AND (R256): Scalar bitwise AND. -/
  | and (c : Nat) (rd rs1 rs2 : Fin 32)
  /-- OR (R256): Scalar bitwise OR. -/
  | or (c : Nat) (rd rs1 rs2 : Fin 32)
  /-- XOR (R256): Scalar bitwise XOR. -/
  | xor (c : Nat) (rd rs1 rs2 : Fin 32)
  /-- SLL (R256): Scalar shift left logical. -/
  | sll (c : Nat) (rd rs1 rs2 : Fin 32)
  /-- SRL (R256): Scalar shift right logical. -/
  | srl (c : Nat) (rd rs1 rs2 : Fin 32)
  /-- SRA (R256): Scalar shift right arithmetic. -/
  | sra (c : Nat) (rd rs1 rs2 : Fin 32)
  /-- SLT (R256): Scalar signed set-less-than. -/
  | slt (c : Nat) (rd rs1 rs2 : Fin 32)
  /-- SLTU (R256): Scalar unsigned set-less-than. -/
  | sltu (c : Nat) (rd rs1 rs2 : Fin 32)
  /-- MUL (R256): Scalar multiply keeping the low 64 bits. -/
  | mul (c : Nat) (rd rs1 rs2 : Fin 32)
  /-- MULHU (R256): Scalar multiply keeping the high 64 bits of the unsigned product. -/
  | mulhu (c : Nat) (rd rs1 rs2 : Fin 32)
  /-- MIN (R256): Scalar signed minimum. -/
  | min (c : Nat) (rd rs1 rs2 : Fin 32)
  /-- MAX (R256): Scalar signed maximum. -/
  | max (c : Nat) (rd rs1 rs2 : Fin 32)
  /-- ADDI (R256): Scalar add of a sign-extended immediate. -/
  | addi (c : Nat) (rd rs1 : Fin 32) (imm : BitVec 14)
  /-- ANDI (R256): Scalar AND with an immediate. -/
  | andi (c : Nat) (rd rs1 : Fin 32) (imm : BitVec 14)
  /-- ORI (R256): Scalar OR with an immediate. -/
  | ori (c : Nat) (rd rs1 : Fin 32) (imm : BitVec 14)
  /-- XORI (R256): Scalar XOR with an immediate. -/
  | xori (c : Nat) (rd rs1 : Fin 32) (imm : BitVec 14)
  /-- SLLI (R256): Scalar shift left by an immediate. -/
  | slli (c : Nat) (rd rs1 : Fin 32) (imm : BitVec 14)
  /-- SRLI (R256): Scalar logical shift right by an immediate. -/
  | srli (c : Nat) (rd rs1 : Fin 32) (imm : BitVec 14)
  /-- SRAI (R256): Scalar arithmetic shift right by an immediate. -/
  | srai (c : Nat) (rd rs1 : Fin 32) (imm : BitVec 14)
  /-- SLTI (R256): Scalar signed set-less-than an immediate. -/
  | slti (c : Nat) (rd rs1 : Fin 32) (imm : BitVec 14)
  /-- LW32 (R256): Scalar load of a zero-extended 32-bit SRAM word. -/
  | lw32 (c : Nat) (rd rs1 : Fin 32) (imm : BitVec 14) (ecc : Ecc)
  /-- LD64 (R256): Scalar load of a 64-bit SRAM word. -/
  | ld64 (c : Nat) (rd rs1 : Fin 32) (imm : BitVec 14) (ecc : Ecc)
  /-- SW32 (R256): Scalar store of the low 32 bits to SRAM. -/
  | sw32 (c : Nat) (rd rs1 : Fin 32) (imm : BitVec 14)
  /-- SD64 (R256): Scalar store of 64 bits to SRAM. -/
  | sd64 (c : Nat) (rd rs1 : Fin 32) (imm : BitVec 14)
  /-- BEQ (R256): Branch if equal. -/
  | beq (c : Nat) (rs1 rs2 : Fin 32) (off : BitVec 15)
  /-- BNE (R256): Branch if not equal. -/
  | bne (c : Nat) (rs1 rs2 : Fin 32) (off : BitVec 15)
  /-- BLT (R256): Branch if signed less than. -/
  | blt (c : Nat) (rs1 rs2 : Fin 32) (off : BitVec 15)
  /-- BGE (R256): Branch if signed greater or equal. -/
  | bge (c : Nat) (rs1 rs2 : Fin 32) (off : BitVec 15)
  /-- BLTU (R256): Branch if unsigned less than. -/
  | bltu (c : Nat) (rs1 rs2 : Fin 32) (off : BitVec 15)
  /-- BGEU (R256): Branch if unsigned greater or equal. -/
  | bgeu (c : Nat) (rs1 rs2 : Fin 32) (off : BitVec 15)
  /-- J (R256): Jump relative, writing PC + 1 to a link register. -/
  | j (c : Nat) (link : Fin 32) (off : BitVec 15)
  /-- JR (R256): Jump to a register value, writing PC + 1 to a link register. -/
  | jr (c : Nat) (rs1 link : Fin 32)
  /-- LIQ (R256): Insert a 16-bit immediate into a quarter of a register. -/
  | liq (c : Nat) (rd : Fin 32) (q : Fin 4) (imm : BitVec 16)
  /-- TLDS (R258): Array instruction that loads the stationary slabs of all 256 arrays and sets the format tag. -/
  | tlds (c : Nat) (fmtB : Nat) (rs1 rs2 : Fin 32) (ecc : Ecc)
  /-- TMMA (R258): Array instruction that multiplies streamed quads by the stationary slabs into accumulator tiles. -/
  | tmma (c : Nat) (fmtA fmtB : Nat) (rs1 rs2 : Fin 32) (n t0 : Nat) (res : Residue) (ecc : Ecc)
  /-- TDRAIN (R258): Array instruction that writes accumulator tiles to SRAM in a chosen format. -/
  | tdrain (c : Nat) (fmtA : Nat) (rs1 rs2 : Fin 32) (n t0 : Nat)
  /-- TZERO (R258): Array instruction that sets accumulator tiles to +0. -/
  | tzero (c : Nat) (n t0 : Nat)
  /-- TLDA (R258): Array instruction that loads accumulator tiles from FP32 in SRAM. -/
  | tlda (c : Nat) (rs1 rs2 : Fin 32) (n t0 : Nat) (ecc : Ecc)
  /-- VADD (R260): Vector add over 512 lanes. -/
  | vadd (c : Nat) (vd va vb : Fin 32)
  /-- VSUB (R260): Vector subtract. -/
  | vsub (c : Nat) (vd va vb : Fin 32)
  /-- VMUL (R260): Vector multiply. -/
  | vmul (c : Nat) (vd va vb : Fin 32)
  /-- VFMA (R260): Vector fused multiply-add. -/
  | vfma (c : Nat) (vd va vb vc : Fin 32)
  /-- VMIN (R260): Vector minimum. -/
  | vmin (c : Nat) (vd va vb : Fin 32)
  /-- VMAX (R260): Vector maximum. -/
  | vmax (c : Nat) (vd va vb : Fin 32)
  /-- VABS (R260): Vector absolute value. -/
  | vabs (c : Nat) (vd va : Fin 32)
  /-- VNEG (R260): Vector negate. -/
  | vneg (c : Nat) (vd va : Fin 32)
  /-- VCMPEQ (R260): Vector compare equal, writing an all-ones or all-zeros lane mask. -/
  | vcmpeq (c : Nat) (vd va vb : Fin 32)
  /-- VCMPLT (R260): Vector compare less than. -/
  | vcmplt (c : Nat) (vd va vb : Fin 32)
  /-- VCMPLE (R260): Vector compare less or equal. -/
  | vcmple (c : Nat) (vd va vb : Fin 32)
  /-- VSEL (R260): Vector select by mask. -/
  | vsel (c : Nat) (vd va vb vc : Fin 32)
  /-- VAND (R260): Vector bitwise AND. -/
  | vand (c : Nat) (vd va vb : Fin 32)
  /-- VOR (R260): Vector bitwise OR. -/
  | vor (c : Nat) (vd va vb : Fin 32)
  /-- VXOR (R260): Vector bitwise XOR. -/
  | vxor (c : Nat) (vd va vb : Fin 32)
  /-- VIADD (R260): Vector INT32 add. -/
  | viadd (c : Nat) (vd va vb : Fin 32)
  /-- VISHL (R260): Vector INT32 shift left. -/
  | vishl (c : Nat) (vd va vb : Fin 32)
  /-- VISRA (R260): Vector INT32 arithmetic shift right. -/
  | visra (c : Nat) (vd va vb : Fin 32)
  /-- VRCP (R260): Vector reciprocal. -/
  | vrcp (c : Nat) (vd va : Fin 32)
  /-- VRSQRT (R260): Vector reciprocal square root. -/
  | vrsqrt (c : Nat) (vd va : Fin 32)
  /-- VSQRT (R260): Vector square root. -/
  | vsqrt (c : Nat) (vd va : Fin 32)
  /-- VEXP2 (R260): Vector base-2 exponential. -/
  | vexp2 (c : Nat) (vd va : Fin 32)
  /-- VLOG2 (R260): Vector base-2 logarithm. -/
  | vlog2 (c : Nat) (vd va : Fin 32)
  /-- VEXP (R260): Vector natural exponential. -/
  | vexp (c : Nat) (vd va : Fin 32)
  /-- VLOG (R260): Vector natural logarithm. -/
  | vlog (c : Nat) (vd va : Fin 32)
  /-- VTANH (R260): Vector hyperbolic tangent. -/
  | vtanh (c : Nat) (vd va : Fin 32)
  /-- VREDADD (R260): Vector add reduction over 512 lanes into lane 0. -/
  | vredadd (c : Nat) (vd va : Fin 32)
  /-- VREDMAX (R260): Vector max reduction into lane 0. -/
  | vredmax (c : Nat) (vd va : Fin 32)
  /-- VCVTIN (R260): Vector conversion into FP32 from a format code. -/
  | vcvtin (c : Nat) (vd va : Fin 32) (code : Nat)
  /-- VCVTOUT (R260): Vector conversion out of FP32 into a packed format. -/
  | vcvtout (c : Nat) (vd va : Fin 32) (code : Nat)
  /-- VMXENC (R260): Vector MX group encode into the quad layout. -/
  | vmxenc (c : Nat) (vd va : Fin 32) (code : Nat)
  /-- VMXDEC (R260): Vector MX group decode. -/
  | vmxdec (c : Nat) (vd va : Fin 32) (code : Nat)
  /-- VLD (R261): Vector load of 2,048 bytes from SRAM. -/
  | vld (c : Nat) (v rs1 : Fin 32) (ecc : Ecc)
  /-- VST (R261): Vector store of 2,048 bytes to SRAM. -/
  | vst (c : Nat) (v rs1 : Fin 32)
  /-- VLDN (R261): Vector load of a byte count, zeroing the remaining lanes. -/
  | vldn (c : Nat) (v rs1 rs2 : Fin 32) (ecc : Ecc)
  /-- VSTN (R261): Vector store of a byte count. -/
  | vstn (c : Nat) (v rs1 rs2 : Fin 32)
  /-- VBCAST (R261): Broadcast a scalar's low 32 bits to every lane. -/
  | vbcast (c : Nat) (v rs1 : Fin 32)
  /-- VEXT (R261): Extract one lane into a scalar register. -/
  | vext (c : Nat) (rd va rs2 : Fin 32)
  /-- SLD (R262): Stream instruction that loads memory into SRAM. -/
  | sld (c : Nat) (space : Nat) (rs1 rs2 rs3 : Fin 32)
  /-- SST (R262): Stream instruction that stores SRAM to memory as locked sequences. -/
  | sst (c : Nat) (space : Nat) (rs1 rs2 rs3 : Fin 32) (ecc : Ecc)
  /-- SACC (R262): Stream instruction that accumulates SRAM FP32 into memory. -/
  | sacc (c : Nat) (space : Nat) (rs1 rs2 rs3 : Fin 32) (ecc : Ecc)
  /-- STREAM_COMPLETE (R254): An outstanding stream operation ends, releasing its interlocks or recording a failure against its descriptor. -/
  | streamComplete (c : Nat) (op : Nat) (r : Resp)
  /-- QPOP (R264): Queue instruction that waits for a buffer from a feeding stage. -/
  | qpop (c : Nat) (stage : Nat) (r1 : Fin 32)
  /-- QREL (R264): Queue instruction that releases the oldest popped buffer and returns its credit. -/
  | qrel (c : Nat) (stage : Nat)
  /-- QSEND (R264): Queue instruction that waits for credit and sends a buffer to a later stage. -/
  | qsend (c : Nat) (stage : Nat) (r1 r2 r3 : Fin 32) (ecc : Ecc)
  /-- QCNT (R264): Queue instruction that reads the number of waiting buffers. -/
  | qcnt (c : Nat) (stage : Nat) (r1 : Fin 32)
  /-- DNEXT (R252): Waits for the next descriptor to reach the stage and copies it to SRAM. -/
  | dnext (c : Nat) (r1 : Fin 32)
  /-- DPASS (R252): Releases the current descriptor to the next stage. -/
  | dpass (c : Nat)
  /-- DDONE (R253): Last-stage instruction that gives a descriptor's status and RESULT. -/
  | ddone (c : Nat) (r1 r2 : Fin 32)
  /-- DSTAT (R265): Reads the failure status recorded for the current descriptor. -/
  | dstat (c : Nat) (r1 : Fin 32)
  /-- SSIG (R265): Adds a value to a synchronisation object. -/
  | ssig (c : Nat) (r1 r2 : Fin 32)
  /-- SWAIT (R265): Waits until a synchronisation object reaches a value. -/
  | swait (c : Nat) (r1 r2 : Fin 32)
  /-- CARGS (R265): Copies the channel's RECIPE_ARGS to SRAM. -/
  | cargs (c : Nat) (r1 : Fin 32)
  /-- ID (R265): Reads an identity value such as stage, rank or aclk count. -/
  | idRead (c : Nat) (r1 : Fin 32) (imm : BitVec 14)
  /-- NOP (R270): Control instruction that does nothing. -/
  | nop (c : Nat)
  /-- STEP (R267): Ends a step and advances the step counter, faulting past 4,096 steps without a boundary. -/
  | step (c : Nat) (dup : DupCheck)
  /-- BND (R268): Marks a stage boundary, draining outstanding work and performing any pending takeover with the declared carry. -/
  | bnd (c : Nat) (r1 r2 : Fin 32)
  /-- SFENCE (R270): Waits until at most IMM14 stream operations are outstanding. -/
  | sfence (c : Nat) (imm : BitVec 14)
  /-- FAULT (R270): Raises USER_FAULT with its immediate. -/
  | fault (c : Nat) (imm : BitVec 14)
  /-- RD_SHARED (R136): Host read with the right to cache a clean copy, taken through the directory. -/
  | rdShared (q : HReq) (med : Med)
  /-- RD_OWN (R136): Host read with the right to cache and modify, recalling other holders. -/
  | rdOwn (q : HReq) (med : Med)
  /-- RD_UNCACHED (R136): Read with no copy kept, served from the home tier. -/
  | rdUncached (q : HReq) (med : Med)
  /-- WR_UNCACHED (R136): Write of 1 to 64 bytes by byte mask, possibly a beat of a locked sequence. -/
  | wrUncached (q : HReq) (mask : BitVec 64) (data : List Byte) (med : Med)
  /-- WR_BACK (R136): Owner returns its modified line and drops it. -/
  | wrBack (q : HReq) (data : List Byte)
  /-- EVICT (R136): Holder drops a clean copy. -/
  | evict (q : HReq)
  /-- RECALL_ACK (R137): Host answers a recall without modified data, ending the recall and releasing held requests. -/
  | recallAck (port tag : Nat)
  /-- RECALL_DATA (R137): Host answers a recall with the modified line, which is written before held requests are released. -/
  | recallData (port tag : Nat) (data : List Byte)
  /-- RECALL_TIMEOUT_EXPIRY (R143): RECALL_TIMEOUT expires: the slot becomes LOST and the lines it owns become orphaned. -/
  | recallTimeoutExpiry (tag : Nat)
  /-- BICONFLICT (R139): A CXL BIConflict from a host resolves a back-invalidate that crossed a host request for the same line. -/
  | biconflict (port tag : Nat) (reqFirst : Bool)
  /-- RESP_DATA (R348): Response with data to a UBL read the device issued, such as a TH read or a UBL queue fetch. -/
  | respData (port tag status : Nat) (data : List Byte)
  /-- RESP (R348): Response without data to a UBL write the device issued. -/
  | resp (port tag status : Nat)
  /-- UBL_UNKNOWN_OPCODE (R348): A UBL message with an unknown opcode is discarded and counted, or answered with NO_RESERVATION if non-posted. -/
  | ublUnknownOpcode (port src dst tag opcode : Nat) (nonPosted : Bool)
  /-- BAR2_READ (R340): A PCIe memory read through BAR2 of the partition's range. -/
  | bar2Read (fn : FnId) (off len tag : Nat) (med : Med)
  /-- BAR2_WRITE (R340): A PCIe memory write through BAR2 of the partition's range. -/
  | bar2Write (fn : FnId) (off : Nat) (data : List Byte) (poisoned : Bool) (med : Med)
  /-- DATAPATH_PARITY_ERROR (R373): A parity check at a queue boundary or engine output fails and the beat is reissued, poisoned or discarded. -/
  | datapathParityError (beat : Beat)
  /-- LOCK_TIMEOUT_EXPIRY (R298): No beat of a locked sequence arrives for LOCK_TIMEOUT cycles, so the lock breaks and written blocks are poisoned. -/
  | lockTimeoutExpiry (lock : Nat)
  /-- COMPLETION_TIMEOUT (R345): A non-posted request the device issued times out, its tag is quarantined and the requester's rule applies. -/
  | completionTimeout (tag : Nat)
  /-- LATE_COMPLETION (R346): A completion for a quarantined tag is discarded, counted and logged as advisory. -/
  | lateCompletion (tag : Nat)
  /-- TAG_QUARANTINE_EXPIRY (R315): Twice the completion timeout passes and a quarantined tag becomes reusable. -/
  | tagQuarantineExpiry (tag : Nat)
  /-- REFILL (R285): Each refill period resets class credits, recomputes degraded factors and releases held requests. -/
  | refill
  /-- ARB_COMMIT (R294): A write of a group mask swaps active and shadow priority sets of the selected arbiters within 5 fclk cycles. -/
  | arbCommit (role : Role) (mask : Nat)
  /-- SHADOW (R293): A write of a shadow rank goes to every arbiter of the group, refused while that group's commit is pending. -/
  | shadow (role : Role) (group cls rank : Nat)
  /-- BUDGET_WRITE (R281): A write of a tenant class budget on a metered resource is admitted only if it fits the room. -/
  | budgetWrite (role : Role) (res cls v : Nat)
  /-- CAP_WRITE (R283): A write of a class hard cap, refused below the class's budget. -/
  | capWrite (role : Role) (res cls v : Nat)
  /-- Q0_RESERVE_PCT (R281): A write of the Q0 reserve, refused if any resource's budgets would exceed the new room. -/
  | q0ReservePct (role : Role) (v : Nat)
  /-- CLASS_PARTITIONS (R278): A write of a class's partition bindings, refused while a cleared binding is in use. -/
  | classPartitions (role : Role) (cls mask : Nat)
  /-- LS_CLASS (R278): A write of a partition's load/store or migration class, refused for an unbound class or Q0. -/
  | lsClass (role : Role) (part : Nat) (migration : Bool) (v : Nat)
  /-- EPOCH_END (R52): An epoch ends: HINT_TIME values are decremented, HEAT decays and objects accessed in the epoch are invoked. -/
  | epochEnd
  /-- PLACEMENT_INVOCATION (R53): A placement program runs for an object, and the move entries it returns are validated and accepted.
  `out` is what stands in its output buffer at entry. -/
  | placementInvocation (part obj : Nat) (out : List Byte)
  /-- MIGRATION_COPY_DONE (R62): After recall and the copy of valid blocks, the page map entry is switched, held requests are released and the source frame is freed. -/
  | migrationCopyDone (part page : Nat) (med : Med)
  /-- T3_PROGRAM_DONE (R59): A page in write staging has been programmed to flash, and staging space frees for waiting moves. -/
  | t3ProgramDone
  /-- READ_DISTURB_RELOCATE (R69): A flash block reaches READ_DISTURB_LIMIT reads and its valid codewords are relocated. -/
  | readDisturbRelocate (bay blk : Nat)
  /-- RETENTION_REFRESH (R69): Old data or slow LDPC decodes cause codewords to be rewritten. -/
  | retentionRefresh (bay blk : Nat)
  /-- WEAR_LEVEL (R69): Erase counts that differ by more than 10 % cause cold data to move to worn blocks. -/
  | wearLevel (bay : Nat)
  /-- FLASH_BLOCK_RETIRE (R69): A flash block that fails to program or erase is retired into overprovisioning. -/
  | flashBlockRetire (bay blk wear : Nat)
  /-- TIER_RESERVATION_WRITE (R48): A write of RESV_T1, RESV_T2, RESV_T3 or TH_LIMIT, refused if it over-reserves or falls below use. -/
  | tierReservationWrite (role : Role) (tier part v : Nat)
  /-- LEND (R65): A write of a lend entry makes it ACTIVE, WITHDRAWING, FORCE or EMPTY under the permitted transitions. -/
  | lend (role : Role) (i v : Nat)
  /-- SHARED_ENABLE (R123): A write that enables or disables the directory; enabling begins moving pages out of the reserve. -/
  | sharedEnable (role : Role) (v : Nat)
  /-- HOST_SLOT (R114): A write of a host slot entry under the permitted state transitions. -/
  | hostSlot (role : Role) (i v : Nat)
  /-- CH_QUOTA (R179): A write of a channel or synchronisation quota, refused if the sum over partitions would exceed the device limit. -/
  | chQuota (role : Role) (sync : Bool) (part v : Nat)
  /-- PROGRAM_IMAGE (R51): A write that loads a placement program slot, taking effect at the next invocation. -/
  | programImage (role : Role) (slot : Nat) (img : List Byte)
  /-- PROGRAM (R274): A write of a stage program image, verified and reported in LOAD_RESULT. -/
  | program (role : Role) (slot : Nat) (img : List Byte)
  /-- PIPELINE (R274): A write of a pipeline manifest, verified against the images it names. -/
  | pipeline (role : Role) (slot : Nat) (img : List Byte)
  /-- CLUSTER_RETIRE (R170): A write that retires a physical cluster permanently. -/
  | clusterRetire (role : Role) (c : Nat)
  /-- CLUSTER_RESET (R316): A write that halts the channel holding a logical cluster and clears the cluster. -/
  | clusterReset (role : Role) (part l : Nat)
  /-- ENABLE (R302): A write that enables a partition, or disables it after a partition reset. -/
  | enable (role : Role) (part v : Nat)
  /-- FENCE (R308): A write that sets the FABRIC fence cause, or clears FABRIC and CONTAINMENT. -/
  | fence (role : Role) (part v : Nat)
  /-- RESET (R312): A write that runs a partition reset, destroying its channels, sync objects, objects and grants. -/
  | reset (role : Role) (part v : Nat)
  /-- EQ_ENABLE (R318): A write that enables or disables a function's event queue. -/
  | eqEnable (fn : FnId) (v : Nat)
  /-- EQ_ACK (R325): A write that acknowledges event entries and may deassert the wire. -/
  | eqAck (fn : FnId) (v : Nat)
  /-- EVENT_HELD_WRITE (R322): Held events are written once the queue has room and Bus Master Enable is 1. -/
  | eventHeldWrite (fn : FnId)
  /-- MEMORY_SPACE_ENABLE (R342): A Command register write of Memory Space Enable that governs BAR accesses. -/
  | memorySpaceEnable (fn : FnId) (b : Bool)
  /-- BUS_MASTER_ENABLE (R314): A Command register write of Bus Master Enable; clearing it halts the function's channels, and setting it writes held events. -/
  | busMasterEnable (fn : FnId) (b : Bool)
  /-- INTERRUPT_DISABLE (R323): A Command register write of Interrupt Disable that asserts or deasserts the emulated wire. -/
  | interruptDisable (fn : FnId) (b : Bool)
  /-- POWER_STATE (R335): A PowerState write to D3hot or D0 that removes or restores memory and bus-master effects. -/
  | powerState (fn : FnId) (v : Nat)
  /-- INITIATE_FUNCTION_LEVEL_RESET (R313): A Device Control write that runs a function-level reset. -/
  | initiateFlr (fn : FnId)
  /-- FUNCTION_RESET_DONE (R313): A function-level reset completes, registers return to reset values and a FUNCTION_RESET event is posted. -/
  | functionResetDone (fn : FnId)
  /-- HOT_RESET (R311): An in-band hot reset resets every function of a port and destroys the channels bound to it. -/
  | hotReset (port : Nat)
  /-- DL_DOWN (R306): A fabric link goes down, its functions reset as for a hot reset and its CXL slots become LOST. -/
  | dlDown (port : Nat)
  /-- LINK_TRAINING_DONE (R328): A port completes link training in the mode negotiated for it. -/
  | linkTrainingDone (port : Nat) (t : Training)
  /-- RETRAIN (R328): A write that starts link training of a port. -/
  | retrain (role : Role) (port v : Nat)
  /-- BYPASS_FORCE (R358): A write that closes the bypass crosspoint, or allows it to open. -/
  | bypassForce (role : Role) (v : Nat)
  /-- RING_RETRY_EXPIRY (R360): RING_RETRY_S passes, RING_FAULT clears and the crosspoint reopens. -/
  | ringRetryExpiry
  /-- REBUILD_DONE (R74): The rebuild of an inserted cartridge completes and degraded operation ends. -/
  | rebuildDone (bay : Nat)
  /-- LOCKSTEP_MISMATCH (R375): Two lockstep copies of a unit disagree, and the unit restarts or its cluster leaves service. -/
  | lockstepMismatch (u : LockUnit)
  /-- LARKSPUR_WATCHDOG_EXPIRY (R376): Larkspur's watchdog expires; the bypass closes and Larkspur restarts. -/
  | larkspurWatchdogExpiry
  /-- SCRUB_READ (R385): Patrol scrub reads stored data, corrects and writes back errors, and poisons uncorrectable blocks. -/
  | scrubRead (t : ScrubT) (med : Med)
  /-- DEADHEAD_ADD (R388): A write that adds a Deadhead entry and retires its frame. -/
  | deadheadAdd (role : Role) (entry : Nat)
  /-- RECOMMEND_DISMISS (R379): A write that removes a frame from the recommendation list. -/
  | recommendDismiss (role : Role) (entry : Nat)
  /-- DUP_WINDOW_START (R389): The device starts a 256-step duplicate window of a cluster on a free Bud. -/
  | dupWindowStart (c : Nat)
  /-- IFT_DUE (R392): A cluster's in-field test falls due and is run, taken over or deferred. -/
  | iftDue (c : Nat)
  /-- IFT_DEFER_EXPIRY (R392): IFT_DEFER_MAX_S passes, and the stage pauses at its next boundary for a test in place. -/
  | iftDeferExpiry (c : Nat)
  /-- IFT_DONE (R394): An in-field test ends; the cluster returns as Bud or ACTIVE, or is retired. -/
  | iftDone (c : Nat) (pass : Bool)
  /-- MB_READ (R448): Mailbox operation READ of an entry in the PARTITION role. -/
  | mbRead (fn : FnId) (idx sub : Nat)
  /-- MB_WRITE (R448): Mailbox operation WRITE of an entry. -/
  | mbWrite (fn : FnId) (idx sub : Nat) (data : List Byte)
  /-- MB_READ_CLEAR (R448): Mailbox operation READ_CLEAR of an RWC entry. -/
  | mbReadClear (fn : FnId) (idx sub : Nat)
  /-- MB_DESCRIBE (R448): Mailbox operation DESCRIBE of an entry. -/
  | mbDescribe (fn : FnId) (idx sub : Nat)
  /-- START_STAGE_DONE (R453): A start stage completes and the next begins, reaching OPERATIONAL at stage 7. -/
  | startStageDone (r : StageResult)
  /-- RESTART (R453): A write that begins a new start, refused during a start. -/
  | restart (role : Role) (v : Nat)
  /-- START_FAIL_COUNT (R458): A write of 0 that clears the failed-start count. -/
  | startFailCount (role : Role) (v : Nat)
  /-- UPDATE_BEGIN (R462): A write that begins an image update and erases the inactive slot. -/
  | updateBegin (role : Role) (len : Nat)
  /-- UPDATE_DATA (R462): A write of image data at UPDATE_OFFSET, which then advances. -/
  | updateData (role : Role) (data : List Byte)
  /-- UPDATE_COMMIT (R462): A write that verifies the image and makes its slot PENDING. -/
  | updateCommit (role : Role) (v : Nat)
  /-- IMAGE_CONFIRM (R463): A write that confirms a running trial, making its slot VALID and active. -/
  | imageConfirm (role : Role) (v : Nat)
  /-- MIN_SVN (R461): A write that raises the minimum security version and invalidates older slots. -/
  | minSvn (role : Role) (v : Nat)
  /-- REGISTER_WRITE (R430): A write to any register or dictionary entry that has no row of its own, applied whole after its checks. -/
  | registerWrite (t : RegTarget) (data : List Byte)
  /-- FLIT_CRC_ERROR (R356): A received FLIT fails its CRC or FEC and is replayed; the replay is counted in FLIT_RETRIES and reported as a correctable AER error. -/
  | flitCrcError (port : Nat)
  /-- REFRESH_FAILURE (R395): An HBM stack or DDR channel fails refresh in service and is declared lost, with its pages poisoned or fetched from the partner. -/
  | refreshFailure (u : MemUnit)
  /-- EXTENT_CLEAR_DONE (R40): The clearing of an extent's valid bits, which takes about 28,000 fclk cycles, ends and lets OBJ_DESTROY, a reservation removal or a partition reset proceed to completion. -/
  | extentClearDone (part : Nat)
  /-- KEY_DRAW_TIMEOUT (R470): A partition enable that has waited 1 s for a data key while key draws are stopped is refused. -/
  | keyDrawTimeout (part : Nat)
  /-- IDENTIFY_MEMORY_DEVICE (R352): CXL mailbox command Identify Memory Device. -/
  | identifyMemoryDevice (port : Nat)
  /-- GET_SUPPORTED_LOGS (R352): CXL mailbox command Get Supported Logs. -/
  | getSupportedLogs (port : Nat)
  /-- GET_LOG (R352): CXL mailbox command Get Log for the CEL. -/
  | getLog (port off len : Nat)
  /-- GET_EVENT_RECORDS (R352): CXL mailbox command Get Event Records. -/
  | getEventRecords (port log : Nat)
  /-- CLEAR_EVENT_RECORDS (R355): CXL mailbox command Clear Event Records, which makes room for waiting records. -/
  | clearEventRecords (port log : Nat) (all : Bool) (handles : List Nat)
  /-- GET_EVENT_INTERRUPT_POLICY (R352): CXL mailbox command Get Event Interrupt Policy. -/
  | getEventInterruptPolicy (port : Nat)
  /-- SET_EVENT_INTERRUPT_POLICY (R352): CXL mailbox command Set Event Interrupt Policy, accepting only the setting with no interrupts. -/
  | setEventInterruptPolicy (port : Nat) (policy : List Nat)
  /-- GET_POISON_LIST (R352): CXL mailbox command Get Poison List. -/
  | getPoisonList (port addr len : Nat)
  /-- GET_DYNAMIC_CAPACITY_CONFIGURATION (R352): CXL mailbox command Get Dynamic Capacity Configuration. -/
  | getDynamicCapacityConfiguration (port : Nat)
  /-- GET_DYNAMIC_CAPACITY_EXTENT_LIST (R352): CXL mailbox command Get Dynamic Capacity Extent List. -/
  | getDynamicCapacityExtentList (port first count : Nat)
  /-- GLOBAL_PERSISTENT_FLUSH (R352): CXL GPF, whose two phases complete at once. -/
  | globalPersistentFlush (port phase : Nat)
  /-- CXL_RELEASE_DYNAMIC_CAPACITY (R130): A CXL host's Release Dynamic Capacity response ends step V5 of a revoke. -/
  | cxlReleaseDynamicCapacity (port ext count : Nat)
  /-- CXL_ADD_DYNAMIC_CAPACITY_RESPONSE (R355): A CXL host answers an Add Capacity record; a rejection is counted and the grant stays. -/
  | cxlAddDynamicCapacityResponse (port : Nat) (accepted : Bool)
  /-- ATTN_BUTTON_PRESS (R363): A bay attention button press begins an orderly removal, cancels one, or is refused. -/
  | attnButtonPress (bay : Nat)
  /-- BAY_QUIESCE_TIMER (R364): 5 s after an accepted press, the bay is quiesced, T3 becomes degraded and power is removed. -/
  | bayQuiesceTimer (bay : Nat)
  /-- BAY_CTRL (R363): A write of bay control, including POWER_OFF and the indicators. -/
  | bayCtrl (w : Writer) (bay v : Nat)
  /-- CARTRIDGE_REMOVED (R364): A powered-off cartridge leaves its bay; PRESENCE clears and the bay is EMPTY. -/
  | cartridgeRemoved (bay : Nat)
  /-- CARTRIDGE_SURPRISE_REMOVAL (R365): A cartridge leaves without notice or stops answering, and T3 enters degraded operation. -/
  | cartridgeSurpriseRemoval (bay : Nat) (present : Bool)
  /-- POWER_FAULT (R365): A bay power controller trips and the bay is handled as failed. -/
  | powerFault (bay : Nat)
  /-- CARTRIDGE_INSERTED (R366): A cartridge is seated in a bay, starting the settle wait. -/
  | cartridgeInserted (bay : Nat) (serial fw : List Byte)
  /-- CARTRIDGE_SETTLE_TIMER (R366): After 1 s of settling, power is applied and the cartridge check begins. -/
  | cartridgeSettleTimer (bay : Nat)
  /-- CARTRIDGE_CHECK_DONE (R366): The cartridge check ends: a qualified cartridge becomes READY and rebuilds, and others are REJECTED. -/
  | cartridgeCheckDone (bay : Nat) (qualified : Bool)
  /-- MODULE_ID (R402): A write of the module's ring identity, permitted while PAIR_ENABLE is 0. -/
  | moduleId (role : Role) (partner : Bool) (v : Nat)
  /-- PAIR_ROLE (R404): A write of a partition's pair role or partner, permitted only while unpaired or FENCED. -/
  | pairRole (role : Role) (part : Nat) (partner : Bool) (v : Nat)
  /-- MIRROR_RANGE (R405): A write of a mirror range entry, permitted while PAIR_ENABLE is 0. -/
  | mirrorRange (role : Role) (i v : Nat)
  /-- PAIR_ENABLE (R407): A write that starts or ends pair formation. -/
  | pairEnable (role : Role) (v : Nat)
  /-- LEASE_RENEW (R414): A witness write that renews the lease, possibly with SOLO or TAKEOVER. -/
  | leaseRenew (role : Role) (v : Nat)
  /-- LEASE_EXPIRY (R418): The lease count runs out and the module enters FENCED. -/
  | leaseExpiry
  /-- PARTNER_SILENT (R418): No heartbeat arrives for RING_DEAD_MS in either direction, and the pair enters PARTNER_LOST. -/
  | partnerSilent
  /-- HEARTBEAT_TIMER (R413): Each millisecond the module sends HEARTBEAT on both ring ports. -/
  | heartbeatTimer
  /-- HEARTBEAT (R412): A partner heartbeat frame arrives, possibly restoring MIRRORED or starting a rejoin. -/
  | heartbeat (port : Nat) (f : RingHdr) (hb : HbBody)
  /-- LOG (R411): A LOG frame arrives and the secondary applies its records in order. -/
  | log (port : Nat) (f : RingHdr) (recs : List LogRec)
  /-- LOG_ACK (R408): The partner acknowledges log records, releasing held mirrored writes. -/
  | logAck (port : Nat) (f : RingHdr) (upTo status detail : Nat)
  /-- NACK (R413): A NACK frame makes the sender resend from the named SEQ. -/
  | nack (port : Nat) (f : RingHdr) (seq : Nat)
  /-- REPAIR_READ (R413): A partner asks for a good copy of a block. -/
  | repairRead (port : Nat) (f : RingHdr) (part blk : Nat)
  /-- REPAIR_DATA (R413): A repair block arrives and is written back, or the block is poisoned. -/
  | repairData (port : Nat) (f : RingHdr) (part blk : Nat) (r : Resp)
  /-- RESYNC (R420): A RESYNC frame delivers a page's valid blocks to the partner. -/
  | resync (port : Nat) (f : RingHdr) (part page valid poison : Nat) (data : List Byte)
  /-- RESYNC_SEND (R420): During SYNCING the device sends the next dirty page at RESYNC_RATE and clears its bit. -/
  | resyncSend
  /-- RING_FRAME_FORWARD (R403): A ring frame for another module is forwarded out of the other ring port. -/
  | ringFrameForward (port : Nat) (f : RingHdr)
  /-- HANDOVER (R421): A write that swaps the pair roles of a partition and its partner. -/
  | handover (role : Role) (part : Nat)
  /-- MIRROR_FORMAT_COMMIT (R423): A write that commits the pair to mirror log format 2, or returns it to format 1. -/
  | mirrorFormatCommit (role : Role) (v : Nat)
  /-- ENWARY_OPEN (R439): Enwary OPEN names a role and credential slot and is answered with a signed CHALLENGE. -/
  | enwaryOpen (t : Transport) (roleReq slot : Nat)
  /-- AUTH (R439): Enwary AUTH completes session authentication and derives the session keys. -/
  | auth (sess : Nat) (proof : Nat)
  /-- AUTH_TIMEOUT (R439): AUTH does not arrive within 2 s, so the session is freed and counted. -/
  | authTimeout (sess : Nat)
  /-- CLOSE (R441): Enwary CLOSE ends a session. -/
  | close (m : MsgHdr)
  /-- KEEPALIVE (R438): Enwary KEEPALIVE keeps a session from going idle. -/
  | keepalive (m : MsgHdr)
  /-- ENWARY_READ (R442): Enwary READ of an entry, snapshotting long entries at offset 0. -/
  | enwaryRead (m : MsgHdr) (idx sub off len : Nat)
  /-- ENWARY_WRITE (R430): Enwary WRITE of a whole entry. -/
  | enwaryWrite (m : MsgHdr) (idx sub : Nat) (data : List Byte)
  /-- READ_CLEAR (R428): Enwary READ_CLEAR that returns and clears an RWC entry in one step. -/
  | readClear (m : MsgHdr) (idx sub : Nat)
  /-- DESCRIBE (R434): Enwary DESCRIBE returns an entry's type, access, rights and default. -/
  | describe (m : MsgHdr) (idx sub : Nat)
  /-- ENUMERATE (R438): Enwary ENUMERATE lists existing indexes from a first index. -/
  | enumerate (m : MsgHdr) (first : Nat)
  /-- SEG_BEGIN (R443): Enwary SEG_BEGIN opens a segmented write of an entry. -/
  | segBegin (m : MsgHdr) (idx sub total : Nat)
  /-- SEG_DATA (R443): Enwary SEG_DATA delivers a segment in ascending order. -/
  | segData (m : MsgHdr) (off : Nat) (data : List Byte)
  /-- SEG_END (R443): Enwary SEG_END checks and applies a segmented write as one write. -/
  | segEnd (m : MsgHdr) (crc : Nat)
  /-- SEGMENT_TIMEOUT (R443): More than 2 s between messages of a segmented transfer discards it. -/
  | segmentTimeout (sess : Nat)
  /-- SUBSCRIBE (R444): Enwary SUBSCRIBE sets the notification classes of a session. -/
  | subscribe (m : MsgHdr) (mask : Nat)
  /-- NOTIFY_ACK (R444): A client acknowledges a notification, ending its resends. -/
  | notifyAck (m : MsgHdr) (seq : Nat)
  /-- NOTIFY_RESEND (R444): Each 100 ms an unacknowledged notification is resent, at most 5 times. -/
  | notifyResend (sess : Nat)
  /-- SESSION_IDLE_EXPIRY (R441): SESSION_IDLE_S passes without a valid request and the session ends. -/
  | sessionIdleExpiry (sess : Nat)
  /-- NETWORK_CONFIG_APPLY (R451): 1 s after a write of the network entries, the new setting takes effect and Ethernet sessions end. -/
  | networkConfigApply
  /-- ENTDAA (R445): I3C dynamic address assignment of Larkspur. -/
  | entdaa (addr : Nat)
  /-- SET_ENDPOINT_ID (R446): MCTP control command that sets Larkspur's endpoint ID and ends MCTP sessions on change. -/
  | setEndpointId (op eid : Nat)
  /-- GET_ENDPOINT_ID (R445): MCTP control command Get Endpoint ID. -/
  | getEndpointId
  /-- GET_ENDPOINT_UUID (R445): MCTP control command that returns MODULE_UUID. -/
  | getEndpointUuid
  /-- GET_MCTP_VERSION_SUPPORT (R445): MCTP control command Get MCTP Version Support. -/
  | getMctpVersionSupport (msgType : Nat)
  /-- GET_MESSAGE_TYPE_SUPPORT (R445): MCTP control command Get Message Type Support. -/
  | getMessageTypeSupport
  /-- GET_VENDOR_DEFINED_MESSAGE_SUPPORT (R445): MCTP control command Get Vendor Defined Message Support. -/
  | getVendorDefinedMessageSupport (sel : Nat)
  /-- GETTID (R450): PLDM command GetTID. -/
  | getTid
  /-- SETTID (R450): PLDM command SetTID. -/
  | setTid (tid : Nat)
  /-- GETPLDMVERSION (R450): PLDM command GetPLDMVersion. -/
  | getPldmVersion (typ : Nat)
  /-- GETPLDMTYPES (R450): PLDM command GetPLDMTypes. -/
  | getPldmTypes
  /-- GETPLDMCOMMANDS (R450): PLDM command GetPLDMCommands. -/
  | getPldmCommands (typ : Nat)
  /-- GETPDRREPOSITORYINFO (R450): PLDM command GetPDRRepositoryInfo. -/
  | getPdrRepositoryInfo
  /-- GETPDR (R450): PLDM command GetPDR. -/
  | getPdr (record : Nat)
  /-- GETSENSORREADING (R450): PLDM command GetSensorReading. -/
  | getSensorReading (sensor : Nat)
  /-- GETSENSORTHRESHOLDS (R450): PLDM command GetSensorThresholds. -/
  | getSensorThresholds (sensor : Nat)
  /-- SETEVENTRECEIVER (R450): PLDM command SetEventReceiver. -/
  | setEventReceiver (enableMode eid : Nat)
  /-- GET_VERSION (R467): SPDM request GET_VERSION. -/
  | getVersion
  /-- GET_CAPABILITIES (R467): SPDM request GET_CAPABILITIES. -/
  | getCapabilities
  /-- NEGOTIATE_ALGORITHMS (R467): SPDM request NEGOTIATE_ALGORITHMS. -/
  | negotiateAlgorithms (asym hash : Nat)
  /-- GET_DIGESTS (R467): SPDM request GET_DIGESTS. -/
  | getDigests
  /-- GET_CERTIFICATE (R467): SPDM request GET_CERTIFICATE for slot 0. -/
  | getCertificate (slot off len : Nat)
  /-- SPDM_CHALLENGE (R467): SPDM request CHALLENGE, answered with a signature. -/
  | spdmChallenge (slot nonce : Nat)
  /-- GET_MEASUREMENTS (R468): SPDM request GET_MEASUREMENTS with signature. -/
  | getMeasurements (op : Nat) (sign : Bool) (nonce : Nat)
  /-- PERST_ASSERT (R455): PERST# asserted: a fundamental reset, ending any start in progress. -/
  | perstAssert
  /-- PERST_DEASSERT (R453): PERST# deasserted with main power good begins a start, choosing its slot and course. -/
  | perstDeassert
  /-- START_TIMEOUT (R456): A start does not reach stage 7 within 120 s and fails. -/
  | startTimeout
  /-- STAGE_WATCHDOG (R456): A start stage makes no progress for 30 s and the start fails. -/
  | stageWatchdog
  /-- START_RETRY_TIMER (R456): 1 s after a failed start, Larkspur begins the next start itself. -/
  | startRetryTimer
  /-- UPDATE_ERASE_DONE (R462): The slot erase completes and the update can receive data. -/
  | updateEraseDone
  /-- RECOVERY_BEGIN (R465): Recovery command BEGIN, which erases a slot for an image. -/
  | recoveryBegin
  /-- RECOVERY_WRITE (R465): Recovery command WRITE, which copies RBUF into the slot. -/
  | recoveryWrite
  /-- RECOVERY_COMMIT (R465): Recovery command COMMIT, which verifies the slot and makes it PENDING. -/
  | recoveryCommit
  /-- RECOVERY_RESTART (R465): Recovery command RESTART, which schedules a new start after 100 ms. -/
  | recoveryRestart
  /-- RECOVERY_RESTART_TIMER (R465): 100 ms after a recovery RESTART, a new start begins. -/
  | recoveryRestartTimer
  /-- CLEAR_FAILS (R465): Recovery command that clears START_FAIL_COUNT. -/
  | clearFails
  /-- CRED_SLOT (R469): A write of a credential slot, ending the sessions opened against it. -/
  | credSlot (role : Role) (n : Nat) (data : List Byte)
  /-- PAIR_PEER (R472): A write of the partner's pair key material, verified to establish the pair session key. -/
  | pairPeer (role : Role) (data : List Byte)
  /-- INPUT_UNDERVOLTAGE (R483): 48 V input below 40 V for more than 1 ms brings the main rails down as a loss of power. -/
  | inputUndervoltage
  /-- PLL_LOCK_LOSS (R483): Loss of PLL lock for more than 10 µs brings the main rails down. -/
  | pllLockLoss
  /-- STANDBY_POWER_LOSS (R483): Input below 36 V removes standby power as well. -/
  | standbyPowerLoss
  /-- POWER_WINDOW (R481): At the end of each 1 ms power window, the power demand level is raised or lowered against POWER_CAP. -/
  | powerWindow (watts : Nat)
  /-- THROTTLE_FORCE (R480): A write that sets a minimum throttle level. -/
  | throttleForce (role : Role) (v : Nat)
  /-- SENSOR_THRESHOLD (R485): A sensor crosses its throttle, critical or shutdown threshold, or stops reporting. -/
  | sensorThreshold (sensor : Nat) (v : SensorVal)
  /-- STANDBY_POWER_RESTORED (R482): The 48 V input rises to at least 36 V, the standby converter powers Larkspur, and the standby set is served with MODULE_STATE standby. -/
  | standbyPowerRestored
  /-- LARKSPUR_RESTART_DONE (R376): Larkspur finishes its restart after a watchdog expiry, management service resumes and the bypass crosspoint may open again. -/
  | larkspurRestartDone
  /-- ENTROPY_HEALTH_FAILURE (R470): The on-die entropy source fails its health tests, key draws stop and ENTROPY_FAILURES is incremented. -/
  | entropyHealthFailure
deriving DecidableEq, Repr

end Sys2Proof
end

