-- ==== Sys2Proof/Decode.lean ====
section
/-! DEFINITION. The words of the commands. The operation table gives no row any bits: its rows are operations and events of a block,
which arrive over links, buses, pins and timers. So no word spells a row for `decodeTableWord`. Three families have encodings of
their own in the manual, and these are decoded here: the 64-byte admin commands (R182, R184, Tables 06.3 and 06.4), the 32-bit
instructions of stage programs (R255 to R270, Tables 08.2 to 08.10), and the messages of UBL (R347, R348, R351, Tables 11.11 to
11.13). The messages of Enwary (Table 14.7) are decoded in Machine/Enwary.lean, beside what they do. -/

namespace Sys2Proof

/-- The command that a word spells by the table's bits: none, since no row of the table has bits. -/
def decodeTableWord (_nbits _w : Nat) : Option Instr := none

open Machine (fld bit leAt)

/-! ## Admin commands -/

/-- Whether a byte of a command outside its listed fields, each given by offset and size, is not zero (R12, R184). Byte 0 holds
OPCODE and bytes 2 and 3 CID. -/
def adminReserved (fields : List (Nat × Nat)) (bs : List Byte) : Bool :=
  (List.range 64).any (fun i =>
    i != 0 && i != 2 && i != 3 && fields.all (fun f => i < f.1 || f.1 + f.2 ≤ i) && bs.getD i 0 != 0)

/-- The fields of a command, offset and size, by its opcode (Tables 06.3 and 06.4); none for an unknown opcode. -/
def adminFields : Nat → Option (List (Nat × Nat))
  | 0x01 => some [(0x08, 32), (0x28, 4), (0x30, 16)]
  | 0x02 => some [(0x08, 4)]
  | 0x03 => some [(0x08, 4)]
  | 0x04 => some [(0x08, 5)]
  | 0x05 => some [(0x08, 8)]
  | 0x06 => some [(0x08, 4)]
  | 0x08 => some [(0x08, 1), (0x10, 20)]
  | 0x09 => some [(0x08, 4)]
  | 0x0A => some [(0x08, 4), (0x10, 8)]
  | 0x0B => some [(0x08, 4)]
  | 0x0C => some [(0x08, 4), (0x10, 8)]
  | 0x10 => some [(0x08, 2), (0x0C, 16), (0x20, 16)]
  | 0x11 => some [(0x08, 2), (0x20, 16)]
  | 0x12 => some [(0x08, 2), (0x10, 16)]
  | 0x13 => some [(0x08, 3), (0x0C, 20)]
  | 0x14 => some [(0x08, 2)]
  | 0x18 => some [(0x08, 4)]
  | 0x19 => some [(0x08, 19)]
  | 0x1A => some [(0x08, 8)]
  | 0x20 => some [(0x08, 3)]
  | 0x21 => some [(0x08, 2)]
  | 0x22 => some [(0x08, 6), (0x10, 8)]
  | 0x23 => some [(0x08, 3), (0x0C, 8)]
  | 0x24 => some [(0x08, 2), (0x0C, 8)]
  | 0x25 => some [(0x08, 4), (0x10, 8)]
  | _ => none

/-- The parameters of CH_CREATE (Table 06.4). -/
def chArgsOf (bs : List Byte) : ChArgs :=
  { recipe := leAt bs 0x08 2, cls := leAt bs 0x0A 1, policy := leAt bs 0x0B 1, sqLog2 := leAt bs 0x0C 1, cqLog2 := leAt bs 0x0D 1,
    loc := leAt bs 0x0E 1, clusters := leAt bs 0x0F 1, sqAddr := leAt bs 0x10 8, cqAddr := leAt bs 0x18 8, sqEp := leAt bs 0x20 4,
    cqEp := leAt bs 0x24 4, inflight := leAt bs 0x28 2, flags := leAt bs 0x2A 2, args := leAt bs 0x30 16 }

/-- The 64 bytes of an admin command fetched through a function, as a command. -/
def decodeAdmin (fn : FnId) (bs : List Byte) : Instr :=
  let op := leAt bs 0 1
  let at' := fun o n => leAt bs o n
  let h : Adm := { fn := fn, cid := at' 2 2, rsv := (adminFields op).any (fun f => adminReserved f bs) }
  match op with
  | 0x01 => .chCreate h (chArgsOf bs)
  | 0x02 => .chDestroy h (at' 0x08 4)
  | 0x03 => .chReset h (at' 0x08 4)
  | 0x04 => .chRestart h (at' 0x08 4) (at' 0x0C 1)
  | 0x05 => .chModify h (at' 0x08 4) (at' 0x0C 1) (at' 0x0D 1) (at' 0x0E 1) (at' 0x0F 1)
  | 0x06 => .chQuery h (at' 0x08 4)
  | 0x08 => .syncAlloc h (at' 0x08 1) (at' 0x10 8) (at' 0x18 8) (at' 0x20 4)
  | 0x09 => .syncFree h (at' 0x08 4)
  | 0x0A => .syncSignal h (at' 0x08 4) (at' 0x10 8)
  | 0x0B => .syncQuery h (at' 0x08 4)
  | 0x0C => .syncArm h (at' 0x08 4) (at' 0x10 8)
  | 0x10 => .objCreate h (at' 0x08 2) (at' 0x0C 4) (at' 0x10 8) (at' 0x18 4) (at' 0x20 16)
  | 0x11 => .objPlace h (at' 0x08 2) (at' 0x20 16)
  | 0x12 => .objDiscard h (at' 0x08 2) (at' 0x10 8) (at' 0x18 8)
  | 0x13 => .objQuery h (at' 0x08 2) (at' 0x0A 1) (at' 0x0C 4) (at' 0x10 4) (at' 0x14 4) (at' 0x18 8)
  | 0x14 => .objDestroy h (at' 0x08 2)
  | 0x18 => .viewSet h (at' 0x08 2) (at' 0x0A 1) (at' 0x0B 1)
  | 0x19 => .viewCreate h (at' 0x08 2) (at' 0x0A 1) (at' 0x0B 1) (at' 0x0C 4) (at' 0x10 8) (at' 0x18 2) (at' 0x1A 1)
  | 0x1A => .deltaSeal h (at' 0x08 2) (at' 0x0A 2) (at' 0x0C 1) (at' 0x0D 1) (at' 0x0E 2)
  | 0x20 => .shareExport h (at' 0x08 2) (at' 0x0A 1)
  | 0x21 => .shareWithdraw h (at' 0x08 2)
  | 0x22 => .shareImport h (at' 0x08 2) (at' 0x0A 1) (at' 0x0B 1) (at' 0x0C 2) (at' 0x10 8)
  | 0x23 => .grant h (at' 0x08 2) (at' 0x0A 1) (at' 0x0C 4) (at' 0x10 4)
  | 0x24 => .revoke h (at' 0x08 2) (at' 0x0C 4) (at' 0x10 4)
  | 0x25 => .acceptStale h (at' 0x08 4) (at' 0x10 8)
  | _ => .unknownAdminOpcode h op

/-! ## Stage-program instructions -/

/-- The register that a field of five bits names. -/
def regAt (w lo : Nat) : Fin 32 := Fin.ofNat 32 (fld w lo 5)

/-- Class 0x0: scalar register operations. -/
def decodeScalar (c w : Nat) : Option Instr :=
  let rd := regAt w 17
  let a := regAt w 12
  let b := regAt w 7
  if fld w 0 7 != 0 then none
  else match fld w 22 6 with
    | 0x00 => some (.add c rd a b)
    | 0x01 => some (.sub c rd a b)
    | 0x02 => some (.and c rd a b)
    | 0x03 => some (.or c rd a b)
    | 0x04 => some (.xor c rd a b)
    | 0x05 => some (.sll c rd a b)
    | 0x06 => some (.srl c rd a b)
    | 0x07 => some (.sra c rd a b)
    | 0x08 => some (.slt c rd a b)
    | 0x09 => some (.sltu c rd a b)
    | 0x0A => some (.mul c rd a b)
    | 0x0B => some (.mulhu c rd a b)
    | 0x0C => some (.min c rd a b)
    | 0x0D => some (.max c rd a b)
    | _ => none

/-- Class 0x1: scalar immediate operations, loads and stores. -/
def decodeImmediate (c : Nat) (ecc : Ecc) (w : Nat) : Option Instr :=
  let rd := regAt w 19
  let a := regAt w 14
  let imm := BitVec.ofNat 14 w
  match fld w 24 4 with
  | 0x0 => some (.addi c rd a imm)
  | 0x1 => some (.andi c rd a imm)
  | 0x2 => some (.ori c rd a imm)
  | 0x3 => some (.xori c rd a imm)
  | 0x4 => some (.slli c rd a imm)
  | 0x5 => some (.srli c rd a imm)
  | 0x6 => some (.srai c rd a imm)
  | 0x7 => some (.slti c rd a imm)
  | 0x8 => some (.lw32 c rd a imm ecc)
  | 0x9 => some (.ld64 c rd a imm ecc)
  | 0xA => some (.sw32 c rd a imm)
  | 0xB => some (.sd64 c rd a imm)
  | _ => none

/-- Class 0x2: branches and jumps. -/
def decodeBranch (c w : Nat) : Option Instr :=
  let a := regAt w 20
  let b := regAt w 15
  let off := BitVec.ofNat 15 w
  match fld w 25 3 with
  | 0 => some (.beq c a b off)
  | 1 => some (.bne c a b off)
  | 2 => some (.blt c a b off)
  | 3 => some (.bge c a b off)
  | 4 => some (.bltu c a b off)
  | 5 => some (.bgeu c a b off)
  | 6 => some (.j c a off)
  | _ => some (.jr c a b)

/-- Class 0x3: insert immediate. -/
def decodeInsert (c w : Nat) : Option Instr :=
  if fld w 0 5 != 0 then none else some (.liq c (regAt w 23) (Fin.ofNat 4 (fld w 21 2)) (BitVec.ofNat 16 (fld w 5 16)))

/-- Class 0x4: array operations. Formats that an operation does not take leave it undefined (Tables 08.4 and 08.5). -/
def decodeArray (c : Nat) (ecc : Ecc) (res : Residue) (w : Nat) : Option Instr :=
  let fa := fld w 21 4
  let fb := fld w 17 4
  let a := regAt w 12
  let b := regAt w 7
  let n := fld w 4 3 + 1
  let t0 := fld w 1 3
  if bit w 0 then none
  else match fld w 25 3 with
    | 0 => if fb ≤ 7 then some (.tlds c fb a b ecc) else none
    | 1 => if fa ≤ 7 && fb ≤ 7 then some (.tmma c fa fb a b n t0 res ecc) else none
    | 2 => if 6 ≤ fa && fa ≤ 9 then some (.tdrain c fa a b n t0) else none
    | 3 => some (.tzero c n t0)
    | 4 => some (.tlda c a b n t0 ecc)
    | _ => none

/-- Class 0x5: vector operations (Table 08.6). -/
def decodeVector (c w : Nat) : Option Instr :=
  let vd := regAt w 17
  let va := regAt w 12
  let vb := regAt w 7
  let vc := regAt w 2
  let code := fld w 2 5
  if fld w 0 2 != 0 then none
  else match fld w 22 6 with
    | 0x00 => some (.vadd c vd va vb)
    | 0x01 => some (.vsub c vd va vb)
    | 0x02 => some (.vmul c vd va vb)
    | 0x03 => some (.vfma c vd va vb vc)
    | 0x04 => some (.vmin c vd va vb)
    | 0x05 => some (.vmax c vd va vb)
    | 0x06 => some (.vabs c vd va)
    | 0x07 => some (.vneg c vd va)
    | 0x08 => some (.vcmpeq c vd va vb)
    | 0x09 => some (.vcmplt c vd va vb)
    | 0x0A => some (.vcmple c vd va vb)
    | 0x0B => some (.vsel c vd va vb vc)
    | 0x0C => some (.vand c vd va vb)
    | 0x0D => some (.vor c vd va vb)
    | 0x0E => some (.vxor c vd va vb)
    | 0x0F => some (.viadd c vd va vb)
    | 0x10 => some (.vishl c vd va vb)
    | 0x11 => some (.visra c vd va vb)
    | 0x12 => some (.vrcp c vd va)
    | 0x13 => some (.vrsqrt c vd va)
    | 0x14 => some (.vsqrt c vd va)
    | 0x15 => some (.vexp2 c vd va)
    | 0x16 => some (.vlog2 c vd va)
    | 0x17 => some (.vexp c vd va)
    | 0x18 => some (.vlog c vd va)
    | 0x19 => some (.vtanh c vd va)
    | 0x1A => some (.vredadd c vd va)
    | 0x1B => some (.vredmax c vd va)
    | 0x1C => if 5 ≤ code && code ≤ 9 then some (.vcvtin c vd va code) else none
    | 0x1D => if 5 ≤ code && code ≤ 9 then some (.vcvtout c vd va code) else none
    | 0x1E => if code ≤ 4 then some (.vmxenc c vd va code) else none
    | 0x1F => if code ≤ 4 then some (.vmxdec c vd va code) else none
    | _ => none

/-- Class 0x6: vector moves (Table 08.7). -/
def decodeMove (c : Nat) (ecc : Ecc) (w : Nat) : Option Instr :=
  let v := regAt w 20
  let a := regAt w 15
  let b := regAt w 10
  if fld w 0 10 != 0 then none
  else match fld w 25 3 with
    | 0 => some (.vld c v a ecc)
    | 1 => some (.vst c v a)
    | 2 => some (.vldn c v a b ecc)
    | 3 => some (.vstn c v a b)
    | 4 => some (.vbcast c v a)
    | 5 => some (.vext c v a b)
    | _ => none

/-- Class 0x7: streams (Table 08.8). SPACE 0b11 is undefined (R262). -/
def decodeStream (c : Nat) (ecc : Ecc) (w : Nat) : Option Instr :=
  let space := fld w 24 2
  let a := regAt w 19
  let b := regAt w 14
  let n := regAt w 9
  if fld w 0 9 != 0 || 2 < space then none
  else match fld w 26 2 with
    | 0 => some (.sld c space a b n)
    | 1 => some (.sst c space a b n ecc)
    | 2 => some (.sacc c space a b n ecc)
    | _ => none

/-- Class 0x8: queues (Table 08.9). -/
def decodeQueue (c : Nat) (ecc : Ecc) (w : Nat) : Option Instr :=
  let stage := fld w 22 4
  let r1 := regAt w 17
  if fld w 0 7 != 0 then none
  else match fld w 26 2 with
    | 0 => some (.qpop c stage r1)
    | 1 => some (.qrel c stage)
    | 2 => some (.qsend c stage r1 (regAt w 12) (regAt w 7) ecc)
    | _ => some (.qcnt c stage r1)

/-- Class 0x9: descriptors and synchronisation (Table 08.10). -/
def decodeSync (c w : Nat) : Option Instr :=
  let r1 := regAt w 19
  let r2 := regAt w 14
  match fld w 24 4 with
  | 0 => some (.dnext c r1)
  | 1 => some (.dpass c)
  | 2 => some (.ddone c r1 r2)
  | 3 => some (.dstat c r1)
  | 4 => some (.ssig c r1 r2)
  | 5 => some (.swait c r1 r2)
  | 6 => some (.cargs c r1)
  | 7 => if fld w 0 14 ≤ 7 then some (.idRead c r1 (BitVec.ofNat 14 w)) else none
  | _ => none

/-- Class 0xA: control (R270). -/
def decodeControl (c : Nat) (dup : DupCheck) (w : Nat) : Option Instr :=
  match fld w 24 4 with
  | 0 => some (.nop c)
  | 1 => some (.step c dup)
  | 2 => some (.bnd c (regAt w 19) (regAt w 14))
  | 3 => some (.sfence c (BitVec.ofNat 14 w))
  | 4 => some (.fault c (BitVec.ofNat 14 w))
  | _ => none

/-- The instruction that a 32-bit word spells on cluster `c` (R255); none for an undefined encoding. What the hardware meets as it
executes it (the SECDED outcome of its SRAM read, its residue check, the comparison of a duplicate window) comes beside the word. -/
def decodeStage (c : Nat) (ecc : Ecc) (res : Residue) (dup : DupCheck) (w : Nat) : Option Instr :=
  match fld w 28 4 with
  | 0x0 => decodeScalar c w
  | 0x1 => decodeImmediate c ecc w
  | 0x2 => decodeBranch c w
  | 0x3 => decodeInsert c w
  | 0x4 => decodeArray c ecc res w
  | 0x5 => decodeVector c w
  | 0x6 => decodeMove c ecc w
  | 0x7 => decodeStream c ecc w
  | 0x8 => decodeQueue c ecc w
  | 0x9 => decodeSync c w
  | 0xA => decodeControl c dup w
  | _ => none

/-! ## UBL messages (Tables 11.11 to 11.13) -/

/-- The header of a UBL message (Table 11.11). -/
structure UblHdr where
  op : Nat
  dst : Nat
  src : Nat
  off : Nat
  tag : Nat
  pool : Nat
  lock : Bool
  last : Bool
  lockId : Nat
  nocache : Bool
  status : Nat
deriving DecidableEq, Repr

/-- The header that a 128-bit word spells. -/
def ublHdr (w : Nat) : UblHdr :=
  ⟨fld w 120 8, fld w 100 20, fld w 80 20, fld w 32 48, fld w 20 12, fld w 16 4, bit w 15, bit w 14, fld w 10 4, bit w 9, fld w 0 8⟩

/-- The 128-bit word of a header; its reserved bit is zero. -/
def ublWord (h : UblHdr) : Nat :=
  h.op % 2 ^ 8 * 2 ^ 120 + h.dst % 2 ^ 20 * 2 ^ 100 + h.src % 2 ^ 20 * 2 ^ 80 + h.off % 2 ^ 48 * 2 ^ 32 + h.tag % 2 ^ 12 * 2 ^ 20 +
  h.pool % 2 ^ 4 * 2 ^ 16 + Machine.b2n h.lock * 2 ^ 15 + Machine.b2n h.last * 2 ^ 14 + h.lockId % 2 ^ 4 * 2 ^ 10 +
  Machine.b2n h.nocache * 2 ^ 9 + h.status % 2 ^ 8

/-- A load, store or coherence request as its header names it. The LOCK bit counts in WR_UNCACHED and WR_BACK alone (R350). -/
def UblHdr.req (h : UblHdr) (port : Nat) : HReq :=
  let lock := h.lock && (h.op == 0x08 || h.op == 0x09)
  ⟨port, h.src, h.dst, h.off, h.tag, h.pool, lock, lock && h.last, if lock then h.lockId else 0, false⟩

/-- The command that the bytes of a UBL message on a fabric port stand for (Table 11.12), little-endian (R11); none where the payload
does not have the message's length. What the access meets in memory, and whether an unknown OPCODE is non-posted, comes beside them. -/
def ublMessage (port : Nat) (med : Med) (nonPosted : Bool) (bs : List Byte) : Option Instr :=
  let h := ublHdr (leAt bs 0 16)
  let pay := bs.drop 16
  let msg := fun n i => if bs.length == 16 + n then some i else none
  match h.op with
  | 0x01 => msg 0 (.rdUncached (h.req port) med)
  | 0x02 => msg 0 (.rdShared (h.req port) med)
  | 0x03 => msg 0 (.rdOwn (h.req port) med)
  | 0x08 => msg 72 (.wrUncached (h.req port) (BitVec.ofNat 64 (leAt pay 0 8)) (pay.drop 8) med)
  | 0x09 => msg 64 (.wrBack (h.req port) pay)
  | 0x0A => msg 0 (.evict (h.req port))
  | 0x10 => if bs.length == 80 || (bs.length == 16 && h.status != 0) then some (.respData port h.tag h.status pay) else none
  | 0x11 => msg 0 (.resp port h.tag h.status)
  | 0x1A => msg 0 (.recallAck port h.tag)
  | 0x1B => msg 64 (.recallData port h.tag pay)
  | 0x20 => msg 16 (.doorbell port h.dst (leAt pay 0 4) (leAt pay 8 8))
  | op => some (.ublUnknownOpcode port h.src h.dst h.tag op nonPosted)

/-- The header of a ring frame (Tables 11.11 and 11.13) with the payload bytes that it carried; `good` says whether its FLIT checks
passed. -/
def ringHdrOf (good : Bool) (w : Nat) (payload : List Byte) : RingHdr :=
  ⟨fld w 100 20, fld w 80 20, fld w 32 32, good, if bit w 67 then none else some (fld w 68 12 + 1, payload)⟩

end Sys2Proof
end

