-- ==== Sys2Proof/Config.lean ====
section
/-! DEFINITION. What the manual leaves open or fixes outside this text, as constants without a body: values fixed at
manufacture or by the running image, the outcomes of cryptographic checks, choices the device makes under no stated
rule, and the results of vector functions of which only the accuracy is stated. No proof can see their values. -/

namespace Sys2Proof.Config

/-- The n-th free number that the device draws where the manual states no value (a choice among free frames or slots,
a nonce, an arrival order). DESIGN CHOICE: see log entry 3. -/
opaque free : Nat → Nat

/-- Whether the n-th rounding of a stochastic encoder goes up, when the discarded fraction is neither 0 nor 1 (R96). -/
opaque roundUp : Nat → Bool

/-- The directory set of a line of a partition, before it is taken modulo the number of sets (R133). -/
opaque dirSet : Nat → Nat → Nat

/-- The hash of a line address that spreads requests over the ports of a route entry (R120). -/
opaque routeHash : Nat → Nat → Nat

/-- The stored size that the transparent encoder reaches for a block, before it is brought into 1 to 8 (R91, R92). -/
opaque transparentSectors : List Byte → Nat

/-- The code lengths that DELTA_SEAL builds from a histogram of 256 symbols (R104). -/
opaque codeLengths : List Nat → List Nat

/-- Which of the values within the stated accuracy an approximate vector function gives (R163): function number,
operand. The use reduces it to the number of those values. -/
opaque vecUlp : Nat → W32 → Nat

/-- The result of a vector INT32 shift (0 left, 1 right) by an amount of 32 or more, or a negative one (R260 states
none). -/
opaque shiftOver : Nat → W32 → W32 → W32

/-- Whether level n of the pairwise tree of REDUCE_ADD adds the two halves of its inputs, or else adjacent pairs: the
manual states a pairwise tree in a fixed order and not the pairs (R163). -/
opaque redHalves : Nat → Bool

/-- SHA-384 of a byte string (R460, R466, R468). -/
opaque sha384 : List Byte → List Byte

/-- The 64-bit configuration digest of a pair configuration spelled as numbers (R407). -/
opaque digest : List Nat → Nat

/-- Whether the signer chain and signature of an image verify (R460). -/
opaque imageSigned : List Byte → Bool

/-- Whether an Enwary AUTH verifies against a credential (R439): credential bytes, challenge number, proof. -/
opaque authOk : List Byte → Nat → Nat → Bool

/-- Whether the partner's key material ends at the Tvedxon root and verifies (R472). -/
opaque peerOk : List Byte → Bool

/-- A signature by the device identity key: key number, signed bytes (R466). -/
opaque sign : Nat → List Byte → List Byte

/-- The certificate chain of a device identity key (R466). -/
opaque certChain : Nat → List Byte

/-- The point and signature of PAIR_LOCAL drawn at a start (R472). -/
opaque pairLocal : Nat → List Byte

/-- The mask ROM (R457, R468). -/
opaque maskRom : List Byte

/-- The service key of mask ROM (R469). -/
opaque serviceKey : List Byte

/-- Values fixed at manufacture: serial number, UUID, MAC address, I3C provisional ID, silicon stepping (R451). -/
opaque serial : List Byte
opaque uuid : List Byte
opaque macAddress : List Byte
opaque i3cPid : List Byte
opaque stepping : Nat

/-- The image in slot A of a module as delivered: VERSION, SVN, bytes (R460). -/
opaque imageVersion : Nat
opaque imageSvn : Nat
opaque imageBytes : List Byte

/-- The version of the built-in recipe set and of the dictionary of an image (R249, R451), by its VERSION. -/
opaque recipeSetVersion : Nat → Nat
opaque dictVersion : Nat → Nat

/-- The remaining life of a bay's cartridge as delivered, percent (R71). -/
opaque wear : Nat → Nat

/-- The DDR channel of a write-staging frame, or the flash channel, that serves a T3 frame (log entry 135). -/
opaque flashArb : Nat → Nat

/-- The address in use on the management network (R451). -/
opaque ipAddress : Nat → Nat

/-- What the MCTP and PLDM specifications leave to the endpoint: the version entry of a message type, the version and checksum
of a PLDM type, the content of a PDR, the update times of the repository, bytes that no statement of the manual fills. -/
opaque mctpVersion : Nat → Nat
opaque pldmVersion : Nat → Nat
opaque pdr : Nat → List Byte
opaque pdrTimes : List Byte
opaque pldmFill : Nat → Nat → Nat

/-- What a read of the built-in placement program returns (R51). -/
opaque builtinProgram : List Byte

/-- What a placement program finds that the manual does not state (R53): the address of its code, taken in steps of 64 KiB, the
registers at its entry beside a0, a1 and ra (log entry 88). -/
opaque progBase : Nat
opaque progRegs : Nat → W32

/-- A byte of a standard PCI capability, and of the CXL register blocks, in the bits that the manual leaves to the specifications
(R334, R339). -/
opaque cfgStd : Nat → Nat → Nat → Nat
opaque cxlReg : Nat → Nat → Nat

/-- A byte of ROM_HEADER that Table 15.5 does not give (R464). -/
opaque romFixed : Nat → Nat

/-- The 512 bits of a data key drawn from the entropy source, by the draw (R470). -/
opaque keyBits : Nat → Nat

/-- The length in bytes of a wrapped data key in a log record (R409). -/
opaque keyWrap : Nat

/-- The serial number and controller firmware version of the cartridge in a bay as delivered (R368). -/
opaque cartSerial : Nat → List Byte
opaque cartFw : Nat → List Byte

end Sys2Proof.Config
end

