-- ==== Sys2Proof/Machine/Float.lean ====
section
/-! DEFINITION. Number formats and arithmetic: binary formats with subnormals, exact sums and products of dyadic
numbers with one rounding to nearest even (R159 to R162), the MX element and scale formats (R94 to R97), and the vector
functions within their stated accuracy (R163). -/

namespace Sys2Proof.Machine

/-- A number read from a format: NaN, an infinity, or (-1)^neg * m * 2^e. -/
inductive FV where
  | nan
  | inf (neg : Bool)
  | num (neg : Bool) (m : Nat) (e : Int)
deriving DecidableEq, Repr

/-- A binary format: exponent bits, fraction bits. -/
structure FFmt where
  eb : Nat
  mb : Nat
deriving DecidableEq, Repr

def fFP32 : FFmt := ⟨8, 23⟩
def fBF16 : FFmt := ⟨8, 7⟩
def fFP16 : FFmt := ⟨5, 10⟩

/-- The exponent of the smallest subnormal of a format. -/
def FFmt.qmin (f : FFmt) : Int := 2 - (2 ^ (f.eb - 1) : Nat) - (f.mb : Nat)

/-- The magnitude code of an infinity of a format. -/
def FFmt.infCode (f : FFmt) : Nat := (2 ^ f.eb - 1) * 2 ^ f.mb

/-- The code of the quiet NaN of a format (R161, R162). -/
def FFmt.nanCode (f : FFmt) : Nat := f.infCode + 2 ^ (f.mb - 1)

/-- The sign and value of the finite code `c`. -/
def FFmt.finite (f : FFmt) (c : Nat) : FV :=
  let s := bit c (f.eb + f.mb)
  let ex := fld c f.mb f.eb
  let fr := fld c 0 f.mb
  if ex == 0 then .num s fr f.qmin else .num s (fr + 2 ^ f.mb) (f.qmin + (ex - 1 : Nat))

/-- A code of an IEEE format read. -/
def FFmt.read (f : FFmt) (c : Nat) : FV :=
  if fld c f.mb f.eb == 2 ^ f.eb - 1 then (if fld c 0 f.mb == 0 then .inf (bit c (f.eb + f.mb)) else .nan)
  else f.finite c

/-- How a magnitude that lies between two representable numbers is rounded. -/
inductive RMode where
  | nearestEven
  | down
  | draw (up : Bool)
deriving DecidableEq, Repr

/-- m / 2^s rounded to an integer. -/
def roundShift (r : RMode) (m s : Nat) : Nat :=
  let q := m >>> s
  let rem := m % 2 ^ s
  match r with
  | .down => q
  | .draw up => if rem != 0 && up then q + 1 else q
  | .nearestEven =>
    if 2 * rem < 2 ^ s then q else if 2 ^ s < 2 * rem then q + 1 else if q % 2 == 0 then q else q + 1

/-- The magnitude code of m * 2^e in a format, before any overflow is looked at: the codes of a format follow the order
of their magnitudes, so a carry out of the fraction gives the next exponent. -/
def FFmt.magCode (f : FFmt) (r : RMode) (m : Nat) (e : Int) : Nat :=
  if m == 0 then 0
  else
    let k : Int := Max.max ((Nat.log2 m : Nat) + e - (f.mb : Nat)) f.qmin
    let n := if k ≤ e then m <<< (e - k).toNat else roundShift r m (k - e).toNat
    (k - f.qmin).toNat * 2 ^ f.mb + n

/-- A value rounded to nearest even into an IEEE format; beyond its range it is an infinity (R162). -/
def FFmt.write (f : FFmt) : FV → Nat
  | .nan => f.nanCode
  | .inf s => b2n s * 2 ^ (f.eb + f.mb) + f.infCode
  | .num s m e => b2n s * 2 ^ (f.eb + f.mb) + Min.min (f.magCode .nearestEven m e) f.infCode

/-- A value read from an FP32 word. -/
def f32 (w : W32) : FV := fFP32.read w.toNat

/-- A value rounded into an FP32 word. -/
def w32 (v : FV) : W32 := BitVec.ofNat 32 (fFP32.write v)

/-- Plus zero. -/
def FV.zero : FV := .num false 0 0

/-- The value with its sign reversed. -/
def FV.neg : FV → FV
  | .nan => .nan
  | .inf s => .inf (!s)
  | .num s m e => .num (!s) m e

/-- The value with its sign taken away. -/
def FV.abs : FV → FV
  | .nan => .nan
  | .inf _ => .inf false
  | .num _ m e => .num false m e

/-- The integer significand of a signed magnitude. -/
def sgn (s : Bool) (m : Nat) : Int := if s then -(m : Int) else m

/-- The exact sum; a sum of zeros or an exact cancellation gives -0 only when both are negative (R160, R161). -/
def FV.add : FV → FV → FV
  | .nan, _ => .nan
  | _, .nan => .nan
  | .inf s, .inf t => if s == t then .inf s else .nan
  | .inf s, _ => .inf s
  | _, .inf s => .inf s
  | .num s m e, .num t n g =>
    let lo := Min.min e g
    let z := sgn s m * 2 ^ (e - lo).toNat + sgn t n * 2 ^ (g - lo).toNat
    if z == 0 then .num (s && t) 0 0 else .num (decide (z < 0)) z.natAbs lo

/-- The exact product (Table 05.4). -/
def FV.mul : FV → FV → FV
  | .nan, _ => .nan
  | _, .nan => .nan
  | .inf s, .inf t => .inf (s != t)
  | .inf s, .num t n _ => if n == 0 then .nan else .inf (s != t)
  | .num s m _, .inf t => if m == 0 then .nan else .inf (s != t)
  | .num s m e, .num t n g => .num (s != t) (m * n) (e + g)

/-- A value times a power of two. -/
def FV.scale (v : FV) (k : Int) : FV :=
  match v with
  | .num s m e => .num s m (e + k)
  | v => v

/-- The order of two values neither of which is NaN: less than. Zeros are equal. -/
def FV.lt : FV → FV → Bool
  | .nan, _ => false
  | _, .nan => false
  | .inf s, .inf t => s && !t
  | .inf s, _ => s
  | _, .inf t => !t
  | .num s m e, .num t n g =>
    let lo := Min.min e g
    decide (sgn s m * 2 ^ (e - lo).toNat < sgn t n * 2 ^ (g - lo).toNat)

/-- Whether a value is NaN. -/
def FV.isNan : FV → Bool
  | .nan => true
  | _ => false

/-- Whether a value is finite. -/
def FV.finiteB : FV → Bool
  | .num _ _ _ => true
  | _ => false

/-- Numeric equality; NaN equals nothing. -/
def FV.eq (a b : FV) : Bool := !a.isNan && !b.isNan && !a.lt b && !b.lt a

/-- The sign of a value. -/
def FV.sign : FV → Bool
  | .nan => false
  | .inf s => s
  | .num s _ _ => s

/-- IEEE 754-2019 minimum: NaN propagates, -0 is below +0 (Table 05.7). -/
def FV.min (a b : FV) : FV :=
  if a.isNan || b.isNan then .nan else if a.lt b then a else if b.lt a then b else if a.sign then a else b

/-- IEEE 754-2019 maximum. -/
def FV.max (a b : FV) : FV :=
  if a.isNan || b.isNan then .nan else if b.lt a then a else if a.lt b then b else if a.sign then b else a

/-- FP32 addition with one rounding. -/
def f32add (a b : W32) : W32 := w32 ((f32 a).add (f32 b))

/-- FP32 multiplication with one rounding. -/
def f32mul (a b : W32) : W32 := w32 ((f32 a).mul (f32 b))

/-- FP32 fused multiply-add with one rounding. -/
def f32fma (a b c : W32) : W32 := w32 (((f32 a).mul (f32 b)).add (f32 c))

/-- An integer as a value. -/
def FV.ofInt (z : Int) : FV := .num (decide (z < 0)) z.natAbs 0

/-- A value rounded to nearest even to an integer, held between `lo` and `hi`; NaN gives 0 (Table 05.5). -/
def FV.toInt (v : FV) (lo hi : Int) : Int :=
  match v with
  | .nan => 0
  | .inf s => if s then lo else hi
  | .num s m e =>
    let n := if 0 ≤ e then m <<< e.toNat else roundShift .nearestEven m (-e).toNat
    Max.max lo (Min.min hi (sgn s n))

/-! ## MX formats -/

/-- An MX element format (Table 03.8): the code of its largest finite element, emax, element bits, and whether it has
IEEE specials (E5M2) or the one NaN code of E4M3. -/
structure MxFmt where
  f : FFmt
  maxCode : Nat
  emax : Int
  bits : Nat
deriving DecidableEq, Repr

def mxE2M1 : MxFmt := ⟨⟨2, 1⟩, 0x7, 2, 4⟩
def mxE2M3 : MxFmt := ⟨⟨2, 3⟩, 0x1F, 2, 6⟩
def mxE3M2 : MxFmt := ⟨⟨3, 2⟩, 0x1F, 4, 6⟩
def mxE4M3 : MxFmt := ⟨⟨4, 3⟩, 0x7E, 8, 8⟩
def mxE5M2 : MxFmt := ⟨⟨5, 2⟩, 0x7B, 15, 8⟩

/-- The formats by their number in Table 03.8. -/
def mxOf : Nat → MxFmt
  | 0 => mxE2M1
  | 1 => mxE2M3
  | 2 => mxE3M2
  | 3 => mxE4M3
  | _ => mxE5M2

/-- Data bytes of a group of 32 elements (Table 03.8). -/
def MxFmt.bytes (x : MxFmt) : Nat := 4 * x.bits

/-- An element code read, without its scale. -/
def MxFmt.read (x : MxFmt) (c : Nat) : FV :=
  if x.bits == 8 && x.maxCode < c % 128 then
    (if x == mxE5M2 && c % 128 == 0x7C then .inf (bit c 7) else .nan)
  else x.f.finite c

/-- An element with its group's scale code (R94, R97). -/
def MxFmt.value (x : MxFmt) (scale c : Nat) : FV :=
  if scale == 0xFF then .nan else (x.read c).scale ((scale : Int) - 127)

/-- A value rounded into an element code: it saturates at the largest finite element (R96). -/
def MxFmt.write (x : MxFmt) (r : RMode) : FV → Nat
  | .nan => 0
  | .inf s => b2n s * 2 ^ (x.bits - 1) + x.maxCode
  | .num s m e => b2n s * 2 ^ (x.bits - 1) + Min.min (x.f.magCode r m e) x.maxCode

/-- floor(log2) of the largest finite magnitude of a group, none when every element is zero. -/
def topExp (xs : List FV) : Option Int :=
  xs.foldl (fun o v =>
    match v with
    | .num _ m e =>
      if m == 0 then o
      else
        let t : Int := (Nat.log2 m : Nat) + e
        match o with
        | none => some t
        | some u => some (Max.max t u)
    | _ => o) none

/-- The scale and element codes of a group under R96; with `sr` element i rounds as the free draw sr + i says. -/
def MxFmt.encode (x : MxFmt) (sr : Option Nat) (xs : List FV) : Nat × List Nat :=
  if xs.any (fun v => !v.finiteB) then (0xFF, xs.map (fun _ => 0))
  else match topExp xs with
    | none => (0, xs.map (fun _ => 0))
    | some t =>
      let s : Int := Max.max (-127) (Min.min 127 (t - x.emax))
      ((s + 127).toNat, xs.mapIdx (fun i v =>
        x.write (match sr with
          | some n => .draw (Config.roundUp (n + i))
          | none => .nearestEven) (v.scale (-s))))

/-- The element codes packed into bytes, the first lowest (R95). -/
def MxFmt.pack (x : MxFmt) (cs : List Nat) : List Byte :=
  leBytes (cs.length * x.bits / 8) (cs.foldr (fun c n => c + 2 ^ x.bits * n) 0)

/-- Element i of packed bytes. -/
def MxFmt.elem (x : MxFmt) (bs : List Byte) (i : Nat) : Nat :=
  fld (leNat (slice bs (i * x.bits / 8) 2)) (i * x.bits % 8) x.bits

/-- The values of a group of 32 packed elements under a scale. -/
def MxFmt.group (x : MxFmt) (scale : Nat) (bs : List Byte) : List FV :=
  (List.range 32).map (fun i => x.value scale (x.elem bs i))

/-! ## Vector functions of stated accuracy (R163) -/

/-- A magnitude chosen among the FP32 values within `n` ulp of the number whose magnitude code rounds down to `fl`, by
an offset that the model leaves free. Codes go on above the finite range, where every one of them is infinity. -/
def nearCode (n fl : Nat) (exact : Bool) (k : Nat) : Nat :=
  let lo := if exact then fl - n else fl - (n - 1)
  Min.min (lo + k % (fl + n + 1 - lo)) 0x7F800000

/-- The free offset of function `fn` at an operand. -/
def nearVal (fn n : Nat) (x : W32) (neg : Bool) (fl : Nat) (exact : Bool) : W32 :=
  BitVec.ofNat 32 (b2n neg * 2 ^ 31 + nearCode n fl exact (Config.vecUlp fn x))

/-- The integer square root, bit by bit from bit `k` down. -/
def isqrtFrom (n : Nat) : Nat → Nat → Nat
  | 0, r => if (r + 1) * (r + 1) ≤ n then r + 1 else r
  | k + 1, r => isqrtFrom n k (if (r + 2 ^ (k + 1)) * (r + 2 ^ (k + 1)) ≤ n then r + 2 ^ (k + 1) else r)

/-- The integer square root. -/
def isqrt (n : Nat) : Nat := isqrtFrom n (Nat.log2 n / 2) 0

/-- ln 2 and log2 e as fixed point numbers with 192 fraction bits. -/
def ln2Fix : Nat := 4350955369971217654477563090224794165364344896676135745069
def log2eFix : Nat := 9055943544797870567083544809312461607371518589544137143473

/-- The magnitude code of a fixed point number with 192 fraction bits, rounded down. -/
def fixCode (n : Nat) (e : Int) : Nat := fFP32.magCode .down n (e - 192)

/-- The powers of t over the factorials added up: e^t for a fixed point t below 1. -/
def expSeries (t : Nat) : Nat → Nat → Nat → Nat
  | 0, _, sum => sum
  | fuel + 1, term, sum =>
    let k := 60 - fuel
    let term' := ((term * t) >>> 192) / k
    expSeries t fuel term' (sum + term')

/-- 2^y for y = z / 2^192: the fraction as a fixed point number in [1, 2), and the exponent. -/
def exp2Fix (z : Int) : Nat × Int :=
  let n := z / (2 ^ 192 : Nat)
  let f := (z % (2 ^ 192 : Nat)).toNat
  (expSeries ((f * ln2Fix) >>> 192) 60 (2 ^ 192) (2 ^ 192), n)

/-- A value m * 2^e as a fixed point number. -/
def toFix (neg : Bool) (m : Nat) (e : Int) : Int :=
  sgn neg (if 0 ≤ e + 192 then m <<< (e + 192).toNat else m >>> (-(e + 192)).toNat)

/-- Binary digits of log2 of a fixed point number in [1, 2), by squaring. -/
def log2Digits : Nat → Nat → Nat → Nat
  | 0, _, acc => acc
  | fuel + 1, z, acc =>
    let q := (z * z) >>> 192
    if q < 2 ^ 193 then log2Digits fuel q (2 * acc) else log2Digits fuel (q >>> 1) (2 * acc + 1)

/-- log2 of m * 2^e for m above 0, as a fixed point number (the digits past the 96th are zero). -/
def log2Fix (m : Nat) (e : Int) : Int :=
  let l := Nat.log2 m
  (((l : Int) + e) * (2 ^ 192 : Nat)) + (log2Digits 96 (m <<< 192 >>> l) 0 <<< 96 : Nat)

/-- RCP within 1 ulp. -/
def vRcp (x : W32) : W32 :=
  match f32 x with
  | .nan => w32 .nan
  | .inf s => w32 (.num s 0 0)
  | .num s m e =>
    if m == 0 then w32 (.inf s)
    else nearVal 0 1 x s (fFP32.magCode .down (2 ^ 128 / m) (-128 - e)) (decide (2 ^ Nat.log2 m = m))

/-- RSQRT within 2 ulp. -/
def vRsqrt (x : W32) : W32 :=
  match f32 x with
  | .nan => w32 .nan
  | .inf s => if s then w32 .nan else w32 .zero
  | .num s m e =>
    if m == 0 then w32 (.inf s)
    else if s then w32 .nan
    else
      let m2 := if e % 2 == 0 then m else 2 * m
      let e2 := if e % 2 == 0 then e else e - 1
      let q := isqrt (2 ^ 256 / m2)
      nearVal 1 2 x false (fFP32.magCode .down q (-128 - e2 / 2)) (decide (q * q * m2 = 2 ^ 256))

/-- SQRT within 1 ulp. -/
def vSqrt (x : W32) : W32 :=
  match f32 x with
  | .nan => w32 .nan
  | .inf s => if s then w32 .nan else x
  | .num s m e =>
    if m == 0 then x
    else if s then w32 .nan
    else
      let m2 := if e % 2 == 0 then m else 2 * m
      let e2 := if e % 2 == 0 then e else e - 1
      let q := isqrt (m2 * 2 ^ 128)
      nearVal 2 1 x false (fFP32.magCode .down q (e2 / 2 - 64)) (decide (q * q = m2 * 2 ^ 128))

/-- The result of an exponential 2^(z / 2^192), `fn` within `n` ulp. -/
def expRes (fn n : Nat) (x : W32) (z : Int) (exact : Bool) : W32 :=
  if (1024 * 2 ^ 192 : Nat) ≤ z then w32 (.inf false)
  else if z ≤ -(1024 * 2 ^ 192 : Nat) then nearVal fn n x false 0 false
  else let r := exp2Fix z; nearVal fn n x false (fixCode r.1 r.2) exact

/-- EXP2 within 2 ulp. -/
def vExp2 (x : W32) : W32 :=
  match f32 x with
  | .nan => w32 .nan
  | .inf s => if s then w32 .zero else w32 (.inf false)
  | .num s m e => if m == 0 then 0x3F800000 else
    if 20 ≤ (Nat.log2 m : Int) + e then (if s then nearVal 3 2 x false 0 false else w32 (.inf false))
    else expRes 3 2 x (toFix s m e) (decide (toFix s m e % (2 ^ 192 : Nat) = 0))

/-- EXP within 3 ulp. -/
def vExp (x : W32) : W32 :=
  match f32 x with
  | .nan => w32 .nan
  | .inf s => if s then w32 .zero else w32 (.inf false)
  | .num s m e => if m == 0 then 0x3F800000 else
    if 20 ≤ (Nat.log2 m : Int) + e then (if s then nearVal 4 3 x false 0 false else w32 (.inf false))
    else expRes 4 3 x (toFix s m e * (log2eFix : Int) / (2 ^ 192 : Nat)) false

/-- LOG2 within 2 ulp. -/
def vLog2 (x : W32) : W32 :=
  match f32 x with
  | .nan => w32 .nan
  | .inf s => if s then w32 .nan else x
  | .num s m e =>
    if m == 0 then w32 (.inf true)
    else if s then w32 .nan
    else
      let z := log2Fix m e
      if z == 0 then w32 .zero
      else nearVal 5 2 x (decide (z < 0)) (fixCode z.natAbs 0) (decide (2 ^ Nat.log2 m = m))

/-- LOG within 3 ulp. -/
def vLog (x : W32) : W32 :=
  match f32 x with
  | .nan => w32 .nan
  | .inf s => if s then w32 .nan else x
  | .num s m e =>
    if m == 0 then w32 (.inf true)
    else if s then w32 .nan
    else
      let z := log2Fix m e
      if z == 0 then w32 .zero
      else nearVal 6 3 x (decide (z < 0)) (fixCode ((z.natAbs * ln2Fix) >>> 192) 0) false

/-- TANH within 4 ulp: below 2^-20 by x - x^3 / 3, above by exponentials. -/
def vTanh (x : W32) : W32 :=
  match f32 x with
  | .nan => w32 .nan
  | .inf s => w32 (.num s 1 0)
  | .num s m e =>
    if m == 0 then x
    else if (Nat.log2 m : Int) + e < -20 then
      let big := m * 2 ^ 128
      let cube := if 0 ≤ 128 + 2 * e then m * m * m * 2 ^ (128 + 2 * e).toNat / 3 else m * m * m / (3 * 2 ^ (-(128 + 2 * e)).toNat)
      nearVal 7 4 x s (fFP32.magCode .down (big - cube - 1) (e - 128)) false
    else if 6 ≤ (Nat.log2 m : Int) + e then nearVal 7 4 x s 0x3F7FFFFF false
    else
      let r := exp2Fix (2 * toFix false m e * (log2eFix : Int) / (2 ^ 192 : Nat))
      let t := r.1 <<< r.2.toNat
      nearVal 7 4 x s (fixCode (((t - 2 ^ 192) <<< 192) / (t + 2 ^ 192)) 0) false

end Sys2Proof.Machine
end

