-- ==== Sys2Proof/Machine/Keys.lean ====
section
/-! DEFINITION. The object dictionary as a table (manual, the object tables of every chapter; R426 to R429): the key of
every entry, and one row per entry or array of entries with its type, access, default, range and the reading right of
the PARTITION role. A key is index * 256 + subindex. An array starts at its key; entry n of an array within one index is
the key plus n. -/

namespace Sys2Proof.Machine.K

/-- VENDOR (0x0100.01), R451. -/
def vendor : Nat := 0x10001

/-- PRODUCT (0x0100.02), R451. -/
def product : Nat := 0x10002

/-- PART_NUMBER (0x0100.03), R451. -/
def partNumber : Nat := 0x10003

/-- SERIAL (0x0100.04), R451. -/
def serial : Nat := 0x10004

/-- MODULE_UUID (0x0100.05), R451. -/
def moduleUuid : Nat := 0x10005

/-- STEPPING (0x0100.06), R451. -/
def stepping : Nat := 0x10006

/-- DICT_VERSION (0x0100.07), R451. -/
def dictVersion : Nat := 0x10007

/-- PARTITIONS (0x0100.08), R451. -/
def partitions : Nat := 0x10008

/-- FABRIC_PORTS (0x0100.09), R451. -/
def fabricPorts : Nat := 0x10009

/-- HBM_STACKS (0x0100.0A), R451. -/
def hbmStacks : Nat := 0x1000A

/-- DDR_CHANNELS (0x0100.0B), R451. -/
def ddrChannels : Nat := 0x1000B

/-- BAYS (0x0100.0C), R451. -/
def bays : Nat := 0x1000C

/-- CAPACITY_GIB (0x0100.0D), R451. -/
def capacityGib : Nat := 0x1000D

/-- MEMBER (0x0100.0E), R451. -/
def member : Nat := 0x1000E

/-- MODULE_STATE (0x0100.0F), R451. -/
def moduleState : Nat := 0x1000F

/-- MAC_ADDRESS (0x0200.01), R451. -/
def macAddress : Nat := 0x20001

/-- IPV4_MODE (0x0200.02), R451. -/
def ipv4Mode : Nat := 0x20002

/-- IPV4_STATIC (0x0200.03), R451. -/
def ipv4Static : Nat := 0x20003

/-- IPV4_ADDRESS (0x0200.04), R451. -/
def ipv4Address : Nat := 0x20004

/-- IPV6_ENABLE (0x0200.05), R451. -/
def ipv6Enable : Nat := 0x20005

/-- UDP_PORT (0x0200.06), R451. -/
def udpPort : Nat := 0x20006

/-- ENWARY_ENABLE (0x0200.07), R451. -/
def enwaryEnable : Nat := 0x20007

/-- SESSION_IDLE_S (0x0200.08), R451. -/
def sessionIdleS : Nat := 0x20008

/-- ETH_SESSIONS_MAX (0x0200.09), R451. -/
def ethSessionsMax : Nat := 0x20009

/-- MCTP_SESSIONS_MAX (0x0200.0A), R451. -/
def mctpSessionsMax : Nat := 0x2000A

/-- SESSIONS_OPEN (0x0200.0B), R451. -/
def sessionsOpen : Nat := 0x2000B

/-- MCTP_EID (0x0200.0C), R451. -/
def mctpEid : Nat := 0x2000C

/-- I3C_PID (0x0200.0D), R451. -/
def i3cPid : Nat := 0x2000D

/-- NOTIFY_QUEUE (0x0200.0E), R451. -/
def notifyQueue : Nat := 0x2000E

/-- AUTH_FAILURES (0x0200.0F), R451. -/
def authFailures : Nat := 0x2000F

/-- MAC_FAILURES (0x0200.10), R451. -/
def macFailures : Nat := 0x20010

/-- DISCARDED (0x0200.11), R451. -/
def discarded : Nat := 0x20011

/-- NOTIFY_DROPPED (0x0200.12), R451. -/
def notifyDropped : Nat := 0x20012

/-- MAILBOX_IGNORED (0x0200.13), R451. -/
def mailboxIgnored : Nat := 0x20013

/-- START_FAIL_COUNT (0x0300.01), R474. -/
def startFailCount : Nat := 0x30001

/-- START_FAIL_LIMIT (0x0300.02), R474. -/
def startFailLimit : Nat := 0x30002

/-- LAST_START_CAUSE (0x0300.03), R474. -/
def lastStartCause : Nat := 0x30003

/-- LAST_FAIL_REASON (0x0300.04), R474. -/
def lastFailReason : Nat := 0x30004

/-- START_STAGE (0x0300.05), R474. -/
def startStage : Nat := 0x30005

/-- START_TIMEOUT_S (0x0300.06), R474. -/
def startTimeoutS : Nat := 0x30006

/-- ACTIVE_SLOT (0x0300.07), R474. -/
def activeSlot : Nat := 0x30007

/-- SLOT_STATE (0x0300.08), R474. -/
def slotState : Nat := 0x30008

/-- VERSION_A (0x0300.09), R474. -/
def versionA : Nat := 0x30009

/-- VERSION_B (0x0300.0A), R474. -/
def versionB : Nat := 0x3000A

/-- RUNNING_VERSION (0x0300.0B), R474. -/
def runningVersion : Nat := 0x3000B

/-- AUTO_CONFIRM (0x0300.0C), R474. -/
def autoConfirm : Nat := 0x3000C

/-- IMAGE_CONFIRM (0x0300.0D), R474. -/
def imageConfirm : Nat := 0x3000D

/-- SNOWDROP_FORCE (0x0300.0E), R474. -/
def snowdropForce : Nat := 0x3000E

/-- RESTART (0x0300.0F), R474. -/
def restart : Nat := 0x3000F

/-- START_MS (0x0300.10), R474. -/
def startMs : Nat := 0x30010

/-- STARTS (0x0300.11), R474. -/
def starts : Nat := 0x30011

/-- UPDATE_BEGIN (0x0300.12), R474. -/
def updateBegin : Nat := 0x30012

/-- UPDATE_OFFSET (0x0300.13), R474. -/
def updateOffset : Nat := 0x30013

/-- UPDATE_DATA (0x0300.14), R474. -/
def updateData : Nat := 0x30014

/-- UPDATE_COMMIT (0x0300.15), R474. -/
def updateCommit : Nat := 0x30015

/-- UPDATE_STATE (0x0300.16), R474. -/
def updateState : Nat := 0x30016

/-- UPDATE_RESULT (0x0300.17), R474. -/
def updateResult : Nat := 0x30017

/-- MIN_SVN (0x0300.18), R474. -/
def minSvn : Nat := 0x30018

/-- IMAGE_SVN (0x0300.19), R474. -/
def imageSvn : Nat := 0x30019

/-- CERT_CHAIN (0x0400.01), R475. -/
def certChain : Nat := 0x40001

/-- MEASUREMENTS (0x0400.02), R475. -/
def measurements : Nat := 0x40002

/-- CRED_EMPTY (0x0400.03), R475. -/
def credEmpty : Nat := 0x40003

/-- CRED_SLOT (0x0400.04), R475. -/
def credSlot : Nat := 0x40004

/-- PAIR_LOCAL (0x0400.0C), R475. -/
def pairLocal : Nat := 0x4000C

/-- PAIR_PEER (0x0400.0D), R475. -/
def pairPeer : Nat := 0x4000D

/-- PAIR_KEY_STATE (0x0400.0E), R475. -/
def pairKeyState : Nat := 0x4000E

/-- PARTITION_KEYS (0x0400.0F), R475. -/
def partitionKeys : Nat := 0x4000F

/-- ENTROPY_FAILURES (0x0400.10), R475. -/
def entropyFailures : Nat := 0x40010

/-- ENABLE (0x0800.01), R326. -/
def enable : Nat := 0x80001

/-- ENDPOINT (0x0800.02), R326. -/
def endpoint : Nat := 0x80002

/-- PORTS (0x0800.03), R326. -/
def partPorts : Nat := 0x80003

/-- PORTS_ACTIVE (0x0800.04), R326. -/
def portsActive : Nat := 0x80004

/-- PRIVILEGES (0x0800.05), R326. -/
def privileges : Nat := 0x80005

/-- EVENT_PORT (0x0800.06), R326. -/
def eventPort : Nat := 0x80006

/-- BAR2_LOG2 (0x0800.07), R326. -/
def bar2Log2 : Nat := 0x80007

/-- BAR2_OFFSET (0x0800.08), R326. -/
def bar2Offset : Nat := 0x80008

/-- FENCE_CAUSES (0x0800.09), R326. -/
def fenceCauses : Nat := 0x80009

/-- FENCE (0x0800.0A), R326. -/
def fence : Nat := 0x8000A

/-- RESET (0x0800.0B), R326. -/
def reset : Nat := 0x8000B

/-- RESET_STATE (0x0800.0C), R326. -/
def resetState : Nat := 0x8000C

/-- CLUSTER_RESET (0x0800.0D), R326. -/
def clusterReset : Nat := 0x8000D

/-- PARTITION_RESETS (0x0800.0E), R326. -/
def partitionResets : Nat := 0x8000E

/-- FLRS (0x0800.0F), R326. -/
def flrs : Nat := 0x8000F

/-- FENCES (0x0800.10), R326. -/
def fences : Nat := 0x80010

/-- EVENTS_POSTED (0x0800.11), R326. -/
def eventsPosted : Nat := 0x80011

/-- EVENTS_LOST (0x0800.12), R326. -/
def eventsLost : Nat := 0x80012

/-- TAGS_QUARANTINED (0x0800.13), R326. -/
def tagsQuarantined : Nat := 0x80013

/-- CLASSES (0x0900.01), R299. -/
def classes : Nat := 0x90001

/-- REFILL_FCLK (0x0900.02), R299. -/
def refillFclk : Nat := 0x90002

/-- Q0_RESERVE_PCT (0x0900.03), R299. -/
def q0ReservePct : Nat := 0x90003

/-- DELIV_T1 (0x0900.04), R299. -/
def delivT1 : Nat := 0x90004

/-- DELIV_T2 (0x0900.05), R299. -/
def delivT2 : Nat := 0x90005

/-- DELIV_T3R (0x0900.06), R299. -/
def delivT3r : Nat := 0x90006

/-- DELIV_T3W (0x0900.07), R299. -/
def delivT3w : Nat := 0x90007

/-- FACTOR_T1 (0x0900.08), R299. -/
def factorT1 : Nat := 0x90008

/-- FACTOR_T2 (0x0900.09), R299. -/
def factorT2 : Nat := 0x90009

/-- FACTOR_T3R (0x0900.0A), R299. -/
def factorT3r : Nat := 0x9000A

/-- FACTOR_T3W (0x0900.0B), R299. -/
def factorT3w : Nat := 0x9000B

/-- FACTOR_CHANGES (0x0900.0C), R299. -/
def factorChanges : Nat := 0x9000C

/-- Q15_FLOOR (0x0900.0D), R299. -/
def q15Floor : Nat := 0x9000D

/-- CLASS_PARTITIONS (0x0901.01), R299. -/
def classPartitions : Nat := 0x90101

/-- BUDGET_T1 (0x0902.01), R299. -/
def budgetT1 : Nat := 0x90201

/-- BUDGET_T2 (0x0903.01), R299. -/
def budgetT2 : Nat := 0x90301

/-- BUDGET_T3R (0x0904.01), R299. -/
def budgetT3r : Nat := 0x90401

/-- BUDGET_T3W (0x0905.01), R299. -/
def budgetT3w : Nat := 0x90501

/-- CAP_T1 (0x0906.01), R299. -/
def capT1 : Nat := 0x90601

/-- CAP_T2 (0x0907.01), R299. -/
def capT2 : Nat := 0x90701

/-- CAP_T3R (0x0908.01), R299. -/
def capT3r : Nat := 0x90801

/-- CAP_T3W (0x0909.01), R299. -/
def capT3w : Nat := 0x90901

/-- DEMOTED_BYTES (0x090A.01), R299. -/
def demotedBytes : Nat := 0x90A01

/-- HELD_REQUESTS (0x090B.01), R299. -/
def heldRequests : Nat := 0x90B01

/-- GRANTED_BYTES (0x090C.01), R299. -/
def grantedBytes : Nat := 0x90C01

/-- LS_CLASS (0x0910.01), R299. -/
def lsClass : Nat := 0x91001

/-- SHARE (0x0911.01), R299. -/
def share : Nat := 0x91101

/-- ARB_COMMIT (0x0A00.01), R300. -/
def arbCommit : Nat := 0xA0001

/-- COMMIT_PENDING (0x0A00.02), R300. -/
def commitPending : Nat := 0xA0002

/-- ARBITERS (0x0A00.03), R300. -/
def arbiters : Nat := 0xA0003

/-- LOCK_BEATS_MAX (0x0A00.04), R300. -/
def lockBeatsMax : Nat := 0xA0004

/-- LOCK_TIMEOUT (0x0A00.05), R300. -/
def lockTimeout : Nat := 0xA0005

/-- LOCKS_BROKEN (0x0A00.06), R300. -/
def locksBroken : Nat := 0xA0006

/-- COMMITS (0x0A00.07), R300. -/
def commits : Nat := 0xA0007

/-- SHADOW (0x0A10.01), R300. -/
def shadow : Nat := 0xA1001

/-- ACTIVE (0x0A20.01), R300. -/
def active : Nat := 0xA2001

/-- T1_FRAMES (0x1000.01), R76. -/
def t1Frames : Nat := 0x100001

/-- T2_FRAMES (0x1000.02), R76. -/
def t2Frames : Nat := 0x100002

/-- T3_FRAMES (0x1000.03), R76. -/
def t3Frames : Nat := 0x100003

/-- T1_RESERVABLE (0x1000.04), R76. -/
def t1Reservable : Nat := 0x100004

/-- T2_RESERVABLE (0x1000.05), R76. -/
def t2Reservable : Nat := 0x100005

/-- T3_RESERVABLE (0x1000.06), R76. -/
def t3Reservable : Nat := 0x100006

/-- EPOCH_CCLK (0x1000.07), R76. -/
def epochCclk : Nat := 0x100007

/-- HEAT_DECAY_EPOCHS (0x1000.08), R76. -/
def heatDecayEpochs : Nat := 0x100008

/-- OBJECTS_MAX (0x1000.09), R76. -/
def objectsMax : Nat := 0x100009

/-- STAGING_FREE (0x1000.0A), R76. -/
def stagingFree : Nat := 0x10000A

/-- PMAP_MISSES (0x1000.0B), R76. -/
def pmapMisses : Nat := 0x10000B

/-- VSLOT_EXHAUSTED (0x1000.0C), R76. -/
def vslotExhausted : Nat := 0x10000C

/-- T1_SHORTFALL (0x1000.0D), R76. -/
def t1Shortfall : Nat := 0x10000D

/-- T2_SHORTFALL (0x1000.0E), R76. -/
def t2Shortfall : Nat := 0x10000E

/-- RESV_T1 (0x1001.01), R76. -/
def resvT1 : Nat := 0x100101

/-- RESV_T2 (0x1002.01), R76. -/
def resvT2 : Nat := 0x100201

/-- RESV_T3 (0x1003.01), R76. -/
def resvT3 : Nat := 0x100301

/-- TH_LIMIT (0x1004.01), R76. -/
def thLimit : Nat := 0x100401

/-- LEND (0x1005.01), R76. -/
def lend : Nat := 0x100501

/-- WEAR_PCT (0x1006.01), R76. -/
def wearPct : Nat := 0x100601

/-- T3_DEGRADED (0x1007.01), R76. -/
def t3Degraded : Nat := 0x100701

/-- REBUILD_PCT (0x1007.02), R76. -/
def rebuildPct : Nat := 0x100702

/-- T3_PAGES_LOST (0x1007.03), R76. -/
def t3PagesLost : Nat := 0x100703

/-- READ_DISTURB_LIMIT (0x1007.04), R76. -/
def readDisturbLimit : Nat := 0x100704

/-- RETENTION_DAYS (0x1007.05), R76. -/
def retentionDays : Nat := 0x100705

/-- BG_WRITE_SHARE (0x1007.06), R76. -/
def bgWriteShare : Nat := 0x100706

/-- REBUILD_RATE (0x1007.07), R76. -/
def rebuildRate : Nat := 0x100707

/-- T3_BYTES_WRITTEN (0x1007.08), R76. -/
def t3BytesWritten : Nat := 0x100708

/-- PROGRAM_SLOTS (0x1100.01), R77. -/
def placementSlots : Nat := 0x110001

/-- INSN_BUDGET (0x1100.02), R77. -/
def insnBudget : Nat := 0x110002

/-- MOVES_MAX (0x1100.03), R77. -/
def movesMax : Nat := 0x110003

/-- ABORT_LIMIT (0x1100.04), R77. -/
def abortLimit : Nat := 0x110004

/-- MIGRATIONS (0x1100.05), R77. -/
def migrations : Nat := 0x110005

/-- INVOCATIONS_STOPPED (0x1100.06), R77. -/
def invocationsStopped : Nat := 0x110006

/-- MOVES_SKIPPED (0x1100.07), R77. -/
def movesSkipped : Nat := 0x110007

/-- MIGRATIONS_ABORTED (0x1100.08), R77. -/
def migrationsAborted : Nat := 0x110008

/-- PROGRAM_IMAGE (0x1101.01), R77. -/
def programImage : Nat := 0x110101

/-- MIGRATION_CLASS (0x1102.01), R77. -/
def migrationClass : Nat := 0x110201

/-- HBM_ENGINES (0x1200.01), R112. -/
def hbmEngines : Nat := 0x120001

/-- DDR_ENGINES (0x1200.02), R112. -/
def ddrEngines : Nat := 0x120002

/-- RING_ENGINES (0x1200.03), R112. -/
def ringEngines : Nat := 0x120003

/-- TRANSPARENT_ENABLE (0x1200.04), R112. -/
def transparentEnable : Nat := 0x120004

/-- META_CACHE_PAGES (0x1200.05), R112. -/
def metaCachePages : Nat := 0x120005

/-- BLOCKS_COMPRESSED (0x1200.06), R112. -/
def blocksCompressed : Nat := 0x120006

/-- BLOCKS_RAW (0x1200.07), R112. -/
def blocksRaw : Nat := 0x120007

/-- SECTORS_SAVED (0x1200.08), R112. -/
def sectorsSaved : Nat := 0x120008

/-- META_MISSES (0x1200.09), R112. -/
def metaMisses : Nat := 0x120009

/-- SR_SEED (0x1200.0A), R112. -/
def srSeed : Nat := 0x12000A

/-- LINK_CODEC_ENABLE (0x1200.0B), R112. -/
def linkCodecEnable : Nat := 0x12000B

/-- LINK_BYTES_IN (0x1200.0C), R112. -/
def linkBytesIn : Nat := 0x12000C

/-- LINK_BYTES_OUT (0x1200.0D), R112. -/
def linkBytesOut : Nat := 0x12000D

/-- SEALS_ACTIVE (0x1200.0E), R112. -/
def sealsActive : Nat := 0x12000E

/-- SEALS_MAX (0x1200.0F), R112. -/
def sealsMax : Nat := 0x12000F

/-- OVERRUN_CHUNKS (0x1200.10), R112. -/
def overrunChunks : Nat := 0x120010

/-- OVERRUN_SECTORS (0x1200.11), R112. -/
def overrunSectors : Nat := 0x120011

/-- QB_NAN_GROUPS (0x1200.12), R112. -/
def qbNanGroups : Nat := 0x120012

/-- VIEWS_MAX (0x1200.13), R112. -/
def viewsMax : Nat := 0x120013

/-- OVERRUN_SECTORS_P (0x1201.01), R112. -/
def overrunSectorsP : Nat := 0x120101

/-- VIEWS (0x1202.01), R112. -/
def views : Nat := 0x120201

/-- SHARED_ENABLE (0x1300.01), R148. -/
def sharedEnable : Nat := 0x130001

/-- DIR_ENTRIES (0x1300.02), R148. -/
def dirEntries : Nat := 0x130002

/-- DIR_WAYS (0x1300.03), R148. -/
def dirWays : Nat := 0x130003

/-- PRECISE_MAX (0x1300.04), R148. -/
def preciseMax : Nat := 0x130004

/-- DIR_USED (0x1300.05), R148. -/
def dirUsed : Nat := 0x130005

/-- RECALL_TIMEOUT (0x1300.06), R148. -/
def recallTimeout : Nat := 0x130006

/-- RECALLS (0x1300.07), R148. -/
def recalls : Nat := 0x130007

/-- RECALL_TIMEOUTS (0x1300.08), R148. -/
def recallTimeouts : Nat := 0x130008

/-- CAPACITY_RECALLS (0x1300.09), R148. -/
def capacityRecalls : Nat := 0x130009

/-- COARSE_ENTRIES (0x1300.0A), R148. -/
def coarseEntries : Nat := 0x13000A

/-- ORPHANED_LINES (0x1300.0B), R148. -/
def orphanedLines : Nat := 0x13000B

/-- ORPHANS_DISPLACED (0x1300.0C), R148. -/
def orphansDisplaced : Nat := 0x13000C

/-- LATE_RECALL_RESPONSES (0x1300.0D), R148. -/
def lateRecallResponses : Nat := 0x13000D

/-- REVOKED_ACCESSES (0x1300.0E), R148. -/
def revokedAccesses : Nat := 0x13000E

/-- LAST_REVOKED (0x1300.0F), R148. -/
def lastRevoked : Nat := 0x13000F

/-- GRANT_RECORDS (0x1300.10), R148. -/
def grantRecords : Nat := 0x130010

/-- HOST_SLOTS (0x1300.11), R148. -/
def hostSlots : Nat := 0x130011

/-- RELEASE_TIMEOUT (0x1300.12), R148. -/
def releaseTimeout : Nat := 0x130012

/-- IMPORT_MASK (0x1301.01), R148. -/
def importMask : Nat := 0x130101

/-- GRANT_QUOTA (0x1302.01), R148. -/
def grantQuota : Nat := 0x130201

/-- GRANTS_USED (0x1303.01), R148. -/
def grantsUsed : Nat := 0x130301

/-- ROUTE (0x1304.01), R148. -/
def route : Nat := 0x130401

/-- EXPORTS (0x1305.01), R148. -/
def exports : Nat := 0x130501

/-- ORPHANED_P (0x1306.01), R148. -/
def orphanedP : Nat := 0x130601

/-- HOST_SLOT (0x1310.01), R149. -/
def hostSlot : Nat := 0x131001

/-- CLUSTERS_PHYS (0x1800.01), R175. -/
def clustersPhys : Nat := 0x180001

/-- CLUSTERS_ACTIVE (0x1800.02), R175. -/
def clustersActive : Nat := 0x180002

/-- BUD_FREE (0x1800.03), R175. -/
def budFree : Nat := 0x180003

/-- BUD_RESERVE (0x1800.04), R175. -/
def budReserve : Nat := 0x180004

/-- CLUSTERS_RETIRED (0x1800.05), R175. -/
def clustersRetired : Nat := 0x180005

/-- ARRAYS_PER_CLUSTER (0x1800.06), R175. -/
def arraysPerCluster : Nat := 0x180006

/-- SRAM_BYTES (0x1800.07), R175. -/
def sramBytes : Nat := 0x180007

/-- VECTOR_LANES (0x1800.08), R175. -/
def vectorLanes : Nat := 0x180008

/-- BOUNDARY_STEP_LIMIT (0x1800.09), R175. -/
def boundaryStepLimit : Nat := 0x180009

/-- DUP_PERIOD_STEPS (0x1800.0A), R175. -/
def dupPeriodSteps : Nat := 0x18000A

/-- DUP_ENABLE (0x1800.0B), R175. -/
def dupEnable : Nat := 0x18000B

/-- IFT_ENABLE (0x1800.0C), R175. -/
def iftEnable : Nat := 0x18000C

/-- IFT_INTERVAL_H (0x1800.0D), R175. -/
def iftIntervalH : Nat := 0x18000D

/-- IFT_DEFER_MAX_S (0x1800.0E), R175. -/
def iftDeferMaxS : Nat := 0x18000E

/-- IFT_RUNS (0x1800.0F), R175. -/
def iftRuns : Nat := 0x18000F

/-- IFT_FAILS (0x1800.10), R175. -/
def iftFails : Nat := 0x180010

/-- RESIDUE_MASKED (0x1800.11), R175. -/
def residueMasked : Nat := 0x180011

/-- RESIDUE_HARD (0x1800.12), R175. -/
def residueHard : Nat := 0x180012

/-- SRAM_CORRECTED (0x1800.13), R175. -/
def sramCorrected : Nat := 0x180013

/-- SRAM_UNCORRECTABLE (0x1800.14), R175. -/
def sramUncorrectable : Nat := 0x180014

/-- CLUSTER_RETIRE (0x1800.15), R175. -/
def clusterRetire : Nat := 0x180015

/-- TAKEOVERS (0x1800.16), R175. -/
def clusterTakeovers : Nat := 0x180016

/-- LOGICAL_MAP (0x1801.01), R175. -/
def logicalMap : Nat := 0x180101

/-- CLUSTER_STATUS_LO (0x1802.01), R175. -/
def clusterStatusLo : Nat := 0x180201

/-- CLUSTER_STATUS_HI (0x1803.01), R175. -/
def clusterStatusHi : Nat := 0x180301

/-- BUILTIN_RECIPES (0x1900.01), R249. -/
def builtinRecipes : Nat := 0x190001

/-- PIPELINE_SLOTS (0x1900.02), R249. -/
def pipelineSlots : Nat := 0x190002

/-- STAGES_MAX (0x1900.03), R249. -/
def stagesMax : Nat := 0x190003

/-- QUEUE_BUFFER_BYTES (0x1900.04), R249. -/
def queueBufferBytes : Nat := 0x190004

/-- QUEUE_CREDITS (0x1900.05), R249. -/
def queueCredits : Nat := 0x190005

/-- STREAM_PORT_BYTES (0x1900.06), R249. -/
def streamPortBytes : Nat := 0x190006

/-- RECIPE_SET_VERSION (0x1900.07), R249. -/
def recipeSetVersion : Nat := 0x190007

/-- FALLBACKS_BASE (0x1900.08), R249. -/
def fallbacksBase : Nat := 0x190008

/-- FALLBACKS_COARSE (0x1900.09), R249. -/
def fallbacksCoarse : Nat := 0x190009

/-- DEADLINES_MISSED (0x1900.0A), R249. -/
def deadlinesMissed : Nat := 0x19000A

/-- LATE_STARTS (0x1900.0B), R249. -/
def lateStarts : Nat := 0x19000B

/-- PUSH_BYTES (0x1900.0C), R249. -/
def pushBytes : Nat := 0x19000C

/-- TOKENS_ATTENDED (0x1900.0D), R249. -/
def tokensAttended : Nat := 0x19000D

/-- NONFINITE_OUTPUTS (0x1900.0E), R249. -/
def nonfiniteOutputs : Nat := 0x19000E

/-- RECIPE_INFO (0x1901.01), R249. -/
def recipeInfo : Nat := 0x190101

/-- FALLBACKS_P (0x1902.01), R249. -/
def fallbacksP : Nat := 0x190201

/-- DEADLINES_MISSED_P (0x1903.01), R249. -/
def deadlinesMissedP : Nat := 0x190301

/-- PROGRAM_SLOTS (0x1910.01), R275. -/
def stageSlots : Nat := 0x191001

/-- INSN_MAX (0x1910.02), R275. -/
def insnMax : Nat := 0x191002

/-- STEP_INSN_LIMIT (0x1910.03), R275. -/
def stepInsnLimit : Nat := 0x191003

/-- CARRY_MAX (0x1910.04), R275. -/
def carryMax : Nat := 0x191004

/-- STREAM_OPS_MAX (0x1910.05), R275. -/
def streamOpsMax : Nat := 0x191005

/-- PROGRAMS_LOADED (0x1910.06), R275. -/
def programsLoaded : Nat := 0x191006

/-- PIPELINES_LOADED (0x1910.07), R275. -/
def pipelinesLoaded : Nat := 0x191007

/-- STAGE_FAULTS (0x1910.08), R275. -/
def stageFaults : Nat := 0x191008

/-- LAST_FAULT (0x1911.01), R275. -/
def lastFault : Nat := 0x191101

/-- LOAD_RESULT (0x1912.01), R275. -/
def loadResult : Nat := 0x191201

/-- PROGRAM (0x1940.01), R275. -/
def program : Nat := 0x194001

/-- PIPELINE (0x1980.01), R275. -/
def pipeline : Nat := 0x198001

/-- CHANNELS_MAX (0x1A00.01), R208. -/
def channelsMax : Nat := 0x1A0001

/-- CHANNELS_PART_MAX (0x1A00.02), R208. -/
def channelsPartMax : Nat := 0x1A0002

/-- SYNC_MAX (0x1A00.03), R208. -/
def syncMax : Nat := 0x1A0003

/-- CHANNELS_LIVE (0x1A00.04), R208. -/
def channelsLive : Nat := 0x1A0004

/-- SYNC_LIVE (0x1A00.05), R208. -/
def syncLive : Nat := 0x1A0005

/-- INFLIGHT_MAX (0x1A00.06), R208. -/
def inflightMax : Nat := 0x1A0006

/-- DEADLINE_UNIT_FCLK (0x1A00.07), R208. -/
def deadlineUnitFclk : Nat := 0x1A0007

/-- DESCRIPTORS_DONE (0x1A00.08), R208. -/
def descriptorsDone : Nat := 0x1A0008

/-- DOORBELL_ERRORS (0x1A00.09), R208. -/
def doorbellErrors : Nat := 0x1A0009

/-- BAD_HANDLES (0x1A00.0A), R208. -/
def badHandles : Nat := 0x1A000A

/-- CHANNEL_HALTS (0x1A00.0B), R208. -/
def channelHalts : Nat := 0x1A000B

/-- SYNC_SATURATED (0x1A00.0C), R208. -/
def syncSaturated : Nat := 0x1A000C

/-- NOTIFY_FAILURES (0x1A00.0D), R208. -/
def notifyFailures : Nat := 0x1A000D

/-- CH_QUOTA (0x1A01.01), R208. -/
def chQuota : Nat := 0x1A0101

/-- SYNC_QUOTA (0x1A02.01), R208. -/
def syncQuota : Nat := 0x1A0201

/-- CH_USED (0x1A03.01), R208. -/
def chUsed : Nat := 0x1A0301

/-- SYNC_USED (0x1A04.01), R208. -/
def syncUsed : Nat := 0x1A0401

/-- CLUSTER_QUOTA (0x1A05.01), R208. -/
def clusterQuota : Nat := 0x1A0501

/-- CLUSTERS_USED (0x1A06.01), R208. -/
def clustersUsed : Nat := 0x1A0601

/-- INFLIGHT_NOW (0x1A07.01), R208. -/
def inflightNow : Nat := 0x1A0701

/-- GUARANTEE_ACTIVE (0x2000.01), R401. -/
def guaranteeActive : Nat := 0x200001

/-- GUARANTEE_GAPS (0x2000.02), R401. -/
def guaranteeGaps : Nat := 0x200002

/-- SCRUB_ENABLE (0x2000.03), R401. -/
def scrubEnable : Nat := 0x200003

/-- SCRUB_PERIOD_DRAM_H (0x2000.04), R401. -/
def scrubPeriodDramH : Nat := 0x200004

/-- SCRUB_PERIOD_FLASH_D (0x2000.05), R401. -/
def scrubPeriodFlashD : Nat := 0x200005

/-- SCRUB_PCT (0x2000.06), R401. -/
def scrubPct : Nat := 0x200006

/-- CE_COUNT (0x2000.07), R401. -/
def ceCount : Nat := 0x200007

/-- UE_COUNT (0x2000.08), R401. -/
def ueCount : Nat := 0x200008

/-- DATAPATH_ERRORS (0x2000.09), R401. -/
def datapathErrors : Nat := 0x200009

/-- DATAPATH_MASKED (0x2000.0A), R401. -/
def datapathMasked : Nat := 0x20000A

/-- SEQ_MISMATCHES (0x2000.0B), R401. -/
def seqMismatches : Nat := 0x20000B

/-- DUP_WINDOWS (0x2000.0C), R401. -/
def dupWindows : Nat := 0x20000C

/-- DUP_MISMATCHES (0x2000.0D), R401. -/
def dupMismatches : Nat := 0x20000D

/-- DUP_PAUSES (0x2000.0E), R401. -/
def dupPauses : Nat := 0x20000E

/-- IFT_PAUSES (0x2000.0F), R401. -/
def iftPauses : Nat := 0x20000F

/-- HARD_WORDS (0x2000.10), R401. -/
def hardWords : Nat := 0x200010

/-- DRAM_DEVICES_FAILED (0x2000.11), R401. -/
def dramDevicesFailed : Nat := 0x200011

/-- POISON_RECEIVED (0x2000.12), R401. -/
def poisonReceived : Nat := 0x200012

/-- MIRROR_REPAIRS (0x2000.13), R401. -/
def mirrorRepairs : Nat := 0x200013

/-- STACKS_LOST (0x2000.14), R401. -/
def stacksLost : Nat := 0x200014

/-- DDR_LOST (0x2000.15), R401. -/
def ddrLost : Nat := 0x200015

/-- BLOCKS_POISONED_P (0x2001.01), R401. -/
def blocksPoisonedP : Nat := 0x200101

/-- DEADHEAD_ADD (0x2010.01), R401. -/
def deadheadAdd : Nat := 0x201001

/-- DEADHEAD_RESULT (0x2010.02), R401. -/
def deadheadResult : Nat := 0x201002

/-- DEADHEAD_COUNT (0x2010.03), R401. -/
def deadheadCount : Nat := 0x201003

/-- DEADHEAD_MAX (0x2010.04), R401. -/
def deadheadMax : Nat := 0x201004

/-- DEADHEAD_INDEX (0x2010.05), R401. -/
def deadheadIndex : Nat := 0x201005

/-- DEADHEAD_ENTRY (0x2010.06), R401. -/
def deadheadEntry : Nat := 0x201006

/-- RECOMMEND_COUNT (0x2011.01), R401. -/
def recommendCount : Nat := 0x201101

/-- RECOMMEND_INDEX (0x2011.02), R401. -/
def recommendIndex : Nat := 0x201102

/-- RECOMMEND_ENTRY (0x2011.03), R401. -/
def recommendEntry : Nat := 0x201103

/-- RECOMMEND_DISMISS (0x2011.04), R401. -/
def recommendDismiss : Nat := 0x201104

/-- LOG_RECORDS (0x2020.01), R401. -/
def logRecords : Nat := 0x202001

/-- LOG_COUNT (0x2020.02), R401. -/
def logCount : Nat := 0x202002

/-- LOG_OLDEST (0x2020.03), R401. -/
def logOldest : Nat := 0x202003

/-- LOG_READ_SEQ (0x2020.04), R401. -/
def logReadSeq : Nat := 0x202004

/-- LOG_RECORD (0x2020.05), R401. -/
def logRecord : Nat := 0x202005

/-- LOG_OVERWRITTEN (0x2020.06), R401. -/
def logOverwritten : Nat := 0x202006

/-- MODULE_ID (0x2100.01), R425. -/
def moduleId : Nat := 0x210001

/-- PARTNER_ID (0x2100.02), R425. -/
def partnerId : Nat := 0x210002

/-- PAIR_ENABLE (0x2100.03), R425. -/
def pairEnable : Nat := 0x210003

/-- PAIR_STATE (0x2100.04), R425. -/
def pairState : Nat := 0x210004

/-- PARTNER_PORT (0x2100.05), R425. -/
def partnerPort : Nat := 0x210005

/-- CONFIG_MISMATCH (0x2100.06), R425. -/
def configMismatch : Nat := 0x210006

/-- LEASE_MS (0x2100.07), R425. -/
def leaseMs : Nat := 0x210007

/-- LEASE_MARGIN_PCT (0x2100.08), R425. -/
def leaseMarginPct : Nat := 0x210008

/-- LEASE_RENEW (0x2100.09), R425. -/
def leaseRenew : Nat := 0x210009

/-- LEASE_EPOCH (0x2100.0A), R425. -/
def leaseEpoch : Nat := 0x21000A

/-- LEASE_REMAINING (0x2100.0B), R425. -/
def leaseRemaining : Nat := 0x21000B

/-- RING_DEAD_MS (0x2100.0C), R425. -/
def ringDeadMs : Nat := 0x21000C

/-- LOG_FORMATS (0x2100.0D), R425. -/
def logFormats : Nat := 0x21000D

/-- LOG_FORMAT (0x2100.0E), R425. -/
def logFormat : Nat := 0x21000E

/-- RESYNC_RATE (0x2100.0F), R425. -/
def resyncRate : Nat := 0x21000F

/-- MIRROR_FORMAT_COMMIT (0x2100.10), R425. -/
def mirrorFormatCommit : Nat := 0x210010

/-- RESYNC_PCT (0x2100.11), R425. -/
def resyncPct : Nat := 0x210011

/-- DIRTY_PAGES (0x2100.12), R425. -/
def dirtyPages : Nat := 0x210012

/-- MIRROR_RECORDS (0x2100.13), R425. -/
def mirrorRecords : Nat := 0x210013

/-- RING_RETRIES (0x2100.14), R425. -/
def ringRetries : Nat := 0x210014

/-- HELD_WRITES (0x2100.15), R425. -/
def heldWrites : Nat := 0x210015

/-- TAKEOVERS (0x2100.16), R425. -/
def pairTakeovers : Nat := 0x210016

/-- TAKEOVER_REFUSED (0x2100.17), R425. -/
def takeoverRefused : Nat := 0x210017

/-- HANDOVER (0x2100.18), R425. -/
def handover : Nat := 0x210018

/-- RING_MODULES (0x2100.19), R425. -/
def ringModules : Nat := 0x210019

/-- FORWARDED_FRAMES (0x2100.1A), R425. -/
def forwardedFrames : Nat := 0x21001A

/-- PAIR_ROLE (0x2101.01), R425. -/
def pairRole : Nat := 0x210101

/-- PARTNER_PARTITION (0x2102.01), R425. -/
def partnerPartition : Nat := 0x210201

/-- MIRROR_RANGE (0x2103.01), R425. -/
def mirrorRange : Nat := 0x210301

/-- PORTS (0x2800.01), R367. -/
def portsCount : Nat := 0x280001

/-- LANES_PER_PORT (0x2800.02), R367. -/
def lanesPerPort : Nat := 0x280002

/-- UBL_VERSION (0x2800.03), R367. -/
def ublVersion : Nat := 0x280003

/-- UBL_CPL_TIMEOUT (0x2800.04), R367. -/
def ublCplTimeout : Nat := 0x280004

/-- BYPASS_CLOSED (0x2800.05), R367. -/
def bypassClosed : Nat := 0x280005

/-- BYPASS_FORCE (0x2800.06), R367. -/
def bypassForce : Nat := 0x280006

/-- RING_FAULT (0x2800.07), R367. -/
def ringFault : Nat := 0x280007

/-- RING_RETRY_S (0x2800.08), R367. -/
def ringRetryS : Nat := 0x280008

/-- BAY_CTRL_PORT (0x2800.09), R367. -/
def bayCtrlPort : Nat := 0x280009

/-- MISROUTED (0x2800.0A), R367. -/
def misrouted : Nat := 0x28000A

/-- CPL_TIMEOUTS (0x2800.0B), R367. -/
def cplTimeouts : Nat := 0x28000B

/-- LATE_COMPLETIONS (0x2800.0C), R367. -/
def lateCompletions : Nat := 0x28000C

/-- UBL_MALFORMED (0x2800.0D), R367. -/
def ublMalformed : Nat := 0x28000D

/-- DC_REJECTS (0x2800.0E), R367. -/
def dcRejects : Nat := 0x28000E

/-- PORT_MODE (0x2801.01), R367. -/
def portMode : Nat := 0x280101

/-- PORT_STATE (0x2802.01), R367. -/
def portState : Nat := 0x280201

/-- MAX_SPEED (0x2803.01), R367. -/
def maxSpeed : Nat := 0x280301

/-- CXL_PARTITION (0x2804.01), R367. -/
def cxlPartition : Nat := 0x280401

/-- UBL_FEATURES (0x2805.01), R367. -/
def ublFeatures : Nat := 0x280501

/-- RETRAIN (0x2806.01), R367. -/
def retrain : Nat := 0x280601

/-- FLIT_RETRIES (0x2807.01), R367. -/
def flitRetries : Nat := 0x280701

/-- LINK_DOWNS (0x2808.01), R367. -/
def linkDowns : Nat := 0x280801

/-- UBL_DECLINED (0x2809.01), R367. -/
def ublDeclined : Nat := 0x280901

/-- CXL_DECLINED (0x280A.01), R367. -/
def cxlDeclined : Nat := 0x280A01

/-- BAY_CAP (0x2900.01), R368. -/
def bayCap : Nat := 0x290001

/-- BAY_CTRL (0x2900.02), R368. -/
def bayCtrl : Nat := 0x290002

/-- BAY_STATUS (0x2900.03), R368. -/
def bayStatus : Nat := 0x290003

/-- BAY_AUTO (0x2900.04), R368. -/
def bayAuto : Nat := 0x290004

/-- CART_STATE (0x2900.05), R368. -/
def cartState : Nat := 0x290005

/-- CART_SERIAL (0x2900.06), R368. -/
def cartSerial : Nat := 0x290006

/-- CART_FW (0x2900.07), R368. -/
def cartFw : Nat := 0x290007

/-- INSERTIONS (0x2900.08), R368. -/
def insertions : Nat := 0x290008

/-- SURPRISE_REMOVALS (0x2900.09), R368. -/
def surpriseRemovals : Nat := 0x290009

/-- BUTTON_REFUSALS (0x2900.0A), R368. -/
def buttonRefusals : Nat := 0x29000A

/-- REFCLK_HZ (0x3000.01), R491. -/
def refclkHz : Nat := 0x300001

/-- ROOT_MHZ (0x3000.02), R491. -/
def rootMhz : Nat := 0x300002

/-- ACLK_DIV (0x3000.03), R491. -/
def aclkDiv : Nat := 0x300003

/-- FCLK_DIV (0x3000.04), R491. -/
def fclkDiv : Nat := 0x300004

/-- MCLK_DIV (0x3000.05), R491. -/
def mclkDiv : Nat := 0x300005

/-- CCLK_DIV (0x3000.06), R491. -/
def cclkDiv : Nat := 0x300006

/-- MEM_DERATE (0x3000.07), R491. -/
def memDerate : Nat := 0x300007

/-- THROTTLE_LEVEL (0x3000.08), R491. -/
def throttleLevel : Nat := 0x300008

/-- THROTTLE_CAUSE (0x3000.09), R491. -/
def throttleCause : Nat := 0x300009

/-- THROTTLE_FORCE (0x3000.0A), R491. -/
def throttleForce : Nat := 0x30000A

/-- POWER_CAP (0x3000.0B), R491. -/
def powerCap : Nat := 0x30000B

/-- MODULE_POWER (0x3000.0C), R491. -/
def modulePower : Nat := 0x30000C

/-- INPUT_VOLTAGE (0x3000.0D), R491. -/
def inputVoltage : Nat := 0x30000D

/-- INPUT_CURRENT (0x3000.0E), R491. -/
def inputCurrent : Nat := 0x30000E

/-- PKG_TEMP_MAX (0x3000.0F), R491. -/
def pkgTempMax : Nat := 0x30000F

/-- HBM_TEMP_MAX (0x3000.10), R491. -/
def hbmTempMax : Nat := 0x300010

/-- DIMM_TEMP_MAX (0x3000.11), R491. -/
def dimmTempMax : Nat := 0x300011

/-- CART_TEMP_MAX (0x3000.12), R491. -/
def cartTempMax : Nat := 0x300012

/-- COOLANT_IN_TEMP (0x3000.13), R491. -/
def coolantInTemp : Nat := 0x300013

/-- COOLANT_OUT_TEMP (0x3000.14), R491. -/
def coolantOutTemp : Nat := 0x300014

/-- BOARD_TEMP (0x3000.15), R491. -/
def boardTemp : Nat := 0x300015

/-- THERMAL_ALARM (0x3000.16), R491. -/
def thermalAlarm : Nat := 0x300016

/-- THERMAL_TRIPPED (0x3000.17), R491. -/
def thermalTripped : Nat := 0x300017

/-- THROTTLE_EVENTS (0x3000.18), R491. -/
def throttleEvents : Nat := 0x300018

/-- RATINGS_OK (0x3000.19), R491. -/
def ratingsOk : Nat := 0x300019

/-- The key of entry `sub` of the descriptor of partition `p`, whose first descriptor key is `k` (R326). -/
def ofPart (k p : Nat) : Nat := k + 256 * p

/-- The key of an entry of bay `b`, whose bay 0 key is `k` (R368). -/
def ofBay (k b : Nat) : Nat := k + 256 * b

/-- The key of entry `n` of an array of `per` entries an index, whose first key is `k` (R149, R273, R300, R425). -/
def ofArr (k per n : Nat) : Nat := k + 256 * (n / per) + n % per

end Sys2Proof.Machine.K

namespace Sys2Proof.Machine

/-- The types of entries, Table 14.1: `fixed n` is OCTETS of n bytes, `octets n` and `vstr n` are of at most n bytes. -/
inductive Ty where
  | bool | u8 | u16 | u32 | u64 | f32
  | fixed (n : Nat)
  | octets (n : Nat)
  | vstr (n : Nat)
deriving DecidableEq, Repr

/-- The access codes, Table 14.2. -/
inductive Acc where
  | const | ro | rw | wo | rwc
deriving DecidableEq, Repr

/-- What the owning chapter grants the PARTITION role to read (R432): every entry, none, its own subindex, its own
index, the entries of classes bound to it, of ports in its PORTS_ACTIVE, of clusters assigned to it, of host slots
bound to it, of manifests that include it, or log records that name it. -/
inductive PRead where
  | all | none | own | ownIdx | cls | port | cluster | slot | manifest | logrec
deriving DecidableEq, Repr

/-- One row of an object table: indexes and subindexes from the low to the high one, type, access, default, the
lowest and highest value a write may carry, and the PARTITION role's reading right. -/
structure DRow where
  il : Nat
  ih : Nat
  sl : Nat
  sh : Nat
  ty : Ty
  acc : Acc
  dflt : Nat
  lo : Nat
  hi : Nat
  prd : PRead
deriving DecidableEq, Repr

/-- Rows of the object tables, part 0. -/
def dict0 : List DRow := [
  ⟨0x0100, 0x0100, 0x01, 0x01, (.vstr 64), .const, 0x0, 0, 0, .all⟩,
  ⟨0x0100, 0x0100, 0x02, 0x02, (.vstr 64), .const, 0x0, 0, 0, .all⟩,
  ⟨0x0100, 0x0100, 0x03, 0x03, (.vstr 64), .const, 0x0, 0, 0, .all⟩,
  ⟨0x0100, 0x0100, 0x04, 0x04, (.vstr 64), .const, 0x0, 0, 0, .all⟩,
  ⟨0x0100, 0x0100, 0x05, 0x05, (.fixed 16), .const, 0x0, 0, 0, .all⟩,
  ⟨0x0100, 0x0100, 0x06, 0x06, .u8, .const, 0x0, 0, 255, .all⟩,
  ⟨0x0100, 0x0100, 0x07, 0x07, .u16, .ro, 0x0, 0, 65535, .all⟩,
  ⟨0x0100, 0x0100, 0x08, 0x08, .u8, .const, 0x40, 0, 255, .all⟩,
  ⟨0x0100, 0x0100, 0x09, 0x09, .u8, .const, 0x16, 0, 255, .all⟩,
  ⟨0x0100, 0x0100, 0x0A, 0x0A, .u8, .const, 0x8, 0, 255, .all⟩,
  ⟨0x0100, 0x0100, 0x0B, 0x0B, .u8, .const, 0x10, 0, 255, .all⟩,
  ⟨0x0100, 0x0100, 0x0C, 0x0C, .u8, .const, 0x8, 0, 255, .all⟩,
  ⟨0x0100, 0x0100, 0x0D, 0x0D, .u32, .const, 0x19300, 0, 4294967295, .all⟩,
  ⟨0x0100, 0x0100, 0x0E, 0x0E, .u8, .const, 0x3, 0, 255, .all⟩,
  ⟨0x0100, 0x0100, 0x0F, 0x0F, .u8, .ro, 0x0, 0, 255, .all⟩,
  ⟨0x0200, 0x0200, 0x01, 0x01, (.fixed 6), .const, 0x0, 0, 0, .none⟩,
  ⟨0x0200, 0x0200, 0x02, 0x02, .u8, .rw, 0x1, 0, 2, .none⟩,
  ⟨0x0200, 0x0200, 0x03, 0x03, (.fixed 12), .rw, 0x0, 0, 0, .none⟩,
  ⟨0x0200, 0x0200, 0x04, 0x04, (.fixed 4), .ro, 0x0, 0, 0, .none⟩,
  ⟨0x0200, 0x0200, 0x05, 0x05, .bool, .rw, 0x1, 0, 1, .none⟩,
  ⟨0x0200, 0x0200, 0x06, 0x06, .u16, .rw, 0x1CF4, 1024, 65535, .none⟩,
  ⟨0x0200, 0x0200, 0x07, 0x07, .bool, .rw, 0x1, 0, 1, .none⟩,
  ⟨0x0200, 0x0200, 0x08, 0x08, .u16, .rw, 0x1E, 5, 3600, .none⟩,
  ⟨0x0200, 0x0200, 0x09, 0x09, .u8, .const, 0x8, 0, 255, .none⟩]

/-- Rows of the object tables, part 1. -/
def dict1 : List DRow := [
  ⟨0x0200, 0x0200, 0x0A, 0x0A, .u8, .const, 0x4, 0, 255, .none⟩,
  ⟨0x0200, 0x0200, 0x0B, 0x0B, .u8, .ro, 0x0, 0, 255, .none⟩,
  ⟨0x0200, 0x0200, 0x0C, 0x0C, .u8, .ro, 0x0, 0, 255, .none⟩,
  ⟨0x0200, 0x0200, 0x0D, 0x0D, (.fixed 6), .const, 0x0, 0, 0, .none⟩,
  ⟨0x0200, 0x0200, 0x0E, 0x0E, .u16, .const, 0x100, 0, 65535, .none⟩,
  ⟨0x0200, 0x0200, 0x0F, 0x0F, .u64, .rwc, 0x0, 0, 18446744073709551615, .none⟩,
  ⟨0x0200, 0x0200, 0x10, 0x10, .u64, .rwc, 0x0, 0, 18446744073709551615, .none⟩,
  ⟨0x0200, 0x0200, 0x11, 0x11, .u64, .rwc, 0x0, 0, 18446744073709551615, .none⟩,
  ⟨0x0200, 0x0200, 0x12, 0x12, .u64, .rwc, 0x0, 0, 18446744073709551615, .none⟩,
  ⟨0x0200, 0x0200, 0x13, 0x13, .u64, .rwc, 0x0, 0, 18446744073709551615, .none⟩,
  ⟨0x0300, 0x0300, 0x01, 0x01, .u8, .rw, 0x0, 0, 0, .none⟩,
  ⟨0x0300, 0x0300, 0x02, 0x02, .u8, .rw, 0x3, 1, 10, .none⟩,
  ⟨0x0300, 0x0300, 0x03, 0x03, .u8, .ro, 0x0, 0, 255, .none⟩,
  ⟨0x0300, 0x0300, 0x04, 0x04, .u8, .ro, 0x0, 0, 255, .none⟩,
  ⟨0x0300, 0x0300, 0x05, 0x05, .u8, .ro, 0x0, 0, 255, .none⟩,
  ⟨0x0300, 0x0300, 0x06, 0x06, .u16, .const, 0x78, 0, 65535, .none⟩,
  ⟨0x0300, 0x0300, 0x07, 0x07, .u8, .ro, 0x0, 0, 255, .none⟩,
  ⟨0x0300, 0x0300, 0x08, 0x08, (.fixed 2), .ro, 0x0, 0, 0, .none⟩,
  ⟨0x0300, 0x0300, 0x09, 0x09, .u32, .ro, 0x0, 0, 4294967295, .none⟩,
  ⟨0x0300, 0x0300, 0x0A, 0x0A, .u32, .ro, 0x0, 0, 4294967295, .none⟩,
  ⟨0x0300, 0x0300, 0x0B, 0x0B, .u32, .ro, 0x0, 0, 4294967295, .none⟩,
  ⟨0x0300, 0x0300, 0x0C, 0x0C, .bool, .rw, 0x1, 0, 1, .none⟩,
  ⟨0x0300, 0x0300, 0x0D, 0x0D, .bool, .wo, 0x0, 1, 1, .none⟩,
  ⟨0x0300, 0x0300, 0x0E, 0x0E, .bool, .rw, 0x0, 0, 1, .none⟩]

/-- Rows of the object tables, part 2. -/
def dict2 : List DRow := [
  ⟨0x0300, 0x0300, 0x0F, 0x0F, .bool, .wo, 0x0, 1, 1, .none⟩,
  ⟨0x0300, 0x0300, 0x10, 0x10, .u32, .ro, 0x0, 0, 4294967295, .none⟩,
  ⟨0x0300, 0x0300, 0x11, 0x11, .u32, .ro, 0x0, 0, 4294967295, .none⟩,
  ⟨0x0300, 0x0300, 0x12, 0x12, .u32, .wo, 0x0, 5248, 58720256, .none⟩,
  ⟨0x0300, 0x0300, 0x13, 0x13, .u32, .rw, 0x0, 0, 4294967295, .none⟩,
  ⟨0x0300, 0x0300, 0x14, 0x14, (.octets 65536), .wo, 0x0, 0, 0, .none⟩,
  ⟨0x0300, 0x0300, 0x15, 0x15, .bool, .wo, 0x0, 1, 1, .none⟩,
  ⟨0x0300, 0x0300, 0x16, 0x16, .u8, .ro, 0x0, 0, 255, .none⟩,
  ⟨0x0300, 0x0300, 0x17, 0x17, .u8, .ro, 0x0, 0, 255, .none⟩,
  ⟨0x0300, 0x0300, 0x18, 0x18, .u16, .rw, 0x0, 0, 65535, .none⟩,
  ⟨0x0300, 0x0300, 0x19, 0x19, .u16, .ro, 0x0, 0, 65535, .none⟩,
  ⟨0x0400, 0x0400, 0x01, 0x01, (.octets 8192), .ro, 0x0, 0, 0, .none⟩,
  ⟨0x0400, 0x0400, 0x02, 0x02, (.fixed 336), .ro, 0x0, 0, 0, .none⟩,
  ⟨0x0400, 0x0400, 0x03, 0x03, .bool, .ro, 0x0, 0, 1, .none⟩,
  ⟨0x0400, 0x0400, 0x04, 0x0B, (.octets 98), .rw, 0x0, 0, 0, .none⟩,
  ⟨0x0400, 0x0400, 0x0C, 0x0C, (.fixed 193), .ro, 0x0, 0, 0, .none⟩,
  ⟨0x0400, 0x0400, 0x0D, 0x0D, (.octets 8385), .rw, 0x0, 0, 0, .none⟩,
  ⟨0x0400, 0x0400, 0x0E, 0x0E, .u8, .ro, 0x0, 0, 255, .none⟩,
  ⟨0x0400, 0x0400, 0x0F, 0x0F, .u8, .ro, 0x0, 0, 255, .none⟩,
  ⟨0x0400, 0x0400, 0x10, 0x10, .u32, .rwc, 0x0, 0, 4294967295, .none⟩,
  ⟨0x0800, 0x083F, 0x01, 0x01, .bool, .rw, 0x0, 0, 1, .ownIdx⟩,
  ⟨0x0800, 0x083F, 0x02, 0x02, .u32, .rw, 0x0, 0, 1048575, .ownIdx⟩,
  ⟨0x0800, 0x083F, 0x03, 0x03, .u32, .rw, 0x0, 0, 4194303, .ownIdx⟩,
  ⟨0x0800, 0x083F, 0x04, 0x04, .u32, .ro, 0x0, 0, 4294967295, .ownIdx⟩]

/-- Rows of the object tables, part 3. -/
def dict3 : List DRow := [
  ⟨0x0800, 0x083F, 0x05, 0x05, .u32, .rw, 0x0, 0, 3, .ownIdx⟩,
  ⟨0x0800, 0x083F, 0x06, 0x06, .u8, .rw, 0x0, 0, 21, .ownIdx⟩,
  ⟨0x0800, 0x083F, 0x07, 0x07, .u8, .rw, 0x1E, 30, 40, .ownIdx⟩,
  ⟨0x0800, 0x083F, 0x08, 0x08, .u64, .rw, 0x0, 0, 18446744073709551615, .ownIdx⟩,
  ⟨0x0800, 0x083F, 0x09, 0x09, .u8, .ro, 0x0, 0, 255, .ownIdx⟩,
  ⟨0x0800, 0x083F, 0x0A, 0x0A, .u8, .wo, 0x0, 0, 1, .ownIdx⟩,
  ⟨0x0800, 0x083F, 0x0B, 0x0B, .u8, .wo, 0x0, 1, 1, .ownIdx⟩,
  ⟨0x0800, 0x083F, 0x0C, 0x0C, .u8, .ro, 0x0, 0, 255, .ownIdx⟩,
  ⟨0x0800, 0x083F, 0x0D, 0x0D, .u8, .wo, 0x0, 0, 239, .ownIdx⟩,
  ⟨0x0800, 0x083F, 0x0E, 0x0E, .u32, .ro, 0x0, 0, 4294967295, .ownIdx⟩,
  ⟨0x0800, 0x083F, 0x0F, 0x0F, .u32, .ro, 0x0, 0, 4294967295, .ownIdx⟩,
  ⟨0x0800, 0x083F, 0x10, 0x10, .u32, .ro, 0x0, 0, 4294967295, .ownIdx⟩,
  ⟨0x0800, 0x083F, 0x11, 0x11, .u64, .ro, 0x0, 0, 18446744073709551615, .ownIdx⟩,
  ⟨0x0800, 0x083F, 0x12, 0x12, .u64, .rwc, 0x0, 0, 18446744073709551615, .ownIdx⟩,
  ⟨0x0800, 0x083F, 0x13, 0x13, .u16, .ro, 0x0, 0, 65535, .ownIdx⟩,
  ⟨0x0900, 0x0900, 0x01, 0x01, .u8, .const, 0x10, 0, 255, .all⟩,
  ⟨0x0900, 0x0900, 0x02, 0x02, .u32, .const, 0x10000, 0, 4294967295, .all⟩,
  ⟨0x0900, 0x0900, 0x03, 0x03, .u8, .rw, 0x5, 1, 20, .all⟩,
  ⟨0x0900, 0x0900, 0x04, 0x04, .u32, .ro, 0xD1F600, 0, 4294967295, .all⟩,
  ⟨0x0900, 0x0900, 0x05, 0x05, .u32, .ro, 0xD1F60, 0, 4294967295, .all⟩,
  ⟨0x0900, 0x0900, 0x06, 0x06, .u32, .ro, 0x15F90, 0, 4294967295, .all⟩,
  ⟨0x0900, 0x0900, 0x07, 0x07, .u32, .ro, 0x6D60, 0, 4294967295, .all⟩,
  ⟨0x0900, 0x0900, 0x08, 0x08, .f32, .ro, 0x3F800000, 0, 4294967295, .all⟩,
  ⟨0x0900, 0x0900, 0x09, 0x09, .f32, .ro, 0x3F800000, 0, 4294967295, .all⟩]

/-- Rows of the object tables, part 4. -/
def dict4 : List DRow := [
  ⟨0x0900, 0x0900, 0x0A, 0x0A, .f32, .ro, 0x3F800000, 0, 4294967295, .all⟩,
  ⟨0x0900, 0x0900, 0x0B, 0x0B, .f32, .ro, 0x3F800000, 0, 4294967295, .all⟩,
  ⟨0x0900, 0x0900, 0x0C, 0x0C, .u64, .ro, 0x0, 0, 18446744073709551615, .all⟩,
  ⟨0x0900, 0x0900, 0x0D, 0x0D, .u8, .const, 0x40, 0, 255, .all⟩,
  ⟨0x0901, 0x0901, 0x01, 0x10, .u64, .rw, 0x0, 0, 18446744073709551615, .cls⟩,
  ⟨0x0902, 0x0902, 0x01, 0x10, .u32, .rw, 0x0, 0, 4294967295, .cls⟩,
  ⟨0x0903, 0x0903, 0x01, 0x10, .u32, .rw, 0x0, 0, 4294967295, .cls⟩,
  ⟨0x0904, 0x0904, 0x01, 0x10, .u32, .rw, 0x0, 0, 4294967295, .cls⟩,
  ⟨0x0905, 0x0905, 0x01, 0x10, .u32, .rw, 0x0, 0, 4294967295, .cls⟩,
  ⟨0x0906, 0x0906, 0x01, 0x10, .u32, .rw, 0x0, 0, 4294967295, .cls⟩,
  ⟨0x0907, 0x0907, 0x01, 0x10, .u32, .rw, 0x0, 0, 4294967295, .cls⟩,
  ⟨0x0908, 0x0908, 0x01, 0x10, .u32, .rw, 0x0, 0, 4294967295, .cls⟩,
  ⟨0x0909, 0x0909, 0x01, 0x10, .u32, .rw, 0x0, 0, 4294967295, .cls⟩,
  ⟨0x090A, 0x090A, 0x01, 0x10, .u64, .rwc, 0x0, 0, 18446744073709551615, .cls⟩,
  ⟨0x090B, 0x090B, 0x01, 0x10, .u64, .rwc, 0x0, 0, 18446744073709551615, .cls⟩,
  ⟨0x090C, 0x090C, 0x01, 0x10, .u64, .ro, 0x0, 0, 18446744073709551615, .cls⟩,
  ⟨0x0910, 0x0910, 0x01, 0x40, .u8, .rw, 0xF, 1, 15, .own⟩,
  ⟨0x0911, 0x0911, 0x01, 0x40, (.fixed 16), .ro, 0x0, 0, 0, .own⟩,
  ⟨0x0A00, 0x0A00, 0x01, 0x01, .u8, .wo, 0x0, 1, 63, .all⟩,
  ⟨0x0A00, 0x0A00, 0x02, 0x02, .u8, .ro, 0x0, 0, 255, .all⟩,
  ⟨0x0A00, 0x0A00, 0x03, 0x03, .u8, .const, 0x78, 0, 255, .all⟩,
  ⟨0x0A00, 0x0A00, 0x04, 0x04, .u8, .const, 0x40, 0, 255, .all⟩,
  ⟨0x0A00, 0x0A00, 0x05, 0x05, .u32, .rw, 0x1000, 256, 1048576, .all⟩,
  ⟨0x0A00, 0x0A00, 0x06, 0x06, .u64, .rwc, 0x0, 0, 18446744073709551615, .all⟩]

/-- Rows of the object tables, part 5. -/
def dict5 : List DRow := [
  ⟨0x0A00, 0x0A00, 0x07, 0x07, .u64, .ro, 0x0, 0, 18446744073709551615, .all⟩,
  ⟨0x0A10, 0x0A15, 0x01, 0x10, .u8, .rw, 0x0, 1, 14, .cls⟩,
  ⟨0x0A20, 0x0A25, 0x01, 0x10, .u8, .ro, 0x0, 0, 255, .cls⟩,
  ⟨0x1000, 0x1000, 0x01, 0x01, .u32, .const, 0xC00000, 0, 4294967295, .all⟩,
  ⟨0x1000, 0x1000, 0x02, 0x02, .u32, .const, 0x4000000, 0, 4294967295, .all⟩,
  ⟨0x1000, 0x1000, 0x03, 0x03, .u32, .const, 0x60000000, 0, 4294967295, .all⟩,
  ⟨0x1000, 0x1000, 0x04, 0x04, .u32, .ro, 0x2FF, 0, 4294967295, .all⟩,
  ⟨0x1000, 0x1000, 0x05, 0x05, .u32, .ro, 0xFC0, 0, 4294967295, .all⟩,
  ⟨0x1000, 0x1000, 0x06, 0x06, .u32, .ro, 0x18000, 0, 4294967295, .all⟩,
  ⟨0x1000, 0x1000, 0x07, 0x07, .u32, .const, 0x80000, 0, 4294967295, .all⟩,
  ⟨0x1000, 0x1000, 0x08, 0x08, .u16, .rw, 0x40, 1, 65535, .all⟩,
  ⟨0x1000, 0x1000, 0x09, 0x09, .u32, .const, 0x10000, 0, 4294967295, .all⟩,
  ⟨0x1000, 0x1000, 0x0A, 0x0A, .u32, .ro, 0x30000, 0, 4294967295, .all⟩,
  ⟨0x1000, 0x1000, 0x0B, 0x0B, .u64, .rwc, 0x0, 0, 18446744073709551615, .all⟩,
  ⟨0x1000, 0x1000, 0x0C, 0x0C, .u64, .rwc, 0x0, 0, 18446744073709551615, .all⟩,
  ⟨0x1000, 0x1000, 0x0D, 0x0D, .u32, .ro, 0x0, 0, 4294967295, .all⟩,
  ⟨0x1000, 0x1000, 0x0E, 0x0E, .u32, .ro, 0x0, 0, 4294967295, .all⟩,
  ⟨0x1001, 0x1001, 0x01, 0x40, .u32, .rw, 0x0, 0, 4294967295, .own⟩,
  ⟨0x1002, 0x1002, 0x01, 0x40, .u32, .rw, 0x0, 0, 4294967295, .own⟩,
  ⟨0x1003, 0x1003, 0x01, 0x40, .u32, .rw, 0x0, 0, 4294967295, .own⟩,
  ⟨0x1004, 0x1004, 0x01, 0x40, .u32, .rw, 0x0, 0, 4294967295, .own⟩,
  ⟨0x1005, 0x1005, 0x01, 0x40, (.fixed 16), .rw, 0x0, 0, 0, .none⟩,
  ⟨0x1006, 0x1006, 0x01, 0x08, .u8, .ro, 0x0, 0, 255, .all⟩,
  ⟨0x1007, 0x1007, 0x01, 0x01, .bool, .ro, 0x0, 0, 1, .all⟩]

/-- Rows of the object tables, part 6. -/
def dict6 : List DRow := [
  ⟨0x1007, 0x1007, 0x02, 0x02, .u8, .ro, 0x0, 0, 255, .all⟩,
  ⟨0x1007, 0x1007, 0x03, 0x03, .u64, .rwc, 0x0, 0, 18446744073709551615, .all⟩,
  ⟨0x1007, 0x1007, 0x04, 0x04, .u32, .rw, 0x186A0, 10000, 1000000, .all⟩,
  ⟨0x1007, 0x1007, 0x05, 0x05, .u16, .rw, 0x5A, 7, 365, .all⟩,
  ⟨0x1007, 0x1007, 0x06, 0x06, .u8, .rw, 0xA, 5, 50, .all⟩,
  ⟨0x1007, 0x1007, 0x07, 0x07, .u32, .rw, 0xDAC, 500, 3500, .all⟩,
  ⟨0x1007, 0x1007, 0x08, 0x08, .u64, .ro, 0x0, 0, 18446744073709551615, .all⟩,
  ⟨0x1100, 0x1100, 0x01, 0x01, .u8, .const, 0x10, 0, 255, .all⟩,
  ⟨0x1100, 0x1100, 0x02, 0x02, .u32, .const, 0x1000, 0, 4294967295, .all⟩,
  ⟨0x1100, 0x1100, 0x03, 0x03, .u8, .const, 0x40, 0, 255, .all⟩,
  ⟨0x1100, 0x1100, 0x04, 0x04, .u8, .rw, 0x10, 1, 255, .all⟩,
  ⟨0x1100, 0x1100, 0x05, 0x05, .u64, .ro, 0x0, 0, 18446744073709551615, .all⟩,
  ⟨0x1100, 0x1100, 0x06, 0x06, .u64, .rwc, 0x0, 0, 18446744073709551615, .all⟩,
  ⟨0x1100, 0x1100, 0x07, 0x07, .u64, .rwc, 0x0, 0, 18446744073709551615, .all⟩,
  ⟨0x1100, 0x1100, 0x08, 0x08, .u64, .rwc, 0x0, 0, 18446744073709551615, .all⟩,
  ⟨0x1101, 0x1101, 0x01, 0x10, (.octets 16384), .rw, 0x0, 0, 0, .none⟩,
  ⟨0x1102, 0x1102, 0x01, 0x40, .u8, .rw, 0xF, 1, 15, .own⟩,
  ⟨0x1200, 0x1200, 0x01, 0x01, .u8, .const, 0x8, 0, 255, .all⟩,
  ⟨0x1200, 0x1200, 0x02, 0x02, .u8, .const, 0x8, 0, 255, .all⟩,
  ⟨0x1200, 0x1200, 0x03, 0x03, .u8, .const, 0x1, 0, 255, .all⟩,
  ⟨0x1200, 0x1200, 0x04, 0x04, .bool, .rw, 0x1, 0, 1, .all⟩,
  ⟨0x1200, 0x1200, 0x05, 0x05, .u32, .const, 0x800, 0, 4294967295, .all⟩,
  ⟨0x1200, 0x1200, 0x06, 0x06, .u64, .ro, 0x0, 0, 18446744073709551615, .all⟩,
  ⟨0x1200, 0x1200, 0x07, 0x07, .u64, .ro, 0x0, 0, 18446744073709551615, .all⟩]

/-- Rows of the object tables, part 7. -/
def dict7 : List DRow := [
  ⟨0x1200, 0x1200, 0x08, 0x08, .u64, .ro, 0x0, 0, 18446744073709551615, .all⟩,
  ⟨0x1200, 0x1200, 0x09, 0x09, .u64, .rwc, 0x0, 0, 18446744073709551615, .all⟩,
  ⟨0x1200, 0x1200, 0x0A, 0x0A, .u64, .wo, 0x0, 0, 18446744073709551615, .all⟩,
  ⟨0x1200, 0x1200, 0x0B, 0x0B, .bool, .rw, 0x1, 0, 1, .all⟩,
  ⟨0x1200, 0x1200, 0x0C, 0x0C, .u64, .ro, 0x0, 0, 18446744073709551615, .all⟩,
  ⟨0x1200, 0x1200, 0x0D, 0x0D, .u64, .ro, 0x0, 0, 18446744073709551615, .all⟩,
  ⟨0x1200, 0x1200, 0x0E, 0x0E, .u8, .ro, 0x0, 0, 255, .all⟩,
  ⟨0x1200, 0x1200, 0x0F, 0x0F, .u8, .const, 0x4, 0, 255, .all⟩,
  ⟨0x1200, 0x1200, 0x10, 0x10, .u64, .rwc, 0x0, 0, 18446744073709551615, .all⟩,
  ⟨0x1200, 0x1200, 0x11, 0x11, .u64, .rwc, 0x0, 0, 18446744073709551615, .all⟩,
  ⟨0x1200, 0x1200, 0x12, 0x12, .u64, .rwc, 0x0, 0, 18446744073709551615, .all⟩,
  ⟨0x1200, 0x1200, 0x13, 0x13, .u16, .const, 0x1000, 0, 65535, .all⟩,
  ⟨0x1201, 0x1201, 0x01, 0x40, .u64, .rwc, 0x0, 0, 18446744073709551615, .own⟩,
  ⟨0x1202, 0x1202, 0x01, 0x40, .u16, .ro, 0x0, 0, 65535, .own⟩,
  ⟨0x1300, 0x1300, 0x01, 0x01, .bool, .rw, 0x0, 0, 1, .all⟩,
  ⟨0x1300, 0x1300, 0x02, 0x02, .u64, .const, 0x40000000, 0, 18446744073709551615, .all⟩,
  ⟨0x1300, 0x1300, 0x03, 0x03, .u8, .const, 0x10, 0, 255, .all⟩,
  ⟨0x1300, 0x1300, 0x04, 0x04, .u8, .const, 0x40, 0, 255, .all⟩,
  ⟨0x1300, 0x1300, 0x05, 0x05, .u64, .ro, 0x0, 0, 18446744073709551615, .all⟩,
  ⟨0x1300, 0x1300, 0x06, 0x06, .u32, .rw, 0xA, 1, 1000, .all⟩,
  ⟨0x1300, 0x1300, 0x07, 0x07, .u64, .ro, 0x0, 0, 18446744073709551615, .all⟩,
  ⟨0x1300, 0x1300, 0x08, 0x08, .u64, .rwc, 0x0, 0, 18446744073709551615, .all⟩,
  ⟨0x1300, 0x1300, 0x09, 0x09, .u64, .rwc, 0x0, 0, 18446744073709551615, .all⟩,
  ⟨0x1300, 0x1300, 0x0A, 0x0A, .u64, .ro, 0x0, 0, 18446744073709551615, .all⟩]

/-- Rows of the object tables, part 8. -/
def dict8 : List DRow := [
  ⟨0x1300, 0x1300, 0x0B, 0x0B, .u64, .ro, 0x0, 0, 18446744073709551615, .all⟩,
  ⟨0x1300, 0x1300, 0x0C, 0x0C, .u64, .rwc, 0x0, 0, 18446744073709551615, .all⟩,
  ⟨0x1300, 0x1300, 0x0D, 0x0D, .u64, .rwc, 0x0, 0, 18446744073709551615, .all⟩,
  ⟨0x1300, 0x1300, 0x0E, 0x0E, .u64, .rwc, 0x0, 0, 18446744073709551615, .all⟩,
  ⟨0x1300, 0x1300, 0x0F, 0x0F, (.fixed 16), .ro, 0x0, 0, 0, .none⟩,
  ⟨0x1300, 0x1300, 0x10, 0x10, .u32, .const, 0x10000, 0, 4294967295, .all⟩,
  ⟨0x1300, 0x1300, 0x11, 0x11, .u16, .const, 0x1000, 0, 65535, .all⟩,
  ⟨0x1300, 0x1300, 0x12, 0x12, .u32, .rw, 0x64, 10, 10000, .all⟩,
  ⟨0x1301, 0x1301, 0x01, 0x40, .u64, .rw, 0x0, 0, 18446744073709551615, .own⟩,
  ⟨0x1302, 0x1302, 0x01, 0x40, .u16, .rw, 0x400, 0, 65535, .own⟩,
  ⟨0x1303, 0x1303, 0x01, 0x40, .u16, .ro, 0x0, 0, 65535, .own⟩,
  ⟨0x1304, 0x1304, 0x01, 0x80, (.fixed 8), .rw, 0x0, 0, 0, .none⟩,
  ⟨0x1305, 0x1305, 0x01, 0x40, .u16, .ro, 0x0, 0, 65535, .own⟩,
  ⟨0x1306, 0x1306, 0x01, 0x40, .u32, .ro, 0x0, 0, 4294967295, .own⟩,
  ⟨0x1310, 0x132F, 0x01, 0x80, (.fixed 16), .rw, 0x0, 0, 0, .slot⟩,
  ⟨0x1800, 0x1800, 0x01, 0x01, .u16, .const, 0x100, 0, 65535, .all⟩,
  ⟨0x1800, 0x1800, 0x02, 0x02, .u16, .ro, 0xF0, 0, 65535, .all⟩,
  ⟨0x1800, 0x1800, 0x03, 0x03, .u8, .ro, 0x10, 0, 255, .all⟩,
  ⟨0x1800, 0x1800, 0x04, 0x04, .u8, .rw, 0x2, 1, 16, .all⟩,
  ⟨0x1800, 0x1800, 0x05, 0x05, .u16, .ro, 0x0, 0, 65535, .all⟩,
  ⟨0x1800, 0x1800, 0x06, 0x06, .u16, .const, 0x100, 0, 65535, .all⟩,
  ⟨0x1800, 0x1800, 0x07, 0x07, .u32, .const, 0x600000, 0, 4294967295, .all⟩,
  ⟨0x1800, 0x1800, 0x08, 0x08, .u16, .const, 0x200, 0, 65535, .all⟩,
  ⟨0x1800, 0x1800, 0x09, 0x09, .u16, .const, 0x1000, 0, 65535, .all⟩]

/-- Rows of the object tables, part 9. -/
def dict9 : List DRow := [
  ⟨0x1800, 0x1800, 0x0A, 0x0A, .u32, .const, 0x10000, 0, 4294967295, .all⟩,
  ⟨0x1800, 0x1800, 0x0B, 0x0B, .bool, .rw, 0x1, 0, 1, .all⟩,
  ⟨0x1800, 0x1800, 0x0C, 0x0C, .bool, .rw, 0x1, 0, 1, .all⟩,
  ⟨0x1800, 0x1800, 0x0D, 0x0D, .u16, .rw, 0x18, 1, 168, .all⟩,
  ⟨0x1800, 0x1800, 0x0E, 0x0E, .u32, .rw, 0x5460, 60, 86400, .all⟩,
  ⟨0x1800, 0x1800, 0x0F, 0x0F, .u64, .ro, 0x0, 0, 18446744073709551615, .all⟩,
  ⟨0x1800, 0x1800, 0x10, 0x10, .u64, .rwc, 0x0, 0, 18446744073709551615, .all⟩,
  ⟨0x1800, 0x1800, 0x11, 0x11, .u64, .rwc, 0x0, 0, 18446744073709551615, .all⟩,
  ⟨0x1800, 0x1800, 0x12, 0x12, .u64, .rwc, 0x0, 0, 18446744073709551615, .all⟩,
  ⟨0x1800, 0x1800, 0x13, 0x13, .u64, .rwc, 0x0, 0, 18446744073709551615, .all⟩,
  ⟨0x1800, 0x1800, 0x14, 0x14, .u64, .rwc, 0x0, 0, 18446744073709551615, .all⟩,
  ⟨0x1800, 0x1800, 0x15, 0x15, .u16, .wo, 0x0, 0, 255, .all⟩,
  ⟨0x1800, 0x1800, 0x16, 0x16, .u64, .ro, 0x0, 0, 18446744073709551615, .all⟩,
  ⟨0x1801, 0x1801, 0x01, 0xF0, .u16, .ro, 0x0, 0, 65535, .cluster⟩,
  ⟨0x1802, 0x1802, 0x01, 0x80, .u32, .ro, 0x0, 0, 4294967295, .cluster⟩,
  ⟨0x1803, 0x1803, 0x01, 0x80, .u32, .ro, 0x0, 0, 4294967295, .cluster⟩,
  ⟨0x1900, 0x1900, 0x01, 0x01, .u8, .const, 0x6, 0, 255, .all⟩,
  ⟨0x1900, 0x1900, 0x02, 0x02, .u16, .const, 0x100, 0, 65535, .all⟩,
  ⟨0x1900, 0x1900, 0x03, 0x03, .u8, .const, 0x10, 0, 255, .all⟩,
  ⟨0x1900, 0x1900, 0x04, 0x04, .u16, .const, 0x1000, 0, 65535, .all⟩,
  ⟨0x1900, 0x1900, 0x05, 0x05, .u8, .const, 0x8, 0, 255, .all⟩,
  ⟨0x1900, 0x1900, 0x06, 0x06, .u16, .const, 0x400, 0, 65535, .all⟩,
  ⟨0x1900, 0x1900, 0x07, 0x07, .u32, .ro, 0x0, 0, 4294967295, .all⟩,
  ⟨0x1900, 0x1900, 0x08, 0x08, .u64, .rwc, 0x0, 0, 18446744073709551615, .all⟩]

/-- Rows of the object tables, part 10. -/
def dict10 : List DRow := [
  ⟨0x1900, 0x1900, 0x09, 0x09, .u64, .rwc, 0x0, 0, 18446744073709551615, .all⟩,
  ⟨0x1900, 0x1900, 0x0A, 0x0A, .u64, .rwc, 0x0, 0, 18446744073709551615, .all⟩,
  ⟨0x1900, 0x1900, 0x0B, 0x0B, .u64, .rwc, 0x0, 0, 18446744073709551615, .all⟩,
  ⟨0x1900, 0x1900, 0x0C, 0x0C, .u64, .ro, 0x0, 0, 18446744073709551615, .all⟩,
  ⟨0x1900, 0x1900, 0x0D, 0x0D, .u64, .ro, 0x0, 0, 18446744073709551615, .all⟩,
  ⟨0x1900, 0x1900, 0x0E, 0x0E, .u64, .rwc, 0x0, 0, 18446744073709551615, .all⟩,
  ⟨0x1901, 0x1901, 0x01, 0x06, (.fixed 8), .const, 0x0, 0, 0, .none⟩,
  ⟨0x1902, 0x1902, 0x01, 0x40, .u64, .rwc, 0x0, 0, 18446744073709551615, .own⟩,
  ⟨0x1903, 0x1903, 0x01, 0x40, .u64, .rwc, 0x0, 0, 18446744073709551615, .own⟩,
  ⟨0x1910, 0x1910, 0x01, 0x01, .u16, .const, 0x400, 0, 65535, .all⟩,
  ⟨0x1910, 0x1910, 0x02, 0x02, .u16, .const, 0x2000, 0, 65535, .all⟩,
  ⟨0x1910, 0x1910, 0x03, 0x03, .u32, .const, 0x10000, 0, 4294967295, .all⟩,
  ⟨0x1910, 0x1910, 0x04, 0x04, .u32, .const, 0x40000, 0, 4294967295, .all⟩,
  ⟨0x1910, 0x1910, 0x05, 0x05, .u8, .const, 0x10, 0, 255, .all⟩,
  ⟨0x1910, 0x1910, 0x06, 0x06, .u16, .ro, 0x0, 0, 65535, .all⟩,
  ⟨0x1910, 0x1910, 0x07, 0x07, .u16, .ro, 0x0, 0, 65535, .all⟩,
  ⟨0x1910, 0x1910, 0x08, 0x08, .u64, .rwc, 0x0, 0, 18446744073709551615, .all⟩,
  ⟨0x1911, 0x1911, 0x01, 0x40, (.fixed 16), .ro, 0x0, 0, 0, .own⟩,
  ⟨0x1912, 0x1912, 0x01, 0x01, .u32, .ro, 0x0, 0, 4294967295, .none⟩,
  ⟨0x1940, 0x197F, 0x01, 0x10, (.octets 32800), .rw, 0x0, 0, 0, .none⟩,
  ⟨0x1980, 0x199F, 0x01, 0x08, (.octets 304), .rw, 0x0, 0, 0, .manifest⟩,
  ⟨0x1A00, 0x1A00, 0x01, 0x01, .u32, .const, 0x10000, 0, 4294967295, .all⟩,
  ⟨0x1A00, 0x1A00, 0x02, 0x02, .u16, .const, 0x4000, 0, 65535, .all⟩,
  ⟨0x1A00, 0x1A00, 0x03, 0x03, .u16, .const, 0x4000, 0, 65535, .all⟩]

/-- Rows of the object tables, part 11. -/
def dict11 : List DRow := [
  ⟨0x1A00, 0x1A00, 0x04, 0x04, .u32, .ro, 0x0, 0, 4294967295, .all⟩,
  ⟨0x1A00, 0x1A00, 0x05, 0x05, .u16, .ro, 0x0, 0, 65535, .all⟩,
  ⟨0x1A00, 0x1A00, 0x06, 0x06, .u16, .const, 0x400, 0, 65535, .all⟩,
  ⟨0x1A00, 0x1A00, 0x07, 0x07, .u16, .const, 0x400, 0, 65535, .all⟩,
  ⟨0x1A00, 0x1A00, 0x08, 0x08, .u64, .ro, 0x0, 0, 18446744073709551615, .all⟩,
  ⟨0x1A00, 0x1A00, 0x09, 0x09, .u64, .rwc, 0x0, 0, 18446744073709551615, .all⟩,
  ⟨0x1A00, 0x1A00, 0x0A, 0x0A, .u64, .rwc, 0x0, 0, 18446744073709551615, .all⟩,
  ⟨0x1A00, 0x1A00, 0x0B, 0x0B, .u64, .rwc, 0x0, 0, 18446744073709551615, .all⟩,
  ⟨0x1A00, 0x1A00, 0x0C, 0x0C, .u64, .rwc, 0x0, 0, 18446744073709551615, .all⟩,
  ⟨0x1A00, 0x1A00, 0x0D, 0x0D, .u64, .rwc, 0x0, 0, 18446744073709551615, .all⟩,
  ⟨0x1A01, 0x1A01, 0x01, 0x40, .u16, .rw, 0x400, 0, 16384, .own⟩,
  ⟨0x1A02, 0x1A02, 0x01, 0x40, .u16, .rw, 0x100, 0, 16384, .own⟩,
  ⟨0x1A03, 0x1A03, 0x01, 0x40, .u16, .ro, 0x0, 0, 65535, .own⟩,
  ⟨0x1A04, 0x1A04, 0x01, 0x40, .u16, .ro, 0x0, 0, 65535, .own⟩,
  ⟨0x1A05, 0x1A05, 0x01, 0x40, .u8, .rw, 0xF0, 0, 240, .own⟩,
  ⟨0x1A06, 0x1A06, 0x01, 0x40, .u8, .ro, 0x0, 0, 255, .own⟩,
  ⟨0x1A07, 0x1A07, 0x01, 0x40, .u32, .ro, 0x0, 0, 4294967295, .own⟩,
  ⟨0x2000, 0x2000, 0x01, 0x01, .bool, .ro, 0x1, 0, 1, .all⟩,
  ⟨0x2000, 0x2000, 0x02, 0x02, .u8, .ro, 0x0, 0, 255, .all⟩,
  ⟨0x2000, 0x2000, 0x03, 0x03, .bool, .rw, 0x1, 0, 1, .all⟩,
  ⟨0x2000, 0x2000, 0x04, 0x04, .u8, .rw, 0x18, 1, 168, .all⟩,
  ⟨0x2000, 0x2000, 0x05, 0x05, .u8, .rw, 0x7, 1, 30, .all⟩,
  ⟨0x2000, 0x2000, 0x06, 0x06, (.fixed 3), .ro, 0x0, 0, 0, .all⟩,
  ⟨0x2000, 0x2000, 0x07, 0x07, (.fixed 24), .ro, 0x0, 0, 0, .all⟩]

/-- Rows of the object tables, part 12. -/
def dict12 : List DRow := [
  ⟨0x2000, 0x2000, 0x08, 0x08, (.fixed 24), .ro, 0x0, 0, 0, .all⟩,
  ⟨0x2000, 0x2000, 0x09, 0x09, .u64, .rwc, 0x0, 0, 18446744073709551615, .all⟩,
  ⟨0x2000, 0x2000, 0x0A, 0x0A, .u64, .rwc, 0x0, 0, 18446744073709551615, .all⟩,
  ⟨0x2000, 0x2000, 0x0B, 0x0B, .u64, .rwc, 0x0, 0, 18446744073709551615, .all⟩,
  ⟨0x2000, 0x2000, 0x0C, 0x0C, .u64, .ro, 0x0, 0, 18446744073709551615, .all⟩,
  ⟨0x2000, 0x2000, 0x0D, 0x0D, .u64, .rwc, 0x0, 0, 18446744073709551615, .all⟩,
  ⟨0x2000, 0x2000, 0x0E, 0x0E, .u64, .ro, 0x0, 0, 18446744073709551615, .all⟩,
  ⟨0x2000, 0x2000, 0x0F, 0x0F, .u64, .ro, 0x0, 0, 18446744073709551615, .all⟩,
  ⟨0x2000, 0x2000, 0x10, 0x10, .u64, .rwc, 0x0, 0, 18446744073709551615, .all⟩,
  ⟨0x2000, 0x2000, 0x11, 0x11, .u8, .ro, 0x0, 0, 255, .all⟩,
  ⟨0x2000, 0x2000, 0x12, 0x12, .u64, .rwc, 0x0, 0, 18446744073709551615, .all⟩,
  ⟨0x2000, 0x2000, 0x13, 0x13, .u64, .rwc, 0x0, 0, 18446744073709551615, .all⟩,
  ⟨0x2000, 0x2000, 0x14, 0x14, .u8, .ro, 0x0, 0, 255, .all⟩,
  ⟨0x2000, 0x2000, 0x15, 0x15, .u16, .ro, 0x0, 0, 65535, .all⟩,
  ⟨0x2001, 0x2001, 0x01, 0x40, .u64, .ro, 0x0, 0, 18446744073709551615, .own⟩,
  ⟨0x2010, 0x2010, 0x01, 0x01, (.fixed 8), .wo, 0x0, 0, 0, .none⟩,
  ⟨0x2010, 0x2010, 0x02, 0x02, .u8, .ro, 0x0, 0, 255, .none⟩,
  ⟨0x2010, 0x2010, 0x03, 0x03, .u32, .ro, 0x0, 0, 4294967295, .none⟩,
  ⟨0x2010, 0x2010, 0x04, 0x04, .u32, .const, 0x20000, 0, 4294967295, .none⟩,
  ⟨0x2010, 0x2010, 0x05, 0x05, .u32, .rw, 0x0, 0, 4294967295, .none⟩,
  ⟨0x2010, 0x2010, 0x06, 0x06, (.fixed 8), .ro, 0x0, 0, 0, .none⟩,
  ⟨0x2011, 0x2011, 0x01, 0x01, .u16, .ro, 0x0, 0, 65535, .none⟩,
  ⟨0x2011, 0x2011, 0x02, 0x02, .u16, .rw, 0x0, 0, 65535, .none⟩,
  ⟨0x2011, 0x2011, 0x03, 0x03, (.fixed 8), .ro, 0x0, 0, 0, .none⟩]

/-- Rows of the object tables, part 13. -/
def dict13 : List DRow := [
  ⟨0x2011, 0x2011, 0x04, 0x04, (.fixed 8), .wo, 0x0, 0, 0, .none⟩,
  ⟨0x2020, 0x2020, 0x01, 0x01, .u16, .const, 0x1000, 0, 65535, .none⟩,
  ⟨0x2020, 0x2020, 0x02, 0x02, .u16, .ro, 0x0, 0, 65535, .none⟩,
  ⟨0x2020, 0x2020, 0x03, 0x03, .u64, .ro, 0x0, 0, 18446744073709551615, .none⟩,
  ⟨0x2020, 0x2020, 0x04, 0x04, .u64, .rw, 0x0, 0, 18446744073709551615, .none⟩,
  ⟨0x2020, 0x2020, 0x05, 0x05, (.octets 296), .ro, 0x0, 0, 0, .logrec⟩,
  ⟨0x2020, 0x2020, 0x06, 0x06, .u64, .rwc, 0x0, 0, 18446744073709551615, .none⟩,
  ⟨0x2100, 0x2100, 0x01, 0x01, .u32, .rw, 0x0, 0, 1048575, .all⟩,
  ⟨0x2100, 0x2100, 0x02, 0x02, .u32, .rw, 0x0, 0, 1048575, .all⟩,
  ⟨0x2100, 0x2100, 0x03, 0x03, .bool, .rw, 0x0, 0, 1, .all⟩,
  ⟨0x2100, 0x2100, 0x04, 0x04, .u8, .ro, 0x0, 0, 255, .all⟩,
  ⟨0x2100, 0x2100, 0x05, 0x05, .u8, .rw, 0x16, 22, 23, .all⟩,
  ⟨0x2100, 0x2100, 0x06, 0x06, .bool, .ro, 0x0, 0, 1, .all⟩,
  ⟨0x2100, 0x2100, 0x07, 0x07, .u32, .rw, 0x3E8, 200, 10000, .all⟩,
  ⟨0x2100, 0x2100, 0x08, 0x08, .u8, .rw, 0x5, 2, 25, .all⟩,
  ⟨0x2100, 0x2100, 0x09, 0x09, (.fixed 8), .wo, 0x0, 0, 0, .all⟩,
  ⟨0x2100, 0x2100, 0x0A, 0x0A, .u32, .ro, 0x0, 0, 4294967295, .all⟩,
  ⟨0x2100, 0x2100, 0x0B, 0x0B, .u32, .ro, 0x0, 0, 4294967295, .all⟩,
  ⟨0x2100, 0x2100, 0x0C, 0x0C, .u16, .rw, 0x5, 1, 100, .all⟩,
  ⟨0x2100, 0x2100, 0x0D, 0x0D, .u8, .const, 0x3, 0, 255, .all⟩,
  ⟨0x2100, 0x2100, 0x0E, 0x0E, .u8, .ro, 0x0, 0, 255, .all⟩,
  ⟨0x2100, 0x2100, 0x0F, 0x0F, .u32, .rw, 0x4E20, 1000, 100000, .all⟩,
  ⟨0x2100, 0x2100, 0x10, 0x10, .u8, .rw, 0x1, 1, 2, .all⟩,
  ⟨0x2100, 0x2100, 0x11, 0x11, .u8, .ro, 0x0, 0, 255, .all⟩]

/-- Rows of the object tables, part 14. -/
def dict14 : List DRow := [
  ⟨0x2100, 0x2100, 0x12, 0x12, .u64, .ro, 0x0, 0, 18446744073709551615, .all⟩,
  ⟨0x2100, 0x2100, 0x13, 0x13, .u64, .ro, 0x0, 0, 18446744073709551615, .all⟩,
  ⟨0x2100, 0x2100, 0x14, 0x14, .u64, .rwc, 0x0, 0, 18446744073709551615, .all⟩,
  ⟨0x2100, 0x2100, 0x15, 0x15, .u64, .rwc, 0x0, 0, 18446744073709551615, .all⟩,
  ⟨0x2100, 0x2100, 0x16, 0x16, .u32, .ro, 0x0, 0, 4294967295, .all⟩,
  ⟨0x2100, 0x2100, 0x17, 0x17, .u32, .rwc, 0x0, 0, 4294967295, .all⟩,
  ⟨0x2100, 0x2100, 0x18, 0x18, .u8, .wo, 0x0, 0, 63, .all⟩,
  ⟨0x2100, 0x2100, 0x19, 0x19, .u8, .ro, 0x0, 0, 255, .all⟩,
  ⟨0x2100, 0x2100, 0x1A, 0x1A, .u64, .ro, 0x0, 0, 18446744073709551615, .all⟩,
  ⟨0x2101, 0x2101, 0x01, 0x40, .u8, .rw, 0x0, 0, 2, .own⟩,
  ⟨0x2102, 0x2102, 0x01, 0x40, .u8, .rw, 0xFF, 0, 255, .own⟩,
  ⟨0x2103, 0x2104, 0x01, 0x80, (.fixed 16), .rw, 0x0, 0, 0, .none⟩,
  ⟨0x2800, 0x2800, 0x01, 0x01, .u8, .const, 0x18, 0, 255, .all⟩,
  ⟨0x2800, 0x2800, 0x02, 0x02, .u8, .const, 0x8, 0, 255, .all⟩,
  ⟨0x2800, 0x2800, 0x03, 0x03, .u16, .const, 0x200, 0, 65535, .all⟩,
  ⟨0x2800, 0x2800, 0x04, 0x04, .u32, .rw, 0x32, 1, 64000, .all⟩,
  ⟨0x2800, 0x2800, 0x05, 0x05, .bool, .ro, 0x1, 0, 1, .all⟩,
  ⟨0x2800, 0x2800, 0x06, 0x06, .bool, .rw, 0x0, 0, 1, .all⟩,
  ⟨0x2800, 0x2800, 0x07, 0x07, .bool, .ro, 0x0, 0, 1, .all⟩,
  ⟨0x2800, 0x2800, 0x08, 0x08, .u16, .rw, 0x3C, 10, 3600, .all⟩,
  ⟨0x2800, 0x2800, 0x09, 0x09, .u8, .rw, 0xFF, 0, 255, .all⟩,
  ⟨0x2800, 0x2800, 0x0A, 0x0A, .u64, .rwc, 0x0, 0, 18446744073709551615, .all⟩,
  ⟨0x2800, 0x2800, 0x0B, 0x0B, .u64, .rwc, 0x0, 0, 18446744073709551615, .all⟩,
  ⟨0x2800, 0x2800, 0x0C, 0x0C, .u64, .rwc, 0x0, 0, 18446744073709551615, .all⟩]

/-- Rows of the object tables, part 15. -/
def dict15 : List DRow := [
  ⟨0x2800, 0x2800, 0x0D, 0x0D, .u64, .rwc, 0x0, 0, 18446744073709551615, .all⟩,
  ⟨0x2800, 0x2800, 0x0E, 0x0E, .u64, .rwc, 0x0, 0, 18446744073709551615, .all⟩,
  ⟨0x2801, 0x2801, 0x01, 0x18, .u8, .rw, 0x0, 0, 4, .port⟩,
  ⟨0x2802, 0x2802, 0x01, 0x18, .u32, .ro, 0x0, 0, 4294967295, .port⟩,
  ⟨0x2803, 0x2803, 0x01, 0x18, .u8, .rw, 0x7, 1, 7, .port⟩,
  ⟨0x2804, 0x2804, 0x01, 0x16, .u8, .rw, 0xFF, 0, 255, .port⟩,
  ⟨0x2805, 0x2805, 0x01, 0x18, .u32, .ro, 0x0, 0, 4294967295, .port⟩,
  ⟨0x2806, 0x2806, 0x01, 0x18, .bool, .wo, 0x0, 1, 1, .port⟩,
  ⟨0x2807, 0x2807, 0x01, 0x18, .u64, .rwc, 0x0, 0, 18446744073709551615, .port⟩,
  ⟨0x2808, 0x2808, 0x01, 0x18, .u32, .rwc, 0x0, 0, 4294967295, .port⟩,
  ⟨0x2809, 0x2809, 0x01, 0x18, .u32, .rwc, 0x0, 0, 4294967295, .port⟩,
  ⟨0x280A, 0x280A, 0x01, 0x18, .u32, .rwc, 0x0, 0, 4294967295, .port⟩,
  ⟨0x2900, 0x2907, 0x01, 0x01, .u32, .ro, 0x0, 0, 4294967295, .none⟩,
  ⟨0x2900, 0x2907, 0x02, 0x02, .u16, .rw, 0x0, 0, 65535, .none⟩,
  ⟨0x2900, 0x2907, 0x03, 0x03, .u16, .rwc, 0x0, 0, 65535, .none⟩,
  ⟨0x2900, 0x2907, 0x04, 0x04, .bool, .rw, 0x1, 0, 1, .none⟩,
  ⟨0x2900, 0x2907, 0x05, 0x05, .u8, .ro, 0x0, 0, 255, .none⟩,
  ⟨0x2900, 0x2907, 0x06, 0x06, (.vstr 64), .ro, 0x0, 0, 0, .none⟩,
  ⟨0x2900, 0x2907, 0x07, 0x07, (.vstr 64), .ro, 0x0, 0, 0, .none⟩,
  ⟨0x2900, 0x2907, 0x08, 0x08, .u32, .ro, 0x0, 0, 4294967295, .none⟩,
  ⟨0x2900, 0x2907, 0x09, 0x09, .u32, .ro, 0x0, 0, 4294967295, .none⟩,
  ⟨0x2900, 0x2907, 0x0A, 0x0A, .u32, .rwc, 0x0, 0, 4294967295, .none⟩,
  ⟨0x3000, 0x3000, 0x01, 0x01, .u32, .const, 0x5F5E100, 0, 4294967295, .all⟩,
  ⟨0x3000, 0x3000, 0x02, 0x02, .u16, .const, 0x20D0, 0, 65535, .all⟩]

/-- Rows of the object tables, part 16. -/
def dict16 : List DRow := [
  ⟨0x3000, 0x3000, 0x03, 0x03, .u8, .ro, 0x4, 0, 255, .all⟩,
  ⟨0x3000, 0x3000, 0x04, 0x04, .u8, .const, 0x6, 0, 255, .all⟩,
  ⟨0x3000, 0x3000, 0x05, 0x05, .u8, .ro, 0x8, 0, 255, .all⟩,
  ⟨0x3000, 0x3000, 0x06, 0x06, .u8, .const, 0x10, 0, 255, .all⟩,
  ⟨0x3000, 0x3000, 0x07, 0x07, .u8, .rw, 0x0, 0, 1, .all⟩,
  ⟨0x3000, 0x3000, 0x08, 0x08, .u8, .ro, 0x0, 0, 255, .all⟩,
  ⟨0x3000, 0x3000, 0x09, 0x09, .u8, .ro, 0x0, 0, 255, .all⟩,
  ⟨0x3000, 0x3000, 0x0A, 0x0A, .u8, .rw, 0x0, 0, 3, .all⟩,
  ⟨0x3000, 0x3000, 0x0B, 0x0B, .u16, .rw, 0xA28, 1000, 2600, .all⟩,
  ⟨0x3000, 0x3000, 0x0C, 0x0C, .f32, .ro, 0x0, 0, 4294967295, .all⟩,
  ⟨0x3000, 0x3000, 0x0D, 0x0D, .f32, .ro, 0x0, 0, 4294967295, .all⟩,
  ⟨0x3000, 0x3000, 0x0E, 0x0E, .f32, .ro, 0x0, 0, 4294967295, .all⟩,
  ⟨0x3000, 0x3000, 0x0F, 0x0F, .f32, .ro, 0x0, 0, 4294967295, .all⟩,
  ⟨0x3000, 0x3000, 0x10, 0x10, .f32, .ro, 0x0, 0, 4294967295, .all⟩,
  ⟨0x3000, 0x3000, 0x11, 0x11, .f32, .ro, 0x0, 0, 4294967295, .all⟩,
  ⟨0x3000, 0x3000, 0x12, 0x12, .f32, .ro, 0x0, 0, 4294967295, .all⟩,
  ⟨0x3000, 0x3000, 0x13, 0x13, .f32, .ro, 0x0, 0, 4294967295, .all⟩,
  ⟨0x3000, 0x3000, 0x14, 0x14, .f32, .ro, 0x0, 0, 4294967295, .all⟩,
  ⟨0x3000, 0x3000, 0x15, 0x15, .f32, .ro, 0x0, 0, 4294967295, .all⟩,
  ⟨0x3000, 0x3000, 0x16, 0x16, .bool, .ro, 0x0, 0, 1, .all⟩,
  ⟨0x3000, 0x3000, 0x17, 0x17, .bool, .ro, 0x0, 0, 1, .all⟩,
  ⟨0x3000, 0x3000, 0x18, 0x18, .u64, .rwc, 0x0, 0, 18446744073709551615, .all⟩,
  ⟨0x3000, 0x3000, 0x19, 0x19, .bool, .ro, 0x1, 0, 1, .all⟩]

/-- Every row of the object tables, in ascending index. -/
def dictRows : List DRow :=
  dict0 ++
  dict1 ++
  dict2 ++
  dict3 ++
  dict4 ++
  dict5 ++
  dict6 ++
  dict7 ++
  dict8 ++
  dict9 ++
  dict10 ++
  dict11 ++
  dict12 ++
  dict13 ++
  dict14 ++
  dict15 ++
  dict16

/-- The row of the entry of index `idx` and subindex `sub`, if it is defined. -/
def dictRow (idx sub : Nat) : Option DRow :=
  dictRows.find? (fun r => r.il ≤ idx && idx ≤ r.ih && r.sl ≤ sub && sub ≤ r.sh)

/-- The defaults of the array entries that differ from entry to entry: class bindings of Q15 (R299), ranks (R293),
port modes of the ring ports (R367). -/
def arrayDefault (k : Nat) : Option Nat :=
  if k = K.classPartitions + 15 then some 0xFFFFFFFFFFFFFFFF
  else if 0xA10 ≤ k / 256 && k / 256 ≤ 0xA15 && 1 ≤ k % 256 && k % 256 ≤ 16 then some (16 - k % 256)
  else if 0xA20 ≤ k / 256 && k / 256 ≤ 0xA25 && 1 ≤ k % 256 && k % 256 ≤ 16 then some (16 - k % 256)
  else if k = K.portMode + 22 || k = K.portMode + 23 then some 1
  else none

/-- The value of the entry of key `k` after a fundamental reset (R429). -/
def dictDefault (k : Nat) : Nat :=
  match arrayDefault k with
  | some v => v
  | none => match dictRow (k / 256) (k % 256) with
    | some r => r.dflt
    | none => 0

/-- The length in bytes of a value of a type, or the longest. -/
def Ty.len : Ty → Nat
  | .bool => 1 | .u8 => 1 | .u16 => 2 | .u32 => 4 | .u64 => 8 | .f32 => 4
  | .fixed n => n | .octets n => n | .vstr n => n

end Sys2Proof.Machine
end

