-- ==== Sys2Proof/Machine/State.lean ====
section
/-! DEFINITION. The state of the block: everything the manual gives the device, as plain data, and the state right
after a fundamental reset with the main rails down (R435, R453). Memory is addressed by partition and partition
offset, because the home of a page moves under the device's control while its contents stay (R28, R62). -/

namespace Sys2Proof.Machine

/-- No command stops the block with a fault: the manual answers every access with a status, so this type has no
constructor and nothing raises it. -/
inductive Fault where
deriving DecidableEq, Repr

/-- The reasons for which a command has no meaning. -/
inductive Refusal where
  /-- Raised by Dispatch for a row whose meaning has not been written. Safe: nothing is claimed of such a row. -/
  | notModelled (mnemonic : String)
deriving DecidableEq, Repr

/-! ## Memory, page map, objects -/

/-- Tiers, in the encoding order of Table 02.3. -/
inductive Tier where
  | t1 | t2 | t3 | th
deriving DecidableEq, Repr

/-- The home of a page: TIER, FRAME and STAGED of Table 02.3. -/
structure Home where
  tier : Tier
  frame : Nat
  staged : Bool
deriving DecidableEq, Repr

/-- The STATE field of Table 02.3. -/
inductive PState where
  | resident | migrating | promoting
deriving DecidableEq, Repr

/-- A page map entry (R33) with the valid vector of its page, one bit a block (R38). VALIDITY is NONE when `home` is
none, ALL when every bit of `valid` is set and PARTIAL otherwise; CACHED is read off the directory; `epoch` is the whole
number of the epoch of the last access, of which the entry shows the low 16 bits; `fl` says that the page holds one of its
object's committed floor frames (R49), `ovf` that it left TH for an unreserved T3 frame and stays charged to the TH limit
(R67). -/
structure Page where
  home : Option Home
  valid : Nat
  st : PState
  poison : Bool
  heat : Nat
  epoch : Nat
  vslot : Option Nat
  fl : Bool
  ovf : Bool
deriving DecidableEq, Repr

/-- An entry as it stands when its extent enters an object (R33). -/
def Page.none : Page := ⟨Option.none, 0, .resident, false, 0, 0, Option.none, false, false⟩

/-- A block metadata word, Table 03.5. -/
structure Meta where
  sectors : Nat
  raw : Bool
  codec : Nat
  poison : Bool
deriving DecidableEq, Repr

/-- The reset value of a metadata word (Table 03.5). -/
def Meta.zero : Meta := ⟨8, false, 0, false⟩

/-- A DELTA_SEAL under way or waiting for its turn (R104), with its place in command order; `clean` says that no block of the object
was poisoned when it started, so that its first pass meets none. -/
structure Seal where
  ord : Nat
  h : Adm
  fmt : Nat
  mode : Nat
  sectors : Nat
  base : Nat
  started : Bool
  clean : Bool
deriving DecidableEq, Repr

/-- The canonical code lengths of one extent of a delta store (R103): high bytes, then low bytes. -/
structure Codes where
  hi : List Nat
  lo : List Nat
deriving DecidableEq, Repr

/-- An object, window or alias (R43, R81, R127): its run of extents, commitment, placement descriptor as written and
as normalised, view record, sharing state, and the commands that still act on it. -/
structure Obj where
  ext : Nat
  n : Nat
  k : Nat
  wdesc : Nat
  desc : Nat
  kind : Nat
  fmt : Nat
  stoch : Bool
  declMode : Nat
  declSectors : Nat
  scalePage : Nat
  backing : Nat
  base : Nat
  exported : Option Bool
  aliasOf : Option (Nat × Nat)
  aliasRw : Bool
  stops : Nat
  fellBack : Bool
  sealing : Option Seal
  codes : List (Nat × Codes)
  viewTo : Option (Nat × Nat × Adm)
  placing : Option Adm
  accessed : Bool
  causes : Nat
deriving DecidableEq, Repr

/-- Why a page moves (R61): the class to charge follows from it. -/
inductive MigWhy where
  | demand
  | program
  | place
  | view
  | lend (i : Nat)
  | retire
  | staging
  | shared
  | lost
deriving DecidableEq, Repr

/-- A migration in progress (R62): destination, second hop of a T3 to T1 move (R59), class charged, cause,
whether it takes an unreserved T3 frame (R67), and for a page that goes to or comes from a lender the lines (0 to 1,023)
below which the copy is done. -/
structure Mig where
  dst : Home
  hop : Option Nat
  cls : Nat
  why : MigWhy
  spare : Bool
  next : Nat
deriving DecidableEq, Repr

/-- A move into T3 that waits for room in write staging (R59). -/
structure WaitMove where
  page : Nat
  cls : Nat
  why : MigWhy
deriving DecidableEq, Repr

/-- What a write of the device itself into device memory is for: a completion of the channel of a handle (R198), a notify write of the
synchronisation object of a handle (R206), the buffer of an OBJ_QUERY (R184), or the poison that stands for write data that failed their
check (R373). -/
inductive DevUse where
  | cqe (handle : Nat)
  | notify (handle : Nat)
  | query (h : Adm)
  | poison
deriving DecidableEq, Repr

/-- What a host asks of a line or, through BAR2, of a run of bytes (R136); `devWrite` is a write by the device itself, which meets
the directory as a channel write, and `recallData` the data with which a slot answered a recall, on their way to memory. -/
inductive HKind where
  | rdShared | rdOwn | rdUncached | wrUncached | wrBack | evict | barRead | barWrite
  | devWrite (u : DevUse)
  | recallData (slot : Nat)
deriving DecidableEq, Repr

/-- A host request on its way through the device: what it asks, as it arrived, for BAR2 the function, the length of a
read, for a write its bytes with one mask bit a byte, and the class fixed when it was issued (R277). -/
structure HostReq where
  kind : HKind
  q : HReq
  fn : FnId
  len : Nat
  mask : Nat
  data : List Byte
  med : Med
  cls : Nat
deriving DecidableEq, Repr

/-- What holds a request back: a line under recall, a directory way whose victim (by its key) is under recall, a page lock or promotion, a class cap, the mirror log, a locked
sequence at its arbiter, a repair from the partner, or reads of lent memory. -/
inductive HoldWhy where
  | line | page | cls | mirror | lock | repair | th
  | way (victim : Nat)
deriving DecidableEq, Repr

/-- A held request, kept in arrival order. -/
structure Held where
  why : HoldWhy
  r : HostReq
deriving DecidableEq, Repr

/-- What a job that takes objects away is for: OBJ_DESTROY, SHARE_WITHDRAW, a partition reset. -/
inductive ClrKind where
  | destroy | withdraw | reset
deriving DecidableEq, Repr

/-- A destruction under way (R40, R47, R127, R312): the object, its run of extents, whether it is gone already, the extents
whose valid bits are still to be cleared, and the command to complete. -/
structure Clear where
  kind : ClrKind
  part : Nat
  num : Nat
  ext : Nat
  n : Nat
  gone : Bool
  left : Nat
  h : Option Adm
deriving DecidableEq, Repr

/-- The share of the metadata reserve that the loss of a DDR channel moved (R396): the channels lost by then (a mask), the
first T2 frame, the frames taken from there on over the channels left, and how many of them, the last ones, are staging pool
frames. -/
structure Share where
  lost : Nat
  start : Nat
  len : Nat
  stag : Nat
deriving DecidableEq, Repr

/-- Memory and placement state. `cells` holds the bytes of every partition's range that are not zero, keyed by
partition * 2^48 + offset; `blocks` the metadata of stored blocks, keyed by partition * 2^40 + block; `pages` the page
map, keyed by partition * 2^32 + page; `objs` the objects, keyed by partition * 2^16 + number. `pmapC` holds the page map cache
of each I/O tile (R35) and `metaC` the pages of each engine's metadata cache, the most recently used first (R88); `thGot` the
lines that a lender has returned for accesses that still wait, by the waiting channel (0 for a host) and line; `shares` the
moved shares of the metadata reserve; `t2Repl` the staging frames that stand in for retired T2 frames (R75); `progData` the
private data of a program slot on a core, keyed by slot * 8 + core (R51). -/
structure Mm where
  cells : List Host.Cell
  blocks : List (Nat × Meta)
  pages : List (Nat × Page)
  objs : List (Nat × Obj)
  migs : List (Nat × Mig)
  waits : List WaitMove
  wantPromo : List (Nat × Nat)
  staged : List Nat
  held : List Held
  rot1 : Nat
  rot2 : Nat
  rotS : Nat
  deadhead : List Nat
  epoch : Nat
  progs : List (Nat × List Byte)
  flashRetired : List (Nat × Nat)
  shareOn : Bool
  shareEnabling : Bool
  clearing : List Clear
  pmapC : List (Nat × List Nat)
  metaC : List (Nat × List Nat)
  thGot : List (Nat × Nat)
  shares : List Share
  t2Repl : List (Nat × Nat)
  progData : List (Nat × List Byte)
deriving DecidableEq, Repr

/-! ## Directory and grants -/

/-- STATE of a directory entry, Table 04.5. -/
inductive DirSt where
  | s | o | rs | ro | orph
deriving DecidableEq, Repr

/-- A directory entry, Table 04.5, with the order in which it was allocated or orphaned (R142), and whether its own copy in
memory was lost, so that only data make the line safe again (R384). -/
structure DirE where
  st : DirSt
  vec : Nat
  window : Nat
  coarse : Bool
  ord : Nat
  shareEnd : Bool
  bad : Bool
deriving DecidableEq, Repr

/-- A recall that a host has not answered: its TAG, slot, line (partition and line number) and kind (R138). -/
structure Recall where
  tag : Nat
  slot : Nat
  port : Nat
  line : Nat
  share : Bool
deriving DecidableEq, Repr

/-- A grant record (R129). `drain` names the revoke that drains it. -/
structure Grant where
  slot : Nat
  part : Nat
  first : Nat
  count : Nat
  rw : Bool
  drain : Option Nat
deriving DecidableEq, Repr

/-- How far a revoke has come in Table 04.4: waiting for requests past the check; recalling; recalling while the CXL host
has already released the run; waiting for a CXL host. -/
inductive RevSt where
  | v2 | v4 | v4r | v5
deriving DecidableEq, Repr

/-- A REVOKE in progress (R130). `hs` are the commands that its end completes. -/
structure Revoke where
  id : Nat
  hs : List Adm
  slot : Nat
  part : Nat
  first : Nat
  count : Nat
  st : RevSt
deriving DecidableEq, Repr

/-- Coherence and sharing state: the directory keyed by partition * 2^42 + line, the recalls outstanding, tags of
recalls whose lines were orphaned meanwhile, the grant records, and the revokes in progress. -/
structure Coh where
  dir : List (Nat × DirE)
  ord : Nat
  recalls : List Recall
  lateTags : List (Nat × Nat)
  nextTag : Nat
  grants : List Grant
  revokes : List Revoke
  nextOp : Nat
deriving DecidableEq, Repr

/-! ## Channels and synchronisation objects -/

/-- How far a fetched descriptor has come: held in its wait or behind an earlier one, running, or finished. -/
inductive DPhase where
  | held | running | done
deriving DecidableEq, Repr

/-- A fetched descriptor (R196): its fields, the class and policy it was fetched under (R191), its number in its
channel, its phase, the outcome so far, and how far each stage of a customer pipeline has passed it. -/
structure Dsc where
  seq : Nat
  op : Nat
  flags : Nat
  tag : Nat
  waitH : Nat
  waitV : Nat
  sigH : Nat
  deadline : Nat
  sigAdd : Nat
  args : List Byte
  cls : Nat
  policy : Nat
  ph : DPhase
  status : Nat
  detail : Nat
  result : Nat
  failed : Nat
  overrun : Bool
  fallback : Nat
  late : Bool
  missed : Bool
  step : Nat
  passed : List (Nat × Nat)
  dones : List (Nat × Nat × Nat)
deriving DecidableEq, Repr

/-- An event entry (R319) without its phase. -/
structure Ev where
  typ : Nat
  status : Nat
  detail : Nat
  aux : Nat
  data : Nat
deriving DecidableEq, Repr

/-- Channel states, Table 06.6. -/
inductive ChSt where
  | active | halted | ending
deriving DecidableEq, Repr

/-- A completion that is ready and not yet written (R198): its fields but for slot, phase and SQ_HEAD, which it gets when it is
written, and its class (R277). -/
structure Cqe where
  tag : Nat
  status : Nat
  detail : Nat
  result : Nat
  cls : Nat
deriving DecidableEq, Repr

/-- A channel context (R185, R187). `cqes` holds the completions not yet written, oldest first, and `cqBusy` says that the write of
the first is under way; `haltEv` is the event of a halt that still writes its completions; `ends` holds the CH_RESET (false) and
CH_DESTROY (true) commands that complete after them (R188, R190). -/
structure Chan where
  recipe : Nat
  cls : Nat
  policy : Nat
  sqLog2 : Nat
  cqLog2 : Nat
  loc : Nat
  sqAddr : Nat
  cqAddr : Nat
  sqEp : Nat
  cqEp : Nat
  inflight : Nat
  cqEvent : Bool
  args : Nat
  port : Nat
  st : ChSt
  sqHead : Nat
  sqTail : Nat
  cqTail : Nat
  cqHead : Nat
  phase : Bool
  fetched : List Dsc
  nextSeq : Nat
  lastHalt : Nat
  logical : List Nat
  stages : List (List Nat)
  newPort : Option (Nat × Adm)
  restart : Option (Adm × Bool)
  cqes : List Cqe
  cqBusy : Bool
  haltEv : Option Ev
  ends : List (Bool × Adm)
deriving DecidableEq, Repr

/-- A synchronisation object (R203, R206). -/
structure SyncObj where
  value : Nat
  loc : Nat
  addr : Nat
  ep : Nat
  fn : FnId
  arm : Option Nat
deriving DecidableEq, Repr

/-- An index space of a partition (R177): the next index never issued, those above it that a takeover has claimed out of turn (R419), the
freed ones in order, the generations. -/
structure IdxSpace where
  fresh : Nat
  skip : List Nat
  freed : List Nat
  gens : List (Nat × Nat)
deriving DecidableEq, Repr

/-- Channel and synchronisation state, keyed by partition * 2^14 + index. `wrote` holds the device's own writes into device memory that
have ended, with whether they were carried out, until what they were for takes note. -/
structure Chs where
  chans : List (Nat × Chan)
  chSpace : List (Nat × IdxSpace)
  syncs : List (Nat × SyncObj)
  syncSpace : List (Nat × IdxSpace)
  wrote : List (DevUse × Bool)
deriving DecidableEq, Repr

/-! ## Clusters -/

/-- Cluster states, Table 05.8. -/
inductive ClSt where
  | active | bud | takeover | testing | duplicating | retired
deriving DecidableEq, Repr

/-- An outstanding stream operation (R262): kind 0 load, 1 store, 2 accumulate; the SRAM and memory ranges, the data of
a store, the descriptor it is attributed to, and the bytes of a store whose beats have been granted (R296). -/
structure StreamOp where
  id : Nat
  kind : Nat
  space : Nat
  mem : Nat
  sram : Nat
  len : Nat
  data : List Byte
  desc : Option Nat
  ep : Nat
  sent : Nat
deriving DecidableEq, Repr

/-- A buffer in an input queue (R264): feeding stage, buffer position, length, sender's tag, sender, whether popped. -/
structure QBuf where
  stage : Nat
  pos : Nat
  len : Nat
  tag : Nat
  popped : Bool
deriving DecidableEq, Repr

/-- The state that a stage program sees on one cluster (R250), and the role of the cluster (R169). Vector registers,
stationary slabs and accumulator tiles are listed when they are not zero: `v` by register, `stat` and `tags` by array,
`acc` by array * 8 + tile. `chan` is the key of the channel whose stage is placed, `stage` and `rank` its place; `rot` holds the rotation of each
SPLIT queue that it feeds (R264); `sinceDup` counts the steps since the last clean window, on a Bud those of its window. -/
structure Clu where
  st : ClSt
  logical : Option Nat
  chan : Option Nat
  stage : Nat
  rank : Nat
  prog : List Nat
  sramLimit : Nat
  feeders : List Nat
  pc : Nat
  x : List (Nat × W64)
  v : List (Nat × List W32)
  stat : List (Nat × List Byte)
  tags : List (Nat × Nat)
  acc : List (Nat × List W32)
  sram : List (Nat × Byte)
  steps : Nat
  insns : Nat
  cur : Option Nat
  streams : List StreamOp
  nextOp : Nat
  queue : List QBuf
  rot : List (Nat × Nat)
  sinceDup : Nat
  lastClean : Nat
  window : Option Nat
  dupOf : Option Nat
  iftDue : Bool
  iftForce : Bool
  inPlace : Bool
  tookFrom : Option Nat
  ceWords : List Nat
  hardWords : List Nat
  ueRecent : Bool
  ceTest : Bool
  paused : Bool
deriving DecidableEq, Repr

/-! ## Functions, ports and requests of the device -/

/-- The admin queues of a function (R180): their registers and indexes, the identifiers of the commands fetched and not
completed, and of those whose completions the disabling of the queue discards (R181); `runs` counts its enables and disables, so that
a command is known for one of an earlier enable. -/
structure AdmQ where
  asqBase : Nat
  acqBase : Nat
  asqLog2 : Nat
  acqLog2 : Nat
  enable : Bool
  ready : Bool
  sizeErr : Bool
  accFail : Bool
  asqTail : Nat
  asqHead : Nat
  acqTail : Nat
  acqHead : Nat
  acqPhase : Bool
  live : List Nat
  old : List Nat
  runs : Nat
deriving DecidableEq, Repr

/-- The event queue of a function (R318, R322). -/
structure EvQ where
  base : Nat
  log2 : Nat
  enable : Bool
  ready : Bool
  sizeErr : Bool
  accFail : Bool
  overflow : Bool
  tail : Nat
  ack : Nat
  phase : Bool
  held : List Ev
  lost : Nat
deriving DecidableEq, Repr

/-- The mailbox registers of a function (Table 14.12). -/
structure Mbox where
  cmd : Nat
  status : Nat
  index : Nat
  sub : Nat
  offset : Nat
  count : Nat
  entryLen : Nat
  data : List Byte
deriving DecidableEq, Repr

/-- The registers of one PCI function (R332, R338, R307): the Command and Status registers, Cache Line Size, Interrupt
Line, base addresses, PowerState, Device Control and Device Control 2, AER status, mask and severity, the BAR2 size
and presence in effect (R340), its queues, its mailbox, the state of its emulated wire, whether it recovers from a
reset with the DETAIL and the channels destroyed of its FUNCTION_RESET event (R313), and the expansion ROM address. -/
structure Fn where
  command : Nat
  status : Nat
  cacheLine : Nat
  intLine : Nat
  bar0 : Nat
  bar2 : Nat
  rom : Nat
  d3 : Bool
  devCtl : Nat
  devCtl2 : Nat
  devStat : Nat
  aerUnc : Nat
  aerUncMask : Nat
  aerUncSev : Nat
  aerCor : Nat
  aerCorMask : Nat
  bar2On : Bool
  bar2Log2 : Nat
  ublOffer : Bool
  wire : Bool
  recovering : Bool
  resetWhy : Nat
  killed : Nat
  aq : AdmQ
  eq : EvQ
  mb : Mbox
deriving DecidableEq, Repr

/-- What a link runs (R328, Table 11.20). -/
inductive PMode where
  | none | native | cxl | pcie | ring
deriving DecidableEq, Repr

/-- LINK of Table 11.20. -/
inductive LinkSt where
  | down | training | l0 | recovery | disabled
deriving DecidableEq, Repr

/-- One event record of a CXL log (R355): Add, Release or Forced Release of a run of extents. -/
structure DcRec where
  handle : Nat
  typ : Nat
  first : Nat
  count : Nat
  rw : Bool
  done : List Adm
deriving DecidableEq, Repr

/-- One link port: mode and link state, trained speed and width, UBL features and minor version, functions presented
(R305), the partition CXL.mem is served for (R353), failed trainings of a ring port since the crosspoint opened
(R360), the dynamic capacity log, records that wait for room in it, and the next record handle. -/
structure Port where
  mode : PMode
  link : LinkSt
  speed : Nat
  width : Nat
  feats : Nat
  minor : Nat
  cxlPart : Option Nat
  fails : Nat
  dcLog : List DcRec
  dcWait : List DcRec
  dcHandle : Nat
deriving DecidableEq, Repr

/-- What a non-posted request of the device was issued for (R345). -/
inductive TagUse where
  | descFetch (chan : Nat)
  | cqWrite (chan : Nat)
  | stream (cluster op : Nat)
  | chanData (chan : Nat)
  | notify (sync : Nat)
  | adminQ (fn : FnId)
  | eventQ (fn : FnId)
  | th (lend : Nat)
  /-- A line of lent memory read for a waiting access of a channel key + 1, or of a host (0). -/
  | thLine (lend who line : Nat)
  /-- A line of a page read from or written to a lender by its migration (R62). -/
  | thCopy (lend page : Nat)
  /-- A read whose data nothing takes any more (R314). -/
  | gone
deriving DecidableEq, Repr

/-- An outstanding or quarantined non-posted request of the device (R315, R345). -/
structure OutTag where
  tag : Nat
  fn : Option FnId
  port : Nat
  ubl : Bool
  use : TagUse
  quarantined : Bool
deriving DecidableEq, Repr

/-- How a sequence stands: it holds its arbiters; its further beats are unlocked writes (R296, R298); or they are unlocked writes that
complete with LOCK_BROKEN (Table 09.8). -/
inductive LockSt where
  | held | open_ | fail
deriving DecidableEq, Repr

/-- A locked sequence in progress (R296, R297): its owner (port, source endpoint, DST and LOCK_ID of a host; cluster and stream
operation of a stage, with `host` false), the partition and the aligned 4 KiB range of its beats in it, the beats so far, the pages at
whose arbiters it holds the lock and the blocks that its beats wrote, both in the partition `bpart` (the owner's, where the range is an alias's). -/
structure Lock where
  id : Nat
  host : Bool
  port : Nat
  src : Nat
  dst : Nat
  lockId : Nat
  part : Nat
  range : Nat
  beats : Nat
  bpart : Nat
  pages : List Nat
  blocks : List Nat
  st : LockSt
deriving DecidableEq, Repr

/-- A cartridge bay (R362, R368): CART_STATE, the two registers, the seated cartridge, an accepted press, whether its
codewords are missing, whether the attention indicator blinks for a refused press, and whether a seated cartridge
still settles. -/
structure Bay where
  cart : Nat
  ctrl : Nat
  status : Nat
  serial : List Byte
  fw : List Byte
  pressed : Bool
  missing : Bool
  blinking : Bool
  settling : Bool
  /-- The media key under which the cartridge encrypts what it stores, by its draw; none without power (R471). -/
  media : Option Nat
deriving DecidableEq, Repr

/-! ## Bandwidth -/

/-- The meters of the four metered resources (R285): credit and bytes used, keyed by resource * 16 + class, the factor
in effect as numerator and denominator, whether free erased flash runs short (R70), the locks in progress, the
round-robin pointer of each memory arbiter and its decisions since it last granted a rank-0 request while one waited (R288, R292), keyed by group * 64
+ arbiter, and the channel work, moves and seals counted as held since the last refill (R287): kind (0, 1, 2), key and class. -/
structure Bw where
  credit : List (Nat × Int)
  used : List (Nat × Nat)
  num : List (Nat × Nat)
  den : List (Nat × Nat)
  eff : List (Nat × Nat)
  flashLow : Bool
  locks : List Lock
  nextLock : Nat
  rr : List (Nat × Nat)
  floorCnt : List (Nat × Nat)
  heldNow : List (Nat × Nat × Nat)
deriving DecidableEq, Repr

/-! ## Errors -/

/-- A signature record (R397 to R399): the fields of the Tvedxon section and the severity. -/
structure Sig where
  cls : Nat
  severity : Nat
  response : Nat
  status : Nat
  detect : Nat
  seq : Nat
  unitType : Nat
  unit : Nat
  part : Nat
  tier : Nat
  channel : Nat
  offset : Nat
  frame : Nat
  syndrome : Nat
  count : Nat
  stepFirst : Nat
  stepLast : Nat
deriving DecidableEq, Repr

/-- Error bookkeeping: the signature log and its SPI NOR part, the next SEQ, the Deadhead entries (R387), the
recommendation list (R379), the devices and rows of the DRAM corrections of the scrub period (R378), lost stacks and DDR
channels, units that mismatched in the last 24 h (R375), the DRAM devices classed failed, corrected and uncorrectable counts
by tier, the remaining life of cartridges that have left their bays, by serial number (R71), the MRDIMM slots with a DRAM device
classed failed, one bit each (R488), the last 65,536 distinct corrected words by tier, frame and word with whether each is
classed as hard (R378). -/
structure Er where
  log : List Sig
  nor : List Sig
  nextSeq : Nat
  deadhead : List Nat
  recommend : List Nat
  rows : List (DramDev × Nat)
  stacksLost : Nat
  ddrLost : Nat
  suspects : List Nat
  devFailed : List DramDev
  ce : List (Nat × Nat)
  ue : List (Nat × Nat)
  wears : List (List Byte × Nat)
  slotsFailed : Nat
  words : List (Nat × Nat × Nat × Bool)
deriving DecidableEq, Repr

/-! ## The mirrored pair -/

/-- Pair states, Table 13.2. -/
inductive PairSt where
  | unpaired | forming | syncing | mirrored | partnerLost | solo | fenced
deriving DecidableEq, Repr

/-- The number of a pair state (Table 13.2). -/
def PairSt.code : PairSt → Nat
  | .unpaired => 0 | .forming => 1 | .syncing => 2 | .mirrored => 3 | .partnerLost => 4 | .solo => 5 | .fenced => 6

/-- A frame sent and kept (R413): for a LOG frame its number among the LOG frames, the port and SEQ, and what it carries.
LOG frames are kept until they are acknowledged. -/
structure TxFrame where
  id : Nat
  port : Nat
  seq : Nat
  op : Nat
  recs : List LogRec
  payload : List Byte
  raw : Bool
deriving DecidableEq, Repr

/-- A command on a mirrored object that waits for the partner (R411). -/
structure MirCmd where
  seq : Nat
  h : Adm
  cmd : ObjCmd
deriving DecidableEq, Repr

/-- A mirrored write that waits for the partner's LOG_ACK (R408): the frame that carries it, the blocks, and the answer,
descriptor or command that waits. -/
structure MirHold where
  seq : Nat
  part : Nat
  blks : List Nat
  answer : Option HostReq
  chan : Option (Nat × Nat)
  adm : Option Adm
deriving DecidableEq, Repr

/-- Pair state (R407 to R423): the state, the lease; whether heartbeats arrive from the east and the west port, how many
timer ticks ago the last one did, and the last one; whether the pair has formed (R407); the dirty pages as runs, the pages copied; the frames sent and kept, the
number of the next LOG frame, the next SEQ of each direction sent and received; held commands and writes; a handover under
way, a change of log format under way; what the log brought for a takeover; the modules heard; the blocks asked for from the
partner. -/
structure Pr where
  st : PairSt
  lease : Bool
  solo : Bool
  seenEast : Bool
  seenWest : Bool
  ageEast : Nat
  ageWest : Nat
  hb : Option HbBody
  joined : Bool
  dirty : List (Nat × Nat)
  copied : Nat
  tx : List TxFrame
  txSeq : Nat
  seqEast : Nat
  seqWest : Nat
  rxEast : Nat
  rxWest : Nat
  cmds : List MirCmd
  holds : List MirHold
  handing : Option Nat
  switching : Bool
  chans : List (Nat × ChanCtx)
  dirs : List (Nat × DirE)
  grants : List Grant
  slots : List (Nat × Nat)
  heard : List Nat
  repairs : List (Nat × Nat)
deriving DecidableEq, Repr

/-! ## Management -/

/-- A segmented transfer open in a session (R443). -/
structure SegXfer where
  idx : Nat
  sub : Nat
  total : Nat
  got : List Byte
deriving DecidableEq, Repr

/-- A notification queued in a session (R444): its SEQ, INDEX, SUB, CLASS with the lost mark, DATA, times sent. -/
structure Ntf where
  seq : Nat
  idx : Nat
  sub : Nat
  cls : Nat
  data : Nat
  sends : Nat
deriving DecidableEq, Repr

/-- An answer of the dictionary service: the result code and the payload (Table 14.4, Table 14.7). -/
structure Answer where
  code : Nat
  payload : List Byte
deriving DecidableEq, Repr

/-- An Enwary session (R439 to R444): transport, role, credential slot, whether AUTH has completed, the last SEQ
executed with its kept response, the read snapshot, the open segmented transfer, the classes subscribed, the
notifications unacknowledged, the next notification SEQ, and whether one was dropped. -/
structure Session where
  num : Nat
  tr : Transport
  fabric : Bool
  slot : Nat
  isOpen : Bool
  lastSeq : Nat
  lastAns : Answer
  snap : Option (Nat × Nat × List Byte)
  seg : Option SegXfer
  mask : Nat
  queue : List Ntf
  nextNtf : Nat
  dropped : Bool
deriving DecidableEq, Repr

/-- Management state of Larkspur: sessions, next session number, whether a network change waits, the I3C dynamic address,
PLDM TID and event receiver, SPDM progress (0 none, 1 version, 2 capabilities, 3 algorithms), whether Larkspur restarts,
and the network entries in force (R451). -/
structure Mg where
  sessions : List Session
  nextSess : Nat
  netPending : Bool
  netMode : Nat
  netStatic : Nat
  netIpv6 : Bool
  netPort : Nat
  netEnable : Bool
  i3cAddr : Nat
  tid : Nat
  receiver : Option Nat
  spdm : Nat
  restarting : Bool
deriving DecidableEq, Repr

/-! ## Start-up, security and power -/

/-- Slot states (R456, Table 15.7). -/
inductive SlotSt where
  | empty | valid | pending | trial | failedTrial | invalid
deriving DecidableEq, Repr

/-- An image slot: state, VERSION and SVN of its image, the image bytes as runs (offset, bytes), its declared length. -/
structure Slot where
  st : SlotSt
  version : Nat
  svn : Nat
  bytes : List Byte
  len : Nat
deriving DecidableEq, Repr

/-- An update or recovery under way: the target slot and length, and whether the erase is complete (R462, R465). -/
structure Upd where
  slot : Nat
  len : Nat
  erased : Bool
  off : Nat
deriving DecidableEq, Repr

/-- Who waits for the result of a write: the row that made it, a mailbox, a session under a SEQ. -/
inductive Asker where
  | row
  | mbox (fn : FnId)
  | sess (num seq : Nat)
deriving DecidableEq, Repr

/-- Start-up and security state: standby power, main rails, PERST#, the stage and slot of the start in progress, how the
prior start ended, the two slots, timers armed, the update and recovery registers, credential slots, the partner's key
material, the pair session, data keys by partition, enables that wait for a key, the entropy source, the number of the device
identity key, measurement 6, and the image that Larkspur runs by slot and VERSION (none: its mask ROM). -/
structure Su where
  standby : Bool
  mains : Bool
  perst : Bool
  modState : Nat
  stage : Nat
  runSlot : Nat
  snow : Bool
  priorFailed : Bool
  priorTrial : Bool
  ranBefore : Bool
  retry : Bool
  recRestart : Bool
  slotA : Slot
  slotB : Slot
  upd : Option Upd
  rcmd : Nat
  rarg0 : Nat
  rarg1 : Nat
  rresult : Nat
  rbuf : List (Nat × Byte)
  romOpen : Bool
  creds : List (Nat × List Byte)
  pairPeer : List Byte
  pairPoint : Nat
  keys : List (Nat × Nat)
  keyWaits : List (Nat × Asker)
  entropyBad : Bool
  idKey : Nat
  meas6 : List Byte
  lark : Option (Nat × Nat)
deriving DecidableEq, Repr

/-- Power and thermal state: sensor readings, the level that power demands and the windows below 95 % of the cap, the
thermal trip. -/
structure Pw where
  sens : List (Nat × SensorVal)
  demand : Nat
  lowWins : Nat
deriving DecidableEq, Repr

/-! ## What leaves the device -/

/-- A message, transaction or pin change that the device sends. -/
inductive Out where
  /-- A UBL message (Table 11.11): port, OPCODE, DST, SRC, OFFSET, TAG, POOL, NOCACHE, STATUS, payload. -/
  | ubl (port op dst src off tag pool : Nat) (nocache : Bool) (status : Nat) (payload : List Byte)
  /-- A CXL.mem answer: port, TAG, data, poison, whether caching rights are given. -/
  | cxl (port tag : Nat) (data : List Byte) (poison shared : Bool)
  /-- A CXL.mem write completion (Cmp). -/
  | cxlCmp (port tag : Nat)
  /-- A back-invalidate snoop: BISnpData (`share`) or BISnpInv, of a line of the CXL partition. -/
  | cxlSnp (port tag line : Nat) (share : Bool)
  /-- A BIConflict answer (R139). -/
  | cxlConflictAck (port tag : Nat)
  /-- A PCIe completion: function, TAG, status (0 success, 1 Unsupported Request, 2 Completer Abort), data, EP bit. -/
  | cpl (fn : FnId) (tag st : Nat) (data : List Byte) (ep : Bool)
  /-- A memory write to the host of a function. -/
  | hostWr (fn : FnId) (addr : Nat) (data : List Byte)
  /-- A memory read to the host of a function, with its TAG. -/
  | hostRd (fn : FnId) (addr len tag : Nat)
  /-- Assert_INTA or Deassert_INTA of a function. -/
  | intx (fn : FnId) (assert : Bool)
  /-- An AER message of a function: 0 correctable, 1 non-fatal, 2 fatal, with the error's status bit. -/
  | aer (fn : FnId) (sev bitNo : Nat)
  /-- A CXL mailbox result: port, command number, return code, output payload. -/
  | cxlMb (port cmd code : Nat) (payload : List Byte)
  /-- An answer to an Enwary request: session, SEQ, result, payload. -/
  | enwary (sess seq code : Nat) (payload : List Byte)
  /-- An answer to OPEN that opens no session, or CHALLENGE. -/
  | challenge (sess : Nat) (code nonce : Nat)
  /-- A NOTIFY to a session. -/
  | notify (sess : Nat) (n : Ntf)
  /-- A result of the dictionary to a write by a row of its own: result code. -/
  | result (code : Nat)
  /-- The end of a mailbox operation of a function: result code. -/
  | mbox (fn : FnId) (code : Nat)
  /-- An MCTP control, PLDM or SPDM answer: message type, command, completion code, payload. -/
  | mctp (typ cmd code : Nat) (payload : List Byte)
  /-- A PlatformEventMessage: sensor, event state, reading. -/
  | pldmEvent (eid sensor state : Nat) (reading : Nat)
  /-- A ring frame: port, OPCODE, DST, SRC, SEQ, log records, other payload, RAW. The records and the payload stand as they are
  before the link codec. -/
  | ring (port op dst src seq : Nat) (recs : List LogRec) (payload : List Byte) (raw : Bool)
  /-- A forwarded ring frame: the port it leaves by, its header. -/
  | forward (port : Nat) (f : RingHdr)
  /-- A start or end of link training or of electrical idle at a port. -/
  | train (port mode : Nat)
  /-- The state of a sideband pin: 0 power-good, 1 THERM_ALARM#, 2 bypass crosspoint. -/
  | pin (p : Nat) (b : Bool)
deriving DecidableEq, Repr

/-! ## The device -/

/-- Everything the manual gives the device, apart from the queue of commands that wait. `od` holds the entries of the
object dictionary of fixed size that differ from their defaults or were written, by key (R426); `fresh` counts the free
values drawn so far (the model's own); `out` is what the device has sent, oldest first (the model's own). -/
structure Dev where
  od : List (Nat × Nat)
  out : List Out
  fresh : Nat
  mm : Mm
  coh : Coh
  chs : Chs
  cl : List (Nat × Clu)
  lmap : List (Nat × Nat)
  progs : List (Nat × List Byte)
  pipes : List (Nat × List Byte)
  fns : List (Nat × Fn)
  ports : List (Nat × Port)
  tags : List OutTag
  nextTag : Nat
  bays : List (Nat × Bay)
  bw : Bw
  er : Er
  pr : Pr
  mg : Mg
  su : Su
  pw : Pw
deriving DecidableEq, Repr

/-- The state of the block: the device and the commands that wait, first in first out. -/
structure State where
  dev : Dev
  pending : List Instr
deriving DecidableEq, Repr

/-! ## The state after reset -/

/-- A function's admin queue registers at reset (Table 06.1). -/
def AdmQ.reset : AdmQ := ⟨0, 0, 0, 0, false, false, false, false, 0, 0, 0, 0, true, [], [], 0⟩

/-- A function's event queue registers at reset (Table 10.8). -/
def EvQ.reset : EvQ := ⟨0, 0, false, false, false, false, false, 0, 0, true, [], 0⟩

/-- A function's mailbox registers at reset (Table 14.12). -/
def Mbox.reset : Mbox := ⟨0, 0, 0, 0, 0, 0, 0, []⟩

/-- A function at reset (Table 11.4, R336, R340). The severities of AER are the defaults of Table 11.15; Device Control and the masks of
AER have the reset values of the PCI Express specification (PRESUMED, log entry 6). -/
def Fn.reset : Fn where
  command := 0
  status := 0x0010
  cacheLine := 0
  intLine := 0
  bar0 := 0x4
  bar2 := 0xC
  rom := 0
  d3 := false
  devCtl := 0x2810
  devCtl2 := 0
  devStat := 0
  aerUnc := 0
  aerUncMask := 0x00400000
  aerUncSev := 0x00062030
  aerCor := 0
  aerCorMask := 0x2000
  bar2On := false
  bar2Log2 := 30
  ublOffer := true
  wire := false
  recovering := false
  resetWhy := 0
  killed := 0
  aq := AdmQ.reset
  eq := EvQ.reset
  mb := Mbox.reset

/-- A port at reset: no link (Table 11.20). -/
def Port.reset : Port := ⟨.none, .down, 0, 0, 0, 0, none, 0, [], [], 1⟩

/-- A cluster at reset: no stage, no role yet (R150, R169). -/
def Clu.reset : Clu where
  st := .bud
  logical := none
  chan := none
  stage := 0
  rank := 0
  prog := []
  sramLimit := 0
  feeders := []
  pc := 0
  x := []
  v := []
  stat := []
  tags := []
  acc := []
  sram := []
  steps := 0
  insns := 0
  cur := none
  rot := []
  streams := []
  nextOp := 0
  queue := []
  sinceDup := 0
  lastClean := 0
  window := none
  dupOf := none
  iftDue := false
  iftForce := false
  inPlace := false
  tookFrom := none
  ceWords := []
  hardWords := []
  ueRecent := false
  ceTest := false
  paused := false

/-- A bay that holds a cartridge without power, with its registers at reset (R3, Table 11.17.A to C; the seated
cartridge and CART_STATE OFF are DESIGN CHOICES, log entry 6). -/
def Bay.reset (b : Nat) : Bay := ⟨5, 0x01CF, 0x0040, Config.cartSerial b, Config.cartFw b, false, false, false, false, none⟩

/-- Memory after a reset: every tier empty, no object (R30). -/
def Mm.reset : Mm where
  cells := []
  blocks := []
  pages := []
  objs := []
  migs := []
  waits := []
  wantPromo := []
  staged := []
  held := []
  rot1 := 0
  rot2 := 0
  rotS := 0
  deadhead := []
  epoch := 0
  progs := []
  flashRetired := []
  shareOn := false
  shareEnabling := false
  clearing := []
  pmapC := []
  metaC := []
  thGot := []
  shares := []
  t2Repl := []
  progData := []

/-- Coherence state after a reset: no entry, recall, grant or revoke. -/
def Coh.reset : Coh := ⟨[], 0, [], [], 0, [], [], 0⟩

/-- Channel state after a reset: no context; every index free in ascending order (R177). -/
def Chs.reset : Chs := ⟨[], [], [], [], []⟩

/-- Bandwidth state after a reset (R285, R292). -/
def Bw.reset : Bw := ⟨[], [], [], [], [], false, [], 0, [], [], []⟩

/-- Error bookkeeping of a new module. -/
def Er.reset : Er := ⟨[], [], 1, [], [], [], 0, 0, [], [], [], [], [], 0, []⟩

/-- Pair state after a reset: UNPAIRED, no lease (R407, R425). -/
def Pr.reset : Pr where
  st := .unpaired
  lease := false
  solo := false
  seenEast := false
  seenWest := false
  ageEast := 0
  ageWest := 0
  hb := none
  joined := false
  dirty := []
  copied := 0
  tx := []
  txSeq := 0
  seqEast := 0
  seqWest := 0
  rxEast := 0
  rxWest := 0
  cmds := []
  holds := []
  handing := none
  switching := false
  chans := []
  dirs := []
  grants := []
  slots := []
  heard := []
  repairs := []

/-- Management after standby power has come: no session, the network entries at their defaults (R451). -/
def Mg.reset : Mg := ⟨[], 1, false, 1, 0, true, 7412, true, 0, 0, none, 0, false⟩

/-- An empty image slot. -/
def Slot.reset : Slot := ⟨.empty, 0, 0, [], 0⟩

/-- Start-up state of a module on standby power with PERST# asserted and an image as delivered in slot A
(log entries 5 and 8). -/
def Su.reset : Su where
  standby := true
  mains := false
  perst := true
  modState := 0
  stage := 0
  runSlot := 0
  snow := false
  priorFailed := false
  priorTrial := false
  ranBefore := false
  retry := false
  recRestart := false
  slotA := ⟨.valid, Config.imageVersion, Config.imageSvn, Config.imageBytes, Config.imageBytes.length⟩
  slotB := Slot.reset
  upd := none
  rcmd := 0
  rarg0 := 0
  rarg1 := 0
  rresult := 0
  rbuf := []
  romOpen := false
  creds := []
  pairPeer := []
  pairPoint := 0
  keys := []
  keyWaits := []
  entropyBad := false
  idKey := 0
  meas6 := []
  lark := some (0, Config.imageVersion)

/-- Power state before any reading. -/
def Pw.reset : Pw := ⟨[], 0, 0⟩

/-- The device after a fundamental reset, on standby power with PERST# asserted: every entry of the dictionary at its
default, the bypass crosspoint closed, MODULE_STATE standby (R358, R429, R435, R453). -/
def Dev.reset : Dev where
  od := []
  out := []
  fresh := 0
  mm := Mm.reset
  coh := Coh.reset
  chs := Chs.reset
  cl := []
  lmap := []
  progs := []
  pipes := []
  fns := []
  ports := []
  tags := []
  nextTag := 0
  bays := (List.range 8).map (fun b => (b, Bay.reset b))
  bw := Bw.reset
  er := Er.reset
  pr := Pr.reset
  mg := Mg.reset
  su := Su.reset
  pw := Pw.reset

/-- The block right after reset: no command waits. -/
def State.reset : State := ⟨Dev.reset, []⟩

/-- The result of a command. -/
abbrev Res := Host.Outcome State Fault Refusal

end Sys2Proof.Machine
end

