-- ==== Sys2Proof/Machine/Ops.lean ====
section
/-! DEFINITION. The operations every family shares: dictionary entries, free draws, what the device sends, functions and
ports, management notifications, signature records, AER reports, and the posting of events with the emulated wire. -/

namespace Sys2Proof.Machine

/-- A command that ends in a next state. -/
def ok (s : State) (d : Dev) : Res := .next ⟨d, s.pending⟩

/-! ## Dictionary entries -/

/-- The value of the entry of key `k` (R426), its default when it was never written. -/
def Dev.rd (d : Dev) (k : Nat) : Nat :=
  match kfind k d.od with
  | some v => v
  | none => dictDefault k

/-- The device with the entry of key `k` at value `v`. -/
def Dev.wr (d : Dev) (k v : Nat) : Dev := { d with od := kput k v d.od }

/-- The width in bits of the entry of key `k`. -/
def dictBits (k : Nat) : Nat :=
  match dictRow (k / 256) (k % 256) with
  | some r => 8 * r.ty.len
  | none => 64

/-- A counter advanced by `n`; it wraps at its width (log entry 9). -/
def Dev.add (d : Dev) (k n : Nat) : Dev := d.wr k (wrapN (dictBits k) (d.rd k + n))

/-- A counter advanced by one. -/
def Dev.inc (d : Dev) (k : Nat) : Dev := d.add k 1

/-- A counter lowered by one, not below zero. -/
def Dev.dec (d : Dev) (k : Nat) : Dev := d.wr k (d.rd k - 1)

/-- Whether a BOOL entry is 1. -/
def Dev.flag (d : Dev) (k : Nat) : Bool := d.rd k == 1

/-! ## Free draws and output -/

/-- The next free number (log entry 3). -/
def Dev.free (d : Dev) : Nat := Config.free d.fresh

/-- The device after a free number was drawn. -/
def Dev.drawn (d : Dev) : Dev := { d with fresh := d.fresh + 1 }

/-- The device after it sent `o`. -/
def Dev.emit (d : Dev) (o : Out) : Dev := { d with out := d.out ++ [o] }

/-- The device after it sent each of a list. -/
def Dev.emits (d : Dev) (os : List Out) : Dev := { d with out := d.out ++ os }

/-- The answer of the dictionary to a write by a row of its own (R434). -/
def Dev.result (d : Dev) (code : Nat) : Dev := d.emit (.result code)

/-- Whether the module is in operational service (R453). -/
def Dev.operational (d : Dev) : Bool := d.su.modState == 2

/-! ## Functions and ports -/

/-- The key of a function. -/
def fnKey (f : FnId) : Nat := f.port * 64 + f.num

/-- The registers of a function. -/
def Dev.fn (d : Dev) (f : FnId) : Fn := kget Fn.reset (fnKey f) d.fns

/-- The device with the registers of a function changed. -/
def Dev.setFn (d : Dev) (f : FnId) (x : Fn) : Dev := { d with fns := kput (fnKey f) x d.fns }

/-- A port. -/
def Dev.port (d : Dev) (p : Nat) : Port := kget Port.reset p d.ports

/-- The device with a port changed. -/
def Dev.setPort (d : Dev) (p : Nat) (x : Port) : Dev := { d with ports := kput p x d.ports }

/-- A bay. -/
def Dev.bay (d : Dev) (b : Nat) : Bay := kget (Bay.reset b) b d.bays

/-- The device with a bay changed. -/
def Dev.setBay (d : Dev) (b : Nat) (x : Bay) : Dev := { d with bays := kput b x d.bays }

/-- A cluster. -/
def Dev.clu (d : Dev) (c : Nat) : Clu := kget Clu.reset c d.cl

/-- The device with a cluster changed. -/
def Dev.setClu (d : Dev) (c : Nat) (x : Clu) : Dev := { d with cl := kput c x d.cl }

/-- Whether the link of a port is up: in L0, or in a recovery or retraining, which ends in L0 without a DL_Down (R356). -/
def Dev.linkUp (d : Dev) (p : Nat) : Bool := (d.port p).link == .l0 || (d.port p).link == .recovery

/-- Whether partition `n` is enabled (R302). -/
def Dev.enabled (d : Dev) (n : Nat) : Bool := d.rd (K.ofPart K.enable n) == 1

/-- FENCE_CAUSES of a partition (R308). -/
def Dev.fenceCauses (d : Dev) (n : Nat) : Nat := d.rd (K.ofPart K.fenceCauses n)

/-- Whether a partition is fenced (R308). -/
def Dev.fenced (d : Dev) (n : Nat) : Bool := d.fenceCauses n != 0

/-- Whether port `p` presents the function of partition `n` (PORTS_ACTIVE, R305). -/
def Dev.presented (d : Dev) (p n : Nat) : Bool := bit (d.rd (K.ofPart K.portsActive n)) p

/-- Whether a function is the placeholder of R304: function 0 of a port to which P0 is not bound. -/
def Dev.placeholder (d : Dev) (f : FnId) : Bool := f.num == 0 && !d.presented f.port 0

/-- Whether a function exists: its partition is presented on the port, or it is the placeholder (R303, R304). -/
def Dev.fnExists (d : Dev) (f : FnId) : Bool := d.presented f.port f.num || f.num == 0

/-- Memory Space Enable in effect: the register bit, unless PowerState is D3hot (R335). -/
def Dev.mse (d : Dev) (f : FnId) : Bool := bit (d.fn f).command 1 && !(d.fn f).d3

/-- Bus Master Enable in effect: the register bit, unless PowerState is D3hot (R314, R335). -/
def Dev.bme (d : Dev) (f : FnId) : Bool := bit (d.fn f).command 2 && !(d.fn f).d3

/-- Interrupt Disable (R323). -/
def Dev.intDis (d : Dev) (f : FnId) : Bool := bit (d.fn f).command 10

/-- The partition for which CXL.mem of a port is served (R353). -/
def Dev.cxlPart (d : Dev) (p : Nat) : Option Nat := (d.port p).cxlPart

/-- The lowest partition whose PORTS_ACTIVE names a port. -/
def Dev.lowestOn (d : Dev) (p : Nat) : Option Nat := (List.range 64).find? (fun n => d.presented p n)

/-- The configuration request status: a CRS until stage 2 has ended (R454). -/
def Dev.configOpen (d : Dev) : Bool := d.su.modState == 2 || d.su.modState == 3 || 3 ≤ d.su.stage

/-! ## Notifications (R444) -/

/-- One notification queued in a session, or dropped when 256 wait. -/
def Session.notify (x : Session) (cls idx sub data : Nat) : Session × Option Ntf :=
  if !x.isOpen || !bit x.mask cls then (x, none)
  else if 256 ≤ x.queue.length then ({ x with dropped := true }, none)
  else
    let n : Ntf := ⟨x.nextNtf, idx, sub, cls + (if x.dropped then 128 else 0), data, 1⟩
    ({ x with queue := x.queue ++ [n], nextNtf := x.nextNtf + 1, dropped := false }, some n)

/-- A notification of class bit `cls` to one session of the device. -/
def Dev.notifyOne (cls idx sub data : Nat) (d : Dev) (x : Session) : Dev :=
  let r := x.notify cls idx sub data
  let d := { d with mg := { d.mg with sessions := d.mg.sessions.map (fun y => if y.num = x.num then r.1 else y) } }
  match r.2 with
  | some n => d.emit (.notify x.num n)
  | none => if x.isOpen && bit x.mask cls then d.inc K.notifyDropped else d

/-- A notification of class bit `cls` to every session that subscribes to it. -/
def Dev.notify (d : Dev) (cls idx sub data : Nat) : Dev :=
  d.mg.sessions.foldl (Dev.notifyOne cls idx sub data) d

/-! ## Signature records (R397 to R399) -/

/-- All ones, the value of a field that does not apply. -/
def ones (bytes : Nat) : Nat := 2 ^ (8 * bytes) - 1

/-- A record of a class, severity (0 corrected, 1 recoverable, 2 fatal) and response, its other fields not applying. -/
def Sig.base (cls severity response : Nat) : Sig :=
  ⟨cls, severity, response, 0, 0, 0, ones 1, ones 1, ones 1, ones 1, ones 4, ones 8, ones 8, ones 8, 1, ones 8, ones 8⟩

/-- Whether a corrected record may merge with the newest record of the log: same class on the same unit. -/
def Sig.merges (a b : Sig) : Bool :=
  a.severity == 0 && b.severity == 0 && a.cls == b.cls && a.unitType == b.unitType && a.unit == b.unit

/-- The record with its SEQ and detection time at the end of the log, and the notification of it. -/
def Dev.queueSig (d : Dev) (t : Nat) (x : Sig) : Dev :=
  let x := { x with seq := d.er.nextSeq, detect := t }
  let log := d.er.log ++ [x]
  let nor := if x.severity == 0 then d.er.nor else (d.er.nor ++ [x]).drop ((d.er.nor.length + 1) - 256)
  let d1 := { d with er := { d.er with nextSeq := d.er.nextSeq + 1, nor := nor, log := log.drop (log.length - 4096) } }
  let d2 := if 4096 < log.length then d1.inc K.logOverwritten else d1
  d2.notify 0 0x2020 5 x.seq

/-- A signature record queued. A corrected record merges with the newest one of its class and unit when both fall in
one second, which the device's free draw decides (log entry 20). The oldest record is overwritten when 4,096 are held;
the last 256 of recoverable or fatal severity are kept in SPI NOR too. -/
def Dev.sign (d : Dev) (x : Sig) : Dev :=
  let same := Config.roundUp d.fresh
  let t := Config.free (d.fresh + 1)
  let d := d.drawn.drawn
  match d.er.log.getLast? with
  | some l =>
    if l.merges x && same then
      { d with er := { d.er with log := d.er.log.dropLast ++ [{ l with count := l.count + 1 }] } }
    else d.queueSig t x
  | none => d.queueSig t x

/-! ## AER (R357) -/

/-- Bits of the Status register that an uncorrectable error of a function sets: Signaled Target Abort with a Completer Abort, Detected
Parity Error and, under Parity Error Response, Master Data Parity Error with poisoned data (R332; PRESUMED, PCI Express, log entry 56). -/
def Fn.errStatus (x : Fn) (bitNo : Nat) : Nat :=
  if bitNo == 15 then setBit x.status 11
  else if bitNo == 12 then setBit (if bit x.command 6 then setBit x.status 8 else x.status) 15
  else x.status

/-- Whether a function sends the message of an error: Device Control enables its severity, for an Unsupported Request its reporting
too, or SERR# Enable does for an uncorrectable one (PRESUMED, PCI Express, log entry 56). -/
def Fn.reports (x : Fn) (sev bitNo : Nat) : Bool :=
  (bit x.devCtl sev && (bitNo != 20 || sev == 0 || bit x.devCtl 3)) || (sev != 0 && bit x.command 8)

/-- A report in AER of a function: correctable (0), or uncorrectable (1) of the severity that the Uncorrectable Error Severity
register gives it, and the error's status bit. The status bit is set; the message is sent when it is not masked and the function
reports it; the report is recorded with class LINK. -/
def Dev.aer (d : Dev) (f : FnId) (kind bitNo : Nat) : Dev :=
  let x := d.fn f
  let sev := if kind == 0 then 0 else if bit x.aerUncSev bitNo then 2 else 1
  let x1 := if sev == 0 then { x with aerCor := setBit x.aerCor bitNo }
    else { x with aerUnc := setBit x.aerUnc bitNo, status := x.errStatus bitNo }
  let sent := !(if sev == 0 then bit x.aerCorMask bitNo else bit x.aerUncMask bitNo) && x.reports sev bitNo
  let x2 := if sent && sev != 0 && bit x.command 8 then { x1 with status := setBit x1.status 14 } else x1
  let stat := setBit x2.devStat sev
  let d1 := d.setFn f { x2 with devStat := if sev != 0 && bitNo == 20 then setBit stat 3 else stat }
  let d2 := if sent then d1.emit (.aer f sev bitNo) else d1
  d2.sign { Sig.base 0x11 sev 0 with unitType := 5, unit := f.port }

/-- AER bits: Completion Timeout, Completer Abort, Unexpected Completion, Unsupported Request, Poisoned TLP Received,
Uncorrectable Internal Error; correctable Receiver Error, Advisory Non-Fatal. -/
def aerCplTimeout : Nat := 14
def aerCplAbort : Nat := 15
def aerUnsupported : Nat := 20
def aerPoisoned : Nat := 12
def aerInternal : Nat := 22
def aerReceiver : Nat := 0
def aerAdvisory : Nat := 13

/-! ## Events and the emulated wire (R318 to R324) -/

/-- The entries of a queue of `2^log2` slots that are written and not acknowledged. -/
def EvQ.unacked (q : EvQ) : Nat := (q.tail + 2 ^ q.log2 - q.ack) % 2 ^ q.log2

/-- The pending count of a function: entries written and not acknowledged, and held events (R323). -/
def EvQ.pending (q : EvQ) : Nat := (if q.ready then q.unacked else 0) + q.held.length

/-- The 16 bytes of an event entry, Table 10.9. -/
def Ev.bytes (e : Ev) (phase : Bool) : List Byte :=
  leBytes 8 e.data ++ leBytes 2 e.aux ++ leBytes 1 0 ++ leBytes 1 e.typ ++ leBytes 1 e.status ++
  leBytes 1 (b2n phase) ++ leBytes 2 e.detail

/-- The wire of a function brought in line with its pending count and Interrupt Disable; a change sends Assert_INTA or
Deassert_INTA (R323). A function in reset sends neither (R313). -/
def Dev.updWire (d : Dev) (f : FnId) : Dev :=
  let x := d.fn f
  let want := x.eq.pending != 0 && !bit x.command 10 && !x.recovering
  if want == x.wire then d else (d.setFn f { x with wire := want }).emit (.intx f want)

/-- One event entry written into the queue of a function, which has room (R318, R319). -/
def Dev.writeEv (d : Dev) (f : FnId) (e : Ev) : Dev :=
  let x := d.fn f
  let q := x.eq
  let t := (q.tail + 1) % 2 ^ q.log2
  let q' := { q with tail := t, phase := if t == 0 then !q.phase else q.phase }
  ((d.setFn f { x with eq := q' }).emit (.hostWr f (q.base + 16 * q.tail) (e.bytes q.phase))).inc
    (K.ofPart K.eventsPosted f.num)

/-- Whether the event queue of a function can take one more entry now (R322). -/
def Dev.evRoom (d : Dev) (f : FnId) : Bool :=
  (d.fn f).eq.ready && !(d.fn f).eq.accFail && d.bme f && (d.fn f).eq.unacked < 2 ^ (d.fn f).eq.log2 - 1

/-- Events held for a function written while the queue has room and Bus Master Enable is 1, at most `fuel` entries; the
first write after a loss is an OVERFLOW event (R322). -/
def Dev.drainEv (f : FnId) : Nat → Dev → Dev
  | 0, d => d
  | fuel + 1, d =>
    if !d.evRoom f then d
    else
      let x := d.fn f
      if x.eq.overflow then
        let d1 := d.setFn f { x with eq := { x.eq with overflow := false, lost := 0 } }
        Dev.drainEv f fuel (d1.writeEv f ⟨0x0B, 0, 0, 0, x.eq.lost⟩)
      else match x.eq.held with
        | [] => d
        | e :: r => Dev.drainEv f fuel ((d.setFn f { x with eq := { x.eq with held := r } }).writeEv f e)

/-- Held events of a function written as far as they go, then the wire. -/
def Dev.pumpEv (d : Dev) (f : FnId) : Dev :=
  (Dev.drainEv f ((d.fn f).eq.held.length + 1) d).updWire f

/-- An event given to a function: behind the events it holds, lost when 64 are held, then written as far as the queue
takes it (R321, R322). -/
def Dev.giveEv (d : Dev) (f : FnId) (e : Ev) : Dev :=
  let d := d.pumpEv f
  let x := d.fn f
  let d1 :=
    if x.eq.held.length < 64 then d.setFn f { x with eq := { x.eq with held := x.eq.held ++ [e] } }
    else (d.setFn f { x with eq := { x.eq with overflow := true, lost := x.eq.lost + 1 } }).inc
      (K.ofPart K.eventsLost f.num)
  d1.pumpEv f

/-- Whether a function qualifies to take an event: presented, link up, event queue READY (R321). -/
def Dev.evQualifies (d : Dev) (f : FnId) : Bool := d.presented f.port f.num && d.linkUp f.port && (d.fn f).eq.ready

/-- The ports in the order of the event home: EVENT_PORT, then the others of PORTS_ACTIVE ascending (R321). -/
def Dev.homeOrder (d : Dev) (n : Nat) : List Nat :=
  d.rd (K.ofPart K.eventPort n) :: (List.range 22).filter (fun p => p != d.rd (K.ofPart K.eventPort n))

/-- An event of partition `n` sent to its event home, held by the function of EVENT_PORT when none qualifies, and
otherwise lost and counted (R321). -/
def Dev.post (d : Dev) (n : Nat) (e : Ev) : Dev :=
  match (d.homeOrder n).find? (fun p => d.evQualifies ⟨p, n⟩) with
  | some p => d.giveEv ⟨p, n⟩ e
  | none =>
    let ep := d.rd (K.ofPart K.eventPort n)
    if d.presented ep n then d.giveEv ⟨ep, n⟩ e else d.inc (K.ofPart K.eventsLost n)

/-- An event of a channel: to the function of its bound port when that qualifies, otherwise to the event home (R321). -/
def Dev.postChan (d : Dev) (n port : Nat) (e : Ev) : Dev :=
  if d.evQualifies ⟨port, n⟩ then d.giveEv ⟨port, n⟩ e else d.post n e

/-- An event to every enabled partition. -/
def Dev.postAll (d : Dev) (e : Ev) : Dev :=
  (List.range 64).foldl (fun d n => if d.enabled n then d.post n e else d) d

/-- Measurement 7 after a write of a program slot or manifest: MEASUREMENT_CHANGED is posted when what it covers changed
(R468). -/
def Dev.measured (old : Dev) (r : Dev × Nat) : Dev × Nat :=
  if r.1.mm.progs == old.mm.progs && r.1.progs == old.progs && r.1.pipes == old.pipes then r
  else (r.1.postAll ⟨0x31, 0, 0, 7, 0⟩, r.2)

/-! ## Requests that the device issues (R120, R344, R345) -/

/-- A tag taken for a non-posted request of the device. -/
def Dev.newTag (d : Dev) (f : Option FnId) (port : Nat) (ubl : Bool) (use : TagUse) : Dev :=
  { d with tags := d.tags ++ [⟨d.nextTag, f, port, ubl, use, false⟩], nextTag := d.nextTag + 1 }

/-- The reads outstanding for a use freed. -/
def Dev.freeTags (d : Dev) (u : TagUse) : Dev := { d with tags := d.tags.filter (fun t => !(t.use == u && !t.quarantined)) }

/-- The route entry that covers an endpoint: the lowest with the endpoint in range and PORTS nonzero (R120). -/
def Dev.route (d : Dev) (ep : Nat) : Nat :=
  match d.od.find? (fun e =>
      K.route ≤ e.1 && e.1 < K.route + 128 && fld e.2 44 20 ≤ ep && ep ≤ fld e.2 24 20 && fld e.2 0 22 != 0) with
  | some e => fld e.2 0 22
  | none => 0

/-- The ports of a route mask whose UBL links are up (R120; log entry 41). -/
def Dev.upPorts (d : Dev) (mask : Nat) : List Nat :=
  (List.range 22).filter (fun p => bit mask p && d.linkUp p && (d.port p).mode == .native)

/-- The port on which a request for a line of an endpoint leaves: one of its route's live ports, by the hash of the line;
none when the endpoint is unreachable (R120). -/
def Dev.routePort (d : Dev) (ep line : Nat) : Option Nat :=
  let ps := d.upPorts (d.route ep)
  ps[Config.routeHash ep line % ps.length]?

end Sys2Proof.Machine
end

