-- ==== Sys2Proof/Machine/Mem.lean ====
section
/-! DEFINITION. Partition memory: bytes in canonical form, stored blocks with their metadata, pages, frames, capacity
(chapter "Address space, tiers and placement"), the stored form of a block (R87 to R93), and the charging of medium
traffic to classes (R279, R285). -/

namespace Sys2Proof.Machine

/-! ## Bytes -/

/-- The byte of an address; an address that no entry names reads zero (R38). -/
def cellAt (m : List Host.Cell) (a : Nat) : Byte := kget 0 a m

/-- A byte put at an address; a zero takes the entry away, so the form stays canonical. -/
def cellPut (a : Nat) (b : Byte) : List Host.Cell → List Host.Cell
  | [] => if b = 0 then [] else [(a, b)]
  | (a', b') :: r =>
    if a < a' then (if b = 0 then (a', b') :: r else (a, b) :: (a', b') :: r)
    else if a = a' then (if b = 0 then r else (a, b) :: r)
    else (a', b') :: cellPut a b r

/-- Bytes put at consecutive addresses. -/
def cellsPut : Nat → List Byte → List Host.Cell → List Host.Cell
  | _, [], m => m
  | a, b :: r, m => cellsPut (a + 1) r (cellPut a b m)

/-- Whether the addresses of a memory rise strictly from `lo` on and no byte is zero. -/
def cellsFrom : Nat → List Host.Cell → Bool
  | _, [] => true
  | lo, (a, b) :: r => decide (lo ≤ a) && b != 0 && cellsFrom (a + 1) r

/-- The canonical form of memory. -/
def Memory.wf (m : List Host.Cell) : Bool := cellsFrom 0 m

/-- The entries without those from `a` to `a + n - 1`. -/
def cellsClear (a n : Nat) (m : List Host.Cell) : List Host.Cell := m.filter (fun c => c.1 < a || a + n ≤ c.1)

/-- The key of a byte of a partition. -/
def cellKey (p off : Nat) : Nat := p * 2 ^ 48 + off

/-- One byte of a partition's range. -/
def Dev.byte (d : Dev) (p off : Nat) : Byte := cellAt d.mm.cells (cellKey p off)

/-- Bytes of a partition's range. -/
def Dev.bytes (d : Dev) (p off len : Nat) : List Byte := (List.range len).map (fun i => d.byte p (off + i))

/-- Bytes of a partition's range written. -/
def Dev.setBytes (d : Dev) (p off : Nat) (bs : List Byte) : Dev :=
  { d with mm := { d.mm with cells := cellsPut (cellKey p off) bs d.mm.cells } }

/-! ## Objects and pages -/

/-- The object of a partition by its number. -/
def Dev.obj (d : Dev) (p n : Nat) : Option Obj := kfind (p * 2 ^ 16 + n) d.mm.objs

/-- An object put in. -/
def Dev.setObj (d : Dev) (p n : Nat) (o : Obj) : Dev :=
  { d with mm := { d.mm with objs := kput (p * 2 ^ 16 + n) o d.mm.objs } }

/-- An object changed. -/
def Dev.modObj (d : Dev) (p n : Nat) (f : Obj → Obj) : Dev :=
  { d with mm := { d.mm with objs := kmod (p * 2 ^ 16 + n) f d.mm.objs } }

/-- The objects of a partition, with their numbers. -/
def Dev.objsOf (d : Dev) (p : Nat) : List (Nat × Obj) :=
  (d.mm.objs.filter (fun e => e.1 / 2 ^ 16 == p)).map (fun e => (e.1 % 2 ^ 16, e.2))

/-- Whether an object covers an extent. -/
def Obj.hasExt (o : Obj) (e : Nat) : Bool := o.ext ≤ e && e < o.ext + o.n

/-- The object in which an offset lies (R27, R29). -/
def Dev.objAt (d : Dev) (p off : Nat) : Option (Nat × Obj) := (d.objsOf p).find? (fun e => e.2.hasExt (off / 2 ^ 30))

/-- Whether a run of extents meets an object. -/
def Dev.overlaps (d : Dev) (p ext n : Nat) : Bool :=
  (d.objsOf p).any (fun e => e.2.ext < ext + n && ext < e.2.ext + e.2.n)

/-- Whether an object is a window: FIXED or DELTA (R80). -/
def Obj.window (o : Obj) : Bool := o.kind == 4 || o.kind == 5

/-- An object of its own, neither a window nor an alias. -/
def Obj.ordinary (o : Obj) : Bool := !o.window && o.aliasOf.isNone

/-- Whether an object is tracked (R121). -/
def Obj.tracked (o : Obj) : Bool := o.window || o.exported.isSome || o.aliasOf.isSome

/-- The key of a page. -/
def pageKey (p pg : Nat) : Nat := p * 2 ^ 32 + pg

/-- The entry of a page. -/
def Dev.page (d : Dev) (k : Nat) : Page := kget Page.none k d.mm.pages

/-- The entry of a page put in; an entry at its reset value is not listed. -/
def Dev.setPage (d : Dev) (k : Nat) (x : Page) : Dev :=
  { d with mm := { d.mm with pages := if x = Page.none then kdel k d.mm.pages else kput k x d.mm.pages } }

/-- The listed pages of a partition's object: key and entry. -/
def Dev.pagesOf (d : Dev) (p : Nat) (o : Obj) : List (Nat × Page) :=
  let a := pageKey p (o.ext * 16384)
  d.mm.pages.filter (fun e => a ≤ e.1 && e.1 < a + o.n * 16384)

/-- The partition of a page key. -/
def pagePart (k : Nat) : Nat := k / 2 ^ 32

/-- The object to which a page belongs. -/
def Dev.pageObj (d : Dev) (k : Nat) : Option (Nat × Obj) := d.objAt (pagePart k) (k % 2 ^ 32 * 65536)

/-- The key of a block. -/
def blkKey (p blk : Nat) : Nat := p * 2 ^ 40 + blk

/-- The metadata of a block; an unlisted block has the reset value (Table 03.5). -/
def Dev.meta (d : Dev) (k : Nat) : Meta := kget Meta.zero k d.mm.blocks

/-- The metadata of a block put in. -/
def Dev.setMeta (d : Dev) (k : Nat) (x : Meta) : Dev :=
  { d with mm := { d.mm with blocks := if x = Meta.zero then kdel k d.mm.blocks else kput k x d.mm.blocks } }

/-- Every block of a page valid. -/
def validAll : Nat := 2 ^ 256 - 1

/-- Whether a block is valid (R38). -/
def Dev.blkValid (d : Dev) (p blk : Nat) : Bool := bit (d.page (pageKey p (blk / 256))).valid (blk % 256)

/-- Whether the frame of a page has been lost: POISON with VALIDITY NONE (R34). -/
def Page.lost (x : Page) : Bool := x.home.isNone && x.poison

/-- Whether a block reads as poisoned (R34, R90). -/
def Dev.blkPoison (d : Dev) (p blk : Nat) : Bool :=
  (d.page (pageKey p (blk / 256))).lost || (d.blkValid p blk && (d.meta (blkKey p blk)).poison)

/-- The keys of the blocks of a page. -/
def pageBlks (k : Nat) : List Nat := (List.range 256).map (fun i => pagePart k * 2 ^ 40 + k % 2 ^ 32 * 256 + i)

/-- Whether any block of a page carries poison. -/
def Dev.anyPoison (d : Dev) (k : Nat) : Bool :=
  let a := pagePart k * 2 ^ 40 + k % 2 ^ 32 * 256
  d.mm.blocks.any (fun e => a ≤ e.1 && e.1 < a + 256 && e.2.poison)

/-- The valid vector of a page after a change: a slot is taken while the page is PARTIAL and given back otherwise. When
the pool is empty, the page becomes ALL and its invalid blocks hold zeros (R33, R41). -/
def Dev.setValid (d : Dev) (k v : Nat) : Dev :=
  let x := d.page k
  if v == 0 || v == validAll then d.setPage k { x with valid := v, vslot := none }
  else if x.vslot.isSome then d.setPage k { x with valid := v }
  else
    let used := (d.mm.pages.filterMap (fun e => e.2.vslot))
    match nextFree (fun n => used.contains n) 0 67108864 (used.length + 1) d.free with
    | some n => d.drawn.setPage k { x with valid := v, vslot := some n }
    | none => (d.setPage k { x with valid := validAll, vslot := none }).inc K.vslotExhausted

/-- Stored contents of a page taken away: its bytes and the metadata of its blocks (R40). -/
def Dev.wipePage (d : Dev) (k : Nat) : Dev :=
  let b := pagePart k * 2 ^ 40 + k % 2 ^ 32 * 256
  { d with mm := { d.mm with
      cells := cellsClear (cellKey (pagePart k) (k % 2 ^ 32 * 65536)) 65536 d.mm.cells
      blocks := d.mm.blocks.filter (fun e => e.1 < b || b + 256 ≤ e.1) } }

/-- The DDR channel on which a page bound for a T3 frame stands in write staging (log entry 135). -/
def stagingChan (frame : Nat) : Nat := Config.flashArb frame % 16

/-- The engine that serves a page (R78, R79): the HBM engine of its stack (0 to 7), the DDR engine of its channel pair (8 to 15).
The T2 frame of a page in write staging has no number in the manual; which DDR channel holds it is open (log entry 135). None serves
flash or TH. -/
def Dev.engineOf (d : Dev) (k : Nat) : Option Nat :=
  match (d.page k).home with
  | some h =>
    (match h.tier with
      | .t1 => some (h.frame % 8)
      | .t2 => some (8 + h.frame % 16 / 2)
      | .t3 => if d.mm.staged.contains k then some (8 + stagingChan h.frame / 2) else none
      | .th => none)
  | none => none

/-- The use of a page's metadata by its engine: whether its cache held them, and the cache of the 2,048 pages used most recently
after it (R88). -/
def Dev.metaUse (d : Dev) (k : Nat) : Dev × Bool :=
  match d.engineOf k with
  | none => (d, true)
  | some e =>
    let l := kget [] e d.mm.metaC
    ({ d with mm := { d.mm with metaC := kput e ((k :: l.filter (· != k)).take 2048) d.mm.metaC } }, l.contains k)

/-- A page that has left its frame is in no engine's cache. -/
def Dev.metaGone (d : Dev) (k : Nat) : Dev :=
  { d with mm := { d.mm with metaC := d.mm.metaC.map (fun e => (e.1, e.2.filter (· != k))), thGot := d.mm.thGot.filter (fun e => e.2 / 1024 != k) } }

/-- A page that lost its frame: NONE with POISON set, every block poisoned until it is discarded or written anew (R34). -/
def Dev.losePage (d : Dev) (k : Nat) : Dev :=
  let x := d.page k
  ({ (d.wipePage k).metaGone k with mm := { ((d.wipePage k).metaGone k).mm with
      migs := kdel k d.mm.migs, staged := d.mm.staged.filter (· != k), wantPromo := d.mm.wantPromo.filter (fun e => e.1 != k),
      waits := d.mm.waits.filter (fun w => w.page != k) } }).setPage k
    { Page.none with poison := true, heat := x.heat, epoch := x.epoch }

/-- A page returned to NONE with its frame released (R42); a migration of it is aborted and counted (Table 02.11). HEAT and
EPOCH go back to zero with the rest of the entry: DESIGN CHOICE, log entry 121. -/
def Dev.dropPage (d : Dev) (k : Nat) : Dev :=
  let d0 := (d.wipePage k).metaGone k
  let d1 := if (kfind k d0.mm.migs).isSome then d0.inc K.migrationsAborted else d0
  { d1 with mm := { d1.mm with
      pages := kdel k d1.mm.pages, migs := kdel k d1.mm.migs,
      staged := d1.mm.staged.filter (· != k), wantPromo := d1.mm.wantPromo.filter (fun e => e.1 != k),
      waits := d1.mm.waits.filter (fun w => w.page != k) } }

/-! ## Descriptors and floors -/

/-- Fields of a placement descriptor (Table 02.6). -/
def pdAllowed (x : Nat) : Nat := fld x 0 4
def pdPreferred (x : Nat) : Nat := fld x 8 2
def pdLendable (x : Nat) : Bool := bit x 11
def pdHot (x : Nat) : Nat := fld x 32 8
def pdProgram (x : Nat) : Nat := fld x 40 8
def pdHint (x : Nat) : Nat := fld x 48 16
def pdParam0 (x : Nat) : Nat := fld x 64 32
def pdParam1 (x : Nat) : Nat := fld x 96 32

/-- The encoding of a tier (Table 02.3). -/
def Tier.code : Tier → Nat
  | .t1 => 0 | .t2 => 1 | .t3 => 2 | .th => 3

/-- The tier of an encoding. -/
def tierOf : Nat → Tier
  | 0 => .t1 | 1 => .t2 | 2 => .t3 | _ => .th

/-- Whether a descriptor allows a tier. -/
def pdAllows (x : Nat) (t : Tier) : Bool := bit (pdAllowed x) t.code

/-- The lowest allowed tier among T1, T2 and T3 (R49). -/
def pdFloor (x : Nat) : Tier := if pdAllows x .t3 then .t3 else if pdAllows x .t2 then .t2 else .t1

/-- The highest allowed tier. -/
def pdHighest (x : Nat) : Tier :=
  if pdAllows x .t1 then .t1 else if pdAllows x .t2 then .t2 else if pdAllows x .t3 then .t3 else .th

/-- Whether a written descriptor is refused: no tier among T1 to T3, or PREFERRED 0b11 (R44). -/
def pdBad (x : Nat) : Bool := fld x 0 3 == 0 || pdPreferred x == 3

/-- A descriptor normalised for an object of a view kind (R44, R79): TH counts for RAW lendable objects only. -/
def Dev.normalise (d : Dev) (kind x : Nat) : Nat :=
  let a0 := pdAllowed x
  let a1 := if bit a0 2 then setBit a0 1 else a0
  let a2 := if pdLendable x && kind == 1 then a1 else clrBit a1 3
  let x1 := setFld x 0 4 a2
  let x2 := if bit a2 (pdPreferred x) then x1 else setFld x1 8 2 (pdHighest x1).code
  if pdProgram x < 16 && (pdProgram x == 0 || (kfind (pdProgram x) d.mm.progs).isSome) then x2 else setFld x2 40 8 0

/-! ## Frames -/

/-- The home a page will have when its migration is over. -/
def Mig.final (m : Mig) : Home :=
  match m.hop with
  | some f => ⟨.t1, f, false⟩
  | none => m.dst

/-- The homes that pages and migrations hold. -/
def Dev.homes (d : Dev) : List Home :=
  d.mm.pages.filterMap (fun e => e.2.home) ++ d.mm.migs.map (fun e => e.2.dst) ++
  d.mm.migs.filterMap (fun e => e.2.hop.map (fun f => ⟨.t1, f, false⟩))

/-- Whether a frame of a tier is held. Staging pool frames are T2 frames. -/
def Dev.frameUsed (d : Dev) (t : Tier) (f : Nat) : Bool := d.homes.any (fun h => h.tier == t && h.frame == f)

/-- The key under which a retired frame stands: tier code * 2^52 + FRAME (R75, R387). -/
def frameKey (t : Tier) (f : Nat) : Nat := t.code * 2 ^ 52 + f

/-- Whether a frame is retired. -/
def Dev.retired (d : Dev) (t : Tier) (f : Nat) : Bool := d.mm.deadhead.contains (frameKey t f)

/-- The place of a T2 frame among the frames of a moved share: row by row over the channels left; none outside it. -/
def Share.pos (s : Share) (f : Nat) : Option Nat :=
  if f < s.start || bit s.lost (f % 16) then none
  else
    let n := (f - s.start) / 16 * (16 - popcount 16 s.lost) + (f % 16 - popcount (f % 16) s.lost)
    if n < s.len then some n else none

/-- Whether a T2 frame belongs to a moved share of the metadata reserve (R37). -/
def Dev.inShare (d : Dev) (f : Nat) : Bool := d.mm.shares.any (fun s => (s.pos f).isSome)

/-- Whether a T1 or T2 frame lies on a lost stack or DDR channel (R395). -/
def Dev.frameLost (d : Dev) (t : Tier) (f : Nat) : Bool :=
  match t with
  | .t1 => bit d.er.stacksLost (f % 8)
  | .t2 => bit d.er.ddrLost (f % 16)
  | _ => false

/-- The first T1 frame of the directory reserve (R123), T2 frame of the metadata reserve and frame of the staging pool
(R37). -/
def dirReserveBase : Nat := 12320768
def metaReserveBase : Nat := 66060288
def stagingBase : Nat := 66912256

/-- The first free frame among `span` frames spread over `units` units, the units in rotation from `rot`, the frames of a
unit from a free start. -/
def pickFrame (good : Nat → Bool) (base span units fuel rot start : Nat) : Option Nat :=
  (List.range units).findSome? (fun u =>
    (List.range fuel).findSome? (fun i =>
      let f := base + (rot + u) % units + units * ((start + i) % (span / units))
      if good f then some f else none))

/-- Whether a T2 frame is a staging pool frame: of the first layout, or of a moved share (R37). -/
def Dev.inPool (d : Dev) (f : Nat) : Bool :=
  (stagingBase ≤ f && f < 67108864) || d.mm.shares.any (fun s => (s.pos f).any (fun n => s.len - s.stag ≤ n))

/-- Whether a staging pool frame stands in for a retired T2 frame (R75). -/
def Dev.standsIn (d : Dev) (f : Nat) : Bool := d.mm.t2Repl.any (fun e => e.2 == f)

/-- Whether a frame of a tier is neither held nor retired nor lost. -/
def Dev.frameOk (d : Dev) (t : Tier) (f : Nat) : Bool := !d.frameUsed t f && !d.retired t f && !d.frameLost t f

/-- A free frame of a tier other than TH, none when there is none. The allocator rotates over the stacks or channels
(R31); which frame of the unit it takes is a free choice (log entry 13). A staging frame that stands in for a retired T2 frame
serves when no other is free (R75; log entry 126). -/
def Dev.freeFrame (d : Dev) (t : Tier) : Option Nat :=
  let good := d.frameOk t
  let fuel := d.homes.length + d.mm.deadhead.length + 1
  match t with
  | .t1 => pickFrame good 0 (if d.mm.shareOn || d.mm.shareEnabling then dirReserveBase else 12582912) 8 fuel d.mm.rot1 d.free
  | .t2 =>
    (pickFrame (fun f => good f && !d.inShare f) 0 metaReserveBase 16 (fuel + sumBy Share.len d.mm.shares) d.mm.rot2 d.free).or
      ((d.mm.t2Repl.find? (fun e => e.1 < metaReserveBase && good e.2)).map (·.2))
  | .t3 => pickFrame good 0 1610612736 1 fuel 0 d.free
  | .th => none

/-- The staging frames of a moved share, in order. -/
def Share.stagFrames (s : Share) : List Nat :=
  let w := 16 - popcount 16 s.lost
  let rows := List.range (ceilDiv s.len w - (s.len - s.stag) / w)
  rows.flatMap (fun r => ((List.range 16).map (fun c => s.start + 16 * ((s.len - s.stag) / w + r) + c)).filter (fun f =>
    (s.pos f).any (fun n => s.len - s.stag ≤ n)))

/-- A free staging pool frame: the allocator rotates over the DDR channels (R31), and takes a frame of a moved share when no other
is free. -/
def Dev.freeStaging (d : Dev) : Option Nat :=
  let good := fun f => d.frameOk .t2 f && !d.standsIn f
  (pickFrame good stagingBase 196608 16 (d.homes.length + d.mm.deadhead.length + 1) d.mm.rotS d.free).or
    (d.mm.shares.findSome? (fun s => s.stagFrames.find? good))

/-- The device after a staging frame was taken: the rotation moves on. -/
def Dev.tookStaging (d : Dev) (f : Nat) : Dev := { d.drawn with mm := { d.mm with rotS := (f + 1) % 16 } }

/-- The device after a frame of a tier was taken: the rotation moves on. -/
def Dev.tookFrame (d : Dev) (t : Tier) (f : Nat) : Dev :=
  let d := d.drawn
  match t with
  | .t1 => { d with mm := { d.mm with rot1 := (f + 1) % 8 } }
  | .t2 => { d with mm := { d.mm with rot2 := (f + 1) % 16 } }
  | _ => d

/-- STAGING_FREE: staging pool frames that are free (R58): the pool less the frames retired, those that stand in for retired T2
frames, and those that pages hold. The moved shares keep the pool at its size (R396). -/
def Dev.stagingFree (d : Dev) : Nat :=
  let live := fun f => d.inPool f && !d.frameLost .t2 f
  196608 - countBy (fun k => k / 2 ^ 52 == 1 && live (k % 2 ^ 52)) d.mm.deadhead
    - countBy (fun e : Nat × Nat => live e.2 && !d.retired .t2 e.2) d.mm.t2Repl
    - countBy (fun h => h.tier == .t2 && live h.frame && !d.retired .t2 h.frame && !d.standsIn h.frame) d.homes

/-! ## Reservations and room -/

/-- A partition's reservation in a tier, in extents; for TH its limit (R48). -/
def Dev.resv (d : Dev) (p : Nat) (t : Tier) : Nat :=
  d.rd (p + match t with
    | .t1 => K.resvT1
    | .t2 => K.resvT2
    | .t3 => K.resvT3
    | .th => K.thLimit)

/-- The extents that a partition's objects commit at a tier (R49). -/
def Dev.committedExt (d : Dev) (p : Nat) (t : Tier) : Nat :=
  sumBy (fun e => if e.2.ordinary && pdFloor e.2.desc == t then e.2.k else 0) (d.objsOf p)

/-- The homes that a page holds or is about to hold: its own and those of its migration. -/
def Dev.pageHomes (d : Dev) (k : Nat) (x : Page) : List Home :=
  x.home.toList ++ (match kfind k d.mm.migs with
    | some m => m.dst :: (m.hop.map (fun f => ⟨.t1, f, false⟩)).toList
    | none => [])

/-- Whether a home counts against room in a tier: a staged page holds none (R58). -/
def Home.counts (h : Home) (t : Tier) : Bool := h.tier == t && !h.staged

/-- Whether a migration's end gives its page a committed floor frame (R49): a move to the floor for other reasons than
retirement and the directory's or metadata reserve. -/
def Mig.toFloor (m : Mig) (fl : Tier) : Bool :=
  !m.spare && m.why != .retire && m.why != .shared && m.final.tier == fl && !m.final.staged

/-- Whether a page holds one of its object's committed floor frames, or a move under way or waiting for write staging has taken
one for it: room is charged when a move is accepted (Table 02.10, step 1). -/
def Dev.pageFl (d : Dev) (fl : Tier) (k : Nat) (x : Page) : Bool :=
  x.fl || d.mm.waits.any (fun w => w.page == k) || (match kfind k d.mm.migs with
    | some m => m.toFloor fl && !(x.ovf && m.why == .demand)
    | none => false)

/-- Whether a page stands in, or moves into, an unreserved T3 frame (R67). -/
def Dev.inSpare (d : Dev) (k : Nat) (x : Page) : Bool :=
  (x.ovf && x.home.any (fun h => h.tier == .t3)) || (match kfind k d.mm.migs with
    | some m => m.spare
    | none => false)

/-- The frames of a tier held by pages of objects not floored there, and by pages there beyond the commitment (R50; log entry
122). Unreserved T3 frames are not part of any reservation. -/
def Dev.promoted (d : Dev) (p : Nat) (t : Tier) : Nat :=
  sumBy (fun e =>
    if e.2.ordinary then
      countBy (fun x => (pdFloor e.2.desc != t || !d.pageFl t x.1 x.2) && !(t == .t3 && d.inSpare x.1 x.2) &&
        (d.pageHomes x.1 x.2).any (fun h => h.counts t)) (d.pagesOf p e.2)
    else 0) (d.objsOf p)

/-- Pages of a partition that its TH limit pays for: those homed in TH or on their way there, and those in unreserved T3 frames
or on from there until a program moves them (R49, R67). -/
def Dev.thPages (d : Dev) (p : Nat) : Nat :=
  countBy (fun e => pagePart e.1 == p && (e.2.ovf || e.2.home.any (fun h => h.tier == .th) ||
    (match kfind e.1 d.mm.migs with
      | some m => m.spare || m.dst.tier == .th
      | none => false))) d.mm.pages

/-- room(p, t) of R50; for TH, the limit less the pages charged to it. -/
def Dev.room (d : Dev) (p : Nat) (t : Tier) : Int :=
  match t with
  | .th => (d.resv p .th * 16384 : Nat) - (d.thPages p : Nat)
  | t => (d.resv p t * 16384 : Nat) - (d.committedExt p t * 16384 : Nat) - (d.promoted p t : Nat)

/-- The pages of an object that hold its committed floor frames, or to which a move gives one (R49). -/
def Dev.floorHeld (d : Dev) (p : Nat) (o : Obj) : Nat :=
  countBy (fun e => d.pageFl (pdFloor o.desc) e.1 e.2) (d.pagesOf p o)

/-- Whether the floor has a frame for one more page of an object within its commitment (R60). -/
def Dev.floorRoom (d : Dev) (p : Nat) (o : Obj) : Bool := d.floorHeld p o < o.k * 16384

/-- Extents that can be reserved in a tier (Table 02.2): less the directory reserve, and lowered by retirement beyond
the spare (R75) and by lost stacks and channels (R396). `spareBase` is what Table 02.2 gives. -/
def Dev.retiredBeyond (d : Dev) : Nat := countBy (fun k => k / 2 ^ 52 == 0) d.mm.deadhead - 16384

/-- T1_RESERVABLE: whole extents of the frames left. A lost stack takes its eighth of T1 (R396). -/
def Dev.t1Reservable (d : Dev) : Nat :=
  ((if d.mm.shareOn || d.mm.shareEnabling then 751 else 767) * 16384 - d.retiredBeyond
    - popcount 8 d.er.stacksLost * 96 * 16384) / 16384

/-- T2_RESERVABLE; a lost DDR channel takes its sixteenth of T2 (R396). -/
def Dev.t2Reservable (d : Dev) : Nat := 4032 - popcount 16 d.er.ddrLost * 256

/-- The sum of all partitions' reservations in a tier. -/
def Dev.resvSum (d : Dev) (t : Tier) : Nat := sumBy (fun p => d.resv p t) (List.range 64)

/-! ## Lent memory (R65) -/

/-- Fields of a lend entry (Table 02.14). -/
def lendExtents (e : Nat) : Nat := fld e 112 16
def lendState (e : Nat) : Nat := fld e 108 4
def lendEndpoint (e : Nat) : Nat := fld e 88 20
def lendOffset (e : Nat) : Nat := fld e 40 48

/-- A lend entry. -/
def Dev.lendEntry (d : Dev) (i : Nat) : Nat := d.rd (K.lend + i)

/-- Whether a TH frame lies in a lend entry (Table 02.4). -/
def lendHas (e f : Nat) : Bool :=
  fld f 32 20 == lendEndpoint e && lendOffset e / 65536 ≤ fld f 0 32 &&
  fld f 0 32 < lendOffset e / 65536 + lendExtents e * 16384

/-- The lend entry, in ACTIVE, WITHDRAWING or FORCE, that holds a TH frame. -/
def Dev.lendOf (d : Dev) (f : Nat) : Option Nat :=
  (List.range 64).find? (fun i => 1 ≤ lendState (d.lendEntry i) && lendState (d.lendEntry i) ≤ 3 && lendHas (d.lendEntry i) f)

/-- A free TH frame of an ACTIVE lend entry. -/
def Dev.freeTh (d : Dev) : Option Nat :=
  (List.range 64).findSome? (fun i =>
    let e := d.lendEntry i
    if lendState e == 1 then
      pickFrame (fun g => !d.frameUsed .th (lendEndpoint e * 2 ^ 32 + lendOffset e / 65536 + g)) 0 (lendExtents e * 16384) 1
        (d.homes.length + 1) 0 d.free |>.map (fun g => lendEndpoint e * 2 ^ 32 + lendOffset e / 65536 + g)
    else none)

/-- A free unreserved T3 frame: T3 frames beyond every reservation (R67). -/
def Dev.freeUnreservedT3 (d : Dev) : Option Nat :=
  let extra := countBy (fun e => d.inSpare e.1 e.2) d.mm.pages
  if extra < (98304 - d.resvSum .t3) * 16384 then d.freeFrame .t3 else none

/-! ## Charging (R279, R285) -/

/-- The metered resource of reads (`w` false) or writes in a tier: 0 T1, 1 T2, 2 T3R, 3 T3W. -/
def resOf (t : Tier) (w : Bool) : Option Nat :=
  match t with
  | .t1 => some 0
  | .t2 => some 1
  | .t3 => some (if w then 3 else 2)
  | .th => none

/-- The credit of a class on a resource. -/
def Dev.credit (d : Dev) (r c : Nat) : Int := kget 0 (r * 16 + c) d.bw.credit

/-- Whether a class is demoted on a resource (R285). -/
def Dev.demoted (d : Dev) (r c : Nat) : Bool := 1 ≤ c && c ≤ 14 && d.credit r c ≤ 0

/-- The hard cap of a class on a resource. -/
def Dev.cap (d : Dev) (r c : Nat) : Nat := d.rd (K.capT1 + r * 256 + c)

/-- The budget of a class on a resource. -/
def Dev.budget (d : Dev) (r c : Nat) : Nat := d.rd (K.budgetT1 + r * 256 + c)

/-- Whether requests of a class toward a resource are held (R285, R287). -/
def Dev.capHeld (d : Dev) (r c : Nat) : Bool :=
  1 ≤ c && c ≤ 14 && d.cap r c != 0 && d.cap r c * 8192 / 175 ≤ kget 0 (r * 16 + c) d.bw.used

/-- A grant of `n` bytes of a class on a resource. -/
def Dev.charge (d : Dev) (r c n : Nat) : Dev :=
  let d2 := (d.add (K.demotedBytes + c) (if d.demoted r c then n else 0)).add (K.grantedBytes + c) n
  { d2 with bw := { d2.bw with
      credit := kput (r * 16 + c) (d.credit r c - n) d2.bw.credit
      used := kput (r * 16 + c) (kget 0 (r * 16 + c) d.bw.used + n) d2.bw.used } }

/-- The same where the tier may be unmetered. -/
def Dev.chargeTier (d : Dev) (t : Tier) (w : Bool) (c n : Nat) : Dev :=
  match resOf t w with
  | some r => d.charge r c n
  | none => d

/-- The tier whose medium serves a page: T2 for a page in write staging (R59). -/
def Dev.medium (d : Dev) (k : Nat) : Tier :=
  match (d.page k).home with
  | some h => if h.tier == .t3 && d.mm.staged.contains k then .t2 else h.tier
  | none => .t1

/-- Free erased flash blocks below 2 % or not after flash was written or reclaimed: the state of the flash translation layer
that decides it is not this manual's, so it is drawn free (R70; log entry 31). -/
def Dev.flashWear (d : Dev) : Dev := { d.drawn with bw := { d.bw with flashLow := Config.roundUp d.fresh } }

/-! ## Stored form of a block -/

/-- Bytes that a sparse block of a width takes (R93). -/
def sparseBytes (fmt : Nat) (bs : List Byte) : Nat :=
  if fmt == 1 then 32 + countBy (· != 0) bs
  else 16 + 2 * countBy (fun i => bs.getD (2 * i) 0 != 0 || bs.getD (2 * i + 1) 0 != 0) (List.range 128)

/-- Whether a partition holds the sparse privilege (R83). -/
def Dev.sparsePriv (d : Dev) (p : Nat) : Bool := bit (d.rd (K.ofPart K.privileges p)) 0

/-- Whether a block is one 8-byte pattern repeated, of which one repeated byte is a case (Table 03.6). -/
def patternBlk (bs : List Byte) : Bool := bs.drop 8 == bs.take 248

/-- The sectors that the transparent encoder reaches for a block: 1 for a constant or repeated 8-byte pattern (Table 03.6), for
another block what the encoder finds (log entry 142). -/
def transSectors (bs : List Byte) : Nat := if patternBlk bs then 1 else Max.max 1 (Config.transparentSectors bs)

/-- The metadata of a whole block written to an object (R39, R83, R91, R93, R110). A block that its encoder leaves raw
carries codec none (DEDUCED, log entry 21). -/
def Dev.encodeMeta (d : Dev) (p : Nat) (o : Obj) (bs : List Byte) : Meta :=
  let rawB : Meta := ⟨8, true, 0, false⟩
  let transparent :=
    if !d.flag K.transparentEnable then rawB
    else
      let n := transSectors bs
      if n < 8 then ⟨n, false, 1, false⟩ else rawB
  match o.kind with
  | 1 => Meta.zero
  | 3 => ⟨8, false, 3, false⟩
  | 2 =>
    if !d.sparsePriv p then transparent
    else
      let n := sparseBytes o.fmt bs
      if 224 < n then rawB else ⟨ceilDiv n 32, false, 2, false⟩
  | _ => transparent

/-- The counts that a stored block leaves in 0x1200. -/
def Dev.countStored (d : Dev) (m : Meta) : Dev :=
  let d1 := if m.sectors < 8 then (d.inc K.blocksCompressed).add K.sectorsSaved (8 - m.sectors) else d
  if m.raw then d1.inc K.blocksRaw else d1

/-- A whole block written: its bytes, its metadata with POISON cleared (R90), its valid bit (R39). -/
def Dev.storeWhole (d : Dev) (p : Nat) (o : Obj) (blk : Nat) (bs : List Byte) : Dev :=
  let m := d.encodeMeta p o bs
  let k := pageKey p (blk / 256)
  let d1 := ((d.setBytes p (blk * 256) bs).setMeta (blkKey p blk) m).countStored m
  let d2 := d1.setValid k (setBit (d1.page k).valid (blk % 256))
  d2.setPage k { d2.page k with poison := d2.anyPoison k }

/-- Old bytes with new ones put over them where a mask gives one. -/
def merge (old : List Byte) (new : List (Option Byte)) : List Byte :=
  List.zipWith (fun o n => n.getD o) old (new ++ List.replicate (old.length - new.length) none)

/-- `new` shifted to begin at `off` within `len` bytes. -/
def maskAt (off len : Nat) (new : List (Option Byte)) : List (Option Byte) :=
  (List.range len).map (fun i => if off ≤ i then (new.getD (i - off) none) else none)

/-- A mask as a number, one bit a byte, and its bytes, zero where it writes none. -/
def maskBits (m : List (Option Byte)) : Nat := m.zipIdx.foldl (fun n e => if e.1.isSome then n + 2 ^ e.2 else n) 0
def maskData (m : List (Option Byte)) : List Byte := m.map (fun b => b.getD 0)

/-- Whether a mask writes every byte. -/
def fullMask (m : List (Option Byte)) : Bool := m.all Option.isSome

/-- Whether a mask writes no byte. -/
def emptyMask (m : List (Option Byte)) : Bool := m.all Option.isNone

/-- Part or all of a block of an ordinary object written (R39, R89). The page has a frame and the block is not poisoned
unless all of it is written. -/
def Dev.storeBlock (d : Dev) (p : Nat) (o : Obj) (blk : Nat) (m : List (Option Byte)) (cls : Nat) : Dev :=
  if emptyMask m then d
  else
    let k := pageKey p (blk / 256)
    let t := d.medium k
    let old := d.bytes p (blk * 256) 256
    let new := merge old m
    let md := d.meta (blkKey p blk)
    if !fullMask m && d.blkValid p blk && md.codec == 0 then
      let secs := countBy (fun s => (List.range 32).any (fun i => (m.getD (32 * s + i) none).isSome)) (List.range 8)
      ((d.metaUse k).1.setBytes p (blk * 256) new).chargeTier t true cls (32 * secs)
    else
      let u := d.metaUse k
      let d1 := if !fullMask m && d.blkValid p blk then
          (u.1.add K.metaMisses (b2n (!u.2))).chargeTier t false cls (32 * (if u.2 then md.sectors else 8)) else u.1
      let d2 := d1.storeWhole p o blk new
      d2.chargeTier t true cls (32 * (d2.meta (blkKey p blk)).sectors)

/-- A block marked poisoned; an invalid block is first made valid with zeros (R147, R298). Without a frame the page map
entry carries the mark (R147). -/
def Dev.poisonBlock (d : Dev) (p blk : Nat) : Dev :=
  let k := pageKey p (blk / 256)
  let d1 :=
    if (d.page k).home.isNone then d.setPage k { d.page k with poison := true }
    else
      let d1 := d.setMeta (blkKey p blk) { d.meta (blkKey p blk) with poison := true }
      let d2 := if d1.blkValid p blk then d1 else d1.setValid k (setBit (d1.page k).valid (blk % 256))
      d2.setPage k { d2.page k with poison := true }
  if d.blkPoison p blk then d1 else d1.inc (K.blocksPoisonedP + p)

/-! ## Frames for first writes (R60) -/

/-- A frame for the first write to a page: home and whether it is a committed floor frame. The search goes through
PREFERRED, the other allowed tiers from high to low, the floor within its commitment, and TH for an overflow page; a floor
that is PREFERRED comes first (DEDUCED, log entry 57). -/
def Dev.firstFrame (d : Dev) (p : Nat) (o : Obj) : Option (Home × Bool) :=
  let fl := pdFloor o.desc
  let pref := tierOf (pdPreferred o.desc)
  let up := [pref, .t1, .t2, .t3].filter (fun t => pdAllows o.desc t && t != fl)
  let above := match up.find? (fun t => 0 < d.room p t && (d.freeFrame t).isSome) with
    | some t => (d.freeFrame t).map (fun f => (Home.mk t f false, false))
    | none => none
  let floor := if d.floorRoom p o then (d.freeFrame fl).map (fun f => (Home.mk fl f false, true)) else none
  let th := if pdAllows o.desc .th && o.viewTo.isNone && 0 < d.room p .th then d.freeTh.map (fun f => (Home.mk .th f false, false)) else none
  (if pref == fl then floor.or above else above.or floor).or th

/-- The page with a frame: unchanged when it has one. A page whose frame was lost takes its poison along into the
blocks (R34). None when no tier has room. A frame found in T3 is stored into at once, without write staging or a promotion
(DESIGN CHOICE, log entry 123). -/
def Dev.ensureFrame (d : Dev) (p : Nat) (o : Obj) (k : Nat) : Option Dev :=
  let x := d.page k
  if x.home.isSome then some d
  else match d.firstFrame p o with
    | none => none
    | some (h, fl) =>
      let d1 := (d.tookFrame h.tier h.frame).setPage k { x with home := some h, fl := fl, st := .resident }
      some (if x.poison then
          (pageBlks k).foldl (fun d b => d.setMeta b { Meta.zero with poison := true })
            (d1.setPage k { d1.page k with valid := validAll })
        else d1)

/-- Each page of a list of page numbers with a frame; none when one finds none, and then nothing changes. -/
def Dev.ensureFrames (p : Nat) (o : Obj) : List Nat → Dev → Option Dev
  | [], d => some d
  | pg :: r, d => (d.ensureFrame p o (pageKey p pg)).bind (Dev.ensureFrames p o r)

/-- An access to blocks of a page noted in HEAT and EPOCH, and in its object (R33, R52). -/
def Dev.touch (d : Dev) (p pg nblk : Nat) : Dev :=
  let k := pageKey p pg
  let x := d.page k
  let d1 := d.setPage k { x with heat := Min.min 65535 (x.heat + nblk), epoch := d.mm.epoch }
  match d.objAt p (pg * 65536) with
  | some (n, _) => d1.modObj p n (fun o => { o with accessed := true })
  | none => d1

/-- One lookup of a page's entry in the page map cache of an I/O tile: a miss is counted and brings the entry in. Which tile
looks up a page, and which entry leaves a full cache, is drawn (R35; log entry 14). -/
def Dev.pmapOne (d : Dev) (k : Nat) : Dev :=
  let tile := d.free % 2
  let l := kget [] tile d.mm.pmapC
  let hit := l.contains k
  let l1 := if 262144 ≤ l.length then l.eraseIdx (d.free / 2 % l.length) else l
  { d.drawn.add K.pmapMisses (b2n (!hit)) with mm := { d.mm with
      pmapC := if hit then d.mm.pmapC else kput tile (l1 ++ [k]) d.mm.pmapC } }

/-- The lookups of the pages of a request (R36). -/
def Dev.pmapLookup (d : Dev) (ks : List Nat) : Dev := ks.eraseDups.foldl Dev.pmapOne d

/-- The lines that lenders returned to an access forgotten: it is over. -/
def Dev.thForget (d : Dev) (who : Nat) : Dev :=
  { d with mm := { d.mm with thGot := d.mm.thGot.filter (fun e => e.1 != who) } }

/-- The medium read of a run of bytes within one block, charged to a class (R88, R89, R279): the touched sectors of a
block without codec, all sectors of another, and all 8 on a metadata miss. -/
def Dev.readCharge (d : Dev) (p off len cls : Nat) : Dev :=
  let blk := off / 256
  let k := pageKey p (blk / 256)
  if !d.blkValid p blk || (d.page k).lost then d
  else match d.medium k with
    | .th => d
    | t =>
      let md := d.meta (blkKey p blk)
      let u := d.metaUse k
      let sectors := if !u.2 then 8 else if md.codec == 0 then (off + len - 1) / 32 - off / 32 + 1 else md.sectors
      ((u.1.add K.metaMisses (b2n (!u.2))).chargeTier t false cls (32 * sectors)).add K.sectorsSaved
        (if u.2 && md.codec != 0 then 8 - md.sectors else 0)

end Sys2Proof.Machine
end

