-- ==== Sys2Proof/Machine/Arbiter.lean ====
section
/-! DEFINITION. The arbiters of the memory controllers (R291 to R297): their priority sets, the ranks of requests, the grant of a
request, and the locked sequences that hold them. The crossbar and the fabric ports (groups 3 to 5) rank by class alone among requests present in
one cycle; the model takes one command at a time, so a decision of theirs never has a choice (log entry 135). -/

namespace Sys2Proof.Machine

/-- The tenant classes. -/
def tenants : List Nat := (List.range 14).map (· + 1)

/-! ## Priority sets (R293, R294) -/

/-- The ranks of one class of a group swapped between its sets. -/
def Dev.swapRank (g : Nat) (d : Dev) (c : Nat) : Dev :=
  let a := K.active + 256 * g + c
  let b := K.shadow + 256 * g + c
  (d.wr a (d.rd b)).wr b (d.rd a)

/-- The sets of the selected groups swapped. -/
def Dev.commitGroups (d : Dev) (mask : Nat) : Dev :=
  ((List.range 6).filter (fun g => bit mask g)).foldl (fun d g => tenants.foldl (Dev.swapRank g) d) d

/-- The end of a pending commit: the selected arbiters swap their sets, COMMIT_PENDING is 0 and COMMITS counts (Table 09.7). -/
def Dev.commitDone (d : Dev) : Dev :=
  if d.rd K.commitPending == 0 then d
  else ((d.commitGroups (d.rd K.commitPending)).wr K.commitPending 0).inc K.commits

/-- What an access to the arbiter objects, or a decision of an arbiter, meets: a commit still pending, or one that ended within its 5
fclk cycles. Which of the two is free (log entry 11). -/
def Dev.commitMeets (d : Dev) : Dev :=
  if d.rd K.commitPending == 0 then d else if d.free % 2 == 0 then d.drawn.commitDone else d.drawn

/-! ## Arbiters of the memory groups -/

/-- The arbiter at which a home is served, as group * 64 + its number: the controller of its stack or DDR channel, or the flash channel
of its frame, which the manual leaves open (log entry 135); a T3 page in write staging is served at a DDR controller. Lent memory has none (R279). -/
def Home.arb (h : Home) (staging : Bool) : Option Nat :=
  match h.tier with
  | .t1 => some (h.frame % 8)
  | .t2 => some (64 + h.frame % 16)
  | .t3 => some (if staging then 64 + stagingChan h.frame else 128 + Config.flashArb h.frame % 32)
  | .th => none

/-- The arbiter of a page where it is homed. -/
def Dev.pageArb (d : Dev) (k : Nat) : Option Nat := (d.page k).home.bind (fun h => h.arb (d.mm.staged.contains k))

/-- The arbiters of pages. -/
def Dev.arbsOf (d : Dev) (ks : List Nat) : List Nat := (ks.filterMap d.pageArb).eraseDups

/-- The resource that a read or a write takes at an arbiter (Table 09.6). -/
def arbRes (a : Nat) (w : Bool) : Nat := if a < 128 then a / 64 else if w then 3 else 2

/-- The rank of a request of a class at an arbiter: 0 when it is demoted, else its rank in the active set; Q0 ranks 15 and Q15 0
(R276, R286, R292). -/
def Dev.rankAt (d : Dev) (a : Nat) (w : Bool) (c : Nat) : Nat :=
  if c == 0 then 15 else if c == 15 || d.demoted (arbRes a w) c then 0 else d.rd (K.active + 256 * (a / 64) + c)

/-- Decisions of an arbiter since it last granted a rank-0 request while one waited (R288). -/
def Dev.floorAt (d : Dev) (a : Nat) : Nat := kget 0 a d.bw.floorCnt

/-- A request of a class granted at an arbiter: the round-robin pointer goes to its class, and a rank-0 grant begins the count of R288
anew; `passed` says that a rank-0 request waited and this one is none. -/
def Dev.grantAt (d : Dev) (w : Bool) (c : Nat) (passed : Bool) (a : Nat) : Dev :=
  { d with bw := { d.bw with
      rr := kput a c d.bw.rr
      floorCnt := if d.rankAt a w c == 0 then kdel a d.bw.floorCnt else if passed then kput a (d.floorAt a + 1) d.bw.floorCnt else d.bw.floorCnt } }

/-- The grant of an access at the arbiters of its pages, where nothing else waited. -/
def Dev.grantPages (d : Dev) (w : Bool) (c : Nat) (ks : List Nat) : Dev := (d.arbsOf ks).foldl (fun d a => d.grantAt w c false a) d

/-- The first class after the pointer, in class order, among some (R292). -/
def afterPointer (rr : Nat) (cs : List Nat) : Option Nat :=
  ((List.range 16).map (fun i => (rr + 1 + i) % 16)).find? cs.contains

/-- The class that an arbiter grants among the requests that wait for it, each given as whether it writes and its class (R288, R292). -/
def Dev.arbClass (d : Dev) (a : Nat) (rs : List (Bool × Nat)) : Option Nat :=
  let rank := fun r : Bool × Nat => d.rankAt a r.1 r.2
  let due := 63 ≤ d.floorAt a && rs.any (fun r => rank r == 0)
  let top := if due then 0 else (rs.map rank).foldl Max.max 0
  afterPointer (kget 0 a d.bw.rr) ((rs.filter (fun r => rank r == top)).map (·.2))

/-! ## Locked sequences (R296, R297) -/

/-- Whether an arbiter is held by a locked sequence that `own` does not name. -/
def Dev.lockedBy (d : Dev) (own : Lock → Bool) (a : Nat) : Bool :=
  d.bw.locks.any (fun l => !own l && l.pages.any (fun k => d.pageArb k == some a))

/-- Whether an access to pages meets an arbiter held by another locked sequence: no other request is granted there, Q0 included (R297). -/
def Dev.pagesHeld (d : Dev) (own : Lock → Bool) (ks : List Nat) : Bool := (d.arbsOf ks).any (d.lockedBy own)

/-- Whether a locked sequence with beats in a page is under way (R297). -/
def Dev.pageInLock (d : Dev) (k : Nat) : Bool := d.bw.locks.any (fun l => l.pages.contains k)

/-! ## Requests that the device's own masters hold back (R287) -/

/-- Whether a class is held by its cap on the resources of pages. -/
def Dev.capPages (d : Dev) (ks : List Nat) (w : Bool) (cls : Nat) : Bool :=
  ks.any (fun k => match resOf (d.medium k) w with
    | some res => d.capHeld res cls
    | none => false)

/-- A request of a channel (kind 0), a move (1) or a seal (2) noted as held, and counted once until the next refill (R299). -/
def Dev.noteHeld (d : Dev) (kind key cls : Nat) : Dev :=
  if d.bw.heldNow.contains (kind, key, cls) then d
  else { d.inc (K.heldRequests + cls) with bw := { d.bw with heldNow := d.bw.heldNow ++ [(kind, key, cls)] } }

end Sys2Proof.Machine
end

