-- ==== Sys2Proof/Machine/Codec.lean ====
section
/-! DEFINITION. Views (chapter "Codecs and views"): how an access to an object, window or alias falls onto stored bytes,
fixed-rate groups (R94 to R99), delta chunks (R101 to R107), and reads and writes of views as data. -/

namespace Sys2Proof.Machine

/-! ## Targets -/

/-- An access resolved past aliases: the owning partition, object number, object, and the offset in that partition. -/
structure Tgt where
  part : Nat
  num : Nat
  obj : Obj
  off : Nat
deriving DecidableEq, Repr

/-- The target of a partition offset (R127). -/
def Dev.resolve (d : Dev) (p off : Nat) : Option Tgt :=
  match d.objAt p off with
  | none => none
  | some (n, o) =>
    match o.aliasOf with
    | none => some ⟨p, n, o, off⟩
    | some (q, m) =>
      match d.obj q m with
      | some u => some ⟨q, m, u, u.ext * 2 ^ 30 + (off - o.ext * 2 ^ 30)⟩
      | none => none

/-- The offset of a target within its object. -/
def Tgt.rel (t : Tgt) : Nat := t.off - t.obj.ext * 2 ^ 30

/-- Whether a run of bytes stays within the object of its target. -/
def Tgt.holds (t : Tgt) (len : Nat) : Bool := t.rel + len ≤ t.obj.n * 2 ^ 30

/-- Stored bytes that an access touches, in the range of partition `part`. -/
structure Piece where
  part : Nat
  off : Nat
  len : Nat
deriving DecidableEq, Repr

/-- The object that an object number of a partition stands for: the exported object behind an alias (R127). -/
def Dev.real (d : Dev) (p n : Nat) : Nat × Nat :=
  match d.obj p n with
  | some o => o.aliasOf.getD (p, n)
  | none => (p, n)

/-- The object behind an object number. -/
def Dev.realObj (d : Dev) (p n : Nat) : Option Obj := d.obj (d.real p n).1 (d.real p n).2

/-- The first byte of an object, 0 when it is gone. -/
def Dev.baseOff (d : Dev) (p n : Nat) : Nat :=
  match d.obj p n with
  | some o => o.ext * 2 ^ 30
  | none => 0

/-! ## Canonical codes (R103) -/

/-- The symbols that have a code, in the order of length and symbol value. -/
def canonSyms (lens : List Nat) : List (Nat × Nat) :=
  (List.range 16).flatMap (fun l => (lens.zipIdx.filter (fun e => e.1 == l + 1)))

/-- The codes in order: length, symbol, code value, from the first code of all zeros. -/
def canonFrom : List (Nat × Nat) → Nat → Nat → List (Nat × Nat × Nat)
  | [], _, _ => []
  | (l, s) :: r, code, prev => (l, s, code * 2 ^ (l - prev)) :: canonFrom r (code * 2 ^ (l - prev) + 1) l

/-- The canonical codes of a table of code lengths. -/
def canon (lens : List Nat) : List (Nat × Nat × Nat) := canonFrom (canonSyms lens) 0 0

/-- The lowest `n` bits of a number, the most significant first. -/
def bitsMsb (n v : Nat) : List Bool := ((List.range n).map (fun i => bit v i)).reverse

/-- The code of a symbol, none when it has none. -/
def encSym (codes : List (Nat × Nat × Nat)) (s : Nat) : Option (List Bool) :=
  (codes.find? (fun e => e.2.1 == s)).map (fun e => bitsMsb e.1 e.2.2)

/-- The next symbol of a bit stream: length so far, code value so far. -/
def decSym (codes : List (Nat × Nat × Nat)) : Nat → Nat → List Bool → Option (Nat × List Bool)
  | _, _, [] => none
  | n, v, b :: r =>
    match codes.find? (fun e => e.1 == n + 1 && e.2.2 == 2 * v + b2n b) with
    | some e => some (e.2.1, r)
    | none => decSym codes (n + 1) (2 * v + b2n b) r

/-- Bits packed into bytes, each byte filled from bit 0 upward. -/
def packBits : Nat → List Bool → List Byte
  | 0, _ => []
  | k + 1, bs =>
    BitVec.ofNat 8 ((bs.take 8).zipIdx.foldl (fun n e => n + b2n e.1 * 2 ^ e.2) 0) :: packBits k (bs.drop 8)

/-- The bits of bytes, bit 0 of each first. -/
def unpackBits (bs : List Byte) : List Bool := bs.flatMap (fun b => (List.range 8).map (fun i => bit b.toNat i))

/-- The elements of a chunk or less: pairs of high and low byte. -/
def elems (bs : List Byte) : List (Nat × Nat) :=
  (List.range (bs.length / 2)).map (fun i => ((bs.getD (2 * i + 1) 0).toNat, (bs.getD (2 * i) 0).toNat))

/-- The bits of each element of a chunk, none when a symbol has no code. -/
def encElems (hi lo : List (Nat × Nat × Nat)) : List (Nat × Nat) → Option (List (List Bool))
  | [] => some []
  | (h, l) :: r =>
    match encSym hi h, encSym lo l, encElems hi lo r with
    | some a, some b, some c => some ((a ++ b) :: c)
    | _, _, _ => none

/-- A chunk of 4,096 bytes coded, with its header; none when it must stay raw (R102, Table 03.11). -/
def encodeChunk (c : Codes) (bs : List Byte) : Option (Nat × List Byte) :=
  match encElems (canon c.hi) (canon c.lo) (elems bs) with
  | none => none
  | some es =>
    let starts := (List.range 7).map (fun i => ((es.take (256 * (i + 1))).map List.length).sum)
    let bits := es.flatten
    let secs := ceilDiv (32 + ceilDiv bits.length 8) 32
    if secs ≤ 127 then
      some (secs, leBytes 2 (Max.max 2 secs) ++ starts.flatMap (leBytes 2) ++ leBytes 2 bits.length ++ zeros 14 ++
        packBits (ceilDiv bits.length 8) bits)
    else none

/-- Symbols of a bit stream decoded into `n` elements of two bytes each; a stream that ends early gives zeros. -/
def decElems (hi lo : List (Nat × Nat × Nat)) : Nat → List Bool → List Byte
  | 0, _ => []
  | n + 1, bs =>
    match decSym hi 0 0 bs with
    | none => zeros (2 * (n + 1))
    | some (h, r) =>
      match decSym lo 0 0 r with
      | none => zeros (2 * (n + 1))
      | some (l, r') => BitVec.ofNat 8 l :: BitVec.ofNat 8 h :: decElems hi lo n r'

/-- The 4,096 bytes of a coded chunk. -/
def decodeChunk (c : Codes) (stored : List Byte) : List Byte :=
  decElems (canon c.hi) (canon c.lo) 2048 ((unpackBits (stored.drop 32)).take (leAt stored 16 2))

/-! ## Fixed-rate groups (R95 to R99) -/

/-- Where group `g` of a FIXED window lies: data offset and length, scale offset, in the window's partition. -/
def Dev.groupAt (d : Dev) (p : Nat) (w : Obj) (g : Nat) : Nat × Nat × Nat :=
  let b := (mxOf w.fmt).bytes
  let o := d.baseOff p w.backing
  (o + g * b, b, o + w.scalePage * 65536 + g)

/-- The 64 host bytes of a group. It reads zero while its data blocks are invalid (R99). -/
def Dev.groupRead (d : Dev) (p : Nat) (w : Obj) (g : Nat) : List Byte :=
  let (doff, b, soff) := d.groupAt p w g
  if !d.blkValid p (doff / 256) && !d.blkValid p ((doff + b - 1) / 256) then zeros 64
  else
    let mx := mxOf w.fmt
    ((mx.group (d.byte p soff).toNat (d.bytes p doff b)).map (fun v => leBytes 2 (fBF16.write v))).flatten

/-- The stored bytes of a group encoded from 64 host bytes: the data bytes and the scale; with `sr` the first of 32 draws
that round it (R96). -/
def encodeGroup (fmt : Nat) (sr : Option Nat) (bs : List Byte) : List Byte × Nat :=
  let mx := mxOf fmt
  let r := mx.encode sr ((List.range 32).map (fun i => fBF16.read (leAt bs (2 * i) 2)))
  (mx.pack r.2, r.1)

/-! ## Delta windows (R101, R107) -/

/-- The stored chunk `c` (an offset / 4096) of a delta store: sectors, whether coded; none when nothing is stored. -/
def Dev.chunkForm (d : Dev) (p c : Nat) : Option (Nat × Bool) :=
  if !d.blkValid p (c * 16) then
    (if (List.range 16).any (fun i => d.blkValid p (c * 16 + i)) then some (128, false) else none)
  else if (d.meta (blkKey p (c * 16))).codec == 4 then some (leAt (d.bytes p (c * 4096) 2) 0 2, true)
  else some (128, false)

/-- The code tables of the extent in which a chunk lies. -/
def Obj.tables (o : Obj) (off : Nat) : Codes := kget ⟨[], []⟩ (off / 2 ^ 30 - o.ext) o.codes

/-- The delta bytes of a chunk. -/
def Dev.chunkRead (d : Dev) (p : Nat) (o : Obj) (c : Nat) : List Byte :=
  match d.chunkForm p c with
  | some (n, true) => decodeChunk (o.tables (c * 4096)) (d.bytes p (c * 4096) (32 * n))
  | _ => d.bytes p (c * 4096) 4096

/-- A variant element of a format from base and delta bits (Table 03.10); the sum is rounded once (DEDUCED, log entry
22). -/
def deltaElem (fmt base delta : Nat) : Nat :=
  match fmt with
  | 0 => fBF16.write ((fBF16.read base).add (fBF16.read delta))
  | 1 => fFP16.write ((fFP16.read base).add (fFP16.read delta))
  | _ => base ^^^ delta

/-- Bytes of a DELTA window: an even run of elements at an even offset of the window. -/
def Dev.deltaRead (d : Dev) (p : Nat) (w : Obj) (rel len : Nat) : List Byte :=
  match d.obj p w.backing, d.realObj p w.base with
  | some s, some b =>
    let lo := rel / 2 * 2
    let n := (rel + len + 1 - lo) / 2
    let c0 := (s.ext * 2 ^ 30 + lo) / 4096
    let c1 := (s.ext * 2 ^ 30 + lo + 2 * n - 1) / 4096
    let ds := slice ((List.range (c1 + 1 - c0)).flatMap (fun i => d.chunkRead p s (c0 + i))) (lo % 4096) (2 * n)
    let bs := d.bytes (d.real p w.base).1 (b.ext * 2 ^ 30 + lo) (2 * n)
    slice ((List.range n).flatMap (fun i => leBytes 2 (deltaElem s.fmt (leAt bs (2 * i) 2) (leAt ds (2 * i) 2)))) (rel - lo) len
  | _, _ => zeros len

/-! ## Views as data -/

/-- The bytes of a view (R97, R107). -/
def Dev.viewRead (d : Dev) (t : Tgt) (len : Nat) : List Byte :=
  match t.obj.kind with
  | 4 =>
    let g0 := t.rel / 64
    let g1 := (t.rel + len - 1) / 64
    slice ((List.range (g1 + 1 - g0)).flatMap (fun i => d.groupRead t.part t.obj (g0 + i))) (t.rel % 64) len
  | 5 => d.deltaRead t.part t.obj t.rel len
  | _ => d.bytes t.part t.off len

/-- The part of a delta chunk that a read of bytes `a` to `b` of it touches: its header and its payload from the restart
point before `a` (R107); the bytes themselves when the chunk is raw. -/
def Dev.chunkPieces (d : Dev) (p c a b : Nat) : List Piece :=
  match d.chunkForm p c with
  | some (_, true) =>
    let h := d.bytes p (c * 4096) 32
    let st := if a / 512 == 0 then 0 else leAt h (2 * (a / 512)) 2
    let en := if b / 512 == 7 then leAt h 16 2 else leAt h (2 * (b / 512 + 1)) 2
    [⟨p, c * 4096, 32⟩, ⟨p, c * 4096 + 32 + st / 8, (en - 1) / 8 + 1 - st / 8⟩]
  | _ => [⟨p, c * 4096 + a, b + 1 - a⟩]

/-- The stored bytes that a read of a view touches. -/
def Dev.readPieces (d : Dev) (t : Tgt) (len : Nat) : List Piece :=
  match t.obj.kind with
  | 4 =>
    let g0 := t.rel / 64
    let n := (t.rel + len - 1) / 64 + 1 - g0
    let (doff, b, soff) := d.groupAt t.part t.obj g0
    [⟨t.part, doff, n * b⟩, ⟨t.part, soff, n⟩]
  | 5 =>
    let so := d.baseOff t.part t.obj.backing + t.rel
    let c0 := so / 4096
    let c1 := (so + len - 1) / 4096
    let b := d.real t.part t.obj.base
    ⟨b.1, d.baseOff b.1 b.2 + t.rel, len⟩ ::
      (List.range (c1 + 1 - c0)).flatMap (fun i =>
        d.chunkPieces t.part (c0 + i) (if i == 0 then so % 4096 else 0) (if c0 + i == c1 then (so + len - 1) % 4096 else 4095))
  | _ => [⟨t.part, t.off, len⟩]

/-- The stored bytes that a write of a view touches: none for a DELTA window, which is never written (R107). -/
def Dev.writePieces (d : Dev) (t : Tgt) (len : Nat) : List Piece :=
  if t.obj.kind == 5 then [] else d.readPieces t len

/-- The blocks of a piece, by number. -/
def Piece.blks (x : Piece) : List Nat :=
  if x.len == 0 then [] else (List.range ((x.off + x.len - 1) / 256 + 1 - x.off / 256)).map (fun i => x.off / 256 + i)

/-- The pages of a piece, by number. -/
def Piece.pages (x : Piece) : List Nat :=
  if x.len == 0 then [] else (List.range ((x.off + x.len - 1) / 65536 + 1 - x.off / 65536)).map (fun i => x.off / 65536 + i)

/-- The keys of the pages of pieces. -/
def pieceKeys (ps : List Piece) : List Nat := ps.flatMap (fun x => x.pages.map (fun pg => pageKey x.part pg))

/-- Whether a piece touches a poisoned block. -/
def Dev.piecePoison (d : Dev) (x : Piece) : Bool := x.blks.any (fun b => d.blkPoison x.part b)

/-- Whether a read of a view touches a poisoned block (R381). -/
def Dev.readPoison (d : Dev) (t : Tgt) (len : Nat) : Bool := (d.readPieces t len).any d.piecePoison

/-- Whether a live DELTA window names an object as its base (R107). -/
def Dev.baseSealed (d : Dev) (p n : Nat) : Bool :=
  d.mm.objs.any (fun e => e.2.kind == 5 && e.2.aliasOf.isNone && d.real (e.1 / 2 ^ 16) e.2.base == (p, n))

/-- Whether an object is SEALED: a DELTA_STORE, or a base named by a live DELTA window (R81). -/
def Dev.sealedObj (d : Dev) (p n : Nat) (o : Obj) : Bool := o.kind == 6 || d.baseSealed p n

/-- Whether a write of `len` bytes is of whole poisoned blocks of a sealed object (R383). -/
def Dev.cureWrite (d : Dev) (t : Tgt) (len : Nat) : Bool :=
  t.off % 256 == 0 && len % 256 == 0 && (⟨t.part, t.off, len⟩ : Piece).blks.all (fun b => d.blkPoison t.part b)

/-- Whether a write does not cover a poisoned block that it touches (R90); a fixed-rate write is looked at in both
planes. -/
def Dev.writePoison (d : Dev) (t : Tgt) (m : List (Option Byte)) : Bool :=
  (d.writePieces t m.length).any (fun x => x.blks.any (fun b =>
    d.blkPoison x.part b &&
      !(x.off ≤ b * 256 && (b + 1) * 256 ≤ x.off + x.len && (if t.obj.kind == 4 then fullMask m && t.rel % 64 == 0 && m.length % 64 == 0
        else fullMask (slice' m (b * 256 - x.off))))))
where
  /-- The 256 mask entries from `i` on. -/
  slice' (m : List (Option Byte)) (i : Nat) : List (Option Byte) := (m.drop i).take 256

/-- Whether a seal of an object runs: its writes are refused, its reads held (Table 03.12). -/
def Obj.sealStarted (o : Obj) : Bool := o.sealing.any (fun x => x.started)

/-- Whether a seal of an object runs that a target stands for, or that a window at it is made of: accesses meet it there too. -/
def Dev.sealMet (d : Dev) (t : Tgt) : Bool :=
  t.obj.sealStarted || (t.obj.window && ((d.obj t.part t.obj.backing).any Obj.sealStarted ||
    (t.obj.kind == 5 && (d.realObj t.part t.obj.base).any Obj.sealStarted)))

/-- Whether the backing of a FIXED window at a target is SEALED: a store through the window would write it (R107). -/
def Dev.backingSealed (d : Dev) (t : Tgt) : Bool :=
  t.obj.kind == 4 && (d.obj t.part t.obj.backing).any (fun b => d.sealedObj t.part t.obj.backing b)

/-- The status with which a write of a view is refused, none when it may proceed (R90, R104, R107, R383). -/
def Dev.writeRefusal (d : Dev) (t : Tgt) (m : List (Option Byte)) : Option Nat :=
  if t.obj.kind == 5 || d.sealMet t || d.backingSealed t then some 0x10
  else if d.sealedObj t.part t.num t.obj && !(d.cureWrite t m.length && fullMask m) then some 0x10
  else if d.writePoison t m then some 0x20
  else none

/-- Frames for the NONE pages that a write touches (R60); none when one finds no room. -/
def Dev.framesFor : List Piece → Dev → Option Dev
  | [], d => some d
  | x :: r, d =>
    match d.objAt x.part x.off with
    | some (_, o) => (Dev.ensureFrames x.part o x.pages d).bind (Dev.framesFor r)
    | none => none

/-- Part of a piece written block by block. -/
def Dev.storeRun (d : Dev) (p off : Nat) (o : Obj) (m : List (Option Byte)) (cls : Nat) : Dev :=
  (⟨p, off, m.length⟩ : Piece).blks.foldl (fun d b =>
    d.storeBlock p o b
      (if off ≤ b * 256 then (m.drop (b * 256 - off)).take 256 ++ List.replicate (256 - (m.drop (b * 256 - off)).length) none
       else maskAt (off - b * 256) 256 (m.take (256 - (off - b * 256)))) cls) d

/-- One group of a FIXED window written: merged with what it reads, quantized, and stored in both planes (R98). -/
def Dev.storeGroup (d : Dev) (p : Nat) (w : Obj) (cls g : Nat) (m : List (Option Byte)) : Dev :=
  if emptyMask m then d
  else
    let (doff, b, soff) := d.groupAt p w g
    let d1 := if fullMask m then d else (d.readCharge p doff b cls).readCharge p soff 1 cls
    let e := encodeGroup w.fmt (if w.stoch then some d1.fresh else none) (merge (d.groupRead p w g) m)
    let d2 := if w.stoch then { d1 with fresh := d1.fresh + 32 } else d1
    match d2.obj p w.backing with
    | none => d2
    | some bo =>
      let d3 := (d2.storeRun p doff bo (e.1.map some) cls).storeRun p soff bo [some (BitVec.ofNat 8 e.2)] cls
      if e.2 == 0xFF then d3.inc K.qbNanGroups else d3

/-- The poison marks of blocks that a write of a FIXED window covers whole cleared (R90): each is about to be written throughout. -/
def Dev.curePieces (d : Dev) (ps : List Piece) : Dev :=
  ps.foldl (fun d x => x.blks.foldl (fun d b =>
    if d.blkPoison x.part b && x.off ≤ b * 256 && (b + 1) * 256 ≤ x.off + x.len then
      let k := pageKey x.part (b / 256)
      let d1 := d.setMeta (blkKey x.part b) { d.meta (blkKey x.part b) with poison := false }
      d1.setPage k { d1.page k with poison := d1.anyPoison k }
    else d) d) d

/-- A write of a view carried out; frames are there and no check refuses it. -/
def Dev.viewWrite (d0 : Dev) (t : Tgt) (m : List (Option Byte)) (cls : Nat) : Dev :=
  let d := if t.obj.kind == 4 then d0.curePieces (d0.writePieces t m.length) else d0
  if t.obj.kind == 4 then
    let g0 := t.rel / 64
    (List.range ((t.rel + m.length - 1) / 64 + 1 - g0)).foldl (fun d i =>
      d.storeGroup t.part t.obj cls (g0 + i)
        (if i == 0 then maskAt (t.rel % 64) 64 (m.take (64 - t.rel % 64))
         else maskAt 0 64 ((m.drop (i * 64 - t.rel % 64)).take 64))) d
  else d.storeRun t.part t.off t.obj m cls

/-- HEAT and EPOCH of the pages that pieces touch. -/
def Dev.touchPieces (d : Dev) (ps : List Piece) : Dev :=
  ps.foldl (fun d x => x.pages.foldl (fun d pg =>
    d.touch x.part pg (countBy (fun b => b / 256 == pg) x.blks)) d) d

/-- The blocks that pieces read, each with the first piece that reads it: the header and payload of a coded chunk share block 0. -/
def readBlks : List Piece → List (Piece × Nat)
  | ps => (ps.flatMap (fun x => x.blks.map (fun b => (x, b)))).foldl (fun l e =>
      if l.any (fun y => y.1.part == e.1.part && y.2 == e.2 && y.1.off / 4096 == e.1.off / 4096) then l else l ++ [e]) []

/-- The medium reads of pieces, charged to a class, each block once (R105, R279). -/
def Dev.chargePieces (d : Dev) (ps : List Piece) (cls : Nat) : Dev :=
  (readBlks ps).foldl (fun d e =>
    let lo := Max.max e.1.off (e.2 * 256)
    d.readCharge e.1.part lo (Min.min (e.1.off + e.1.len) ((e.2 + 1) * 256) - lo) cls) d

/-- Chunks of a DELTA window read above their declared size: chunks and excess sectors (R105, R106). -/
def Dev.overruns (d : Dev) (t : Tgt) (len : Nat) : Nat × Nat :=
  if t.obj.kind != 5 then (0, 0)
  else match d.obj t.part t.obj.backing with
    | none => (0, 0)
    | some s =>
      if s.declMode == 1 then (0, 0)
      else
        let so := s.ext * 2 ^ 30 + t.rel
        (List.range ((so + len - 1) / 4096 + 1 - so / 4096)).foldl (fun a i =>
          match d.chunkForm t.part (so / 4096 + i) with
          | some (n, _) => if s.declSectors < n then (a.1 + 1, a.2 + (n - s.declSectors)) else a
          | none => a) (0, 0)

/-- Overrun chunks counted (R105). -/
def Dev.countOverruns (d : Dev) (p : Nat) (ov : Nat × Nat) : Dev :=
  if ov.1 == 0 then d
  else ((d.add K.overrunChunks ov.1).add K.overrunSectors ov.2).add (K.overrunSectorsP + p) ov.2

end Sys2Proof.Machine
end

