-- ==== Sys2Proof/Machine/Xts.lean ====
section
/-! DEFINITION. AES-256-XTS, under which a PROTECTED object stores its blocks (R110, R470), and the token code of the link codec
(R108, Table 03.13). The manual names the cipher and does not define it: the cipher is that of FIPS 197 and IEEE 1619 (PRESUMED,
log entry 149). -/

namespace Sys2Proof.Machine

/-! ## AES-256 -/

/-- The substitution box, 16 entries a row, the first entry of a row in its highest byte. -/
def sboxRows : List Nat :=
  [0x637c777bf26b6fc53001672bfed7ab76, 0xca82c97dfa5947f0add4a2af9ca472c0, 0xb7fd9326363ff7cc34a5e5f171d83115,
   0x04c723c31896059a071280e2eb27b275, 0x09832c1a1b6e5aa0523bd6b329e32f84, 0x53d100ed20fcb15b6acbbe394a4c58cf,
   0xd0efaafb434d338545f9027f503c9fa8, 0x51a3408f929d38f5bcb6da2110fff3d2, 0xcd0c13ec5f974417c4a77e3d645d1973,
   0x60814fdc222a908846eeb814de5e0bdb, 0xe0323a0a4906245cc2d3ac629195e479, 0xe7c8376d8dd54ea96c56f4ea657aae08,
   0xba78252e1ca6b4c6e8dd741f4bbd8b8a, 0x703eb5664803f60e613557b986c11d9e, 0xe1f8981169d98e949b1e87e9ce5528df,
   0x8ca1890dbfe6426841992d0fb054bb16]

/-- A byte substituted. -/
def sbox (a : Nat) : Nat := fld (sboxRows.getD (a / 16) 0) (8 * (15 - a % 16)) 8

/-- The byte whose substitution is given. -/
def sboxInv (a : Nat) : Nat := ((List.range 256).find? (fun b => sbox b == a)).getD 0

/-- A byte times x in the field of AES. -/
def xtime (a : Nat) : Nat := if a < 128 then 2 * a else (2 * a) ^^^ 0x11B

/-- The product of two bytes, the second of at most four bits. -/
def gmul (a b : Nat) : Nat :=
  (if bit b 0 then a else 0) ^^^ (if bit b 1 then xtime a else 0) ^^^ (if bit b 2 then xtime (xtime a) else 0) ^^^
  (if bit b 3 then xtime (xtime (xtime a)) else 0)

/-- Bytes added in the field, place by place. -/
def xorBytes (a b : List Nat) : List Nat := List.zipWith (fun x y => x ^^^ y) a b

/-- The next word of the key schedule; word `i` follows the words `ws`. -/
def nextKeyWord (ws : List (List Nat)) (i : Nat) : List Nat :=
  let t := ws.getD (i - 1) []
  let u :=
    if i % 8 == 0 then xorBytes ((t.drop 1 ++ t.take 1).map sbox) [2 ^ (i / 8 - 1), 0, 0, 0]
    else if i % 8 == 4 then t.map sbox
    else t
  xorBytes (ws.getD (i - 8) []) u

/-- The 15 round keys of a key of 32 bytes. -/
def roundKeys (key : List Nat) : List (List Nat) :=
  let ws0 := (List.range 8).map (fun i => (key.drop (4 * i)).take 4)
  let ws := (List.range 52).foldl (fun ws i => ws ++ [nextKeyWord ws (i + 8)]) ws0
  (List.range 15).map (fun r => ((ws.drop (4 * r)).take 4).flatten)

/-- The rows shifted by multiples of `k` places: 1 in encryption, 3 in decryption. -/
def shiftRows (k : Nat) (s : List Nat) : List Nat :=
  (List.range 16).map (fun i => s.getD ((i + 4 * k * (i % 4)) % 16) 0)

/-- The columns mixed with the coefficients of the first row. -/
def mixColumns (cs s : List Nat) : List Nat :=
  (List.range 16).map (fun i =>
    (List.range 4).foldl (fun acc j => acc ^^^ gmul (s.getD (i / 4 * 4 + (i % 4 + j) % 4) 0) (cs.getD j 0)) 0)

/-- A block of 16 bytes encrypted. -/
def aesEncrypt (rks : List (List Nat)) (x : List Nat) : List Nat :=
  let s := (List.range 13).foldl (fun s r =>
    xorBytes (mixColumns [2, 3, 1, 1] (shiftRows 1 (s.map sbox))) (rks.getD (r + 1) [])) (xorBytes x (rks.getD 0 []))
  xorBytes (shiftRows 1 (s.map sbox)) (rks.getD 14 [])

/-- A block of 16 bytes decrypted. -/
def aesDecrypt (rks : List (List Nat)) (x : List Nat) : List Nat :=
  let s := (List.range 13).foldl (fun s r =>
    mixColumns [14, 11, 13, 9] (xorBytes ((shiftRows 3 s).map sboxInv) (rks.getD (13 - r) []))) (xorBytes x (rks.getD 14 []))
  xorBytes ((shiftRows 3 s).map sboxInv) (rks.getD 0 [])

/-! ## XTS over a data unit of 256 bytes (R110) -/

/-- The 16 bytes of a number, the lowest first, and back. -/
def nats16 (n : Nat) : List Nat := (List.range 16).map (fun i => fld n (8 * i) 8)
def ofNats (l : List Nat) : Nat := l.foldr (fun b n => b + 256 * n) 0

/-- A tweak times the primitive element of GF(2^128). -/
def tweakNext (t : Nat) : Nat := if t < 2 ^ 127 then 2 * t else (2 * t - 2 ^ 128) ^^^ 0x87

/-- A data unit through the cipher: each block is masked by its tweak before and after. -/
def xtsUnit (f : List Nat → List Nat) (t0 : Nat) (bs : List Byte) : List Byte :=
  ((List.range 16).foldl (fun (a : List Byte × Nat) i =>
    let m := nats16 a.2
    (a.1 ++ (xorBytes (f (xorBytes ((slice bs (16 * i) 16).map BitVec.toNat) m)) m).map (BitVec.ofNat 8), tweakNext a.2))
    ([], t0)).1

/-- The two halves of a data key of 512 bits: for the data and for the tweak. -/
def keyHalf (key half : Nat) : List Nat := (List.range 32).map (fun i => fld (Config.keyBits key) (8 * (32 * half + i)) 8)

/-- The first tweak of the data unit of block `blk`: the partition offset shifted right by 8, encrypted. -/
def xtsTweak (key blk : Nat) : Nat := ofNats (aesEncrypt (roundKeys (keyHalf key 1)) (nats16 blk))

/-- A block encrypted or decrypted under a data key. -/
def xtsEncrypt (key blk : Nat) (bs : List Byte) : List Byte :=
  xtsUnit (aesEncrypt (roundKeys (keyHalf key 0))) (xtsTweak key blk) bs
def xtsDecrypt (key blk : Nat) (bs : List Byte) : List Byte :=
  xtsUnit (aesDecrypt (roundKeys (keyHalf key 0))) (xtsTweak key blk) bs

/-! ## The link codec (R108) -/

/-- `n` bytes appended, each copied from `dist` bytes back. -/
def copyBack (dist : Nat) : Nat → List Byte → List Byte
  | 0, out => out
  | n + 1, out => copyBack dist n (out ++ [out.getD (out.length - dist) 0])

/-- The tokens of a coded frame decoded onto what stands before them; none where one is not used, cut short, or reaches
before the frame. -/
def linkTokens : Nat → List Byte → List Byte → Option (List Byte)
  | 0, bs, out => if bs.isEmpty then some out else none
  | _ + 1, [], out => some out
  | n + 1, b :: r, out =>
    let l := b.toNat % 64
    if b.toNat < 0x40 then (if r.length < l + 1 then none else linkTokens n (r.drop (l + 1)) (out ++ r.take (l + 1)))
    else if b.toNat < 0x80 then
      match r with
      | x :: y :: r1 =>
        let dist := leNat [x, y]
        if 4095 < dist || out.length < dist + 1 then none else linkTokens n r1 (copyBack (dist + 1) (l + 4) out)
      | _ => none
    else if b.toNat < 0xC0 then linkTokens n r (out ++ zeros (l + 4))
    else none

/-- A coded frame decoded: `len` bytes come out, at most 4,096; none for a frame that is rejected. -/
def linkDecode (len : Nat) (bs : List Byte) : Option (List Byte) :=
  match linkTokens bs.length bs [] with
  | some out => if out.length == len && len ≤ 4096 then some out else none
  | none => none

end Sys2Proof.Machine
end

