-- ==== Sys2Proof/Machine/Mirror.lean ====
section
/-! DEFINITION. What every family needs of the admin queues (R181 to R183) and of mirroring (R404 to R413): completions
of admin commands, mirrored objects, the sending of log records and the dirty pages. -/

namespace Sys2Proof.Machine

/-! ## Admin completions -/

/-- A 16-byte completion, Table 06.8.B. -/
def cplBytes (result sqHead tag status detail : Nat) (phase : Bool) : List Byte :=
  leBytes 8 result ++ leBytes 2 sqHead ++ leBytes 2 tag ++ leBytes 1 status ++ leBytes 1 (b2n phase) ++ leBytes 2 detail

/-- A command of partition `p` that came over the ring (R411): it has no completion queue. -/
def ringAdm (p : Nat) : Adm := ⟨⟨22, p⟩, 0, false, 0⟩

/-- The completion of an admin command, with TAG = CID (R182). It is discarded when the queue was disabled since the command was fetched
(R181) or Bus Master Enable is 0 (R314). -/
def Dev.adminDone (d : Dev) (h : Adm) (status detail result : Nat) : Dev :=
  let x := d.fn h.fn
  let q := x.aq
  if 22 ≤ h.fn.port then d
  else if h.run != q.runs then
    let old := q.old.erase h.cid
    d.setFn h.fn { x with aq := { q with old := old, ready := q.ready && (q.enable || !old.isEmpty) } }
  else
    let q1 := { q with live := q.live.erase h.cid }
    if !d.bme h.fn || !q.ready || q.accFail then d.setFn h.fn { x with aq := q1 }
    else
      let t := (q.acqTail + 1) % 2 ^ q.acqLog2
      (d.setFn h.fn { x with aq := { q1 with acqTail := t, acqPhase := if t == 0 then !q.acqPhase else q.acqPhase } }).emit
        (.hostWr h.fn (q.acqBase + 16 * q.acqTail) (cplBytes result q.asqHead h.cid status detail q.acqPhase))

/-- A refusal with NO_RESERVATION (R183). -/
def Dev.adminRefuse (d : Dev) (h : Adm) (detail : Nat) : Dev := d.adminDone h 0x11 detail 0

/-- A handle that fails R178: counted, and BAD_HANDLE with the DETAIL that R492 gives a cause no rule names (log
entry 24). -/
def Dev.adminBadHandle (d : Dev) (h : Adm) : Dev := (d.inc K.badHandles).adminDone h 0x12 0x0008 0

/-- A command on a mirrored object fenced for want of a lease (R183, R416). -/
def Dev.adminFenced (d : Dev) (h : Adm) : Dev := d.adminDone h 0x32 0x0008 0

/-- Success with a result. -/
def Dev.adminOk (d : Dev) (h : Adm) (result : Nat) : Dev := d.adminDone h 0 0 result

/-- Whether a function serves admin commands: the module is operational, the function is presented with its link up and
does not recover from a reset (R304, R307). -/
def Dev.fnReady (d : Dev) (f : FnId) : Bool :=
  d.operational && d.fnExists f && d.linkUp f.port && !(d.fn f).recovering

/-- Whether a command can be fetched from a function's admin queue: it is READY with a command waiting, Bus Master Enable
is 1, and a completion slot is free (R180, R181, R314; log entry 10). -/
def Dev.admReady (d : Dev) (f : FnId) : Bool :=
  let q := (d.fn f).aq
  d.fnReady f && q.enable && q.ready && !q.accFail && d.bme f && q.asqHead != q.asqTail &&
  (q.acqTail + 2 ^ q.acqLog2 - q.acqHead) % 2 ^ q.acqLog2 + q.live.length < 2 ^ q.acqLog2 - 1

/-- The read that fetches the next admin command, when one is due and none is outstanding (R345). -/
def Dev.admRead (d : Dev) (f : FnId) : Dev :=
  if d.admReady f && !d.tags.any (fun t => t.use == .adminQ f && !t.quarantined) then
    let q := (d.fn f).aq
    (d.newTag (some f) f.port false (.adminQ f)).emit (.hostRd f (q.asqBase + 64 * q.asqHead) 64 d.nextTag)
  else d

/-- The outstanding read of a function's admin queue is nobody's: its data are discarded (R181, R314). -/
def Dev.dropAdmRead (d : Dev) (f : FnId) : Dev :=
  { d with tags := d.tags.map (fun t => if t.use == .adminQ f then { t with use := .gone } else t) }

/-- A failed access of a function's admin queue: fetching stops, and QUEUE_ACCESS_FAILED reads 1 (R181). -/
def Dev.admFailed (d : Dev) (f : FnId) : Dev := d.setFn f { d.fn f with aq := { (d.fn f).aq with accFail := true } }

/-- How the read that is outstanding for a function's admin queue ends within the event: data come with the command that they spell, a
failed or poisoned completion stops fetching (R181; log entry 145), and one with no answer waits for its timeout. -/
def Dev.admAnswer (d : Dev) (f : FnId) (acc : Resp) : Dev :=
  if !d.tags.any (fun t => t.use == .adminQ f && !t.quarantined) then d
  else match acc with
    | .failed => (d.freeTags (.adminQ f)).admFailed f
    | .poisoned => ((d.freeTags (.adminQ f)).admFailed f).aer f 1 aerPoisoned
    | _ => d

/-- A command with the number of the enable under which it is fetched. -/
def Dev.admRun (d : Dev) (h : Adm) : Adm := { h with run := (d.fn h.fn).aq.runs }

/-- The fetch of one command; the read of the next one is issued. -/
def Dev.admFetch (d : Dev) (h : Adm) : Dev :=
  let x := d.fn h.fn
  ((d.setFn h.fn { x with aq := { x.aq with asqHead := (x.aq.asqHead + 1) % 2 ^ x.aq.asqLog2, live := x.aq.live ++ [h.cid] } }).freeTags
    (.adminQ h.fn)).admRead h.fn

/-- PAIR_ROLE of a partition: 0 NONE, 1 PRIMARY, 2 SECONDARY (R404). -/
def Dev.pairRole (d : Dev) (p : Nat) : Nat := d.rd (K.pairRole + p)

/-- The refusal that meets an admin command before its own checks: status and DETAIL. A placeholder and a function whose
partition is disabled refuse every command (R302, R304), a fenced partition all but the served ones (R309), a SECONDARY
partition every one (R404); a reserved bit is 0x0002 (R492). -/
def Dev.admBar (d : Dev) (h : Adm) (served : Bool) : Option (Nat × Nat) :=
  if d.placeholder h.fn || !d.enabled h.fn.num then some (0x11, 0x0009)
  else if d.fenced h.fn.num && !served then some (0x32, 0x0008)
  else if d.pairRole h.fn.num == 2 then some (0x11, 0x0008)
  else if h.rsv then some (0x11, 0x0002)
  else none

/-- An admin command: fetched, barred, or run. Without a command to fetch nothing happens. -/
def Dev.admin (d : Dev) (h : Adm) (served : Bool) (run : Dev → Adm → Dev) : Dev :=
  if !d.admReady h.fn then d
  else
    let d1 := d.admFetch h
    match d.admBar h served with
    | some (st, dt) => d1.adminDone (d.admRun h) st dt 0
    | none => run d1 (d.admRun h)

/-- A command whose checks gave a refusal, or that runs. -/
def Dev.admTry (d : Dev) (h : Adm) (c : Option (Nat × Nat)) (run : Dev → Dev) : Dev :=
  match c with
  | some (st, dt) => d.adminDone h st dt 0
  | none => run d

/-! ## Mirrored objects -/

/-- The mirror range entries that were written (Table 13.1; the others are at their default, which declares nothing). -/
def Dev.mirrorEntries (d : Dev) : List Nat :=
  d.od.filterMap (fun e =>
    if K.mirrorRange ≤ e.1 && e.1 < K.mirrorRange + 2 * 256 && (e.1 - K.mirrorRange) % 256 < 128 then some e.2 else none)

/-- Whether an extent of a partition lies in a mirror range. -/
def Dev.extMirrored (d : Dev) (p e : Nat) : Bool :=
  d.mirrorEntries.any (fun x => fld x 96 32 != 0 && fld x 58 6 == p && fld x 64 32 ≤ e && e < fld x 64 32 + fld x 96 32)

/-- The extents of a run that lie in mirror ranges. -/
def Dev.mirroredExts (d : Dev) (p ext n : Nat) : Nat := countBy (fun i => d.extMirrored p (ext + i)) (List.range n)

/-- Whether a run lies in mirror ranges only in part (R406). -/
def Dev.partlyMirrored (d : Dev) (p ext n : Nat) : Bool :=
  let c := d.mirroredExts p ext n
  c != 0 && c != n

/-- Whether a run of extents is mirrored: all of it lies in mirror ranges (R406), and its partition has a pair role. -/
def Dev.runMirrored (d : Dev) (p ext n : Nat) : Bool :=
  d.pairRole p != 0 && n != 0 && (List.range n).all (fun i => d.extMirrored p (ext + i))

/-- Whether an object is mirrored (R406). -/
def Dev.objMirrored (d : Dev) (p : Nat) (o : Obj) : Bool := d.runMirrored p o.ext o.n

/-- Whether a mirrored object of a PRIMARY partition is fenced for want of a lease (R416). -/
def Dev.leaseFenced (d : Dev) (p : Nat) (o : Obj) : Bool :=
  d.pr.st == .fenced && d.pairRole p == 1 && d.objMirrored p o

/-- PARTNER_PARTITION. -/
def Dev.partnerPart (d : Dev) (p : Nat) : Nat := d.rd (K.partnerPartition + p)

/-- The ring port toward the partner: PARTNER_PORT, or the other one when no heartbeat comes from there (R403). -/
def Dev.partnerPort (d : Dev) : Nat :=
  let pp := d.rd K.partnerPort
  if (if pp == 22 then d.pr.seenEast else d.pr.seenWest) then pp
  else if d.pr.seenEast then 22 else if d.pr.seenWest then 23 else pp

/-- Whether the partner is reachable: either direction delivers heartbeats (R403). -/
def Dev.reachable (d : Dev) : Bool := d.pr.seenEast || d.pr.seenWest

/-- Whether a kept frame is a LOG frame. -/
def TxFrame.isLog (x : TxFrame) : Bool := x.op == 0x40

/-- A frame kept for resending (R413). Past 4,096 frames the oldest that is no LOG frame is given up (log entry 44). -/
def keepFrame (l : List TxFrame) (x : TxFrame) : List TxFrame :=
  let l1 := l ++ [x]
  if l1.length ≤ 4096 then l1
  else match l1.find? (fun y => !y.isLog) with
    | some y => l1.erase y
    | none => l1

/-- The bytes of a log record (R410, Table 13.3): header, payload, and the CRC of format 2. The wrapped length of a key is not
this manual's. -/
def logRecLen (fmt : Nat) (r : LogRec) : Nat :=
  let n := match r.body with
    | .block _ _ _ => 258
    | .line _ _ _ => 72
    | .poison _ _ => 32
    | .discard _ _ => 16
    | .command _ => 65
    | .dir _ _ _ _ _ => 16
    | .channel _ => 64
    | .grant _ _ _ _ _ => 16
    | .slot _ _ => 16
    | .key _ => Config.keyWrap
    | .handed => 0
  16 + n + (if fmt == 2 then 4 else 0)

/-- The metadata word of a block, Table 03.5. -/
def Meta.word (m : Meta) : Nat := m.sectors * 2 ^ 12 + b2n m.raw * 2 ^ 11 + m.codec * 2 ^ 8 + b2n m.poison * 2 ^ 7

/-- Whether a block belongs to a PROTECTED object. -/
def Dev.isCipher (d : Dev) (p blk : Nat) : Bool := (d.objAt p (blk * 256)).any (fun x => x.2.kind == 3)

/-- The bytes of a block as they stand in its frame: the ciphertext of a valid block of a PROTECTED object, under the data key of
its partition; other objects' blocks as they read (R92, R110, R409). Memory of State lists what a read decrypts. -/
def Dev.toStored (d : Dev) (p blk : Nat) : List Byte :=
  let bs := d.bytes p (blk * 256) 256
  if d.isCipher p blk && d.blkValid p blk then xtsEncrypt (kget 0 p d.su.keys) blk bs else bs

/-- The first 256 bytes of what a ring frame carries for a block, decrypted where the block is PROTECTED. -/
def Dev.fromStored (d : Dev) (p blk : Nat) (data : List Byte) : List Byte :=
  if d.isCipher p blk then xtsDecrypt (kget 0 p d.su.keys) blk data else data.take 256

/-- Whether log records carry ciphertext of a PROTECTED object: BLOCK records of this device do (R409). -/
def hasCipher (recs : List LogRec) : Bool := recs.any (fun r => match r.body with
  | .block _ _ _ => true
  | _ => false)

/-- A frame of `n` bytes through the link codec of a port (R108), and whether it is sent raw. Where the codec is on, the partner
has it and the frame is not ciphertext, the bytes offered and the bytes sent are counted. How far a frame shrinks is the encoder's
choice, down to one token for 67 bytes; a frame that does not shrink is sent raw. -/
def Dev.linkCodec (d : Dev) (port n : Nat) (cipher : Bool) : Dev × Bool :=
  if d.flag K.linkCodecEnable && bit (d.port port).feats 6 && !cipher then
    let m := Min.min n (ceilDiv n 67 + d.free % (n + 1))
    (((d.add K.linkBytesIn n).add K.linkBytesOut m).drawn, m == n)
  else (d, true)

/-- A ring frame sent out of a port to the partner: it takes the next SEQ of its direction and is kept (R412, R413). -/
def Dev.ringOut (d0 : Dev) (port op id : Nat) (recs : List LogRec) (payload : List Byte) (cipher : Bool := false) : Dev :=
  let (d, raw) := d0.linkCodec port (payload.length + sumBy (logRecLen (d0.rd K.logFormat)) recs) (cipher || hasCipher recs)
  let s := if port == 22 then d.pr.seqEast else d.pr.seqWest
  let pr := { d.pr with tx := keepFrame d.pr.tx (TxFrame.mk id port s op recs payload raw) }
  ({ d with pr := if port == 22 then { pr with seqEast := (s + 1) % 2 ^ 32 } else { pr with seqWest := (s + 1) % 2 ^ 32 } }).emit
    (.ring port op (d.rd K.partnerId) (d.rd K.moduleId) s recs payload raw)

/-- A ring frame sent to the partner on the port toward it (R403). -/
def Dev.ringSend (d : Dev) (op : Nat) (payload : List Byte) (cipher : Bool := false) : Dev :=
  d.ringOut d.partnerPort op 0 [] payload cipher

/-- REPAIR_READ of a block of a partition (Table 13.4). -/
def Dev.repairAsk (d : Dev) (p blk : Nat) : Dev :=
  ({ d with pr := { d.pr with repairs := d.pr.repairs ++ [(p, blk)] } }).ringSend 0x44
    (leBytes 1 p ++ zeros 7 ++ leBytes 8 (blk * 256))

/-- The LOG frames that no LOG_ACK has covered. -/
def Dev.unacked (d : Dev) : List TxFrame := d.pr.tx.filter TxFrame.isLog

/-- Whether the log takes another frame: fewer than 4,096 are unacknowledged (R413). -/
def Dev.logRoom (d : Dev) : Bool := d.unacked.length < 4096

/-- Log records sent as one LOG frame (R408); its number among the LOG frames is the value of txSeq before. -/
def Dev.logSend (d : Dev) (recs : List LogRec) : Dev :=
  (({ d with pr := { d.pr with txSeq := d.pr.txSeq + 1 } }).add K.mirrorRecords recs.length).ringOut d.partnerPort 0x40 d.pr.txSeq recs []

/-- The unacknowledged LOG frames sent anew on the port toward the partner, with new numbers of its direction (log
entry 44). -/
def Dev.relog (d : Dev) : Dev :=
  let l := d.unacked
  let d1 := { d with pr := { d.pr with tx := d.pr.tx.filter (fun x => !x.isLog) } }
  l.foldl (fun d x => (d.ringOut d.partnerPort 0x40 x.id x.recs []).inc K.ringRetries) d1

/-- A ring link that has come to L0: the numbers of its direction start at 0 both ways (R412). -/
def Dev.ringUp (d : Dev) (port : Nat) : Dev :=
  let pr := { d.pr with tx := d.pr.tx.filter (fun x => x.port != port || x.isLog) }
  let d1 := { d with pr := if port == 22 then { pr with seqEast := 0, rxEast := 0 } else { pr with seqWest := 0, rxWest := 0 } }
  if d1.unacked.any (fun x => x.port == port) then d1.relog else d1

/-- Whether a page is dirty: it lies in one of the runs of the bitmap. -/
def Dev.dirtyPage (d : Dev) (k : Nat) : Bool := d.pr.dirty.any (fun r => r.1 ≤ k && k < r.1 + r.2)

/-- A page marked dirty. -/
def Dev.markDirty (d : Dev) (k : Nat) : Dev :=
  if d.dirtyPage k then d else { d with pr := { d.pr with dirty := d.pr.dirty ++ [(k, 1)] } }

/-- The number of dirty pages. -/
def Dev.dirtyCount (d : Dev) : Nat := sumBy (fun r => r.2) d.pr.dirty

/-- What a change to a mirrored object of a PRIMARY partition meets in the pair's state: it is not mirrored, it goes to the
log, it leaves its pages dirty, or it is held (R408, R418, R420). Until a pair that forms has copied a page, the page counts
as not yet copied. -/
inductive MirrorWay where
  | none | log | dirty | hold
deriving DecidableEq, Repr

/-- The way of a change of the pages `ks`. -/
def Dev.mirrorWay (d : Dev) (p : Nat) (o : Obj) (ks : List Nat) : MirrorWay :=
  if d.pairRole p != 1 || !d.objMirrored p o then .none
  else match d.pr.st with
    | .mirrored => if d.logRoom && d.pr.handing != some p then .log else .hold
    | .syncing => if ks.any d.dirtyPage then .dirty else if d.logRoom then .log else .hold
    | .partnerLost => .hold
    | .solo => .dirty
    | .forming => .dirty
    | _ => .none

/-- The records of a change put on the log, or its pages marked dirty. -/
def Dev.mirrorNote (d : Dev) (way : MirrorWay) (ks : List Nat) (recs : List LogRec) : Dev :=
  match way with
  | .log => d.logSend recs
  | .dirty => ks.foldl Dev.markDirty d
  | _ => d

/-- Whether a block waits for the partner's acknowledgement of a write to it (R408). -/
def Dev.blkHeld (d : Dev) (p blk : Nat) : Bool := d.pr.holds.any (fun h => h.part == p && h.blks.contains blk)

/-- Whether the requests to a mirrored object are held for a handover of its partition (R421). -/
def Dev.handHeld (d : Dev) (p : Nat) (o : Obj) : Bool := d.pr.handing == some p && d.objMirrored p o

/-- A record of state other than data logged for a PRIMARY partition while the pair mirrors (R411). -/
def Dev.logState (d : Dev) (p : Nat) (b : LogBody) : Dev :=
  if d.pairRole p == 1 && (d.pr.st == .mirrored || d.pr.st == .syncing) then d.logSend [⟨p, b⟩] else d

end Sys2Proof.Machine
end

