-- ==== Sys2Proof/Machine/Dir.lean ====
section
/-! DEFINITION. Hosts, the directory, recalls, orphaned lines, grants and locked sequences (chapter "Sharing, coherence
and extents"; R296 to R298). -/

namespace Sys2Proof.Machine

/-! ## UBL and ring opcodes (Table 11.12) -/

def opRdUncached : Nat := 0x01
def opWrUncached : Nat := 0x08
def opRespData : Nat := 0x10
def opResp : Nat := 0x11
def opRecallInv : Nat := 0x18
def opRecallShare : Nat := 0x19
def opGrantNotice : Nat := 0x28
def opRevokeNotice : Nat := 0x29

/-! ## Host slots -/

/-- The key of a host slot's entry (R149). -/
def slotKey (n : Nat) : Nat := K.hostSlot + n / 128 * 256 + n % 128

/-- Fields of a host slot entry, Table 04.1. -/
def slEndpoint (e : Nat) : Nat := fld e 108 20
def slPartition (e : Nat) : Nat := fld e 102 6
def slPort (e : Nat) : Nat := fld e 97 5
def slMode (e : Nat) : Nat := fld e 95 2
def slState (e : Nat) : Nat := fld e 92 3

/-- A host slot entry. -/
def Dev.slot (d : Dev) (n : Nat) : Nat := d.rd (slotKey n)

/-- The slots whose entries are not free, ascending: number and entry. -/
def Dev.slots (d : Dev) : List (Nat × Nat) :=
  d.od.filterMap (fun e =>
    if K.hostSlot ≤ e.1 && e.1 < K.hostSlot + 32 * 256 && (e.1 - K.hostSlot) % 256 < 128 && slState e.2 != 0 then
      some ((e.1 - K.hostSlot) / 256 * 128 + (e.1 - K.hostSlot) % 256, e.2)
    else none)

/-- Whether a slot is ACTIVE. -/
def Dev.slotActive (d : Dev) (n : Nat) : Bool := slState (d.slot n) == 1

/-- The ACTIVE slot of a native request (R115). -/
def Dev.nativeSlot (d : Dev) (src part : Nat) : Option Nat :=
  (d.slots.find? (fun e => slState e.2 == 1 && slMode e.2 == 1 && slEndpoint e.2 == src && slPartition e.2 == part)).map (·.1)

/-- The ACTIVE slot of a CXL request (R115). -/
def Dev.cxlSlot (d : Dev) (port part : Nat) : Option Nat :=
  (d.slots.find? (fun e => slState e.2 == 1 && slMode e.2 == 2 && slPort e.2 == port && slPartition e.2 == part)).map (·.1)

/-! ## Directory entries -/

/-- The key of a line. -/
def lineKey (p line : Nat) : Nat := p * 2 ^ 42 + line

/-- The entry of a line; none in state I. -/
def Dev.dirGet (d : Dev) (k : Nat) : Option DirE := kfind k d.coh.dir

/-- An entry put in. -/
def Dev.dirPut (d : Dev) (k : Nat) (e : DirE) : Dev := { d with coh := { d.coh with dir := kput k e d.coh.dir } }

/-- An entry freed. -/
def Dev.dirDel (d : Dev) (k : Nat) : Dev := { d with coh := { d.coh with dir := kdel k d.coh.dir } }

/-- STATE of Table 04.5. -/
def DirSt.code : DirSt → Nat
  | .s => 1 | .o => 2 | .rs => 3 | .ro => 4 | .orph => 5

/-- The change of a line's entry logged to the partner, when the line belongs to a mirrored object (R411). -/
def Dev.dirLog (d : Dev) (k : Nat) : Dev :=
  let p := k / 2 ^ 42
  match d.objAt p (k % 2 ^ 42 * 64) with
  | some (_, o) =>
    if d.pairRole p == 1 && d.objMirrored p o then
      d.logState p (match d.dirGet k with
        | some e => .dir (k % 2 ^ 42) e.st.code e.vec e.window e.coarse
        | none => .dir (k % 2 ^ 42) 0 0 0 false)
    else d
  | none => d

/-- The ways in use of the set of a line (R133). -/
def Dev.setWays (d : Dev) (k : Nat) : List (Nat × DirE) :=
  let s := fun x => Config.dirSet (x / 2 ^ 42) (x % 2 ^ 42) % 2 ^ 26
  d.coh.dir.filter (fun e => s e.1 == s k)

/-- The next allocation order number, taken. -/
def Dev.nextOrd (d : Dev) : Dev := { d with coh := { d.coh with ord := d.coh.ord + 1 } }

/-- An entry of a line allocated anew. -/
def Dev.dirNew (d : Dev) (k : Nat) (st : DirSt) (vec window : Nat) : Dev :=
  (d.nextOrd.dirPut k ⟨st, vec, window, false, d.coh.ord, false, false⟩).dirLog k

/-- The slots that an entry in S or RS addresses: precise sharers, or the ACTIVE slots of the groups marked (R134). -/
def Dev.sharers (d : Dev) (e : DirE) : List Nat :=
  if e.coarse then (d.slots.filter (fun x => slState x.2 == 1 && bit e.vec (x.1 / 64))).map (·.1)
  else ((List.range 64).filter (fun i => bit e.vec i)).map (fun i => 64 * e.window + i)

/-- The holders of an entry. -/
def Dev.holders (d : Dev) (e : DirE) : List Nat :=
  match e.st with
  | .s | .rs => d.sharers e
  | .o | .ro => [e.vec]
  | .orph => []

/-- Whether an entry holds a slot. -/
def DirE.has (e : DirE) (h : Nat) : Bool :=
  match e.st with
  | .s | .rs => if e.coarse then bit e.vec (h / 64) else h / 64 == e.window && bit e.vec (h % 64)
  | .o | .ro => e.vec == h
  | .orph => false

/-- A sharer added; the first from another window makes the entry coarse (R134). -/
def DirE.addSharer (e : DirE) (h : Nat) : DirE :=
  if e.coarse then { e with vec := setBit e.vec (h / 64) }
  else if e.window == h / 64 then { e with vec := setBit e.vec (h % 64) }
  else { e with coarse := true, vec := setBit (2 ^ e.window) (h / 64), window := 0 }

/-! ## Recalls -/

/-- One recall message to a slot (R138, R139): a native recall leaves on the route of the slot's endpoint, a CXL one as a
snoop on its port. -/
def Dev.recallOne (k : Nat) (share : Bool) (d : Dev) (s : Nat) : Dev :=
  let e := d.slot s
  let tag := d.coh.nextTag % 4096
  let off := k % 2 ^ 42 * 64
  let native := slMode e == 1
  let port := if native then (d.routePort (slEndpoint e) (off / 64)).getD 0 else slPort e
  let d1 := { d with coh := { d.coh with
      nextTag := d.coh.nextTag + 1
      recalls := d.coh.recalls ++ [Recall.mk tag s port k share] } }
  (d1.inc K.recalls).emit
    (if native then
      .ubl port (if share then opRecallShare else opRecallInv) (slEndpoint e) (d.rd (K.ofPart K.endpoint (slPartition e))) off tag 0
        false 0 []
     else .cxlSnp port tag (k % 2 ^ 42) share)

/-- The recall of a line: the entry goes to RS or RO and every slot named is asked; with no slot to ask the line returns
to I. -/
def Dev.recallLine (d : Dev) (k : Nat) (e : DirE) (slots : List Nat) (share : Bool) : Dev :=
  if slots.isEmpty then (d.dirDel k).dirLog k
  else
    let st := match e.st with
      | .s | .rs => DirSt.rs
      | _ => DirSt.ro
    slots.foldl (Dev.recallOne k share) ((d.dirPut k { e with st := st, shareEnd := share }).dirLog k)

/-- Whether a line has recalls outstanding. -/
def Dev.lineBusy (d : Dev) (k : Nat) : Bool := d.coh.recalls.any (fun r => r.line == k)

/-- The recall of the host-cached lines numbered `a` to `a + n - 1` of a partition: RECALL_INV to every holder (R47). -/
def Dev.recallRange (d : Dev) (p a n : Nat) : Dev :=
  (d.coh.dir.filter (fun e => lineKey p a ≤ e.1 && e.1 < lineKey p a + n && (e.2.st == .s || e.2.st == .o))).foldl
    (fun d e => d.recallLine e.1 e.2 (d.holders e.2) false) d

/-- The window lines whose groups lie in stored bytes of a FIXED backing (R100): both planes. -/
def Dev.windowLines (d : Dev) (x : Piece) : List Nat :=
  match d.objAt x.part x.off with
  | none => []
  | some (n, bo) =>
    (d.objsOf x.part).flatMap (fun e =>
      let w := e.2
      if w.kind == 4 && w.aliasOf.isNone && w.backing == n then
        let b := (mxOf w.fmt).bytes
        let rel := x.off - bo.ext * 2 ^ 30
        let lines := d.coh.dir.filter (fun y => y.1 / 2 ^ 42 == x.part && w.hasExt (y.1 % 2 ^ 42 / 2 ^ 24))
        (lines.filter (fun y =>
          let g := y.1 % 2 ^ 42 - w.ext * 2 ^ 24
          (g * b < rel + x.len && rel < (g + 1) * b) ||
          (rel ≤ w.scalePage * 65536 + g && w.scalePage * 65536 + g < rel + x.len))).map (·.1)
      else [])

/-- The directory's lines whose data lie in a page: its own, and those of FIXED windows over it (R33, R100; DEDUCED, log
entry 58). -/
def Dev.pageLines (d : Dev) (k : Nat) : List Nat :=
  let a := lineKey (pagePart k) (k % 2 ^ 32 * 1024)
  (d.coh.dir.filter (fun e => a ≤ e.1 && e.1 < a + 1024)).map (·.1) ++
  d.windowLines ⟨pagePart k, k % 2 ^ 32 * 65536, 65536⟩

/-- CACHED of a page (R33): a line of it is in S, O, RS or RO. -/
def Dev.pageCached (d : Dev) (k : Nat) : Bool :=
  (d.pageLines k).any (fun l => (d.dirGet l).any (fun e => e.st != .orph))

/-- Whether recalls of lines of a page are outstanding. -/
def Dev.pageRecalling (d : Dev) (k : Nat) : Bool :=
  (d.pageLines k).any (fun l => d.coh.recalls.any (fun r => r.line == l))

/-- The recall of every host-cached line of a page: RECALL_INV to every holder (R62 step 3). -/
def Dev.recallPage (d : Dev) (k : Nat) : Dev :=
  (d.pageLines k).foldl (fun d l => match d.dirGet l with
    | some e => if e.st == .s || e.st == .o then d.recallLine l e (d.holders e) false else d
    | none => d) d

/-! ## Orphaned lines -/

/-- A line orphaned from its owner; its outstanding recalls become late, and the owning partition receives an event
(R143, R144, R147). A line of a destroyed object leaves the directory: its data are discarded (R47). -/
def Dev.orphan (d : Dev) (k : Nat) (e : DirE) : Dev :=
  let late := (d.coh.recalls.filter (fun r => r.line == k)).map (fun r : Recall => (r.port, r.tag))
  let d1 := { d with coh := { d.coh with
      ord := d.coh.ord + 1
      recalls := d.coh.recalls.filter (fun r => r.line != k)
      lateTags := d.coh.lateTags ++ late } }
  if (d.objAt (k / 2 ^ 42) (k % 2 ^ 42 * 64)).isNone then (d1.dirDel k).dirLog k
  else ((d1.dirPut k { e with st := .orph, coarse := false, window := 0, shareEnd := false, bad := false, ord := d.coh.ord }).dirLog k).post (k / 2 ^ 42)
    ⟨0x05, 0x21, 0, e.vec, k % 2 ^ 42 * 64⟩

/-- The end of a line's recall when none of its messages is outstanding: I, or S of the former owner after RECALL_SHARE
(Table 04.6). A line whose entry was lost is orphaned when no data came (R384). -/
def Dev.recallEnd (d : Dev) (k : Nat) : Dev :=
  if d.lineBusy k then d
  else match d.dirGet k with
    | none => d
    | some e =>
      match e.st with
      | .ro =>
        if e.bad then d.orphan k e
        else if e.shareEnd && d.slotActive e.vec then
          (d.dirPut k { e with st := .s, vec := 2 ^ (e.vec % 64), window := e.vec / 64, coarse := false, shareEnd := false }).dirLog k
        else (d.dirDel k).dirLog k
      | .rs => (d.dirDel k).dirLog k
      | _ => d

/-- Whether a line is orphaned. -/
def Dev.orphaned (d : Dev) (k : Nat) : Bool :=
  match d.dirGet k with
  | some e => e.st == .orph
  | none => false

/-- Blocks marked poisoned, the marks mirrored like any write (R298). -/
def Dev.poisonBlks (d : Dev) (p : Nat) (blks : List Nat) : Dev :=
  blks.foldl (fun d b =>
    let d1 := d.poisonBlock p b
    match d.objAt p (b * 256) with
    | some (_, o) => d1.mirrorNote (d1.mirrorWay p o [pageKey p (b / 256)]) [pageKey p (b / 256)]
        [⟨p, .poison (b / 256) (2 ^ (b % 256))⟩]
    | none => d1) d

/-- An orphaned line displaced from its way: the block that holds it is poisoned. A block of a NONE page first gets a frame,
as for a first write (R147). The lines of a window lie in its stored blocks. -/
def Dev.displaceOrphan (d : Dev) (k : Nat) : Dev :=
  let p := k / 2 ^ 42
  let off := k % 2 ^ 42 * 64
  let d1 := (d.dirDel k).inc K.orphansDisplaced
  match d1.objAt p off with
  | none => d1
  | some (n, o) =>
    let ps := d1.writePieces ⟨p, n, o, off⟩ 64
    let d2 := (Dev.framesFor ps d1).getD d1
    ps.foldl (fun d x => d.poisonBlks x.part x.blks) d2

/-! ## Grants (R129, R130) -/

/-- The records of a slot and partition that cover part of a run. -/
def Dev.grantsOver (d : Dev) (slot p first count : Nat) : List Grant :=
  d.coh.grants.filter (fun g => g.slot == slot && g.part == p && g.first < first + count && first < g.first + g.count)

/-- Whether a GRANTED record of the slot covers an extent with the access asked (R128). -/
def Dev.granted (d : Dev) (slot p e : Nat) (rw : Bool) : Bool :=
  d.coh.grants.any (fun g => g.slot == slot && g.part == p && g.first ≤ e && e < g.first + g.count && g.drain.isNone && (!rw || g.rw))

/-- The grant records of a partition, counted. -/
def Dev.grantsUsed (d : Dev) (p : Nat) : Nat := countBy (fun g : Grant => g.part == p) d.coh.grants

/-- The notice of a grant or revoke to a slot's host (Table 11.12); a link without NOTICES receives none (R329). -/
def Dev.notice (d : Dev) (op slot first count acc : Nat) : Dev :=
  let e := d.slot slot
  match d.routePort (slEndpoint e) 0 with
  | some port =>
    if bit (d.port port).feats 4 then
      d.emit (.ubl port op (slEndpoint e) (d.rd (K.ofPart K.endpoint (slPartition e))) 0 0 0 false 0
        (leBytes 4 first ++ leBytes 4 count ++ leBytes 1 acc ++ leBytes 1 (slPartition e) ++ zeros 6))
    else d
  | none => d

/-- A dynamic capacity record queued for a port's log, or behind those that wait for room in it (R355). -/
def Dev.dcQueue (d : Dev) (port typ first count : Nat) (rw : Bool) (done : List Adm) : Dev :=
  let x := d.port port
  let x1 := { x with dcHandle := x.dcHandle % 65535 + 1 }
  if x.dcWait.isEmpty && x.dcLog.length < 256 then
    done.foldl (fun d h => d.adminOk h 0) (d.setPort port { x1 with dcLog := x.dcLog ++ [DcRec.mk x.dcHandle typ first count rw []] })
  else d.setPort port { x1 with dcWait := x.dcWait ++ [DcRec.mk x.dcHandle typ first count rw done] }

/-- The end of a revoke: its records are freed and its commands complete (V6), those that wait for other drains with the last of
them (R131). -/
def Dev.revokeEnd (d : Dev) (r : Revoke) : Dev :=
  let gone := d.coh.grants.filter (fun g => g.drain == some r.id)
  let d1 := { d with coh := { d.coh with
      grants := d.coh.grants.filter (fun g => g.drain != some r.id)
      revokes := d.coh.revokes.filter (fun x => x.id != r.id) } }
  let d2 := gone.foldl (fun d g => d.logState g.part (.grant g.slot g.first 0 g.rw false)) d1
  r.hs.foldl (fun d h => if d.coh.revokes.any (fun x => x.hs.contains h) then d else d.adminOk h 0) d2

/-- The runs of lines (first key, count) that a run of extents of a partition spells: its own, and for an alias in it those of
the exported object (R127). -/
def Dev.runLines (d : Dev) (p first count : Nat) : List (Nat × Nat) :=
  (lineKey p (first * 2 ^ 24), count * 2 ^ 24) :: (d.objsOf p).filterMap (fun e =>
    match e.2.aliasOf with
    | some (q, m) =>
      let lo := Max.max first e.2.ext
      let hi := Min.min (first + count) (e.2.ext + e.2.n)
      if lo < hi then some (lineKey q ((d.baseOff q m) / 64 + (lo - e.2.ext) * 2 ^ 24), (hi - lo) * 2 ^ 24) else none
    | none => none)

/-- Whether a line lies in runs. -/
def inRuns (rs : List (Nat × Nat)) (k : Nat) : Bool := rs.any (fun r => r.1 ≤ k && k < r.1 + r.2)

/-- Whether lines of a slot in a run of extents are still under recall. -/
def Dev.revokeRecalling (d : Dev) (r : Revoke) : Bool :=
  d.coh.recalls.any (fun x => x.slot == r.slot && inRuns (d.runLines r.part r.first r.count) x.line)

/-- The records of a slot and partition with those that reach beyond a run split into the covered and the uncovered part (V1,
R131); the covered ones drain under revoke `id`. -/
def splitGrant (slot part first count id : Nat) (g : Grant) : List Grant :=
  if g.slot == slot && g.part == part && g.drain.isNone && g.first < first + count && first < g.first + g.count then
    let lo := Max.max first g.first
    let hi := Min.min (first + count) (g.first + g.count)
    (if g.first < lo then [{ g with count := lo - g.first }] else []) ++
    [{ g with first := lo, count := hi - lo, drain := some id }] ++
    (if hi < g.first + g.count then [{ g with first := hi, count := g.first + g.count - hi }] else [])
  else [g]

/-- The grant records after a revoke's split. -/
def Dev.splitGrants (d : Dev) (slot p first count : Nat) : List Grant :=
  d.coh.grants.flatMap (splitGrant slot p first count d.coh.nextOp)

/-- A revoke begun (V1): its records are DRAINING from now on. -/
def Dev.startRevoke (d : Dev) (slot p first count : Nat) (hs : List Adm) : Dev :=
  let d1 := { d with coh := { d.coh with
      grants := d.splitGrants slot p first count
      revokes := d.coh.revokes ++ [Revoke.mk d.coh.nextOp hs slot p first count .v2]
      nextOp := d.coh.nextOp + 1 } }
  (d1.grantsOver slot p first count).foldl (fun d g => d.logState p (.grant g.slot g.first g.count g.rw true)) d1

/-- The entries of a revoke's run that hold its slot. -/
def Dev.revokeLines (d : Dev) (r : Revoke) : List (Nat × DirE) :=
  let runs := d.runLines r.part r.first r.count
  d.coh.dir.filter (fun e => inRuns runs e.1 && e.2.has r.slot)

/-- The recall of every line that the slot holds in the run (V4). A line that others share is recalled from all of its holders. -/
def Dev.revokeRecallLines (d : Dev) (r : Revoke) : Dev :=
  (d.revokeLines r).foldl (fun d e =>
    if e.2.st == .s || e.2.st == .o then d.recallLine e.1 e.2 (d.holders e.2) false else d) d

/-- The revokes whose recalls have ended taken on: lines that a RECALL_SHARE left with the slot are recalled in turn; then native
ones end, CXL ones wait for the host (V4, V5). -/
def Dev.revokeStep (d : Dev) : Dev :=
  d.coh.revokes.foldl (fun d r =>
    if (r.st == .v4 || r.st == .v4r) && !(d.revokeLines r).isEmpty then
      if d.revokeRecalling r then d else d.revokeRecallLines r
    else if r.st == .v4r && !d.revokeRecalling r then d.revokeEnd r
    else if r.st == .v4 && !d.revokeRecalling r then
      if slMode (d.slot r.slot) == 2 then
        { d with coh := { d.coh with revokes := d.coh.revokes.map (fun x => if x.id == r.id then { x with st := .v5 } else x) } }
      else d.revokeEnd r
    else d) d

/-! ## Locked sequences -/

/-- Whether a request is a beat of a host's sequence (R350). -/
def HostReq.ownLock (r : HostReq) (l : Lock) : Bool :=
  r.q.lock && l.host && l.port == r.q.port && l.src == r.q.src && l.lockId == r.q.lockId

/-- A sequence taken from the arbiters it holds: its record goes, or stays to say how its further beats are taken. -/
def Dev.putLock (d : Dev) (l : Lock) (next : Option LockSt) : Dev :=
  { d with bw := { d.bw with locks := d.bw.locks.flatMap (fun x =>
      if x.id == l.id then (next.map (fun st => { x with pages := [], blocks := [], st := st })).toList else [x]) } }

/-- A lock broken: the blocks its beats wrote are poisoned, the arbiters are released, the event is counted (R298). -/
def Dev.breakLock (d : Dev) (l : Lock) (next : Option LockSt) : Dev :=
  (if l.st == .held then (d.poisonBlks l.bpart l.blocks).inc K.locksBroken else d).putLock l next

/-- The sequences of hosts that satisfy a test broken because their owner is gone: their outstanding beats are discarded (Table 09.8). -/
def Dev.dropLocks (d : Dev) (p : Lock → Bool) : Dev :=
  (d.bw.locks.filter (fun l => l.host && p l)).foldl (fun d l =>
    ({ d with mm := { d.mm with held := d.mm.held.filter (fun x => !x.r.ownLock l) } }).breakLock l none) d

/-! ## Loss of a host (R116) -/

/-- The recalls of a line outstanding to a slot that is lost given up: the line is not orphaned, and a late answer to them is no
answer to an orphaned line (R147). -/
def loseRecalls (h : Nat) (d : Dev) (k : Nat) : Dev :=
  ({ d with coh := { d.coh with recalls := d.coh.recalls.filter (fun r => !(r.line == k && r.slot == h)) } }).recallEnd k

/-- What the loss of a slot does to one line. -/
def Dev.loseLine (h : Nat) (d : Dev) (k : Nat) : Dev :=
  match d.dirGet k with
  | none => d
  | some e =>
    match e.st with
    | .o => if e.vec == h then d.orphan k e else d
    | .ro => if e.vec == h then d.orphan k e else if e.bad then loseRecalls h d k else d
    | .s =>
      if !e.coarse && e.has h then
        let v := clrBit e.vec (h % 64)
        (if v == 0 then d.dirDel k else d.dirPut k { e with vec := v }).dirLog k
      else d
    | .rs => loseRecalls h d k
    | .orph => d

/-- A slot becomes LOST: its owned lines are orphaned, it leaves every precise vector, its grants are released without
recall, drains of it end, its locked sequences break, and its partition receives HOST_LOST (R116, R131, R298). Requests
that the loss releases are served by the caller. -/
def Dev.hostLost (d : Dev) (h : Nat) : Dev :=
  let e := d.slot h
  if slState e != 1 then d
  else
    let d1 := d.wr (slotKey h) (setFld e 92 3 2)
    let d2 := (d1.coh.dir.map (·.1)).foldl (Dev.loseLine h) d1
    let d3 := (d2.coh.revokes.filter (fun r => r.slot == h)).foldl (fun d r => d.revokeEnd r) d2
    let d4 := { d3 with coh := { d3.coh with grants := d3.coh.grants.filter (fun g => g.slot != h) } }
    let d5 := d4.dropLocks (fun l => slMode e == 1 && l.src == slEndpoint e && l.part == slPartition e)
    (d5.logState (slPartition e) (.slot h (d5.slot h))).post (slPartition e)
      ⟨0x04, 0x10, 0, h, if slMode e == 1 then slEndpoint e else slPort e⟩

/-- The slots that satisfy a test become LOST. -/
def Dev.losePer (d : Dev) (p : Nat → Bool) : Dev :=
  ((d.slots.filter (fun e => slState e.2 == 1 && p e.2)).map (·.1)).foldl Dev.hostLost d

/-- The native slots whose endpoints have become unreachable are lost (R116). -/
def Dev.loseUnrouted (d : Dev) : Dev :=
  d.losePer (fun e => slMode e == 1 && (d.upPorts (d.route (slEndpoint e))).isEmpty)

end Sys2Proof.Machine
end

