-- ==== Sys2Proof/Machine/Move.lean ====
section
/-! DEFINITION. Movement of pages (R58 to R63, R67, R75): acceptance of a move, demand promotion, the staging pool, write
staging, and the switch of a migration. -/

namespace Sys2Proof.Machine

/-- Whether a page is in migration or promotion. -/
def Dev.moving (d : Dev) (k : Nat) : Bool := (kfind k d.mm.migs).isSome

/-- Whether the page lock of a migration is in force: it waits for a locked sequence under way (R297). -/
def Dev.pageLocked (d : Dev) (k : Nat) : Bool := d.moving k && !d.pageInLock k

/-- Whether a page is homed in T3. -/
def Dev.inT3 (d : Dev) (k : Nat) : Bool :=
  match (d.page k).home with
  | some h => h.tier == .t3
  | none => false

/-- Whether a read of a page meets flash: a T3 page that is not in write staging (R59, R79). -/
def Dev.t3Cold (d : Dev) (k : Nat) : Bool := d.inT3 k && !d.mm.staged.contains k

/-- The copy of a page begun (Table 02.10, steps 1 to 3): the entry takes its state and cached lines are recalled. -/
def Dev.startMig (d : Dev) (k : Nat) (m : Mig) : Dev :=
  let x := d.page k
  let d1 := (d.setPage k { x with st := if d.inT3 k then .promoting else .migrating })
  ({ d1 with mm := { d1.mm with migs := kput k m d1.mm.migs } }).recallPage k

/-- A migration given up before its switch: the page stays where it is, its destination frame is free again. -/
def Dev.cancelMig (d : Dev) (k : Nat) : Dev :=
  if d.moving k then
    let d1 := { d with
      mm := { d.mm with migs := kdel k d.mm.migs }
      tags := d.tags.map (fun (t : OutTag) => match t.use with
        | .thCopy _ pg => if pg == k then { t with use := .gone } else t
        | _ => t) }
    d1.setPage k { d1.page k with st := .resident }
  else d

/-- Whether a tier has room for a page of an object: at the floor within the commitment, elsewhere by R50. -/
def Dev.tierRoom (d : Dev) (p : Nat) (o : Obj) (x : Page) (t : Tier) : Bool :=
  if t == pdFloor o.desc then x.fl || d.floorRoom p o else decide (0 < d.room p t)

/-- Pages that T3 write staging holds (16 GiB, Table 02.5). -/
def writeStagingPages : Nat := 262144

/-- A move of a page into a tier accepted; none when it finds no room. A T3 page goes to T1 through a staging frame and
takes both frames at once; a move into T3 that finds write staging full waits (R59). -/
def Dev.acceptMove (d : Dev) (k : Nat) (o : Obj) (t : Tier) (why : MigWhy) (cls : Nat) : Option Dev :=
  let p := pagePart k
  let x := d.page k
  if !d.tierRoom p o x t then none
  else if t == .t3 then
    if writeStagingPages ≤ d.mm.staged.length + countBy (fun e => e.2.dst.tier == .t3) d.mm.migs then
      some { d with mm := { d.mm with waits := d.mm.waits ++ [WaitMove.mk k cls why] } }
    else (d.freeFrame .t3).map (fun f => (d.tookFrame .t3 f).startMig k ⟨⟨.t3, f, false⟩, none, cls, why, false, 0⟩)
  else if t == .t1 && d.inT3 k then
    match d.freeStaging, d.freeFrame .t1 with
    | some g, some f => some (((d.tookFrame .t1 f).tookStaging g).startMig k ⟨⟨.t2, g, true⟩, some f, cls, why, false, 0⟩)
    | _, _ => none
  else if t == .th then d.freeTh.map (fun f => d.drawn.startMig k ⟨⟨.th, f, false⟩, none, cls, why, false, 0⟩)
  else (d.freeFrame t).map (fun f => (d.tookFrame t f).startMig k ⟨⟨t, f, false⟩, none, cls, why, false, 0⟩)

/-- The epochs since the last access of a page, saturating (R53). -/
def Dev.idle (d : Dev) (x : Page) : Nat := Min.min 65535 (d.mm.epoch - x.epoch)

/-- Whether a page is a staged page (R58). -/
def Page.staged (x : Page) : Bool := x.home.any (fun h => h.staged)

/-- Whether a page waits for room in T3 write staging (R59). -/
def Dev.waiting (d : Dev) (k : Nat) : Bool := d.mm.waits.any (fun w => w.page == k)

/-- The return of a staged page to T3 in Q0 (R58, R61): to its floor frame, or for a page charged to the TH limit to an
unreserved T3 frame again. -/
def Dev.unstage (d : Dev) (k : Nat) : Dev :=
  match d.pageObj k with
  | none => d
  | some (_, o) =>
    if (d.page k).ovf then
      match d.freeUnreservedT3 with
      | some f => (d.tookFrame .t3 f).startMig k ⟨⟨.t3, f, false⟩, none, 0, .staging, true, 0⟩
      | none => d
    else (d.acceptMove k o .t3 .staging 0).getD d

/-- Staged pages returned to T3, least recently accessed first, when STAGING_FREE is below 6,144, until 12,288 frames are free
once the returns under way are over (R58). A staged page on its way to T1 or T2 is no candidate. -/
def Dev.stagingDemote (d : Dev) : Dev :=
  let leaving := countBy (fun e => e.2.staged && (d.waiting e.1 || (match kfind e.1 d.mm.migs with
    | some m => !m.dst.staged
    | none => false))) d.mm.pages
  if 6144 ≤ d.stagingFree then d
  else
    let staged := d.mm.pages.filter (fun e => e.2.staged && !d.moving e.1 && !d.waiting e.1)
    ((sortBy (fun a b => a.2.epoch < b.2.epoch) staged).take (12288 - d.stagingFree - leaving)).foldl (fun d e => d.unstage e.1) d

/-- The T2 frame of a demand promotion (R58): from room in T2; a page of an object floored at T2 takes its floor frame. -/
def Dev.promoteFrame (d : Dev) (p : Nat) (o : Obj) (x : Page) : Option Nat :=
  if (!x.ovf && d.tierRoom p o x .t2) || 0 < d.room p .t2 then d.freeFrame .t2 else none

/-- A demand promotion of a T3 page charged to a class (R58, R61): into room in T2, else a staging frame, else it waits for
one. The object's program is due for the cause T3 demand (R52). -/
def Dev.promote (d : Dev) (cls k : Nat) : Dev :=
  if !d.inT3 k || d.moving k || d.mm.wantPromo.any (fun e => e.1 == k) then d
  else
    match d.pageObj k with
    | none => d
    | some (n, o) =>
      let p := pagePart k
      let d0 := { d with mm := { d.mm with waits := d.mm.waits.filter (fun w => w.page != k) } }
      let d1 := d0.modObj p n (fun o => { o with causes := o.causes ||| 8 })
      match d1.promoteFrame p o (d1.page k) with
      | some f => (d1.tookFrame .t2 f).startMig k ⟨⟨.t2, f, false⟩, none, cls, .demand, false, 0⟩
      | none =>
        match d1.freeStaging with
        | some g => ((d1.tookStaging g).startMig k ⟨⟨.t2, g, true⟩, none, cls, .demand, false, 0⟩).stagingDemote
        | none => { d1 with mm := { d1.mm with wantPromo := d1.mm.wantPromo ++ [(k, cls)] } }

/-- Promotions that waited for a staging frame begun as far as frames are free. -/
def Dev.servePromos (d : Dev) : Dev :=
  d.mm.wantPromo.foldl (fun d e =>
    if d.freeStaging.isSome then
      ({ d with mm := { d.mm with wantPromo := d.mm.wantPromo.filter (fun x => x.1 != e.1) } }).promote e.2 e.1
    else d) d

/-- Moves into T3 that waited for write staging begun as far as it has room (R59). -/
def Dev.serveWaits (d : Dev) : Dev :=
  let ws := d.mm.waits
  ws.foldl (fun d w =>
    if d.mm.staged.length + countBy (fun e => e.2.dst.tier == .t3) d.mm.migs < writeStagingPages then
      let d1 := { d with mm := { d.mm with waits := d.mm.waits.filter (fun x => x.page != w.page) } }
      match d1.pageObj w.page with
      | some (_, o) => if d1.moving w.page then d1 else (d1.acceptMove w.page o .t3 w.why w.cls).getD d1
      | none => d1
    else d) d

/-- A migration aborted: its destination frame is free again (Table 02.11). -/
def Dev.abortMig (d : Dev) (k : Nat) : Dev :=
  if d.moving k then (d.cancelMig k).inc K.migrationsAborted else d

/-- The tier that a home counts as under ALLOWED: a staged page is a T3 page (R58). -/
def Home.owner (h : Home) : Tier := if h.staged then .t3 else h.tier

/-- Whether a page of an object is homed in a tier that its descriptor does not allow, and must move (R45). A page in an
unreserved T3 frame stays there until a program moves it (R67). -/
def Page.misplaced (x : Page) (desc : Nat) : Bool :=
  match x.home with
  | some h => !pdAllows desc h.owner && !(h.owner == .t3 && x.ovf)
  | _ => false

/-- Whether a page moves, or waits to move, into a tier that its descriptor does not allow. -/
def Dev.misled (d : Dev) (desc k : Nat) : Bool :=
  (d.waiting k && !pdAllows desc .t3) || (match kfind k d.mm.migs with
    | some m => !pdAllows desc m.final.owner && !m.spare
    | none => false)

/-- A move into a tier that OBJ_PLACE has removed given up, so that no page is homed there (R45; log entry 124). -/
def Dev.stopMisled (d : Dev) (desc k : Nat) : Dev :=
  if d.misled desc k then
    let d1 := d.cancelMig k
    { d1 with mm := { d1.mm with waits := d1.mm.waits.filter (fun w => w.page != k) } }
  else d

/-- The move of a page out of a removed tier (R45): to the first allowed tier below with room, else to the floor, charged to the
migration class (R61). A page under way to an allowed tier is left to its switch. -/
def Dev.placeMove (d0 : Dev) (o : Obj) (k : Nat) : Dev :=
  let d := d0.stopMisled o.desc k
  let x := d.page k
  if !x.misplaced o.desc || d.moving k || d.waiting k then d
  else
    let src := (x.home.map Home.owner).getD .t1
    let cls := d.rd (K.migrationClass + pagePart k)
    let below := [Tier.t2, .t3].filter (fun t => src.code < t.code && pdAllows o.desc t && t != pdFloor o.desc)
    ((below ++ [pdFloor o.desc]).findSome? (fun t => d.acceptMove k o t .place cls)).getD d

/-- The pages that OBJ_PLACE commands still have to move set going. -/
def Dev.restartPlaces (d : Dev) : Dev :=
  (d.mm.objs.filter (fun e => e.2.placing.isSome)).foldl (fun d e =>
    (d.pagesOf (e.1 / 2 ^ 16) e.2).foldl (fun d x => d.placeMove e.2 x.1) d) d

/-- Whether an OBJ_PLACE has no page left to move (R45). -/
def Dev.placeDone (d : Dev) (p : Nat) (o : Obj) : Bool := (d.pagesOf p o).all (fun e => !e.2.misplaced o.desc && !d.misled o.desc e.1)

/-- OBJ_PLACE commands whose last page has switched completed. -/
def Dev.finishPlaces (d : Dev) : Dev :=
  d.mm.objs.foldl (fun d e =>
    match e.2.placing with
    | some h =>
      if d.placeDone (e.1 / 2 ^ 16) e.2 then
        (d.modObj (e.1 / 2 ^ 16) (e.1 % 2 ^ 16) (fun o => { o with placing := none })).adminOk h 0
      else d
    | none => d) d

/-- The move of a TH page out of TH in Q0 (R67, R84): into room in an allowed tier, from high to low, else into an unreserved T3
frame that stays charged to the TH limit; none when it finds neither. -/
def Dev.thOut (d : Dev) (k : Nat) (o : Obj) (why : MigWhy) : Option Dev :=
  match [Tier.t1, .t2, .t3].findSome? (fun t => if pdAllows o.desc t then d.acceptMove k o t why 0 else none) with
  | some d1 => some d1
  | none => d.freeUnreservedT3.map (fun f => (d.tookFrame .t3 f).startMig k ⟨⟨.t3, f, false⟩, none, 0, why, true, 0⟩)

/-- Whether a page is homed in TH. -/
def Dev.inTh (d : Dev) (k : Nat) : Bool :=
  match (d.page k).home with
  | some h => h.tier == .th
  | none => false

/-- The TH pages of an object, keys. -/
def Dev.thPagesOf (d : Dev) (p : Nat) (o : Obj) : List Nat :=
  ((d.pagesOf p o).map (·.1)).filter d.inTh

/-- The moves into TH of an object's pages given up: TH stops being allowed (R84; log entry 124). -/
def Dev.stopThMoves (d : Dev) (p : Nat) (o : Obj) : Dev :=
  (d.pagesOf p o).foldl (fun d e => match kfind e.1 d.mm.migs with
    | some m => if m.dst.tier == .th then d.cancelMig e.1 else d
    | none => d) d

/-- TH pages moved out one after another; the first that finds no frame stops them (R84). -/
def Dev.thOutAll (o : Obj) (why : MigWhy) : List Nat → Dev → Dev × Bool
  | [], d => (d, true)
  | k :: r, d =>
    if d.moving k || d.waiting k then Dev.thOutAll o why r d
    else match d.thOut k o why with
      | some d1 => Dev.thOutAll o why r d1
      | none => (d, false)

/-- A VIEW_SET that takes an object out of RAW carried on: its TH pages set going, or the command stopped (R84). -/
def Dev.viewDrain (d : Dev) (p n : Nat) (o : Obj) (h : Adm) : Dev :=
  let r := Dev.thOutAll o .view (d.thPagesOf p o) d
  if r.2 then r.1 else (r.1.modObj p n (fun o => { o with viewTo := none })).adminRefuse h 0x0006

/-- The pages that VIEW_SET commands still have to move set going. -/
def Dev.restartViews (d : Dev) : Dev :=
  d.mm.objs.foldl (fun d e =>
    match e.2.viewTo with
    | some (_, _, h) => d.viewDrain (e.1 / 2 ^ 16) (e.1 % 2 ^ 16) e.2 h
    | none => d) d

/-- The TH pages of a lend entry, keys. -/
def Dev.lendPages (d : Dev) (i : Nat) : List Nat :=
  (d.mm.pages.filter (fun e => match e.2.home with
    | some h => h.tier == .th && lendHas (d.lendEntry i) h.frame
    | none => false)).map (·.1)

/-- The moves into frames of a lend entry given up: it takes no page any more (R66, R67; log entry 124). -/
def Dev.stopLendMoves (d : Dev) (i : Nat) : Dev :=
  d.mm.migs.foldl (fun d e => if e.2.dst.tier == .th && lendHas (d.lendEntry i) e.2.dst.frame then d.cancelMig e.1 else d) d

/-- Withdrawing lend entries whose last page is out become RETURNED (R67). -/
def Dev.finishLends (d : Dev) : Dev :=
  (List.range 64).foldl (fun d i =>
    if lendState (d.lendEntry i) == 2 && (d.lendPages i).isEmpty then d.wr (K.lend + i) (setFld (d.lendEntry i) 108 4 4) else d) d

/-- The pages of withdrawing lend entries that found no frame before set going (R67). -/
def Dev.restartLends (d : Dev) : Dev :=
  (List.range 64).foldl (fun d i =>
    if lendState (d.lendEntry i) == 2 then
      (d.lendPages i).foldl (fun d k =>
        if d.moving k || d.waiting k then d
        else match d.pageObj k with
          | some (_, o) => (d.thOut k o (.lend i)).getD d
          | none => d) d
    else d) d

/-- The pages in the directory reserve set moving to other T1 frames in Q0 (R123). -/
def Dev.restartShare (d : Dev) : Dev :=
  if d.mm.shareEnabling then
    d.mm.pages.foldl (fun d e =>
      match e.2.home with
      | some h =>
        if h.tier == .t1 && dirReserveBase ≤ h.frame && !d.moving e.1 then
          match d.freeFrame .t1 with
          | some f => (d.tookFrame .t1 f).startMig e.1 ⟨⟨.t1, f, false⟩, none, 0, .shared, false, 0⟩
          | none => d
        else d
      | none => d) d
  else d

/-- Whether a T1 frame of the directory reserve is still held. -/
def Dev.reserveClear (d : Dev) : Bool :=
  !d.homes.any (fun h => h.tier == .t1 && dirReserveBase ≤ h.frame)

/-- SHARED_ENABLE reads 1 once the reserve is clear (R123). -/
def Dev.finishShare (d : Dev) : Dev :=
  if d.mm.shareEnabling && d.reserveClear then
    { d.wr K.sharedEnable 1 with mm := { d.mm with shareOn := true, shareEnabling := false } }
  else d

/-- The pages that the moved shares of the metadata reserve displace set moving to other T2 frames in Q0 (R396). -/
def Dev.restartShares (d : Dev) : Dev :=
  if d.mm.shares.isEmpty then d
  else d.mm.pages.foldl (fun d e =>
    match e.2.home with
    | some h =>
      if h.tier == .t2 && !h.staged && d.inShare h.frame && !d.standsIn h.frame && !d.moving e.1 then
        match d.freeFrame .t2 with
        | some f => (d.tookFrame .t2 f).startMig e.1 ⟨⟨.t2, f, false⟩, none, 0, .shared, false, 0⟩
        | none => d
      else d
    | none => d) d

/-- A staging frame taken for good in place of a retired T2 frame outside the pool (R75). -/
def Dev.standIn (d : Dev) (f g : Nat) : Dev :=
  if d.inPool f && !d.standsIn f then d else { d with mm := { d.mm with t2Repl := kput f g d.mm.t2Repl } }

/-- A page's move out of a retired T2 frame: a staged page keeps its place in the staging pool, another page takes the staging
frame that stands in for its own. A frame whose page already moves is done when that move is. -/
def Dev.leaveT2 (d : Dev) (f k : Nat) : Dev :=
  if d.moving k then d
  else match (kfind f d.mm.t2Repl).or d.freeStaging with
    | some g => ((d.tookStaging g).standIn f g).startMig k ⟨⟨.t2, g, (d.page k).staged⟩, none, 0, .retire, false, 0⟩
    | none => d

/-- The page homed in a frame. -/
def Dev.holder (d : Dev) (t : Tier) (f : Nat) : Option Nat :=
  (d.mm.pages.find? (fun e => e.2.home.any (fun h => h.tier == t && h.frame == f))).map (·.1)

/-- A frame of T1 or T2 retired: a page in it is moved to another frame in Q0; a free T1 frame is only withheld, and a free T2
frame outside the staging pool gives its place to a staging frame (R75, R388). A T3 entry moves no page (R75). -/
def Dev.retireFrame (d : Dev) (t : Tier) (f : Nat) : Dev :=
  match t, d.holder t f with
  | .t1, some k =>
    if d.moving k then d
    else
      (match d.freeFrame .t1 with
        | some g => (d.tookFrame .t1 g).startMig k ⟨⟨.t1, g, false⟩, none, 0, .retire, false, 0⟩
        | none => d)
  | .t2, some k => d.leaveT2 f k
  | .t2, none =>
    if d.frameUsed .t2 f || d.inPool f || (kfind f d.mm.t2Repl).isSome then d
    else
      (match d.freeStaging with
        | some g => (d.tookStaging g).standIn f g
        | none => d)
  | _, _ => d

/-- The pages in frames of pending Deadhead entries set moving (R388). -/
def Dev.restartRetires (d : Dev) : Dev :=
  (d.er.deadhead.filter (fun e => fld e 60 2 == 0)).foldl (fun d e => d.retireFrame (tierOf (fld e 62 2)) (fld e 0 52)) d

/-- Stored bytes of a page: the sectors of its valid blocks. -/
def Dev.storedBytes (d : Dev) (k : Nat) : Nat :=
  sumBy (fun i => if bit (d.page k).valid i then 32 * (d.meta (pagePart k * 2 ^ 40 + k % 2 ^ 32 * 256 + i)).sectors else 0) (List.range 256)

/-- Whether a pending entry can read done: no page holds its frame; for T3 no migration holds it, since the flash translation
layer relocates the page behind its logical frame (R75, R388; Table 02.11). -/
def Dev.retireDone (d : Dev) (e : Nat) : Bool :=
  let f := fld e 0 52
  if fld e 62 2 == 2 then
    !d.mm.migs.any (fun m => m.2.dst.tier == .t3 && m.2.dst.frame == f) && !(d.holder .t3 f).any d.moving
  else !d.frameUsed (tierOf (fld e 62 2)) f

/-- The relocation of the page in a retired T3 frame within the flash translation layer, in Q0: its contents, address and page map
entry stay, and its partition is told (R75, R388). -/
def Dev.relocate (d : Dev) (f : Nat) : Dev :=
  match d.holder .t3 f with
  | none => d
  | some k =>
    let n := d.storedBytes k
    (((d.chargeTier .t3 false 0 n).chargeTier .t3 true 0 n).flashWear).post (pagePart k) ⟨0x12, 0, 0, 2, k % 2 ^ 32 * 65536⟩

/-- Deadhead entries that are pending and whose frame is clear become done: they leave the recommendation list
(R388). `er.deadhead` holds the entries, `mm.deadhead` the withheld frames. -/
def Dev.finishDeadhead (d : Dev) : Dev :=
  let pend := d.er.deadhead.filter (fun e => fld e 60 2 == 0 && d.retireDone e)
  pend.foldl (fun d e =>
    let d1 := if fld e 62 2 == 2 then d.relocate (fld e 0 52) else d
    { d1 with er := { d1.er with
        deadhead := d1.er.deadhead.map (fun x => if x == e then setFld x 60 2 1 else x)
        recommend := d1.er.recommend.filter (fun x => !(fld x 62 2 == fld e 62 2 && fld x 0 52 == fld e 0 52)) } }) d

/-- What follows the switch of a page for commands and moves that waited for it. -/
def Dev.afterMoves (d : Dev) : Dev :=
  d.servePromos.serveWaits.restartPlaces.restartViews.restartLends.restartShare.restartShares.finishPlaces.finishLends.finishShare.restartRetires.finishDeadhead.stagingDemote

/-! ## Copies to and from lenders (R62, R66, R120) -/

/-- The lend entry and frame of a TH home. -/
def Dev.thFrame (d : Dev) (h : Home) : Option (Nat × Nat) :=
  if h.tier == .th then (d.lendOf h.frame).map (fun i => (i, h.frame)) else none

/-- The lend entry and frame of a page homed in TH. -/
def Dev.thHome (d : Dev) (k : Nat) : Option (Nat × Nat) := (d.page k).home.bind d.thFrame

/-- The home at a lender that a migration of a page copies from (`true`) or to. -/
def Dev.thEnd (d : Dev) (k : Nat) (m : Mig) : Option (Bool × Nat × Nat) :=
  match d.thHome k, d.thFrame m.dst with
  | some x, _ => some (true, x)
  | none, some x => some (false, x)
  | none, none => none

/-- Whether a line of a page's copy is under way to or from its lender. -/
def Dev.thCopying (d : Dev) (k : Nat) : Bool :=
  d.tags.any (fun t => !t.quarantined && (match t.use with
    | .thCopy _ pg => pg == k
    | _ => false))

/-- A lend entry LOST: its pages become NONE with POISON, moves into it are given up, each partition affected receives LEND_LOST
(R68). -/
def Dev.lenderLost (d0 : Dev) (i : Nat) : Dev :=
  let d := d0.stopLendMoves i
  let ks := d.lendPages i
  let d1 := ks.foldl Dev.losePage d
  let d2 := d1.wr (K.lend + i) (setFld (d.lendEntry i) 108 4 5)
  (List.range 64).foldl (fun d p =>
    let n := countBy (fun k => pagePart k == p) ks
    if n == 0 then d else d.post p ⟨0x06, 0x20, 0, i, n⟩) d2

/-- One request for a line of lent memory, toward the lender: an RD_UNCACHED, or a WR_UNCACHED of the line's bytes under a mask
(R120, R348). An unreachable lender is lost (R68). -/
def Dev.thSend (d : Dev) (use : TagUse) (i frame k j cls : Nat) (wr : Option (List Bool)) : Dev :=
  let ep := frame / 2 ^ 32
  let off := frame % 2 ^ 32 * 65536 + j * 64
  match d.routePort ep (off / 64) with
  | none => d.lenderLost i
  | some port =>
    let body := match wr with
      | some m =>
        let bs := d.bytes (pagePart k) (k % 2 ^ 32 * 65536 + j * 64) 64
        leBytes 8 (m.zipIdx.foldl (fun n e => if e.1 then n + 2 ^ e.2 else n) 0) ++ List.zipWith (fun b (y : Bool) => if y then b else 0) bs m
      | none => []
    (d.newTag none port true use).emit
      (.ubl port (if wr.isSome then opWrUncached else opRdUncached) ep (d.rd (K.ofPart K.endpoint (pagePart k))) off d.nextTag cls false 0 body)

/-- The lines of a page (0 to 1,023), from one on, that hold stored data. -/
def Dev.nextLine (d : Dev) (k from_ : Nat) : Option Nat :=
  (List.range' from_ (1024 - from_)).find? (fun j => bit (d.page k).valid (j / 4))

/-- Whether the copy of a page meets an arbiter, at its source or its destination, that a locked sequence holds (R297). -/
def Dev.copyLocked (d : Dev) (k : Nat) (m : Mig) : Bool :=
  ((d.pageArb k).toList ++ (m.dst.arb true).toList).any (d.lockedBy (fun _ => false))

/-- Whether the class of a move is held by its cap on what its copy takes (R287). -/
def Dev.copyCapped (d : Dev) (k : Nat) (m : Mig) : Bool :=
  ((resOf (d.medium k) false).toList ++ (resOf m.dst.tier true).toList).any (fun r => d.capHeld r m.cls)

/-- The copy of a page to or from a lender taken on by one line, in ascending order (R62 step 4), when nothing holds it and none is
under way. One line at a time: DESIGN CHOICE, log entry 125. -/
def Dev.thCopyStep (d : Dev) (k : Nat) : Dev :=
  match kfind k d.mm.migs with
  | none => d
  | some m =>
    match d.thEnd k m with
    | none => d
    | some (out, i, f) =>
      if d.thCopying k || d.pageRecalling k || d.pageInLock k || d.copyLocked k m || d.copyCapped k m then d
      else match d.nextLine k m.next with
        | none => if m.next == 1024 then d else { d with mm := { d.mm with migs := kput k { m with next := 1024 } d.mm.migs } }
        | some j =>
          let d1 := { d with mm := { d.mm with migs := kput k { m with next := j + 1 } d.mm.migs } }
          d1.thSend (.thCopy i k) i f k j m.cls (if out then none else some (List.replicate 64 true))

/-- Every copy to or from a lender taken on as far as it goes. -/
def Dev.thCopies (d : Dev) : Dev := d.mm.migs.foldl (fun d e => d.thCopyStep e.1) d

/-- Whether the copy of a page can be ended: it moves, no recall of its lines is outstanding, no locked sequence runs in
it or holds an arbiter of it, and a copy to or from a lender has passed its last line. -/
def Dev.copyReady (d : Dev) (k : Nat) : Bool :=
  d.moving k && !d.pageRecalling k && !d.pageInLock k && !d.thCopying k &&
  (match kfind k d.mm.migs with
    | some m => !d.copyLocked k m && ((d.thEnd k m).isNone || (d.nextLine k m.next).isNone)
    | none => true)

/-- The metadata of a page's blocks as RAW has them, poison marks kept: lent memory holds none, and the device rebuilds them when
the page returns (R79). -/
def Dev.rawMeta (d : Dev) (k : Nat) : Dev :=
  let b := pagePart k * 2 ^ 40 + k % 2 ^ 32 * 256
  { d with mm := { d.mm with blocks := d.mm.blocks.filterMap (fun e =>
      if b ≤ e.1 && e.1 < b + 256 then (if e.2.poison then some (e.1, { Meta.zero with poison := true }) else none) else some e) } }

/-- The switch of a migration (Table 02.10, steps 4 to 6): the copy is charged, the entry is written, a T3 to T1 move goes
on to its second hop, a page moved into T3 enters write staging, and MIGRATIONS counts it. T3_BYTES_WRITTEN grows by 256 bytes for each
valid block (DESIGN CHOICE, log entry 127). A page that leaves a retired frame is reported (R388). -/
def Dev.switchPage (d : Dev) (k : Nat) (m : Mig) : Dev :=
  let src := d.medium k
  let n := d.storedBytes k
  let dg := ((d.pageArb k).toList.foldl (fun d a => d.grantAt false m.cls false a) d)
  let d1 := (((m.dst.arb true).toList.foldl (fun d a => d.grantAt true m.cls false a) dg).chargeTier src false m.cls n).chargeTier m.dst.tier true m.cls n
  let d2 := if m.dst.tier == .t3 then d1.chargeTier .t2 true m.cls n else d1
  let x := d2.page k
  let floorT : Tier := match d2.pageObj k with
    | some (_, o) => pdFloor o.desc
    | none => .t3
  let fl := x.fl || (m.hop.isNone && m.toFloor floorT && !(x.ovf && m.why == .demand))
  let ovf := m.spare || (x.ovf && !fl && m.why != .program)
  let d3 := { d2.metaGone k with mm := { (d2.metaGone k).mm with
      migs := kdel k d2.mm.migs
      staged := d2.mm.staged.filter (· != k) ++ (if m.dst.tier == Tier.t3 then [k] else []) } }
  let d4 := (d3.setPage k { x with home := some m.dst, st := .resident, fl := fl, ovf := ovf }).inc K.migrations
  let d4 := if m.dst.tier == .th || x.home.any (fun h => h.tier == .th) then d4.rawMeta k else d4
  let d5 := if m.dst.tier == .t3 then d4.add K.t3BytesWritten (popcount 256 x.valid * 256) else d4
  let d5 := match (d.page k).home with
    | some h => if d.retired h.tier h.frame then d5.post (pagePart k) ⟨0x12, 0, 0, h.tier.code, k % 2 ^ 32 * 65536⟩ else d5
    | none => d5
  match m.hop with
  | some f => d5.startMig k ⟨⟨.t1, f, false⟩, none, m.cls, m.why, false, 0⟩
  | none => d5

end Sys2Proof.Machine
end

