-- ==== Sys2Proof/Machine/Serve.lean ====
section
/-! DEFINITION. Service of host requests: matching and checks (R115, R119, R128, R342, R343), the directory transitions of
Table 04.6, the answers of Table 11.9, the outcomes of medium reads (R377 to R382), and the holding and release of
requests (R58, R62, R137, R287, R297, R408). -/

namespace Sys2Proof.Machine

/-! ## Medium errors -/

/-- The unit of a frame for a signature record: unit type and unit (Table 12.11). -/
def frameUnit (h : Home) : Nat × Nat :=
  match h.tier with
  | .t1 => (1, h.frame % 8)
  | .t2 => (2, h.frame % 16)
  | .t3 => (3, 255)
  | .th => (255, 255)

/-- A record about a block of a partition. -/
def Dev.blkSig (d : Dev) (cls sev resp p blk : Nat) : Sig :=
  let b := Sig.base cls sev resp
  match (d.page (pageKey p (blk / 256))).home with
  | some h =>
    { b with unitType := (frameUnit h).1, unit := (frameUnit h).2, part := p, tier := h.tier.code, offset := blk * 256, frame := h.frame }
  | none => { b with part := p, offset := blk * 256 }

/-- A frame put on the recommendation list, unless it is there, is a Deadhead entry, or the list is full (R379). -/
def Dev.recommend (d : Dev) (h : Home) : Dev :=
  let e := h.tier.code * 2 ^ 62 + h.frame
  if d.er.recommend.contains e || d.retired h.tier h.frame || 1024 ≤ d.er.recommend.length || h.tier == .th then d
  else { d with er := { d.er with recommend := d.er.recommend ++ [e] } }

/-- The valid blocks that an uncorrectable error of a block poisons: in flash those of its codeword (Table 12.5). -/
def Dev.errorBlks (d : Dev) (p blk : Nat) : List Nat :=
  (if d.medium (pageKey p (blk / 256)) == .t3 then (List.range 16).map (fun i => blk / 16 * 16 + i) else [blk]).filter
    (fun b => d.blkValid p b)

/-- An uncorrectable error poisons (R381, R382). -/
def Dev.uncorrected (d : Dev) (p blk : Nat) : Dev :=
  (d.poisonBlks p (d.errorBlks p blk)).sign { d.blkSig 0x02 1 4 p blk with status := 0x20 }

/-- A correction of a DRAM device noted by row: a device that needed correction on 16 distinct rows within one scrub period is
classed as failed, recorded and counted (R378). Whether a new period has begun since the last correction is the device's draw
(log entry 49). -/
def Dev.dramRow (d : Dev) (x : Sig) : Option (DramDev × Nat) → Dev
  | none => d
  | some (dev, row) =>
    let old := if Config.roundUp d.fresh then [] else d.er.rows
    let rows := if old.contains (dev, row) then old else old ++ [(dev, row)]
    let d1 := { d.drawn with er := { d.er with rows := rows } }
    if countBy (fun e : DramDev × Nat => e.1 == dev) rows < 16 || d.er.devFailed.contains dev then d1
    else
      ({ d1 with er := { d1.er with devFailed := d1.er.devFailed ++ [dev], slotsFailed := setBit d1.er.slotsFailed dev.ch } }).sign
        { x with unitType := 2, unit := dev.ch, syndrome := dev.dev }

/-- The outcome of a read of DRAM: while a device of a subchannel is classed as failed, an error in another device there is uncorrectable
(R378). -/
def Dev.dramMed (d : Dev) : Med → Med
  | .corrected word (some (dev, row)) =>
    if d.er.devFailed.any (fun f => f.ch == dev.ch && f.sub == dev.sub && f.dev != dev.dev) then .uncorrectable
    else .corrected word (some (dev, row))
  | m => m

/-- A corrected word noted among the last 65,536 distinct ones (R378), and whether it is classed as hard now: it corrects again
after the write-back of its first correction. -/
def Dev.noteWord (d : Dev) (t frame word : Nat) : Dev × Bool :=
  let l := d.er.words
  match l.find? (fun x => x.1 == t && x.2.1 == frame && x.2.2.1 == word) with
  | some (_, _, _, true) => (d, false)
  | some y => ({ d with er := { d.er with words := l.map (fun x => if x == y then (t, frame, word, true) else x) } }, true)
  | none => ({ d with er := { d.er with words := (l ++ [(t, frame, word, false)]).drop (l.length + 1 - 65536) } }, false)

/-- The outcome of a medium read of a stored block (R378 to R382). Uncorrectable blocks are poisoned; a mirrored one is
asked for from the partner instead, when it is reachable (R413). -/
def Dev.medRead (d : Dev) (p blk : Nat) (med : Med) : Dev :=
  let k := pageKey p (blk / 256)
  match (d.page k).home with
  | none => d
  | some h =>
    if !d.blkValid p blk || h.tier == .th then d
    else
      let t := (d.medium k).code
      match (if d.medium k == .t2 then d.dramMed med else med) with
      | .good => d
      | .corrected word dram =>
        let d1 := { d with er := { d.er with ce := kput t (kget 0 t d.er.ce + 1) d.er.ce } }
        let d2 := ((d1.chargeTier (d1.medium k) true 0 32).sign (d.blkSig 0x01 0 1 p blk)).dramRow (d.blkSig 0x04 0 8 p blk)
          (if d.medium k == .t2 then dram else none)
        let (d3, hard) := d2.noteWord t h.frame (blk % 256 * 8 + word)
        if hard then ((d3.inc K.hardWords).recommend h).sign (d.blkSig 0x03 0 8 p blk) else d3
      | .uncorrectable =>
        let d1 := { d with er := { d.er with ue := kput t (kget 0 t d.er.ue + 1) d.er.ue } }
        let mir := match d.objAt p (blk * 256) with
          | some (_, o) => d.objMirrored p o
          | none => false
        if mir && d.reachable && !d.dirtyPage k then
          if d.pr.repairs.contains (p, blk) then d1 else d1.repairAsk p blk
        else
          d1.uncorrected p blk

/-- Whether a repair of a block from the partner is outstanding. -/
def Dev.repairing (d : Dev) (p blk : Nat) : Bool := d.pr.repairs.contains (p, blk)

/-! ## Answers -/

/-- Whether a port runs native mode or CXL mode. -/
def Dev.native (d : Dev) (port : Nat) : Bool := (d.port port).mode == .native
def Dev.cxl (d : Dev) (port : Nat) : Bool := (d.port port).mode == .cxl

/-- A function's report of a request that it answers with Unsupported Request or Completer Abort (R357). -/
def Dev.refuseBar (d : Dev) (r : HostReq) (st : Nat) : Dev :=
  match r.kind with
  | .barRead => (d.aer r.fn 1 (if st == 2 then aerCplAbort else aerUnsupported)).emit (.cpl r.fn r.q.tag st [] false)
  | _ => d.aer r.fn 0 aerAdvisory

/-- Whether a request reads. -/
def HKind.reads : HKind → Bool
  | .rdShared | .rdOwn | .rdUncached | .barRead => true
  | _ => false

/-- The answer to a read that is served: data, status (0, POISON or ORPHANED_LINE), whether the host must not keep the
line (Table 11.9). -/
def Dev.answerRead (d : Dev) (r : HostReq) (st : Nat) (data : List Byte) (nocache : Bool) : Dev :=
  match r.kind with
  | .barRead => d.emit (.cpl r.fn r.q.tag 0 data (st != 0))
  | _ =>
    if d.cxl r.q.port then d.emit (.cxl r.q.port r.q.tag data (st != 0) (!nocache))
    else d.emit (.ubl r.q.port opRespData r.q.src r.q.dst r.q.off r.q.tag r.q.pool nocache st data)

/-- The end of a write by the device itself, for what it was made (R198, R206). -/
def Dev.noteWrote (d : Dev) (u : DevUse) (ok : Bool) : Dev := { d with chs := { d.chs with wrote := d.chs.wrote ++ [(u, ok)] } }

/-- The answer to a write that is carried out or discarded. -/
def Dev.answerWrite (d : Dev) (r : HostReq) (st : Nat) : Dev :=
  match r.kind with
  | .barWrite | .evict | .recallData _ => d
  | .devWrite u => d.noteWrote u (st == 0)
  | _ =>
    if d.cxl r.q.port then d.emit (.cxlCmp r.q.port r.q.tag)
    else d.emit (.ubl r.q.port opResp r.q.src r.q.dst r.q.off r.q.tag r.q.pool false st [])

/-- The answer to a refused access: the native status, and for BAR2 Completer Abort (`ca`) or Unsupported Request
(Table 11.9). -/
def Dev.refuse (d : Dev) (r : HostReq) (st : Nat) (ca : Bool) : Dev :=
  match r.kind with
  | .barRead | .barWrite => d.refuseBar r (if ca then 2 else 1)
  | .evict | .recallData _ => d
  | .devWrite u => d.noteWrote u false
  | _ =>
    if d.cxl r.q.port then
      if r.kind.reads then d.emit (.cxl r.q.port r.q.tag (zeros 64) true false) else d.emit (.cxlCmp r.q.port r.q.tag)
    else d.emit (.ubl r.q.port opResp r.q.src r.q.dst r.q.off r.q.tag r.q.pool false st [])

/-! ## Matching and checks -/

/-- The partition whose ENDPOINT a native request names, bound to its arrival port (R119). -/
def Dev.endpointPart (d : Dev) (port dst : Nat) : Option Nat :=
  (List.range 64).find? (fun n => d.presented port n && d.enabled n && d.rd (K.ofPart K.endpoint n) == dst)

/-- The partition that a request addresses. -/
def Dev.reqPart (d : Dev) (r : HostReq) : Option Nat :=
  match r.kind with
  | .barRead | .barWrite => some r.fn.num
  | .devWrite _ | .recallData _ => some r.q.dst
  | _ => if d.cxl r.q.port then d.cxlPart r.q.port else d.endpointPart r.q.port r.q.dst

/-- The ACTIVE slot of a request. -/
def Dev.reqSlot (d : Dev) (r : HostReq) (p : Nat) : Option Nat :=
  if d.cxl r.q.port then d.cxlSlot r.q.port p else d.nativeSlot r.q.src p

/-- Whether a request is one of host load and store, matched to a slot. -/
def HKind.hosted : HKind → Bool
  | .barRead | .barWrite | .devWrite _ | .recallData _ => false
  | _ => true

/-- Whether a request is a write of the device itself. -/
def HKind.own : HKind → Bool
  | .devWrite _ => true
  | _ => false

/-- A refusal under R115 or R128 counted; one of a matched slot leaves its slot, partition and offset (R128). -/
def Dev.revoked (d : Dev) (slot : Option Nat) (p off : Nat) : Dev :=
  let d1 := d.inc K.revokedAccesses
  match slot with
  | some h => d1.wr K.lastRevoked (h + p * 2 ^ 16 + off * 2 ^ 64)
  | none => d1

/-- Whether a host may cache lines: the directory is present, the link has COHERENCE or the request came through decoder 1
(R124, R329, R354). In CXL mode `dst` names the decoder (log entry 23). -/
def Dev.cachingRights (d : Dev) (r : HostReq) : Bool :=
  d.mm.shareOn && (if d.cxl r.q.port then r.q.dst != 0 else bit (d.port r.q.port).feats 1)

/-- LS_CLASS of a partition (R277). -/
def Dev.lsCls (d : Dev) (p : Nat) : Nat := d.rd (K.lsClass + p)

/-- The mask of a request's write, one entry a byte. -/
def HostReq.bytes (r : HostReq) : List (Option Byte) :=
  r.data.zipIdx.map (fun e => if bit r.mask e.2 then some e.1 else none)

/-- Whether the arbiter of pieces is held by another locked sequence (R297). -/
def Dev.arbHeld (d : Dev) (ps : List Piece) (own : Lock → Bool) : Bool := d.pagesHeld own (pieceKeys ps)

/-- Whether a class is held by its cap on the resources of pieces (R287). -/
def Dev.capBars (d : Dev) (ps : List Piece) (w : Bool) (cls : Nat) : Bool := d.capPages (pieceKeys ps) w cls

/-! ## Verdicts -/

/-- The outcome of an attempt to serve a request: it is over, or it is held. -/
inductive Verdict where
  | done (d : Dev)
  | hold (why : HoldWhy) (d : Dev)
deriving DecidableEq, Repr

/-- The lines of a request: numbers in the owner's range. -/
def tgtLines (t : Tgt) (len : Nat) : List Nat :=
  (List.range ((t.off + len - 1) / 64 + 1 - t.off / 64)).map (fun i => lineKey t.part (t.off / 64 + i))

/-- A run of lines readied for an access that keeps no copy: holders of O lines are recalled for a read, holders of S and O
lines for a write (Table 04.6); none when nothing must be waited for. -/
def Dev.readyLines (d : Dev) (write : Bool) (ls : List Nat) : Option Dev :=
  let busy := ls.filter (fun k => match d.dirGet k with
    | some e => e.st == .rs || e.st == .ro || e.st == .o || (write && e.st == .s)
    | none => false)
  if busy.isEmpty then none
  else some (busy.foldl (fun d k => match d.dirGet k with
    | some e =>
      match e.st with
      | .o => d.recallLine k e [e.vec] (!write)
      | .s => d.recallLine k e (d.sharers e) false
      | _ => d
    | none => d) d)

/-- A way for a new entry of a line (R142): free; or after displacing an orphan; or not yet, with a victim's recall begun. -/
def Dev.wayFor (d : Dev) (k : Nat) : Dev × Option HoldWhy :=
  let ws := d.setWays k
  if ws.length < 16 then (d, none)
  else
    match sortBy (fun a b => a.2.ord < b.2.ord) (ws.filter (fun e => e.2.st == .s || e.2.st == .o)) with
    | v :: _ => ((d.recallLine v.1 v.2 (d.holders v.2) false).inc K.capacityRecalls, some (.way v.1))
    | [] =>
      match sortBy (fun a b => a.2.ord < b.2.ord) (ws.filter (fun e => e.2.st == .orph)) with
      | v :: _ => (d.displaceOrphan v.1, none)
      | [] => (d, some .line)

/-- A caching request of slot `h` for a line taken through Table 04.6: the entry as it will be, or a hold. A victim that no
host holds any more leaves its way at once. -/
def Dev.cacheLine (d : Dev) (k h : Nat) (own : Bool) : Dev × Option HoldWhy :=
  match d.dirGet k with
  | none =>
    let r := d.wayFor k
    if (r.1.setWays k).length < 16 then
      (r.1.dirNew k (if own then .o else .s) (if own then h else 2 ^ (h % 64)) (if own then 0 else h / 64), none)
    else (r.1, some (r.2.getD .line))
  | some e =>
    match e.st with
    | .s =>
      if own then
        let others := (d.sharers e).filter (· != h)
        if others.isEmpty then ((d.dirPut k { e with st := .o, vec := h, window := 0, coarse := false }).dirLog k, none)
        else (d.recallLine k e others false, some .line)
      else ((d.dirPut k (e.addSharer h)).dirLog k, none)
    | .o => if e.vec == h then (d, none) else (d.recallLine k e [e.vec] (!own), some .line)
    | _ => (d, some .line)

/-! ## Reads -/

/-- The read of a target served from the home tier: medium outcome, orphans, poison, answer. `cached` says that caching
rights were given. -/
def Dev.readNow (d : Dev) (r : HostReq) (t : Tgt) (nocache : Bool) : Dev :=
  let ps := d.readPieces t r.len
  let d1 := (((d.chargePieces ps r.cls).grantPages false r.cls (pieceKeys ps)).touchPieces ps).pmapLookup (pieceKeys ps)
  let ov := d.overruns t r.len
  let d2 := d1.countOverruns t.part ov
  let orph := (tgtLines t r.len).any (fun k => d2.dirGet k |>.any (fun e => e.st == .orph))
  let st := if orph then 0x21 else if d2.readPoison t r.len then 0x20 else 0
  d2.answerRead r st (d2.viewRead t r.len) nocache

/-! ### Reads and writes of lent memory (R66, R120) -/

/-- The lines of pieces that are stored in lent memory: keys. -/
def Dev.thLines (d : Dev) (ps : List Piece) : List Nat :=
  ps.flatMap (fun x =>
    if x.len == 0 then [] else
    ((List.range ((x.off + x.len - 1) / 64 + 1 - x.off / 64)).map (fun i => lineKey x.part (x.off / 64 + i))).filter (fun l =>
      (d.thHome (l / 1024)).isSome && d.blkValid x.part (l % 2 ^ 42 / 4)))

/-- Those of them that the lender has not yet returned to an access: `who` is its channel's key + 1, or 0 for a host. -/
def Dev.thMissing (d : Dev) (who : Nat) (ps : List Piece) : List Nat :=
  (d.thLines ps).filter (fun l => !d.mm.thGot.contains (who, l))

/-- The reads of lent memory that an access needs sent to the lender, one RD_UNCACHED a line, unless they are under way. -/
def Dev.thFetch (d : Dev) (who cls : Nat) (ls : List Nat) : Dev :=
  ls.foldl (fun d l =>
    match d.thHome (l / 1024) with
    | some (i, f) =>
      if d.tags.any (fun t => t.use == .thLine i who l && !t.quarantined) then d
      else d.thSend (.thLine i who l) i f (l / 1024) (l % 1024) cls none
    | none => d) d

/-- Lines that an access has taken. -/
def Dev.thTake (d : Dev) (who : Nat) (ls : List Nat) : Dev :=
  { d with mm := { d.mm with thGot := d.mm.thGot.filter (fun e => !(e.1 == who && ls.contains e.2)) } }

/-- The writes toward lenders that follow a write: one WR_UNCACHED a line, of the bytes written, or of the whole of a block that held
nothing before (R39, R348). `d0` is the device before the write. -/
def Dev.thPut (d0 d : Dev) (cls : Nat) (t : Tgt) (m : List (Option Byte)) (ps : List Piece) : Dev :=
  ps.foldl (fun d x => x.blks.foldl (fun d b =>
    (List.range 4).foldl (fun d j =>
      let l := 4 * b + j
      let mask := (List.range 64).map (fun i =>
        let a := l * 64 + i
        !d0.blkValid x.part b || (x.off ≤ a && a < x.off + x.len && (t.obj.window || (m.getD (a - t.off) none).isSome)))
      match d.thHome (pageKey x.part (b / 256)) with
      | some (i, f) => if mask.any id then d.thSend (.th i) i f (pageKey x.part (b / 256)) (l % 1024) cls (some mask) else d
      | none => d) d) d) d

/-- A read that has passed the checks. `slot` is the host's slot, none through BAR2. Lines of lent memory are read from the lender
first. -/
def Dev.serveRead (d : Dev) (r : HostReq) (t : Tgt) (slot : Option Nat) : Verdict :=
  let ps := d.readPieces t r.len
  let ks := pieceKeys ps
  let want := (r.kind == .rdShared || r.kind == .rdOwn)
  let tracked := t.obj.tracked
  let rights := want && tracked && d.cachingRights r
  if d.handHeld t.part t.obj || ps.any (fun x => x.blks.any (fun b => d.blkHeld x.part b || d.repairing x.part b)) then .hold .mirror d
  else if d.sealMet t then .hold .page d
  else if ks.any d.t3Cold then .hold .page ((ks.filter d.t3Cold).foldl (fun d k => d.promote r.cls k) d)
  else if ks.any (fun k => d.pageLocked k && ((d.page k).st == .promoting || rights)) then .hold .page d
  else if d.arbHeld ps (fun _ => false) then .hold .lock d
  else if d.capBars ps false r.cls then .hold .cls d
  else
    let lines := tgtLines t r.len
    let orph := lines.any d.orphaned
    let step : Dev × Option HoldWhy :=
      if !tracked then (d, none)
      else if rights then
        match slot, lines with
        | some h, k :: _ => if orph then (d, none) else d.cacheLine k h (r.kind == .rdOwn && t.obj.kind != 5)
        | _, _ => (d, none)
      else match d.readyLines false (lines.filter (fun k => !d.orphaned k)) with
        | some d1 => (d1, some .line)
        | none => (d, none)
    match step.2 with
    | some why => .hold why step.1
    | none =>
      let dt := step.1.thFetch 0 r.cls (d.thMissing 0 ps)
      if !(dt.thMissing 0 ps).isEmpty then .hold .th dt
      else
        let d0 := dt.thTake 0 (dt.thLines ps)
        let d1 := match ps with
          | x :: _ => d0.medRead x.part (x.off / 256) r.med
          | [] => d0
        if ps.any (fun x => x.blks.any (fun b => d1.repairing x.part b)) then .hold .repair d1
        else .done (d1.readNow r t (want && tracked && (!rights || orph)))

/-! ## Writes -/

/-- The log records of a write in host form (R409): one LINE record for each line that it touches, with its mask. -/
def lineRecs (p off : Nat) (m : List (Option Byte)) : List LogRec :=
  (List.range ((off + m.length - 1) / 64 + 1 - off / 64)).map (fun i =>
    let x := maskAt (if i == 0 then off % 64 else 0) 64 (if i == 0 then m.take (64 - off % 64) else (m.drop (64 * i - off % 64)).take 64)
    LogRec.mk p (.line ((off / 64 + i) * 64) (maskBits x)
      (maskData x)))

/-- The log records of a write that has been stored: for a PROTECTED object the ciphertext of every block touched (R108,
R409), else its lines. -/
def Dev.changeRecs (d : Dev) (t : Tgt) (m : List (Option Byte)) (ps : List Piece) : List LogRec :=
  if t.obj.kind == 3 then
    ps.flatMap (fun x => x.blks.map (fun b => LogRec.mk x.part (.block b (d.toStored x.part b) (d.meta (blkKey x.part b)).word)))
  else lineRecs t.part t.off m

/-- A write applied: frames, merge, encoding, the mark of a write that arrived poisoned (R374), the log; the state, and
the sequence number of the log frame that must be acknowledged before the answer. -/
def Dev.writeNow (d : Dev) (r : HostReq) (m : List (Option Byte)) (p : Nat) (t : Tgt) : Option (Dev × Option Nat) :=
  let ps := d.writePieces t m.length
  match Dev.framesFor ps d with
  | none => none
  | some d1 =>
    let d2 := (((d1.viewWrite t m r.cls).grantPages true r.cls (pieceKeys ps)).touchPieces ps).pmapLookup (pieceKeys ps)
    let ks := pieceKeys ps
    let way := d.mirrorWay t.part t.obj ks
    let d3 := d2.mirrorNote way ks (d2.changeRecs t m ps)
    let d4 := if r.q.poisoned then
        (ps.foldl (fun d x => d.poisonBlks x.part x.blks) (d3.inc K.poisonReceived)).sign
          { Sig.base 0x0D 1 4 with part := p, offset := t.off, status := 0x20 }
      else if r.kind == .devWrite .poison then ps.foldl (fun d x => d.poisonBlks x.part x.blks) d3
      else d3
    some (d4, if way == .log then some (d4.pr.txSeq - 1) else none)

/-- The mask of a write without the bytes that an orphaned line refuses: those of a line it covers in part (Table 04.6; each line
of a BAR2 write is taken by itself). -/
def Dev.pastOrphans (d : Dev) (t : Tgt) (m : List (Option Byte)) : List (Option Byte) :=
  let bad := (tgtLines t m.length).filter (fun k =>
    let a := k % 2 ^ 42 * 64
    d.orphaned k && !(t.off ≤ a && a + 64 ≤ t.off + m.length && fullMask ((m.drop (a - t.off)).take 64)))
  if bad.isEmpty then m
  else m.zipIdx.map (fun e => if bad.contains (lineKey t.part ((t.off + e.2) / 64)) then none else e.1)

/-- A beat of a locked sequence that has been granted: the first takes the lock at the arbiter of every page it touches, the last ends the
sequence (R296, R297). -/
def Dev.lockBeat (d : Dev) (r : HostReq) (p : Nat) (ps : List Piece) (t : Tgt) : Dev :=
  let blks := ps.flatMap Piece.blks
  match d.bw.locks.find? r.ownLock with
  | none =>
    if r.q.last then d
    else { d with bw := { d.bw with
        nextLock := d.bw.nextLock + 1
        locks := d.bw.locks ++
          [Lock.mk d.bw.nextLock true r.q.port r.q.src r.q.dst r.q.lockId p (t.off / 4096) 1 t.part (pieceKeys ps) blks .held] } }
  | some l =>
    if r.q.last then d.putLock l none
    else if l.st != .held then d
    else { d with bw := { d.bw with
        locks := d.bw.locks.map (fun x => if x.id == l.id then
          { x with beats := x.beats + 1, pages := (x.pages ++ pieceKeys ps).eraseDups, blocks := x.blocks ++ blks } else x) } }

/-- A sequence that its beat ends before it is carried on: broken when the beat goes to another destination (R350),
completed unlocked and counted when the beat leaves the 4 KiB range or is the 65th (R296). -/
def Dev.lockMeets (d : Dev) (r : HostReq) (t : Tgt) : Dev :=
  match d.bw.locks.find? r.ownLock with
  | none => d
  | some l =>
    if l.dst != r.q.dst then d.breakLock l none
    else if l.st == .held && (l.range != t.off / 4096 || 64 ≤ l.beats) then (d.inc K.locksBroken).putLock l (some .open_)
    else d

/-- Whether a request carries a lock attribute that counts: a WR_UNCACHED or WR_BACK in native mode on a link with the
LOCK feature (R296, R350). -/
def Dev.lockCounts (d : Dev) (r : HostReq) : Bool :=
  r.q.lock && (r.kind == .wrUncached || r.kind == .wrBack) && d.native r.q.port && bit (d.port r.q.port).feats 2

/-- How a beat's sequence stands; none for the first beat. -/
def Dev.lockSt (d : Dev) (r : HostReq) : Option LockSt := (d.bw.locks.find? r.ownLock).map (·.st)

/-- A beat that completes with POISON breaks its sequence (Table 09.8): this beat and later ones complete with LOCK_BROKEN. -/
def Dev.lockPoison (d : Dev) (r : HostReq) (p : Nat) (t : Tgt) : Dev :=
  match d.bw.locks.find? r.ownLock with
  | none =>
    let d1 := d.inc K.locksBroken
    if r.q.last then d1
    else { d1 with bw := { d1.bw with
        nextLock := d1.bw.nextLock + 1
        locks := d1.bw.locks ++
          [Lock.mk d1.bw.nextLock true r.q.port r.q.src r.q.dst r.q.lockId p (t.off / 4096) 1 t.part [] [] .fail] } }
  | some l => if l.st == .held then d.breakLock l (if r.q.last then none else some .fail) else if r.q.last then d.putLock l none else d

/-- A refused beat that is the last ends its sequence. -/
def Dev.lockLast (d : Dev) (lk : Bool) (r : HostReq) : Dev :=
  if lk && r.q.last then (match d.bw.locks.find? r.ownLock with
    | some l => d.putLock l none
    | none => d)
  else d

/-- The status of a write that is carried out: LOCK_BROKEN for a beat of a sequence that Table 09.8 ends so. -/
def beatStatus (st : Option LockSt) : Nat := if st == some .fail then 0x22 else 0

/-- The first block that a write reads so as to merge its bytes with it: a block in compressed form that it covers in part (R89). -/
def Dev.mergeBlk (d : Dev) (m : List (Option Byte)) (ps : List Piece) : Option (Nat × Nat) :=
  ps.findSome? (fun x => (x.blks.find? (fun b => d.blkValid x.part b && (d.meta (blkKey x.part b)).codec != 0 &&
    !(x.off ≤ b * 256 && (b + 1) * 256 ≤ x.off + x.len && fullMask m))).map (fun b => (x.part, b)))

/-- The outcome of that read (R378, R382). -/
def Dev.mergeRead (d : Dev) (m : List (Option Byte)) (ps : List Piece) (med : Med) : Dev :=
  match d.mergeBlk m ps with
  | some (p, b) => if d.blkPoison p b || emptyMask m then d else d.medRead p b med
  | none => d

/-- A write that has passed the checks before the directory. -/
def Dev.serveWrite (d0 : Dev) (r : HostReq) (p : Nat) (t : Tgt) : Verdict :=
  let lk := d0.lockCounts r
  let d := if lk then d0.lockMeets r t else d0
  let m := d.pastOrphans t r.bytes
  let ps := d.writePieces t m.length
  let ks := pieceKeys ps
  let own := fun l => lk && r.ownLock l
  let seqSt := if lk then d.lockSt r else none
  let lines := tgtLines t m.length
  if ps.any (fun x => x.blks.any (fun b => d.blkHeld x.part b || d.repairing x.part b)) then .hold .mirror d
  else if d.mirrorWay t.part t.obj ks == .hold then .hold .mirror d
  else match d.writeRefusal t m with
  | some 0x10 => .done ((d.lockLast lk r).refuse r 0x10 true)
  | _ =>
    if ks.any d.inT3 then .hold .page ((ks.filter d.inT3).foldl (fun d k => d.promote r.cls k) d)
    else if ks.any d.pageLocked then .hold .page d
    else if d.arbHeld ps own then .hold .lock d
    else if seqSt != some .held && d.capBars ps true r.cls then .hold .cls d
    else
      if m != r.bytes && emptyMask m then
        (match r.kind with
          | .barWrite => .done d
          | _ => .done ((d.lockLast lk r).answerWrite r 0x21))
      else
        let all := (if t.obj.tracked then lines else []) ++ ps.flatMap d.windowLines
        match d.readyLines true (all.filter (fun k => !d.orphaned k)) with
        | some d1 => .hold .line d1
        | none =>
          let d := d.mergeRead m ps r.med
          if ps.any (fun x => x.blks.any (fun b => d.repairing x.part b)) then .hold .repair d
          else if d.writePoison t m then
            (match r.kind with
              | .barWrite => .done d
              | _ => .done (if lk then (d.lockPoison r p t).answerWrite r (if seqSt == some .open_ then 0x20 else 0x22)
                  else d.answerWrite r 0x20))
          else
            match d.writeNow r m p t with
            | none => .done ((d.lockLast lk r).refuse r 0x11 false)
            | some (d1, seq) =>
              let gone := lines.filter (fun k => d.orphaned k && (List.range 64).any (fun i =>
                (m.getD (k % 2 ^ 42 * 64 + i - t.off) none).isSome))
              let d2 := gone.foldl (fun d k => (d.dirDel k).dirLog k) d1
              let d3 := Dev.thPut d (if lk then d2.lockBeat r p ps t else d2) r.cls t m ps
              match seq with
              | some s =>
                .done { d3 with pr := { d3.pr with
                  holds := d3.pr.holds ++ [MirHold.mk s t.part (ps.flatMap Piece.blks) (some r) none none] } }
              | none => .done (d3.answerWrite r (beatStatus seqSt))

/-- A line returned by its owner, or by a recalled host: written in Q0 without regard to a page lock (R62, R141). A
poisoned block takes it only as R90 allows; without a frame the data is dropped. -/
def Dev.returnLine (d : Dev) (k : Nat) (data : List Byte) : Dev :=
  match d.resolve (k / 2 ^ 42) (k % 2 ^ 42 * 64) with
  | none => d
  | some t =>
    let m := data.map some
    if (d.writeRefusal t m).isSome then d
    else
      let ps := d.writePieces t 64
      match Dev.framesFor ps d with
      | none => d
      | some d1 =>
        let d2 := Dev.thPut d ((d1.viewWrite t m 0).touchPieces ps) 0 t m ps
        let ks := pieceKeys ps
        d2.mirrorNote (d.mirrorWay t.part t.obj ks) ks (d2.changeRecs t (data.map some) (d2.writePieces t data.length))

/-- The entry of a line whose data have come: it ends in I as any recall does (R384). -/
def Dev.goodEntry (d : Dev) (k : Nat) : Dev :=
  match d.dirGet k with
  | some e => if e.bad then d.dirPut k { e with bad := false } else d
  | none => d

/-- A recall answered by a slot: by acknowledgement, data, or a crossing WR_BACK or EVICT (R137). -/
def Dev.recallAnswered (d : Dev) (k slot : Nat) (data : Option (List Byte)) : Dev :=
  let d1 := match data with
    | some bs => (d.goodEntry k).returnLine k bs
    | none => d
  ({ d1 with coh := { d1.coh with recalls := d1.coh.recalls.filter (fun x => !(x.line == k && x.slot == slot)) } }).recallEnd k

/-- Whether a recall of a line is outstanding to a slot. -/
def Dev.recalled (d : Dev) (k slot : Nat) : Bool := d.coh.recalls.any (fun x => x.line == k && x.slot == slot)

/-- A slot taken out of the entry of a line: a dropped copy (R136). -/
def Dev.dropCopy (d : Dev) (k h : Nat) : Dev :=
  match d.dirGet k with
  | none => d
  | some e =>
    match e.st with
    | .s =>
      if e.coarse || !e.has h then d
      else
        let v := clrBit e.vec (h % 64)
        (if v == 0 then d.dirDel k else d.dirPut k { e with vec := v }).dirLog k
    | .o => if e.vec == h then (d.dirDel k).dirLog k else d
    | _ => d

/-! ## The order of checks -/

/-- Whether a request only returns or drops a line of its slot: an EVICT, or a WR_BACK (or CXL MemWr) of the owner (R128,
Table 04.8). -/
def Dev.ownerReturn (d : Dev) (r : HostReq) (k h : Nat) : Bool :=
  (r.kind == .wrBack || (r.kind == .wrUncached && d.cxl r.q.port && r.mask == 2 ^ 64 - 1)) &&
  (match d.dirGet k with
    | some e => (e.st == .o || e.st == .ro) && e.vec == h
    | none => false)

/-- Whether a WR_BACK (or CXL MemWr of the whole line) crosses a recall of the line to its slot: it is taken as that slot's answer
(R137). -/
def Dev.crossing (d : Dev) (r : HostReq) (k h : Nat) : Bool :=
  (r.kind == .wrBack || (r.kind == .wrUncached && d.cxl r.q.port && r.mask == 2 ^ 64 - 1)) && d.recalled k h

/-- Whether the return of a line meets an arbiter that another locked sequence holds (R297). -/
def Dev.returnHeld (d : Dev) (k : Nat) (own : Lock → Bool) : Bool :=
  match d.resolve (k / 2 ^ 42) (k % 2 ^ 42 * 64) with
  | some t => d.arbHeld (d.writePieces t 64) own
  | none => false

/-- A request that a line's holder makes to give the line back, in Q0; it may be a beat of a locked sequence. -/
def Dev.serveReturn (d0 : Dev) (r : HostReq) (p : Nat) (t : Tgt) (k h : Nat) : Verdict :=
  let lk := d0.lockCounts r
  let d := if lk then d0.lockMeets r t else d0
  if d.returnHeld k (fun l => lk && r.ownLock l) then .hold .lock d
  else
    let st := if lk then beatStatus (d.lockSt r) else 0
    let d1 := if d.recalled k h then d.recallAnswered k h (some r.data) else (d.returnLine k r.data).dropCopy k h
    .done ((if lk then d1.lockBeat r p (d1.writePieces t 64) t else d1).answerWrite r st)

/-- The data with which a slot answered a recall: written once no locked sequence holds the arbiter (R297); dropped when the recall has
been given up meanwhile. -/
def Dev.serveRecall (d : Dev) (r : HostReq) (slot : Nat) : Verdict :=
  let k := lineKey r.q.dst (r.q.off / 64)
  if !d.recalled k slot then .done d
  else if d.returnHeld k (fun _ => false) then .hold .lock d
  else .done (d.recallAnswered k slot (some r.data))

/-- The service of a request whose partition is `p` (R128, R342): fence, object, slot, grant, then the access. A request that
has `passed` the check of grants once is not checked again (Table 04.4, V1). An EVICT that matches no ACTIVE slot is discarded and
counted in 0x1300.0E with the loads and stores (DESIGN CHOICE, log entry 139). -/
def Dev.serveIn (d : Dev) (r : HostReq) (p : Nat) (passed : Bool) : Verdict :=
  let off := r.q.off
  let fen := match d.resolve p off with
    | some t => d.leaseFenced t.part t.obj
    | none => false
  if !r.kind.own && (d.fenced p || fen || d.pairRole p == 2) then .done (d.refuse r 0x10 true)
  else match d.resolve p off with
  | none => .done (d.refuse r 0x11 false)
  | some t =>
    if !t.holds (Max.max 1 r.len) then .done (d.refuse r 0x11 false)
    else
      let k := lineKey t.part (t.off / 64)
      let slot := if r.kind.hosted then d.reqSlot r p else none
      if r.kind.hosted && slot.isNone then .done ((d.revoked none p off).refuse r 0x10 false)
      else
        let h := slot.getD 0
        if r.kind == .evict then
          .done (if d.recalled k h then d.recallAnswered k h none else d.dropCopy k h)
        else if r.kind.hosted && d.ownerReturn r k h then d.serveReturn r p t k h
        else
          let rw := !r.kind.reads || r.kind == .rdOwn
          let roAl := match d.objAt p off with
            | some (_, o) => o.aliasOf.isSome && !o.aliasRw && rw
            | none => false
          if r.kind.hosted && !passed && (!d.granted h p (off / 2 ^ 30) rw || roAl) then .done ((d.revoked slot p off).refuse r 0x10 false)
          else if r.kind.hosted && d.crossing r k h then d.serveReturn r p t k h
          else if r.kind.reads then d.serveRead r t slot
          else
            let d1 := if r.kind == .wrBack then d.dropCopy k h else d
            d1.serveWrite { r with mask := if r.kind == .wrBack then 2 ^ 64 - 1 else r.mask } p t

/-- The service of a request: matching first (R115, R119, R343). -/
def Dev.serve (d : Dev) (r : HostReq) (passed : Bool) : Verdict :=
  match r.kind, d.reqPart r with
  | .recallData slot, _ => d.serveRecall r slot
  | _, some p => d.serveIn r p passed
  | _, none =>
    if d.cxl r.q.port then .done (d.refuse r 0x11 false)
    else .done ((d.inc K.misrouted).refuse r 0x10 false)

/-! ## Holding and release -/

/-- What the holding of a request counts: by its class cap (R287, R299), or a mirrored write for the lost partner (R418). -/
def Dev.countHeld (d : Dev) (why : HoldWhy) (r : HostReq) : Dev :=
  match why with
  | .cls => d.inc (K.heldRequests + r.cls)
  | .mirror => if d.pr.st == .partnerLost && !r.kind.reads then d.inc K.heldWrites else d
  | _ => d

/-- A request put behind those already held. -/
def Dev.holdReq (d : Dev) (why : HoldWhy) (r : HostReq) : Dev := { d with mm := { d.mm with held := d.mm.held ++ [Held.mk why r] } }

/-- Whether a write of the device comes after another for the same use that still waits: the notify writes of one object are
ordered (R206). -/
def behind (earlier : List Held) (r : HostReq) : Bool := r.kind.own && earlier.any (fun x => x.r.kind == r.kind)

/-- A new request: served, or put behind the requests already held. -/
def Dev.request (d : Dev) (r : HostReq) : Dev :=
  if behind d.mm.held r then d.holdReq .line r
  else match d.serve r false with
  | .done d1 => d1
  | .hold why d1 => (d1.countHeld why r).holdReq why r

/-- Whether what a held request waits for is still there whatever its service would say: the victim of its way is under recall, or an
earlier write of its use waits. -/
def Dev.heldFast (d : Dev) (earlier : List Held) (x : Held) : Bool :=
  behind earlier x.r || (match x.why with
    | .way v => d.lineBusy v
    | _ => false)

/-- One held request tried again. -/
def Dev.retryOne (d : Dev) (x : Held) : Dev :=
  if d.heldFast d.mm.held x then d.holdReq x.why x.r
  else match d.serve x.r true with
    | .done d1 => d1
    | .hold why d1 => (if why == .cls && x.why != .cls then d1.countHeld why x.r else d1).holdReq why x.r

/-- One pass over the held requests in arrival order. -/
def Dev.retryPass (d : Dev) : Dev :=
  d.mm.held.foldl Dev.retryOne { d with mm := { d.mm with held := [] } }

/-! ### Decisions among held requests (R285 to R292) -/

/-- The held requests that could be served now, each with those held before it. -/
def Dev.ready (d : Dev) : List Held → List Held → List Held
  | _, [] => []
  | es, x :: r =>
    (if d.heldFast es x then [] else match d.serve x.r true with
      | .done _ => [x]
      | .hold _ _ => []) ++ d.ready (es ++ [x]) r

/-- The arbiter for which a held request waits: that of the first page it touches. -/
def Dev.heldArb (d : Dev) (x : Held) : Option Nat :=
  match (d.reqPart x.r).bind (fun p => d.resolve p x.r.q.off) with
  | some t => ((if x.r.kind.reads then pieceKeys (d.readPieces t x.r.len) else pieceKeys (d.writePieces t x.r.bytes.length)).findSome? d.pageArb)
  | none => none

/-- One decision: of the requests that could be served at the arbiter of the oldest one, the one that R292 grants is taken out of the held
requests and served. -/
def Dev.decide1 (d : Dev) : Option Dev :=
  match d.ready [] d.mm.held with
  | [] => none
  | x :: rest =>
    let take := fun (d : Dev) (y : Held) =>
      match ({ d with mm := { d.mm with held := d.mm.held.erase y } }).serve y.r true with
      | .done d1 => d1
      | .hold why d1 => d1.holdReq why y.r
    match d.heldArb x with
    | none => some (take d x)
    | some a =>
      let d0 := d.commitMeets
      let here := (x :: rest).filter (fun y => d0.heldArb y == some a)
      let key := fun y : Held => (!y.r.kind.reads, y.r.cls)
      match (d0.arbClass a (here.map key)).bind (fun c => here.find? (fun y => y.r.cls == c)) with
      | none => some (take d0 x)
      | some y =>
        let passed := here.any (fun z => d0.rankAt a (!z.r.kind.reads) z.r.cls == 0)
        some (take (d0.grantAt (!y.r.kind.reads) y.r.cls passed a) y)

/-- Decisions until no held request could be served, at most `fuel`. -/
def Dev.decideN : Nat → Dev → Dev
  | 0, d => d
  | n + 1, d => match d.decide1 with
    | some d1 => Dev.decideN n d1
    | none => d

/-- The held requests tried again until a pass releases none (R62, R137): those that could be served are granted one by one as their
arbiters decide, then the others are tried in arrival order. -/
def Dev.retryHeldN : Nat → Dev → Dev
  | 0, d => d
  | n + 1, d =>
    let d1 := (Dev.decideN d.mm.held.length d).retryPass
    if d1.mm.held.length < d.mm.held.length && !d1.mm.held.isEmpty then Dev.retryHeldN n d1 else d1

/-! ## Destruction of objects (R47, R127) -/

/-- An object taken away: its host-cached lines are recalled and their data dropped, its pages and frames released, a seal
of it ended with NO_RESERVATION (R47, R104). The lines of an alias are its owner's and stay. -/
def Dev.removeObj (d : Dev) (p n : Nat) (o : Obj) : Dev :=
  let a := lineKey p (o.ext * 2 ^ 24)
  let d1 := { d with mm := { d.mm with objs := kdel (p * 2 ^ 16 + n) d.mm.objs } }
  let d2 := if o.aliasOf.isSome then d1
    else
      let d2 := (d.pagesOf p o).foldl (fun d e => d.dropPage e.1) (d1.recallRange p (o.ext * 2 ^ 24) (o.n * 2 ^ 24))
      { d2 with coh := { d2.coh with dir := d2.coh.dir.filter (fun e => !(e.2.st == .orph && a ≤ e.1 && e.1 < a + o.n * 2 ^ 24)) } }
  match o.sealing with
  | some x => d2.adminRefuse x.h 0x0008
  | none => d2

/-- Whether an object names another as its backing, store or base (R86). -/
def windowOver (p n part : Nat) (o : Obj) : Bool :=
  o.window && o.aliasOf.isNone && part == p && (o.backing == n || (o.kind == 5 && o.base == n))

/-- Whether what a job waits for is over: the windows and aliases of the object, and the grants over it. -/
def Dev.clearReady (d : Dev) (c : Clear) : Bool :=
  !d.mm.objs.any (fun e => e.2.aliasOf == some (c.part, c.num) ||
    (c.kind == .destroy && windowOver c.part c.num (e.1 / 2 ^ 16) e.2)) &&
  !d.coh.revokes.any (fun r => (d.obj c.part c.num).any (fun o => o.aliasOf.isSome) && r.part == c.part &&
    r.first < c.ext + c.n && c.ext < r.first + r.count)

/-- Whether lines of a job's run are still under recall. -/
def Dev.clearRecalling (d : Dev) (c : Clear) : Bool :=
  d.coh.recalls.any (fun r => lineKey c.part (c.ext * 2 ^ 24) ≤ r.line && r.line < lineKey c.part ((c.ext + c.n) * 2 ^ 24))

/-- A job replaced by another state of it, or taken off the list. -/
def Dev.putClear (d : Dev) (c : Clear) (c' : Option Clear) : Dev :=
  { d with mm := { d.mm with clearing := d.mm.clearing.flatMap (fun x => if x == c then c'.toList else [x]) } }

/-! ## Fence causes and partition resets (R308, R312) -/

/-- A change of FENCE_CAUSES, with its event and notification (R308, Table 14.8). -/
def Dev.setFence (d : Dev) (p mask : Nat) : Dev :=
  if d.fenceCauses p == mask then d
  else ((d.wr (K.ofPart K.fenceCauses p) mask).post p ⟨0x08, if mask == 0 then 0 else 0x32, 0, mask, 0⟩).notify 5 (0x800 + p) 9 mask

/-- A data key drawn for a partition, and sent to the partner of a PRIMARY (R470). Without a working entropy source none
is drawn (log entry 40). -/
def Dev.drawKey (d : Dev) (p : Nat) : Dev :=
  if d.su.entropyBad then { d with su := { d.su with keys := kdel p d.su.keys } }
  else ({ d.drawn with su := { d.su with keys := kput p d.free d.su.keys } }).logState p (.key d.free)

/-- The objects of a partition taken away with what its reset removes beside them: its jobs and the commands that wait on its
objects end, its directory entries and orphan marks go (R312, step P5). -/
def Dev.resetObjs (d : Dev) (p : Nat) : Dev :=
  let mine := d.mm.clearing.filter (fun c => c.part == p && c.kind != ClrKind.reset)
  let d1 := { d with mm := { d.mm with clearing := d.mm.clearing.filter (fun c => c.part != p || c.kind == ClrKind.reset) } }
  let d2 := mine.foldl (fun d c => match c.h with
    | some h => d.adminOk h 0
    | none => d) d1
  let d3 := (d2.objsOf p).foldl (fun (d : Dev) (e : Nat × Obj) =>
    let d1 := match e.2.viewTo with
      | some (_, _, h) => d.adminRefuse h 0x0004
      | none => d
    let d2 := match e.2.placing with
      | some h => d1.adminRefuse h 0x0004
      | none => d1
    d2.removeObj p (e.1 % 2 ^ 16) e.2) d2
  { d3 with coh := { d3.coh with
      dir := d3.coh.dir.filter (fun e => e.1 / 2 ^ 42 != p || d3.lineBusy e.1) } }

/-- The grant records of a partition released without recall, its LAST_FAULT and LAST_REVOKED entries cleared, its data key
replaced (R312, step P6). -/
def Dev.resetGrants (d : Dev) (p : Nat) : Dev :=
  let d1 := (d.coh.revokes.filter (fun r => r.part == p)).foldl (fun d r => d.revokeEnd r) d
  let d2 := { d1 with coh := { d1.coh with grants := d1.coh.grants.filter (fun g => g.part != p) } }
  let d3 := d2.wr (K.lastFault + p) 0
  let d4 := if fld (d3.rd K.lastRevoked) 16 6 == p then d3.wr K.lastRevoked 0 else d3
  if d4.enabled p then d4.drawKey p else { d4 with su := { d4.su with keys := kdel p d4.su.keys } }

/-- The end of a partition reset (R312, step P7). -/
def Dev.resetDone (d : Dev) (p extents : Nat) : Dev :=
  let d1 := (d.setFence p (clrBit (d.fenceCauses p) 2)).wr (K.ofPart K.resetState p) 0
  (d1.inc (K.ofPart K.partitionResets p)).post p ⟨0x09, 0, 0, 0, extents⟩

/-- The job of a partition reset taken as far as it goes: the objects go once no alias of them is left elsewhere; it ends
once their extents are cleared and no line of them is under recall. `num` - 65,536 is the number of extents. -/
def Dev.resetGo (d : Dev) (c : Clear) : Dev :=
  let p := c.part
  let fin := fun (d : Dev) (c : Clear) =>
    if c.left == 0 && !d.clearRecalling c then (d.putClear c none).resetDone p (c.num - 65536) else d
  if c.gone then fin d c
  else if d.mm.objs.any (fun e => e.1 / 2 ^ 16 != p && (match e.2.aliasOf with
      | some (q, _) => q == p
      | none => false)) then d
  else
    let n := sumBy (fun e : Nat × Obj => if e.2.ordinary then e.2.n else 0) (d.objsOf p)
    let c' := { c with num := 65536 + n, gone := true, left := n }
    fin (((d.putClear c (some c')).resetObjs p).resetGrants p) c'

/-- The directory entries of a job's run. -/
def Dev.dirIn (d : Dev) (c : Clear) : List (Nat × DirE) :=
  d.coh.dir.filter (fun e => lineKey c.part (c.ext * 2 ^ 24) ≤ e.1 && e.1 < lineKey c.part ((c.ext + c.n) * 2 ^ 24))

/-- One job taken as far as it goes. SHARE_WITHDRAW first recalls the lines that hosts still hold, and displaces those that are
orphaned, so that no entry of the directory records a line of a private object (R121; DESIGN CHOICE, log entry 128). Otherwise the object goes once nothing holds
it; the command completes once the extents are cleared and no line is under recall. -/
def Dev.clearOne (d : Dev) (c : Clear) : Dev :=
  let fin := fun (d : Dev) (c : Clear) =>
    if c.left == 0 && !d.clearRecalling c then
      let d1 := d.putClear c none
      match c.h with
      | some h => d1.adminOk h 0
      | none => d1
    else d
  match c.kind with
  | .reset => d.resetGo c
  | .withdraw =>
    if d.clearReady c then
      match d.obj c.part c.num with
      | some o =>
        let d0 := if o.window then d else d.recallRange c.part (o.ext * 2 ^ 24) (o.n * 2 ^ 24)
        if !o.window && (d0.dirIn c).any (fun e => e.2.st != .orph) then d0
        else
          let d1 := ((if o.window then d0 else (d0.dirIn c).foldl (fun d e => d.displaceOrphan e.1) d0).putClear c none).modObj c.part c.num
            (fun o => { o with exported := none })
          match c.h with
          | some h => d1.adminOk h 0
          | none => d1
      | none => d.putClear c none
    else d
  | .destroy =>
    if c.gone then fin d c
    else if d.clearReady c then
      match d.obj c.part c.num with
      | some o =>
        let c' := { c with gone := true, left := if o.ordinary then o.n else 0 }
        fin ((d.putClear c (some c')).removeObj c.part c.num o) c'
      | none => d.putClear c none
    else d

/-- Every job so, in order; the jobs that others wait for stand first. -/
def Dev.clearStep (d : Dev) : Dev := d.mm.clearing.foldl Dev.clearOne d

/-- The end of an event that may have released requests: revokes whose recalls are over and jobs of destruction go on, then
held requests. -/
def Dev.settleMem (d : Dev) : Dev :=
  let d1 := d.revokeStep.clearStep.thCopies
  Dev.retryHeldN (d1.mm.held.length + 1) d1

/-- A write by the device into a partition's range in a class, met as a channel write (R206, R192, R277). -/
def Dev.deviceWrite (d : Dev) (u : DevUse) (p off cls : Nat) (bs : List Byte) : Dev :=
  d.request ⟨.devWrite u, ⟨0, 0, p, off, 0, 0, false, false, 0, false⟩, ⟨0, p⟩, bs.length, 2 ^ bs.length - 1, bs, .good, cls⟩

end Sys2Proof.Machine
end

