-- ==== Sys2Proof/Machine/Chan.lean ====
section
/-! DEFINITION. Channels and synchronisation objects as every family uses them: handles (R14, R177, R178), signals, waits
and notify writes (R203 to R206), the start and the completion of descriptors (R198 to R202), the halt of a channel
(R188), and the entry into a fence (R309). -/

namespace Sys2Proof.Machine

/-! ## Handles -/

/-- The fields of a handle (R14). -/
def hPart (h : Nat) : Nat := fld h 26 6
def hGen (h : Nat) : Nat := fld h 14 12
def hIdx (h : Nat) : Nat := fld h 0 14

/-- The handle of an index of a partition under a generation. -/
def mkHandle (p gen idx : Nat) : Nat := p * 2 ^ 26 + gen * 2 ^ 14 + idx

/-- The key of a context: partition and index. -/
def ctxKey (p idx : Nat) : Nat := p * 2 ^ 14 + idx

/-- The index space of a partition at reset (R177). -/
def IdxSpace.reset : IdxSpace := ⟨0, [], [], []⟩

/-- The current generation of an index; 0 when it was never issued. -/
def IdxSpace.gen (s : IdxSpace) (i : Nat) : Nat := kget 0 i s.gens

/-- The first index from `i` on that is not among some, at most `n` of which are passed. -/
def pastSkip (skip : List Nat) : Nat → Nat → Nat
  | 0, i => i
  | n + 1, i => if skip.contains i then pastSkip skip n (i + 1) else i

/-- The next index of a space with its generation advanced (R177). -/
def IdxSpace.issue (s : IdxSpace) : Option (Nat × IdxSpace) :=
  let adv := fun i (t : IdxSpace) => { t with gens := kput i (t.gen i % 4095 + 1) t.gens }
  let i := pastSkip s.skip s.skip.length s.fresh
  if i < 16384 then some (i, adv i { s with fresh := i + 1, skip := s.skip.filter (i < ·) })
  else match s.freed with
    | i :: r => some (i, adv i { s with freed := r })
    | [] => none

/-- The channel and synchronisation index spaces of a partition. -/
def Dev.chSp (d : Dev) (p : Nat) : IdxSpace := kget IdxSpace.reset p d.chs.chSpace
def Dev.sySp (d : Dev) (p : Nat) : IdxSpace := kget IdxSpace.reset p d.chs.syncSpace

/-- The handle of a live channel, by its key. -/
def Dev.chHandle (d : Dev) (k : Nat) : Nat := mkHandle (k / 2 ^ 14) ((d.chSp (k / 2 ^ 14)).gen (k % 2 ^ 14)) (k % 2 ^ 14)

/-- The handle of a live synchronisation object. -/
def Dev.syHandle (d : Dev) (k : Nat) : Nat := mkHandle (k / 2 ^ 14) ((d.sySp (k / 2 ^ 14)).gen (k % 2 ^ 14)) (k % 2 ^ 14)

/-- A channel by its key. -/
def Dev.chan (d : Dev) (k : Nat) : Option Chan := kfind k d.chs.chans

/-- The key of the live channel that a handle presented for a partition names (R178). -/
def Dev.chanOf (d : Dev) (p h : Nat) : Option Nat :=
  let k := ctxKey p (hIdx h)
  if hPart h == p && hGen h != 0 && hGen h == (d.chSp p).gen (hIdx h) && (d.chan k).isSome then some k else none

/-- The key of the live synchronisation object that a handle presented for a partition names (R178). -/
def Dev.syncOf (d : Dev) (p h : Nat) : Option Nat :=
  let k := ctxKey p (hIdx h)
  if hPart h == p && hGen h != 0 && hGen h == (d.sySp p).gen (hIdx h) && (kfind k d.chs.syncs).isSome then some k else none

/-- A channel put in. -/
def Dev.setChan (d : Dev) (k : Nat) (c : Chan) : Dev := { d with chs := { d.chs with chans := kput k c d.chs.chans } }

/-- A channel changed. -/
def Dev.modChan (d : Dev) (k : Nat) (f : Chan → Chan) : Dev := { d with chs := { d.chs with chans := kmod k f d.chs.chans } }

/-- The partition of a context key, the function of a channel's bound port (R191). -/
def ctxPart (k : Nat) : Nat := k / 2 ^ 14
def Chan.fn (c : Chan) (k : Nat) : FnId := ⟨c.port, ctxPart k⟩

/-- The SQ and CQ locations (Table 06.4). -/
def Chan.sqLoc (c : Chan) : Nat := fld c.loc 0 2
def Chan.cqLoc (c : Chan) : Nat := fld c.loc 2 2

/-- The descriptors of a channel changed by their number. -/
def Dev.modDsc (d : Dev) (k seq : Nat) (f : Dsc → Dsc) : Dev :=
  d.modChan k (fun c => { c with fetched := c.fetched.map (fun x => if x.seq == seq then f x else x) })

/-- Flags of a descriptor (Table 06.8.A). -/
def Dsc.wait (x : Dsc) : Bool := bit x.flags 0
def Dsc.signal (x : Dsc) : Bool := bit x.flags 1
def Dsc.always (x : Dsc) : Bool := bit x.flags 2
def Dsc.fence (x : Dsc) : Bool := bit x.flags 3
def Dsc.noCqe (x : Dsc) : Bool := bit x.flags 4

/-- Whether a status is a failure (R17). -/
def failed (st : Nat) : Bool := 3 ≤ st

/-! ## Waits and starts -/

/-- Whether the wait of a descriptor is satisfied (R205). -/
def Dev.waitMet (d : Dev) (p : Nat) (x : Dsc) : Bool :=
  !x.wait || (match d.syncOf p x.waitH with
    | some k => (match kfind k d.chs.syncs with
      | some s => x.waitV ≤ s.value
      | none => false)
    | none => false)

/-- The descriptors of a channel in order with those started that may start: a held descriptor holds every later one, and one with FENCE
starts only as the `first` that has not completed (R200). -/
def Dev.startList (d : Dev) (p : Nat) : Bool → List Dsc → List Dsc
  | _, [] => []
  | first, x :: r =>
    match x.ph with
    | .held =>
      if d.waitMet p x && (!x.fence || first) then { x with ph := .running } :: d.startList p false r else x :: r
    | _ => x :: d.startList p false r

/-- The start of what may start in a channel (R199, R200, R205). -/
def Dev.startChan (d : Dev) (k : Nat) : Dev :=
  d.modChan k (fun c => if c.st == .active then { c with fetched := d.startList (ctxPart k) c.cqes.isEmpty c.fetched } else c)

/-- The starts that a signal to an object of a partition allows. -/
def Dev.startPart (d : Dev) (p : Nat) : Dev :=
  (d.chs.chans.filter (fun e => ctxPart e.1 == p)).foldl (fun d e => d.startChan e.1) d

/-! ## Signals (R203 to R206) -/

/-- Whether a notify write into device memory fails (R206). -/
def Dev.notifyBad (d : Dev) (p addr : Nat) : Bool :=
  match d.resolve p addr with
  | none => true
  | some t => t.obj.window || d.sealedObj t.part t.num t.obj || (match d.objAt p addr with
      | some (_, o) => o.window
      | none => true)

/-- The notify writes into device memory that have ended: those that failed are counted (R206). -/
def Dev.notifyDone (d : Dev) : Dev :=
  let isN := fun w : DevUse × Bool => match w.1 with
    | .notify _ => true
    | _ => false
  (d.chs.wrote.filter isN).foldl (fun d w => if w.2 then d else d.inc K.notifyFailures)
    { d with chs := { d.chs with wrote := d.chs.wrote.filter (fun w => !isN w) } }

/-- The notify write of an object (R206). -/
def Dev.notifyWrite (d : Dev) (k : Nat) (s : SyncObj) : Dev :=
  let p := ctxPart k
  match s.loc with
  | 0 =>
    if d.bme s.fn && d.presented s.fn.port s.fn.num && d.linkUp s.fn.port then d.emit (.hostWr s.fn s.addr (leBytes 8 s.value))
    else d.inc K.notifyFailures
  | 1 =>
    match (if d.bme s.fn then d.routePort s.ep (s.addr / 64) else none) with
    | some port =>
      (d.newTag (some s.fn) port true (.notify k)).emit
        (.ubl port opWrUncached s.ep (d.rd (K.ofPart K.endpoint p)) (s.addr / 64 * 64) d.nextTag 0 false 0
          (leBytes 8 (255 * 2 ^ (s.addr % 64)) ++ overlay (zeros 64) (s.addr % 64) (leBytes 8 s.value)))
    | none => d.inc K.notifyFailures
  | 2 => if d.notifyBad p s.addr then d.inc K.notifyFailures
    else (d.deviceWrite (.notify (d.syHandle k)) p s.addr 0 (leBytes 8 s.value)).notifyDone
  | _ => d

/-- An armed threshold that is reached posts its event and is gone (R206). -/
def Dev.syncReached (d : Dev) (k : Nat) : Dev :=
  match kfind k d.chs.syncs with
  | none => d
  | some s =>
    match s.arm with
    | none => d
    | some v =>
      if v ≤ s.value then
        ({ d with chs := { d.chs with syncs := kput k { s with arm := none } d.chs.syncs } }).post (ctxPart k)
          ⟨0x03, 0, 0, 0, d.syHandle k⟩
      else d

/-- One signal: the addend added, held at 2^64 - 1; then the armed event, the notify write and the starts (R203, R205,
R206). -/
def Dev.signalObj (d : Dev) (k add : Nat) : Dev :=
  match kfind k d.chs.syncs with
  | none => d
  | some s =>
    let v := s.value + add
    let d1 := if v < 2 ^ 64 then d else d.inc K.syncSaturated
    let s1 := { s with value := satN 64 v }
    let d2 := ({ d1 with chs := { d1.chs with syncs := kput k s1 d1.chs.syncs } }).syncReached k
    (d2.notifyWrite k s1).startPart (ctxPart k)

/-! ## Completions (R196 to R202) -/

/-- Whether a channel is mirrored: both queues lie in mirrored objects of the device (R411). -/
def Dev.chanMirrored (d : Dev) (k : Nat) (c : Chan) : Bool :=
  c.sqLoc == 2 && c.cqLoc == 2 &&
  (match d.objAt (ctxPart k) c.sqAddr, d.objAt (ctxPart k) c.cqAddr with
    | some (_, a), some (_, b) => d.objMirrored (ctxPart k) a && d.objMirrored (ctxPart k) b
    | _, _ => false)

/-- The context of a channel as it is logged (R411). -/
def Dev.chanCtx (d : Dev) (k : Nat) (c : Chan) (gone : Bool) : ChanCtx :=
  ⟨k % 2 ^ 14, (d.chSp (ctxPart k)).gen (k % 2 ^ 14),
    ⟨c.recipe, c.cls, c.policy, c.sqLog2, c.cqLog2, c.loc, c.logical.length, c.sqAddr, c.cqAddr, c.sqEp, c.cqEp, c.inflight,
      b2n c.cqEvent, c.args⟩,
    c.port, c.sqHead, c.cqTail, c.cqHead, c.phase, c.cqes.map (·.tag) ++ c.fetched.map (·.tag), gone⟩

/-- The context of a mirrored channel logged (R411). -/
def Dev.logChan (d : Dev) (k : Nat) : Dev :=
  match d.chan k with
  | some c => if d.chanMirrored k c then d.logState (ctxPart k) (.channel (d.chanCtx k c false)) else d
  | none => d

/-- The signal of a descriptor that ends: always on success, on failure only with SIGNAL_ALWAYS (R204). -/
def Dev.dscSignal (d : Dev) (k : Nat) (x : Dsc) : Dev :=
  if x.signal && (!failed x.status || x.always) then
    match d.syncOf (ctxPart k) x.sigH with
    | some s => d.signalObj s x.sigAdd
    | none => d
  else d

/-- The fields of RECIPE_ARGS: `byteOff` bytes after offset 0x30, `len` bytes. -/
def argAt (args byteOff len : Nat) : Nat := fld args (8 * byteOff) (8 * len)

/-- A field of a descriptor's arguments, at its offset in the descriptor. -/
def Dsc.arg (x : Dsc) (off len : Nat) : Nat := leAt x.args (off - 0x20) len

/-- The tokens that query `i` of a PREFILL attends: 0 to this number (R232). -/
def attended (x : Dsc) (i : Nat) : Nat := Min.min (x.arg 0x28 4) (x.arg 0x24 4 + i + 1)

/-- Whether a descriptor is a PUSH of WSTREAM. -/
def Dsc.isPush (recipe : Nat) (x : Dsc) : Bool := recipe == 4 && x.op == 0x10

/-- What RESULT shows of a descriptor that ends before its work is done (Table 07.17): of a PUSH its LAYER, FALLBACK and LATE_START, of a
PREFETCH the promotions started, of a GATHER the items written. -/
def Dsc.early (recipe : Nat) (x : Dsc) : Nat :=
  if x.isPush recipe then x.arg 0x2E 2 * 2 ^ 24 + x.fallback * 2 ^ 40 + b2n x.late * 2 ^ 42
  else if recipe == 4 then x.result
  else if recipe == 6 then x.step
  else 0

/-- The counters of a recipe's completion (Table 07.19). -/
def Dev.countDsc (d : Dev) (p recipe : Nat) (x : Dsc) : Dev :=
  let when := fun (b : Bool) (key : Nat) (d : Dev) => if b then d.inc key else d
  let push := x.isPush recipe
  let att := (recipe == 2 || recipe == 3) && x.op == 0x10 && (!failed x.status || x.status == 0xF1)
  let d1 := when (push && x.fallback == 1) K.fallbacksBase (when (push && x.fallback == 2) K.fallbacksCoarse (when (push && x.late) K.lateStarts d))
  let d2 := when (x.status == 1) (K.fallbacksP + p) d1
  let d3 := when (x.status == 0x40) K.deadlinesMissed (when (x.status == 0x40) (K.deadlinesMissedP + p) d2)
  let d4 := when ((recipe == 2 || recipe == 3) && x.status == 0xF1) K.nonfiniteOutputs d3
  if !att then d4
  else d4.add K.tokensAttended (if recipe == 2 then x.arg 0x28 4 else sumBy (attended x) (List.range (x.arg 0x2C 2)))

/-- Whether a status halts the channel of the descriptor that completes with it (R187, R416). -/
def haltsChan (st : Nat) : Bool := st == 0x20 || st == 0x21 || st == 0x22 || st == 0x30 || st == 0x32

/-- The signal of PUSH_SYNC before the completion of a PUSH, whatever its status, unless it is halted (R241). -/
def Dev.pushSignal (d : Dev) (k : Nat) (c : Chan) (x : Dsc) : Dev :=
  if !x.isPush c.recipe || argAt c.args 12 4 == 0 || haltsChan x.status || x.status == 0x31 then d
  else match d.syncOf (ctxPart k) (argAt c.args 12 4) with
    | some y => d.signalObj y 1
    | none => d

/-- What the recipe of a channel does at the completion of a descriptor. -/
def Dev.recipeDone (d : Dev) (k : Nat) (x : Dsc) : Dev :=
  match d.chan k with
  | some c => (d.pushSignal k c x).countDsc (ctxPart k) c.recipe x
  | none => d

/-- A descriptor completes: signal, then its completion is ready to be written, unless NO_CQE suppresses an OK one (R201, R204). It has
left the list of fetched descriptors; a suppressed one releases its slot. -/
def Dev.completeDsc (d : Dev) (k : Nat) (x : Dsc) : Dev :=
  let d1 := (((d.thForget (k + 1)).modChan k (fun c => { c with fetched := c.fetched.filter (fun y => y.seq != x.seq) })).recipeDone k x).dscSignal k x
  let d2 := d1.inc K.descriptorsDone
  if x.noCqe && x.status == 0 then d2
  else d2.modChan k (fun c => { c with cqes := c.cqes ++ [⟨x.tag, x.status, x.detail, x.result, x.cls⟩] })

/-! ## Clusters -/

/-- What a cluster keeps when a stage leaves it or is placed on it: its role and its test bookkeeping (R152). -/
def Clu.cleared (u : Clu) : Clu :=
  { u with pc := 0, x := [], v := [], stat := [], tags := [], acc := [], sram := [], insns := 0, cur := none,
           streams := [], nextOp := 0, queue := [], rot := [], paused := false }

/-- The physical cluster that serves a logical number; none when it is vacant. -/
def Dev.physOf (d : Dev) (l : Nat) : Option Nat := kfind l d.lmap

/-- The physical clusters of a channel. -/
def Dev.chanClus (d : Dev) (c : Chan) : List Nat := c.logical.filterMap d.physOf

/-- The in-field tests that run (R392). -/
def Dev.testsRunning (d : Dev) : Nat := countBy (fun e : Nat × Clu => e.2.st == .testing) d.cl

/-- A Bud, or an active cluster whose stage is gone, whose test is due goes into TESTING, when fewer than 4 tests run (R174,
R392). -/
def Dev.testDue (d : Dev) (n : Nat) : Dev :=
  let u := d.clu n
  if u.iftDue && (u.st == .active || u.st == .bud) && d.testsRunning < 4 then
    d.setClu n { u with st := .testing, iftDue := false, iftForce := false, inPlace := false }
  else d

/-- A Bud released from a duplicate window: cleared, and tested when its test is due (R389, R392). -/
def Dev.freeBud (d : Dev) (b : Nat) : Dev := (d.setClu b { (d.clu b).cleared with st := .bud, dupOf := none }).testDue b

/-- The duplicate window of a cluster stopped (R389). -/
def Dev.endWindow (d : Dev) (n : Nat) : Dev :=
  match (d.clu n).window with
  | some b => (d.setClu n { d.clu n with window := none }).freeBud b
  | none => d

/-- The pipeline state of a channel discarded: its clusters are cleared, their duplicate windows end, and a takeover that was
pending is cancelled with the cluster tested at once (R174, R188). -/
def Dev.clearPipe (d : Dev) (c : Chan) : Dev :=
  (d.chanClus c).foldl (fun d n =>
    let d1 := d.endWindow n
    let u := d1.clu n
    (d1.setClu n { u.cleared with steps := 0, inPlace := false }).testDue n) d

/-! ## Halts (R188) -/

/-- Blocks made invalid (R42, R242): bytes and metadata go, and a page left wholly invalid returns to NONE. -/
def Dev.discardBlocks (d : Dev) (p first count : Nat) : Dev :=
  let a := cellKey p (first * 256)
  let d1 := { d with mm := { d.mm with
      cells := cellsClear a (count * 256) d.mm.cells
      blocks := d.mm.blocks.filter (fun e => e.1 < blkKey p first || blkKey p first + count ≤ e.1) } }
  (d1.mm.pages.filter (fun e => pagePart e.1 == p && (e.1 % 2 ^ 32) * 256 < first + count && first < (e.1 % 2 ^ 32 + 1) * 256)).foldl
    (fun d e =>
      let b0 := e.1 % 2 ^ 32 * 256
      let lo := Max.max first b0 - b0
      let hi := Min.min (first + count) (b0 + 256) - b0
      let v := e.2.valid &&& (validAll - (2 ^ hi - 2 ^ lo))
      if v == 0 && !(e.2.lost && !(lo == 0 && hi == 256)) then d.dropPage e.1
      else
        let d1 := d.setValid e.1 v
        d1.setPage e.1 { d1.page e.1 with poison := e.2.lost || d1.anyPoison e.1 }) d1

/-- The residue object of a REDUCE channel cleared (R109, R242): RESIDUE is bytes 2 and 3 of the
RECIPE_ARGS of recipe 0x0005. -/
def Dev.clearResidue (d : Dev) (k : Nat) (c : Chan) : Dev :=
  let n := fld c.args 16 16
  if c.recipe == 5 then
    match d.obj (ctxPart k) n with
    | some o => d.discardBlocks (ctxPart k) (o.ext * 2 ^ 22) (o.n * 2 ^ 22)
    | none => d
  else d

/-- The same for a channel that goes, whatever its state (R242). -/
def Dev.residueGone (d : Dev) (k : Nat) : Dev :=
  match d.chan k with
  | some c => d.clearResidue k c
  | none => d

/-- A halted channel's outstanding descriptor read is nobody's: its data are discarded (R188, R314). -/
def Dev.dropFetch (d : Dev) (k : Nat) : Dev :=
  { d with tags := d.tags.map (fun t => if t.use == .descFetch k then { t with use := .gone } else t) }

/-- The locked sequences of the stages of a channel. -/
def Dev.stageLocks (d : Dev) (k : Nat) : List Lock := d.bw.locks.filter (fun l => !l.host && (d.clu l.src).chan == some k)

/-- The descriptor for which a stage's sequence was issued. -/
def Dev.lockDsc (d : Dev) (l : Lock) : Option Nat :=
  ((d.clu l.src).streams.find? (fun o => o.id == l.lockId)).bind (·.desc)

/-- A descriptor as it ends at a halt (R188): the one that caused it with its own status; one whose locked sequence the halt breaks with
LOCK_BROKEN, unless it already carries a failure (Table 09.8); every other one with the halt status. -/
def Dsc.halted (x : Dsc) (recipe : Nat) (cause : Option Nat) (broken : List Nat) (status detail : Nat) : Dsc :=
  if cause == some x.seq then x
  else
    let y := { x with result := x.early recipe }
    if broken.contains x.seq then
      if x.failed == 0 then { y with status := 0x22, detail := 0 }
      else { y with status := x.failed % 256, detail := x.failed / 256 }
    else { y with status := status, detail := detail }

/-- A channel halts, with its completions ready to be written. `cause` is the number of the descriptor that caused it. The halt event
follows the last of them (R188, R193). CH_QUERY shows for a halt that no descriptor caused the halt status (DESIGN CHOICE, log entry 136). -/
def Dev.haltBody (d : Dev) (k : Nat) (cause : Option Nat) (status detail : Nat) : Dev :=
  match d.chan k with
  | none => d
  | some c =>
    if c.st != .active then d
    else
      let cd : Option Dsc := match cause with
        | some s => c.fetched.find? (fun x => x.seq == s)
        | none => none
      let evSt := (cd.map (·.status)).getD status
      let evDt := (cd.map (·.detail)).getD detail
      let locks := d.stageLocks k
      let broken := locks.filterMap d.lockDsc
      let d0 := locks.foldl (fun d l => d.breakLock l none) d
      let d1 := (d0.setChan k { c with st := .halted, lastHalt := evSt }).dropFetch k
      let d2 := c.fetched.foldl (fun d x => d.completeDsc k (x.halted c.recipe cause broken status detail)) d1
      let d3 := ((d2.clearPipe c).clearResidue k c).inc K.channelHalts
      let tag := match cd with
        | some x => x.tag
        | none => 0
      d3.modChan k (fun c => { c with haltEv := some ⟨0x02, evSt, evDt, 0, d.chHandle k + tag * 2 ^ 32⟩ })

/-! ## The writing of completions (R193, R198, R202) -/

/-- The first completion of a channel written: slot and phase advance, and with CQ_EVENT the first unreleased completion posts an
event after it (R202). -/
def Dev.cqeWritten (d : Dev) (k : Nat) : Dev :=
  match d.chan k with
  | none => d
  | some c =>
    let t := (c.cqTail + 1) % 2 ^ c.cqLog2
    let d1 := d.setChan k { c with
      cqes := c.cqes.drop 1, cqBusy := false, cqTail := t, phase := if t == 0 then !c.phase else c.phase }
    (if c.cqEvent && c.cqTail == c.cqHead then d1.postChan (ctxPart k) c.port ⟨0x01, 0, 0, 0, d.chHandle k⟩ else d1).logChan k

/-- The first completion of a channel lost. -/
def Dev.cqeLost (d : Dev) (k : Nat) : Dev := d.modChan k (fun c => { c with cqes := c.cqes.drop 1, cqBusy := false })

/-- The write of the first completion of a channel failed: it is lost, and the channel halts with DETAIL 0x000A (R193). -/
def Dev.cqeFailed (d : Dev) (k : Nat) : Dev := (d.cqeLost k).haltBody k none 0x30 0x000A

/-- The end of the write of a channel's first completion into device memory noted, when it has ended. -/
def Dev.cqeTaken (d : Dev) (k : Nat) : Dev :=
  let u := DevUse.cqe (d.chHandle k)
  let d1 := { d with chs := { d.chs with wrote := d.chs.wrote.filter (fun w => w.1 != u) } }
  if d.chs.wrote.contains (u, true) then d1.cqeWritten k
  else if d.chs.wrote.contains (u, false) then d1.cqeFailed k
  else d

/-- The write of the first completion of a channel begun (R198): into host memory over PCIe it is done at once, and none is written
without Bus Master Enable (R314); over UBL it is done with its answer; in device memory when the write is carried out. -/
def Dev.cqSend (d : Dev) (k : Nat) (c : Chan) (x : Cqe) : Dev :=
  let p := ctxPart k
  let f := c.fn k
  let bs := cplBytes x.result c.sqHead x.tag x.status x.detail c.phase
  let a := c.cqAddr + 16 * c.cqTail
  if c.cqLoc != 2 && !d.bme f then d.cqeLost k
  else match c.cqLoc with
  | 0 => (d.emit (.hostWr f a bs)).cqeWritten k
  | 1 =>
    match d.routePort c.cqEp (a / 64) with
    | some port =>
      ((d.modChan k (fun c => { c with cqBusy := true })).newTag (some f) port true (.cqWrite k)).emit
        (.ubl port opWrUncached c.cqEp (d.rd (K.ofPart K.endpoint p)) (a / 64 * 64) d.nextTag x.cls false 0
          (leBytes 8 ((2 ^ 16 - 1) * 2 ^ (a % 64)) ++ overlay (zeros 64) (a % 64) bs))
    | none => d.cqeFailed k
  | _ => ((d.modChan k (fun c => { c with cqBusy := true })).deviceWrite (.cqe (d.chHandle k)) p a x.cls bs).cqeTaken k

/-- The completions of a channel written one after another (R198), at most `fuel`. -/
def Dev.cqSendN : Nat → Dev → Nat → Dev
  | 0, d, _ => d
  | n + 1, d, k =>
    match d.chan k with
    | none => d
    | some c =>
      match c.cqes with
      | x :: _ => if c.cqBusy then d else Dev.cqSendN n (d.cqSend k c x) k
      | [] => d

/-! ## Fetching (R199, R210) -/

/-- The manifest of a customer pipeline that is loaded (R273). -/
def Dev.manifest (d : Dev) (recipe : Nat) : Option (List Byte) :=
  if 0x100 ≤ recipe && recipe < 0x200 then kfind (recipe - 0x100) d.pipes else none

/-- The clusters of a stage of a channel in rank order. -/
def Dev.stageClus (d : Dev) (ch : Chan) (s : Nat) : List Nat := (ch.stages.getD s []).filterMap d.physOf

/-- The stages that a stage of a built-in recipe feeds, one bit each (Tables 07.5 and 07.8). -/
def builtinOut (recipe s : Nat) : Nat :=
  match recipe, s with
  | 2, 0 => 0b1010
  | 2, 1 => 0b0100
  | 2, 2 => 0b1000
  | 3, 0 => 0b010
  | 3, 1 => 0b100
  | _, _ => 0

/-- The masks of a stage: OUT_MASK, BCAST_MASK (R211): of the manifest (R273), or those of a built-in recipe, in which DEQ of
ATTN_PREFILL alone broadcasts (Table 07.8). -/
def Dev.outMask (d : Dev) (recipe s : Nat) : Nat :=
  match d.manifest recipe with
  | some m => leAt m (0x34 + 16 * s) 2
  | none => builtinOut recipe s
def Dev.bcastMask (d : Dev) (recipe s : Nat) : Nat :=
  match d.manifest recipe with
  | some m => leAt m (0x36 + 16 * s) 2
  | none => if recipe == 3 && s == 0 then 2 else 0

/-- The buffers that a cluster holds from a stage. -/
def Clu.from (u : Clu) (stage : Nat) : List QBuf := u.queue.filter (fun b => b.stage == stage)

/-- Whether the first stage of a channel is without a credit for a stage that it feeds: every cluster of it full, or under BROADCAST one
(R210, R211). The dispatcher then passes no further descriptor. -/
def Dev.creditStopped (d : Dev) (c : Chan) : Bool :=
  (List.range c.stages.length).any (fun s =>
    let full := (d.stageClus c s).map (fun n => decide (8 ≤ ((d.clu n).from 0).length))
    bit (d.outMask c.recipe 0) s && !full.isEmpty && (if bit (d.bcastMask c.recipe 0) s then full.any id else full.all id))

/-- Entries of a queue of `2 ^ log2` slots from index `a` up to index `b`. -/
def ringDist (log2 a b : Nat) : Nat := (b + 2 ^ log2 - a) % 2 ^ log2

/-- Descriptors of a channel fetched and not completed (R191, R199). -/
def Chan.inFlight (c : Chan) : Nat := c.fetched.length + c.cqes.length

/-- Whether a channel may fetch a descriptor (R187, R191, R195, R199, R210): it is ACTIVE with one waiting, INFLIGHT and the CQ leave
room, its pipeline has credit, no port change waits, and a queue in host memory has a bus master. -/
def Dev.fetchReady (d : Dev) (k : Nat) (c : Chan) : Bool :=
  d.operational && c.st == .active && c.sqHead != c.sqTail && c.newPort.isNone && c.inFlight < c.inflight &&
  ringDist c.cqLog2 c.cqHead c.cqTail + c.inFlight < 2 ^ c.cqLog2 - 1 && !d.creditStopped c && !d.fenced (ctxPart k) &&
  (c.sqLoc == 2 || d.bme (c.fn k))

/-- The read of the next descriptor from host memory issued, when one is due and none is outstanding (R344). -/
def Dev.fetchRead (d : Dev) (k : Nat) (c : Chan) : Dev :=
  if !d.fetchReady k c || d.tags.any (fun t => t.use == .descFetch k && !t.quarantined) then d
  else
    let a := c.sqAddr + 64 * c.sqHead
    match c.sqLoc with
    | 0 => (d.newTag (some (c.fn k)) c.port false (.descFetch k)).emit (.hostRd (c.fn k) a 64 d.nextTag)
    | 1 =>
      match d.routePort c.sqEp (a / 64) with
      | some port =>
        (d.newTag (some (c.fn k)) port true (.descFetch k)).emit
          (.ubl port opRdUncached c.sqEp (d.rd (K.ofPart K.endpoint (ctxPart k))) a d.nextTag c.cls false 0 [])
      | none => d
    | _ => d

/-- The same for the channel of a key. -/
def Dev.fetchOn (d : Dev) (k : Nat) : Dev :=
  match d.chan k with
  | some c => d.fetchRead k c
  | none => d

/-! ## Freeing (R177, R190) -/

/-- A channel freed: its clusters are released and its index goes to the end of the free list (R177, R190). A CH_MODIFY or
CH_RESTART that waits for it completes with BAD_HANDLE (R191); what it has outstanding is nobody's. -/
def Dev.freeChan (d : Dev) (k : Nat) : Dev :=
  match d.chan k with
  | none => d
  | some c =>
    let d1 := if d.chanMirrored k c then d.logState (ctxPart k) (.channel (d.chanCtx k c true)) else d
    let d2 := (d1.chanClus c).foldl (fun d n =>
      d.setClu n { (d.clu n).cleared with
        chan := none, stage := 0, rank := 0, prog := [], feeders := [], sramLimit := 0, steps := 0, sinceDup := 0, window := none }) d1
    let sp := d2.chSp (ctxPart k)
    let d3 := { d2 with
      chs := { d2.chs with
        chans := kdel k d2.chs.chans
        chSpace := kput (ctxPart k) { sp with freed := sp.freed ++ [k % 2 ^ 14] } d2.chs.chSpace }
      tags := d2.tags.map (fun t =>
        if t.use == .descFetch k || t.use == .cqWrite k || t.use == .chanData k then { t with use := .gone } else t) }
    let d4 := match c.newPort with
      | some (_, h) => d3.adminBadHandle h
      | none => d3
    let d5 := match c.restart with
      | some (h, _) => d4.adminBadHandle h
      | none => d4
    c.ends.foldl (fun d e => if e.1 then d.adminOk e.2 0 else d.adminBadHandle e.2) d5

/-- What follows the last completion of a channel: the halt event; the CH_RESET commands that wait complete; a channel that is ENDING is
freed, and its CH_DESTROY commands complete (R188, R190). -/
def Dev.cqIdle (d : Dev) (k : Nat) : Dev :=
  match d.chan k with
  | none => d
  | some c =>
    if !c.cqes.isEmpty then d
    else
      let d1 := match c.haltEv with
        | some e => ((d.setChan k { c with haltEv := none }).postChan (ctxPart k) c.port e).logChan k
        | none => d
      let d2 := (c.ends.filter (fun e => !e.1)).foldl (fun d e => d.adminOk e.2 0)
        (d1.modChan k (fun c => { c with ends := c.ends.filter (·.1) }))
      if c.st == .ending then d2.freeChan k else d2

/-- The completions of a channel written as far as they go, with what follows them. -/
def Dev.cqPump (d : Dev) (k : Nat) : Dev :=
  match d.chan k with
  | none => d
  | some c => (((Dev.cqSendN (c.inFlight + 1) d k).cqIdle k).startChan k).fetchOn k

/-- A channel halts (R188). -/
def Dev.haltChan (d : Dev) (k : Nat) (cause : Option Nat) (status detail : Nat) : Dev :=
  (d.haltBody k cause status detail).cqPump k

/-- A descriptor that ends with a status and halts its channel: POISON, ORPHANED_LINE, LOCK_BROKEN or CHANNEL_RESET
(R187). -/
def Dev.failHalt (d : Dev) (k seq status detail : Nat) : Dev :=
  (d.modDsc k seq (fun x => { x with ph := .done, status := status, detail := detail })).haltChan k (some seq) 0x30 0

/-- The channels that satisfy a test halted with one status. -/
def Dev.haltAll (d : Dev) (status : Nat) (p : Nat → Chan → Bool) : Dev :=
  (d.chs.chans.filter (fun e => p e.1 e.2)).foldl (fun d e => d.haltChan e.1 none status 0) d

/-- CH_DESTROY on a channel (R190): it halts with CHANNEL_RESET and is ENDING until its last completion is written; then the context is
freed and the command completes. -/
def Dev.destroyChan (d : Dev) (k : Nat) (h : Adm) : Dev :=
  let wait := fun d : Dev => d.modChan k (fun c => { c with st := .ending, ends := c.ends ++ [(true, h)] })
  if (d.chan k).any (fun c => c.st == .ending) then wait d
  else (wait ((d.haltBody k none 0x30 0).residueGone k)).cqPump k

/-- A channel destroyed by a reset of its function: its fetched descriptors end with CHANNEL_RESET and their signals, and
no completion or halt event is written (R313). -/
def Dev.killChan (d : Dev) (k : Nat) : Dev :=
  match d.chan k with
  | none => d
  | some c =>
    if c.st != .active then (d.residueGone k).freeChan k
    else
      let d0 := (d.stageLocks k).foldl (fun d l => d.breakLock l none) d
      let d1 := (d0.setChan k { c with st := .halted, lastHalt := 0x30, fetched := [], cqes := [] }).dropFetch k
      let d2 := c.fetched.foldl (fun d x => (d.dscSignal k { x with status := 0x30 }).inc K.descriptorsDone) d1
      (((d2.clearPipe c).clearResidue k c).inc K.channelHalts).freeChan k

/-! ## Fence entry (R308, R309) -/

/-- Causes added to the fence of a partition. On entry its host slots become LOST, its locked sequences break and its
channels halt with PARTITION_FENCED (R309). -/
def Dev.fenceAdd (d : Dev) (p cause : Nat) : Dev :=
  let was := d.fenceCauses p
  let d1 := d.setFence p (was ||| cause)
  if was != 0 then d1
  else
    let d2 := ((d1.inc (K.ofPart K.fences p)).losePer (fun e => slPartition e == p)).dropLocks (fun l => l.part == p)
    let d3 := (d2.haltAll 0x32 (fun k _ => ctxPart k == p))
    if bit cause 1 then
      (List.range 22).foldl (fun d q => if d.presented q p then d.aer ⟨q, p⟩ 1 aerInternal else d) d3
    else d3

end Sys2Proof.Machine
end

