-- ==== Sys2Proof/Machine/Channels.lean ====
section
/-! DEFINITION. The admin commands of channels and synchronisation objects (R185 to R191, R203 to R207), with the bounds
and the placement of a pipeline (R192, R215, R218, R235, R242, R273). -/

namespace Sys2Proof.Machine

/-! ## Recipes and clusters -/

/-- Whether a class is bound to a partition; Q15 always is (R186, R278). -/
def Dev.classBound (d : Dev) (p c : Nat) : Bool := c == 15 || bit (d.rd (K.classPartitions + c)) p

/-- The default clusters of the stages of a built-in recipe, Table 07.1. -/
def builtinStages : Nat → List Nat
  | 1 => [2]
  | 2 => [32, 8, 8, 24]
  | 3 => [8, 224, 8]
  | 4 => [2]
  | 5 => [8]
  | 6 => [2]
  | _ => []

/-- The minimum of clusters of a built-in recipe, Table 07.1. -/
def builtinMin : Nat → Nat
  | 2 => 4
  | 3 => 3
  | _ => 1

/-- The stage defaults d[s] of a recipe or pipeline (R215). -/
def Dev.stageDefaults (d : Dev) (recipe : Nat) : List Nat :=
  match d.manifest recipe with
  | some m => (List.range (leAt m 0 1)).map (fun s => leAt m (0x32 + 16 * s) 1)
  | none => builtinStages recipe

/-- The minimum of clusters of a recipe or pipeline (R215). -/
def Dev.stageMin (d : Dev) (recipe : Nat) : Nat :=
  match d.manifest recipe with
  | some m => leAt m 2 1
  | none => builtinMin recipe

/-- Whether a recipe field names something loaded (R186). -/
def Dev.recipeThere (d : Dev) (recipe : Nat) : Bool := recipe ≤ 6 || (d.manifest recipe).isSome

/-- The clusters that a pipeline takes (R215): the default sum for 0. -/
def Dev.clusterCount (d : Dev) (recipe clusters : Nat) : Nat :=
  if clusters == 0 then (d.stageDefaults recipe).sum else clusters

/-- The position of the element that `better` puts before every earlier one, the first on a tie. -/
def bestAt (better : Nat → Nat → Bool) : List Nat → Option Nat
  | [] => none
  | l => (List.range l.length).foldl (fun b i =>
      match b with
      | none => some i
      | some j => if better (l.getD i 0) (l.getD j 0) then some i else some j) none

/-- The allotment lowered by `n` clusters, each from the largest above 1. -/
def lowerAllot : Nat → List Nat → List Nat
  | 0, l => l
  | n + 1, l => lowerAllot n (match bestAt (fun a b => b < a) l with
      | some i => modAt i (fun x => if 1 < x then x - 1 else x) l
      | none => l)

/-- The clusters of each stage (R215). -/
def allot (n : Nat) (ds : List Nat) : List Nat :=
  let c := ds.map (fun x => Max.max 1 (n * x / ds.sum))
  let c1 := lowerAllot (c.sum - n) c
  match bestAt (fun a b => b < a) ds with
  | some i => modAt i (fun x => x + (n - c1.sum)) c1
  | none => c1

/-- The tile of a physical cluster. -/
def tileOf (c : Nat) : Nat := c / 32

/-- The tile on which a logical number stands. A vacant number stands on none: the tile of its start-up place is taken as near, where a stage has no
other cluster left to be near to (R189; DESIGN CHOICE, log entry 138). -/
def Dev.tileOfLog (d : Dev) (l : Nat) : Nat :=
  match d.physOf l with
  | some c => tileOf c
  | none => l / 30

/-- The distance of two tiles: the difference of their numbers (log entry 25). -/
def tileDist (a b : Nat) : Nat := (a - b) + (b - a)

/-- The tiles by their distance from one, the lower first on a tie. -/
def tilesFrom (t : Nat) : List Nat := sortBy (fun a b => tileDist a t < tileDist b t) (List.range 8)

/-- The logical numbers that are backed and held by no channel, ascending (R186). -/
def Dev.freeLogical (d : Dev) : List Nat :=
  (List.range 240).filter (fun l => match d.physOf l with
    | some c => (d.clu c).chan.isNone
    | none => false)

/-- Those of them on which a stage can be placed now: not under an in-field test (R392). -/
def Dev.openLogical (d : Dev) : List Nat :=
  d.freeLogical.filter (fun l => match d.physOf l with
    | some c => (d.clu c).st != .testing
    | none => false)

/-- The logical numbers of one stage of `c` clusters: from the nearest tile that has them all, else from the tiles in order
of distance (R215; log entry 25). -/
def Dev.pickStage (d : Dev) (free : List Nat) (near c : Nat) : List Nat :=
  let on := fun t => free.filter (fun l => d.tileOfLog l == t)
  match (tilesFrom near).find? (fun t => c ≤ (on t).length) with
  | some t => (on t).take c
  | none => ((tilesFrom near).flatMap on).take c

/-- The logical numbers of every stage in order. -/
def Dev.pickStages (d : Dev) : List Nat → Nat → List Nat → List (List Nat)
  | _, _, [] => []
  | free, near, c :: r =>
    let l := d.pickStage free near c
    l :: d.pickStages (free.filter (fun x => !l.contains x)) ((l.getLast?.map d.tileOfLog).getD near) r

/-- The instructions of a program image (R272). -/
def imageWords (img : List Byte) : List Nat :=
  (List.range (leAt img 0 4)).map (fun i => leAt img (32 + 4 * i) 4)

/-- Program, SRAM limit and feeding stages of stage `s` of a pipeline; the stages of a built-in recipe hold no program. -/
def Dev.stageCode (d : Dev) (recipe s : Nat) : List Nat × Nat × List Nat :=
  let feeders := (List.range s).filter (fun t => bit (d.outMask recipe t) s)
  match d.manifest recipe with
  | none => ([], 0x600000, feeders)
  | some m =>
    let img := (kfind (leAt m (0x30 + 16 * s) 2) d.progs).getD []
    (imageWords img, leAt img 4 4, feeders)

/-- The stages of a channel placed on the clusters that serve their logical numbers, each cleared (R152, R250). -/
def Dev.placePipe (d : Dev) (k recipe : Nat) (stages : List (List Nat)) : Dev :=
  stages.zipIdx.foldl (fun d sl =>
    let code := d.stageCode recipe sl.2
    sl.1.zipIdx.foldl (fun d lr =>
      match d.physOf lr.1 with
      | none => d
      | some n =>
        d.setClu n { (d.clu n).cleared with
          chan := some k, stage := sl.2, rank := lr.2, prog := code.1, sramLimit := code.2.1, feeders := code.2.2,
          steps := 0, sinceDup := 0 }) d) d

/-! ## CH_CREATE -/

/-- Channels of a partition, and the logical clusters they hold (R179, R186). -/
def Dev.chansOf (d : Dev) (p : Nat) : List (Nat × Chan) := d.chs.chans.filter (fun e => ctxPart e.1 == p)
def Dev.clustersHeld (d : Dev) (p : Nat) : Nat := sumBy (fun e : Nat × Chan => e.2.logical.length) (d.chansOf p)

/-- Whether a device-resident queue may lie at an offset (R192): within one RAW private object of its partition that
allows only T1 and T2. -/
def Dev.queueFits (d : Dev) (p off len : Nat) : Bool :=
  match d.objAt p off with
  | some (_, o) =>
    off + len ≤ (o.ext + o.n) * 2 ^ 30 && o.kind == 1 && o.aliasOf.isNone && o.exported.isNone &&
    (pdAllowed o.desc == 1 || pdAllowed o.desc == 2 || pdAllowed o.desc == 3)
  | none => false

/-- Whether a queue location fails R192 or its encoding. -/
def Dev.queueBad (d : Dev) (f : FnId) (loc addr ep len : Nat) : Bool :=
  addr % 4096 != 0 ||
  (match loc with
    | 0 => false
    | 1 => !d.native f.port || 2 ^ 48 ≤ addr || 2 ^ 20 ≤ ep
    | 2 => !d.queueFits f.num addr len
    | _ => true)

/-- Whether a shape record is out of its ranges (Table 07.3, R218). -/
def shapeBad (args : Nat) : Bool :=
  let layers := argAt args 0 1
  let kv := argAt args 1 1
  let q := argAt args 2 1
  let t := argAt args 3 1
  let hd := argAt args 4 2
  layers < 1 || 128 < layers || kv < 1 || 64 < kv || q < 1 || 16 < q || t < 10 || 24 < t || hd < 32 || 256 < hd || hd % 16 != 0 ||
  kv * hd % 32 != 0

/-- Whether a coarse delta store fails R240 for a window of a partition. -/
def Dev.coarseBad (d : Dev) (p win coarse : Nat) : Bool :=
  match d.obj p win, d.obj p coarse with
  | some w, some c =>
    (match d.obj p w.backing with
      | some s => !(c.kind == 6 && c.aliasOf.isNone && c.base == s.base && c.fmt == s.fmt &&
          c.n == s.n && pdAllowed c.desc == 1)
      | none => true)
  | _, _ => true

/-- Whether WSTREAM refuses a deadline policy under R235. -/
def Dev.policyBad (d : Dev) (p args policy : Nat) : Bool :=
  policy == 2 && (!bit (argAt args 4 2) 0 || d.coarseBad p (argAt args 0 2) (argAt args 2 2))

/-- The refusal that a recipe's own parameters meet (R218, R235, R242): DETAIL. -/
def Dev.argsRefusal (d : Dev) (p recipe args policy : Nat) : Option Nat :=
  match recipe with
  | 1 | 2 | 3 =>
    if argAt args 6 2 != 0 || fld args 84 12 != 0 then some 0x0002 else if shapeBad args then some 0x0003 else none
  | 4 =>
    if 1 < argAt args 4 2 || argAt args 6 2 != 0 || fld args 84 12 != 0 then some 0x0002
    else match d.obj p (argAt args 0 2) with
      | some w => if w.kind != 5 || w.aliasOf.isSome || d.policyBad p args policy then some 0x0003 else none
      | none => some 0x0003
  | 5 =>
    if fld args 84 44 != 0 then some 0x0002
    else match d.obj p (argAt args 0 2), d.obj p (argAt args 2 2) with
      | some a, some r =>
        if a.window || a.aliasOf.isSome || a.kind == 6 || 1 < r.kind || r.aliasOf.isSome || r.n < a.n ||
          argAt args 0 2 == argAt args 2 2 then some 0x0003 else none
      | _, _ => some 0x0004
  | _ => none

/-- The refusal of CH_CREATE (R186): status and DETAIL. -/
def Dev.chCreateCheck (d : Dev) (h : Adm) (a : ChArgs) : Option (Nat × Nat) :=
  let p := h.fn.num
  let n := d.clusterCount a.recipe a.clusters
  let no := fun dt => some (0x11, dt)
  if 16 ≤ a.loc || 2 ≤ a.flags || 2 ^ 20 ≤ a.sqEp || 2 ^ 20 ≤ a.cqEp then no 0x0002
  else if d.rd (K.chQuota + p) ≤ (d.chansOf p).length || 65536 ≤ d.chs.chans.length || ((d.chSp p).issue).isNone then no 0x0005
  else if 2 < a.policy || a.sqLog2 < 4 || 16 < a.sqLog2 || a.cqLog2 < 4 || 16 < a.cqLog2 || a.inflight < 1 || 1024 < a.inflight ||
    a.cls < 1 || 15 < a.cls then no 0x0003
  else if !d.classBound p a.cls then no 0x0009
  else if !d.recipeThere a.recipe then no 0x0004
  else if (d.manifest a.recipe).any (fun m => !bit (leAt m 8 8) p) then no 0x0009
  else if a.recipe == 0 && a.clusters != 0 then no 0x0003
  else if a.recipe != 0 && (n < Max.max (d.stageDefaults a.recipe).length (d.stageMin a.recipe) || 240 < n) then no 0x0003
  else if d.queueBad h.fn (fld a.loc 0 2) a.sqAddr a.sqEp (64 * 2 ^ a.sqLog2) ||
    d.queueBad h.fn (fld a.loc 2 2) a.cqAddr a.cqEp (16 * 2 ^ a.cqLog2) then no 0x0003
  else match d.argsRefusal p a.recipe a.args a.policy with
    | some dt => no dt
    | none =>
      if d.rd (K.clusterQuota + p) < d.clustersHeld p + (if a.recipe == 0 then 0 else n) then no 0x0005
      else if a.recipe != 0 && d.freeLogical.length < n then no 0x0007
      else none

/-- The stages of a new channel's pipeline. -/
def Dev.newStages (d : Dev) (a : ChArgs) : List (List Nat) :=
  if a.recipe == 0 then []
  else d.pickStages d.openLogical 0 (allot (d.clusterCount a.recipe a.clusters) (d.stageDefaults a.recipe))

/-- The context of a new channel (R185, R187, R190). -/
def newChan (a : ChArgs) (port : Nat) (stages : List (List Nat)) : Chan where
  recipe := a.recipe
  cls := a.cls
  policy := a.policy
  sqLog2 := a.sqLog2
  cqLog2 := a.cqLog2
  loc := a.loc
  sqAddr := a.sqAddr
  cqAddr := a.cqAddr
  sqEp := a.sqEp
  cqEp := a.cqEp
  inflight := a.inflight
  cqEvent := bit a.flags 0
  args := a.args
  port := port
  st := .active
  sqHead := 0
  sqTail := 0
  cqTail := 0
  cqHead := 0
  phase := true
  fetched := []
  nextSeq := 0
  lastHalt := 0
  logical := stages.flatten
  stages := stages
  newPort := none
  restart := none
  cqes := []
  cqBusy := false
  haltEv := none
  ends := []

/-- A channel created: its index issued, its context put in, its pipeline placed, its handle returned. -/
def Dev.chCreateDo (d : Dev) (h : Adm) (a : ChArgs) : Dev :=
  let p := h.fn.num
  match (d.chSp p).issue with
  | none => d.adminRefuse h 0x0005
  | some (i, sp) =>
    let k := ctxKey p i
    let stages := d.newStages a
    let d1 := { d with chs := { d.chs with
        chSpace := kput p sp d.chs.chSpace
        chans := kput k (newChan a h.fn.port stages) d.chs.chans } }
    (((d1.placePipe k a.recipe stages).logChan k)).adminOk h (mkHandle p (sp.gen i) i)

/-- Whether CH_CREATE waits for an in-field test of a cluster that it needs (R392). -/
def Dev.chCreateWaits (d : Dev) (h : Adm) (a : ChArgs) : Bool :=
  (d.admBar h false).isNone && (d.chCreateCheck h a).isNone && a.recipe != 0 &&
  d.openLogical.length < d.clusterCount a.recipe a.clusters

/-- CH_CREATE (R185, R186). -/
def execChCreate (h : Adm) (a : ChArgs) (s : State) : Res :=
  ok s (if s.dev.chCreateWaits h a then s.dev
    else s.dev.admin h false (fun d h => d.admTry h (d.chCreateCheck h a) (fun d => d.chCreateDo h a)))

/-! ## Commands on a live channel -/

/-- A command on the channel of a handle; BAD_HANDLE when it fails R178. -/
def Dev.onChan (d : Dev) (h : Adm) (handle : Nat) (run : Dev → Nat → Chan → Dev) : Dev :=
  match d.chanOf h.fn.num handle with
  | none => d.adminBadHandle h
  | some k =>
    match d.chan k with
    | none => d.adminBadHandle h
    | some c => run d k c

/-- A command on a channel that is not ENDING: CH_DESTROY is the only one accepted then (R190), and R492 gives the refusal its DETAIL. -/
def Dev.onLive (d : Dev) (h : Adm) (handle : Nat) (run : Dev → Nat → Chan → Dev) : Dev :=
  d.onChan h handle (fun d k c => if c.st == .ending then d.adminRefuse h 0x0008 else run d k c)

/-- Whether an earlier command on the channel of a handle still waits: a CH_MODIFY of the port, a CH_RESTART or a CH_RESET. Commands on one
channel go one after another (R182). CH_DESTROY does not wait: R191 names the destruction of a channel whose CH_MODIFY waits (DEDUCED,
log entry 143). -/
def Dev.chanCmdWaits (d : Dev) (h : Adm) (handle : Nat) : Bool :=
  match d.chanOf h.fn.num handle with
  | some k => (d.chan k).any (fun c => c.st != .ending && (c.newPort.isSome || c.restart.isSome || !c.ends.isEmpty))
  | none => false

/-- CH_RESET on a channel (R188): it halts with CHANNEL_RESET, and the command completes after the last completion. On a channel that is HALTED
already it completes with OK too (DESIGN CHOICE, log entry 137), and a residue object is cleared again (R109). -/
def Dev.resetChan (d : Dev) (k : Nat) (h : Adm) : Dev :=
  (((d.haltBody k none 0x30 0).residueGone k).modChan k (fun c => { c with ends := c.ends ++ [(false, h)] })).cqPump k

/-- A free logical number in place of a vacant one of a stage (R189): the lowest on the tile that holds most of the stage's
others, else on the nearest tile that has one. -/
def Dev.refill (d : Dev) (stage free : List Nat) (l : Nat) : Option Nat :=
  let others := stage.filter (fun x => (d.physOf x).isSome)
  let cnt := fun t => countBy (fun x => d.tileOfLog x == t) others
  let near := if others.isEmpty then d.tileOfLog l
    else (bestAt (fun a b => cnt b < cnt a) (List.range 8)).getD 0
  (tilesFrom near).findSome? (fun t => free.find? (fun x => d.tileOfLog x == t))

/-- One stage with its vacant numbers replaced; what is left free. -/
def Dev.refillStage (d : Dev) (free stage : List Nat) : Option (List Nat × List Nat) :=
  stage.foldl (fun r l =>
    match r with
    | none => none
    | some (done, free) =>
      if (d.physOf l).isSome then some (done ++ [l], free)
      else match d.refill stage free l with
        | some x => some (done ++ [x], free.filter (· != x))
        | none => none) (some ([], free))

/-- Every stage so; none when too few numbers are free. -/
def Dev.refillStages (d : Dev) : List Nat → List (List Nat) → Option (List (List Nat))
  | _, [] => some []
  | free, st :: r =>
    match d.refillStage free st with
    | none => none
    | some (st', free') => (d.refillStages free' r).map (fun x => st' :: x)

/-- The refusal of CH_RESTART (R189, R309). Numbers under an in-field test count as free: placement on them waits (Table 12.9). -/
def Dev.chRestartCheck (d : Dev) (k : Nat) (c : Chan) (flags : Nat) : Option (Nat × Nat) :=
  if 2 ≤ flags then some (0x11, 0x0002)
  else if c.st != .halted then some (0x11, 0x0008)
  else if d.fenced (ctxPart k) then some (0x32, 0x0008)
  else if !d.bme (c.fn k) then some (0x11, 0x0008)
  else if (d.refillStages d.freeLogical c.stages).isNone then some (0x11, 0x0007)
  else none

/-- A channel restarted: placed again, its queues rewound where asked, ACTIVE; fetching resumes at the SQ head (R189). -/
def Dev.chRestartDo (d : Dev) (h : Adm) (k : Nat) (c : Chan) (rewind : Bool) : Dev :=
  let stages := (d.refillStages d.openLogical c.stages).getD c.stages
  let c1 := { c with st := .active, stages := stages, logical := stages.flatten, restart := none }
  let c2 := if rewind then { c1 with sqHead := 0, sqTail := 0, cqTail := 0, cqHead := 0, phase := true } else c1
  ((((d.setChan k c2).placePipe k c.recipe stages).logChan k).adminOk h 0).fetchOn k

/-- Whether the restart of a channel waits: for a test of one of its clusters (R391) or of one that it would take (Table 12.9), or for the
completions and the event of its halt (R189). -/
def Dev.restartWaits (d : Dev) (c : Chan) : Bool :=
  (d.chanClus c).any (fun n => (d.clu n).st == .testing) || (d.refillStages d.openLogical c.stages).isNone ||
  !c.cqes.isEmpty || c.haltEv.isSome

/-- CH_RESTART on a channel, at once or after what it waits for. -/
def Dev.chRestart (d : Dev) (h : Adm) (flags k : Nat) (c : Chan) : Dev :=
  d.admTry h (d.chRestartCheck k c flags) (fun d =>
    if d.restartWaits c then d.setChan k { c with restart := some (h, bit flags 0) } else d.chRestartDo h k c (bit flags 0))

/-- The restarts that waited, taken on where nothing holds them any more: each meets its conditions again (R189, R309). -/
def Dev.lateRestarts (d : Dev) : Dev :=
  (d.chs.chans.filter (fun e => e.2.restart.isSome)).foldl (fun d e =>
    match d.chan e.1 with
    | some c =>
      (match c.restart with
        | some (h, rewind) =>
          (match d.chRestartCheck e.1 c 0 with
            | some (st, dt) => (d.setChan e.1 { c with restart := none }).adminDone h st dt 0
            | none => if d.restartWaits c then d else d.chRestartDo h e.1 c rewind)
        | none => d)
    | none => d) d

/-! ## The end of an event -/

/-- What the device's own writes into device memory that have ended bring about: the next completion of a channel (R198), a count of a
failed notify write (R206), the completion of an OBJ_QUERY (R184). -/
def Dev.takeWrote (d : Dev) : Dev :=
  d.chs.wrote.foldl (fun d w =>
    match w.1 with
    | .cqe h => (match d.chanOf (hPart h) h with
        | some k => (if w.2 then d.cqeWritten k else d.cqeFailed k).cqPump k
        | none => d)
    | .notify _ => if w.2 then d else d.inc K.notifyFailures
    | .poison => d
    | .query h => if w.2 then d.adminOk h 0 else d.adminRefuse h 0x0008) { d with chs := { d.chs with wrote := [] } }

/-- The end of an event, at most `fuel` rounds of what may be released. -/
def Dev.settleN : Nat → Dev → Dev
  | 0, d => d
  | n + 1, d =>
    let d1 := d.settleMem
    if d1.chs.wrote.isEmpty then d1 else Dev.settleN n d1.takeWrote

/-- The end of an event that may have released requests: memory, then what its writes bring about, until nothing goes on; then the
restarts that waited. -/
def Dev.settle (d : Dev) : Dev := (Dev.settleN (d.mm.held.length + 2) d).lateRestarts

/-! ## The commands CH_DESTROY to CH_QUERY -/

/-- CH_DESTROY (R190). -/
def execChDestroy (h : Adm) (handle : Nat) (s : State) : Res :=
  ok s (s.dev.admin h true (fun d h => d.onChan h handle (fun d k _ => (d.destroyChan k h).settle)))

/-- CH_RESET (R188). -/
def execChReset (h : Adm) (handle : Nat) (s : State) : Res :=
  ok s (if s.dev.chanCmdWaits h handle then s.dev
    else s.dev.admin h false (fun d h => d.onLive h handle (fun d k _ => (d.resetChan k h).settle)))

/-- CH_RESTART (R189). -/
def execChRestart (h : Adm) (handle flags : Nat) (s : State) : Res :=
  ok s (if s.dev.chanCmdWaits h handle then s.dev
    else s.dev.admin h false (fun d h => d.onLive h handle (fun d k c => d.chRestart h flags k c)))

/-- The refusal of CH_MODIFY (R191): MASK bit 0 CLASS, bit 1 POLICY, bit 2 PORT. -/
def Dev.chModifyCheck (d : Dev) (k : Nat) (c : Chan) (cls policy mask port : Nat) : Option (Nat × Nat) :=
  let p := ctxPart k
  if 8 ≤ mask then some (0x11, 0x0002)
  else if bit mask 0 && (cls < 1 || 15 < cls) then some (0x11, 0x0003)
  else if bit mask 0 && !d.classBound p cls then some (0x11, 0x0009)
  else if bit mask 1 && (2 < policy || (c.recipe == 4 && d.policyBad p c.args policy)) then some (0x11, 0x0003)
  else if bit mask 2 && 22 ≤ port then some (0x11, 0x0003)
  else if bit mask 2 && (!d.presented port p || ((c.sqLoc == 1 || c.cqLoc == 1) && !d.native port)) then some (0x11, 0x0008)
  else none

/-- The class and policy of a channel changed as the mask selects. -/
def Chan.modified (c : Chan) (cls policy mask : Nat) : Chan :=
  { c with cls := if bit mask 0 then cls else c.cls, policy := if bit mask 1 then policy else c.policy }

/-- A channel bound to a new port: fetching resumes (R191). -/
def Dev.bindPort (d : Dev) (h : Adm) (k port : Nat) : Dev :=
  (((d.modChan k (fun c => { c with port := port, newPort := none })).logChan k).adminOk h 0).fetchOn k

/-- CH_MODIFY on a channel: at once, or for a port with descriptors in flight at the bind (R191). -/
def Dev.chModifyDo (d : Dev) (h : Adm) (k : Nat) (c : Chan) (cls policy mask port : Nat) : Dev :=
  let d1 := d.setChan k (c.modified cls policy mask)
  if !bit mask 2 then (d1.logChan k).adminOk h 0
  else if c.inFlight == 0 then d1.bindPort h k port
  else d1.setChan k { c.modified cls policy mask with newPort := some (port, h) }

/-- CH_MODIFY (R191). -/
def execChModify (h : Adm) (handle cls policy mask port : Nat) (s : State) : Res :=
  ok s (if s.dev.chanCmdWaits h handle then s.dev
    else s.dev.admin h false (fun d h => d.onLive h handle (fun d k c =>
      d.admTry h (d.chModifyCheck k c cls policy mask port) (fun d => d.chModifyDo h k c cls policy mask port))))

/-- The bind of a new port once every descriptor fetched before has completed (R191). -/
def Dev.portBind (d : Dev) (k : Nat) : Dev :=
  match d.chan k with
  | some c =>
    (match c.newPort with
      | some (port, h) => if c.inFlight == 0 then d.bindPort h k port else d
      | none => d)
  | none => d

/-- CH_MODIFY_PORT_BIND (R191). -/
def execChModifyPortBind (handle : Nat) (s : State) : Res := ok s (s.dev.portBind (ctxKey (hPart handle) (hIdx handle)))

/-- The number of a channel state (R191). -/
def ChSt.code : ChSt → Nat
  | .active => 0 | .halted => 1 | .ending => 2

/-- RESULT of CH_QUERY (R191). -/
def Chan.query (c : Chan) : Nat :=
  c.sqHead + c.inFlight * 2 ^ 16 + c.st.code * 2 ^ 32 + c.lastHalt * 2 ^ 40 + c.cls * 2 ^ 48 + c.policy * 2 ^ 56

/-- CH_QUERY (R191). -/
def execChQuery (h : Adm) (handle : Nat) (s : State) : Res :=
  ok s (if s.dev.chanCmdWaits h handle then s.dev
    else s.dev.admin h true (fun d h => d.onLive h handle (fun d _ c => d.adminOk h c.query)))

/-! ## Synchronisation objects -/

/-- The synchronisation objects of a partition (R179). -/
def Dev.syncsOf (d : Dev) (p : Nat) : List (Nat × SyncObj) := d.chs.syncs.filter (fun e => ctxPart e.1 == p)

/-- The refusal of SYNC_ALLOC (R179, R206). -/
def Dev.syncAllocCheck (d : Dev) (h : Adm) (loc addr ep : Nat) : Option (Nat × Nat) :=
  let p := h.fn.num
  if d.rd (K.syncQuota + p) ≤ (d.syncsOf p).length || 16384 ≤ d.chs.syncs.length || ((d.sySp p).issue).isNone then some (0x11, 0x0005)
  else if 3 < loc || addr % 8 != 0 || (loc == 1 && (!d.native h.fn.port || 2 ^ 48 ≤ addr || 2 ^ 20 ≤ ep)) then some (0x11, 0x0003)
  else none

/-- A synchronisation object allocated at its initial value (R203). -/
def Dev.syncAllocDo (d : Dev) (h : Adm) (loc init addr ep : Nat) : Dev :=
  let p := h.fn.num
  match (d.sySp p).issue with
  | none => d.adminRefuse h 0x0005
  | some (i, sp) =>
    ({ d with chs := { d.chs with
        syncSpace := kput p sp d.chs.syncSpace
        syncs := kput (ctxKey p i) (SyncObj.mk init loc addr ep h.fn none) d.chs.syncs } }).adminOk h (mkHandle p (sp.gen i) i)

/-- SYNC_ALLOC (R203). -/
def execSyncAlloc (h : Adm) (loc init addr ep : Nat) (s : State) : Res :=
  ok s (s.dev.admin h false (fun d h => d.admTry h (d.syncAllocCheck h loc addr ep) (fun d => d.syncAllocDo h loc init addr ep)))

/-- A command on the synchronisation object of a handle; BAD_HANDLE when it fails R178. -/
def Dev.onSync (d : Dev) (h : Adm) (handle : Nat) (run : Dev → Nat → SyncObj → Dev) : Dev :=
  match d.syncOf h.fn.num handle with
  | none => d.adminBadHandle h
  | some k =>
    match kfind k d.chs.syncs with
    | none => d.adminBadHandle h
    | some x => run d k x

/-- Whether a fetched descriptor waits on an object (R207). -/
def Dev.syncAwaited (d : Dev) (handle : Nat) : Bool :=
  d.chs.chans.any (fun e => e.2.fetched.any (fun x => x.wait && x.ph == .held && x.waitH == handle))

/-- An object freed: its index goes to the end of the free list, an arm is dropped (R177, R207). -/
def Dev.syncFreeDo (d : Dev) (h : Adm) (k : Nat) : Dev :=
  let p := ctxPart k
  let sp := d.sySp p
  ({ d with chs := { d.chs with
      syncs := kdel k d.chs.syncs
      syncSpace := kput p { sp with freed := sp.freed ++ [k % 2 ^ 14] } d.chs.syncSpace } }).adminOk h 0

/-- SYNC_FREE (R207). -/
def execSyncFree (h : Adm) (handle : Nat) (s : State) : Res :=
  ok s (s.dev.admin h true (fun d h => d.onSync h handle (fun d k _ =>
    if d.syncAwaited handle then d.adminRefuse h 0x0008 else d.syncFreeDo h k)))

/-- SYNC_SIGNAL (R203): the addend is added, then the command completes. -/
def execSyncSignal (h : Adm) (handle addend : Nat) (s : State) : Res :=
  ok s (s.dev.admin h false (fun d h => d.onSync h handle (fun d k _ => ((d.signalObj k addend).adminOk h 0).settle)))

/-- SYNC_QUERY (R207). -/
def execSyncQuery (h : Adm) (handle : Nat) (s : State) : Res :=
  ok s (s.dev.admin h true (fun d h => d.onSync h handle (fun d _ x => d.adminOk h x.value)))

/-- SYNC_ARM (R206): the one arm of the object replaced; a threshold already reached posts its event at once. -/
def execSyncArm (h : Adm) (handle threshold : Nat) (s : State) : Res :=
  ok s (s.dev.admin h false (fun d h => d.onSync h handle (fun d k x =>
    (({ d with chs := { d.chs with syncs := kput k { x with arm := some threshold } d.chs.syncs } }).syncReached k).adminOk h 0)))

end Sys2Proof.Machine
end

