-- ==== Sys2Proof/Machine/Access.lean ====
section
/-! DEFINITION. Memory accesses of channel work (R29, R212, Table 04.6, R254): reads and writes of the channel's partition,
and of buffers in host memory over PCIe or UBL (Table 06.5). -/

namespace Sys2Proof.Machine

/-- The outcome of an access: it must wait and is tried again, it fails with a status and DETAIL, or it is done, with the
bytes read and the overrun chunks met. -/
inductive ChAcc where
  | wait (d : Dev)
  | fail (d : Dev) (st dt : Nat)
  | done (d : Dev) (bs : List Byte) (ovr : Nat)
deriving DecidableEq, Repr

/-- What follows an access that is done. -/
def ChAcc.next (a : ChAcc) (f : Dev → List Byte → Nat → ChAcc) : ChAcc :=
  match a with
  | .done d bs n => f d bs n
  | x => x

/-- Promotion of the T3 pages among some, charged to a class. -/
def Dev.promoteAll (d : Dev) (cls : Nat) (ks : List Nat) : Dev := (ks.filter d.inT3).foldl (fun d k => d.promote cls k) d

/-- No locked sequence is the access's own. -/
def noLock : Lock → Bool := fun _ => false

/-- The read of `len` bytes at a target; the object is fenced by nobody. `who` names the channel by its key + 1, `own` its locked
sequence. -/
def Dev.tgtRead (d : Dev) (t : Tgt) (len cls who : Nat) (own : Lock → Bool) : ChAcc :=
  let ps := d.readPieces t len
  let ks := pieceKeys ps
  let lines := tgtLines t len
  if d.sealMet t || d.handHeld t.part t.obj || ps.any (fun x => x.blks.any (fun b => d.blkHeld x.part b || d.repairing x.part b)) then .wait d
  else if ks.any d.t3Cold then .wait (d.promoteAll cls (ks.filter d.t3Cold))
  else if ks.any (fun k => (d.page k).st == .promoting) then .wait d
  else if d.arbHeld ps own then .wait d
  else if !d.bw.locks.any own && d.capBars ps false cls then .wait (d.noteHeld 0 who cls)
  else match (if t.obj.tracked then d.readyLines false (lines.filter (fun k => !d.orphaned k)) else none) with
    | some d1 => .wait d1
    | none =>
      if lines.any d.orphaned then .fail d 0x21 0
      else
        let d1 := d.thFetch who cls (d.thMissing who ps)
        if !(d1.thMissing who ps).isEmpty then .wait d1
        else
          if d1.readPoison t len then .fail d1 0x20 0x000B
          else
            let ov := d1.overruns t len
            .done (((((d1.chargePieces ps cls).grantPages false cls ks).touchPieces ps).pmapLookup ks).countOverruns t.part ov)
              (d1.viewRead t len) ov.1

/-- A channel read of a partition's range in host form (R97, R107, R222). -/
def Dev.chRead (d : Dev) (p off len cls who : Nat) (own : Lock → Bool := noLock) : ChAcc :=
  match d.resolve p off with
  | none => .fail d 0x11 0x0003
  | some t =>
    if !t.holds len then .fail d 0x11 0x0003
    else if d.leaseFenced t.part t.obj then .fail d 0x32 0
    else d.tgtRead t len cls who own

/-- A write at a target that nothing refuses and nothing holds: frames, the view's write, the mirror log. `who` names the
channel and descriptor whose completion waits for the log. -/
def Dev.tgtStore (d : Dev) (t : Tgt) (m : List (Option Byte)) (cls : Nat) (who : Option (Nat × Nat)) : ChAcc :=
  let ps := d.writePieces t m.length
  let ks := pieceKeys ps
  match Dev.framesFor ps d with
  | none => .fail d 0x11 0x0006
  | some d1 =>
    let way := d.mirrorWay t.part t.obj ks
    let d2 := (((d1.viewWrite t m cls).grantPages true cls ks).touchPieces ps).pmapLookup ks
    let d3 := Dev.thPut d (d2.mirrorNote way ks (d2.changeRecs t m ps)) cls t m ps
    let d4 := (tgtLines t m.length).foldl (fun d k => if d.orphaned k then (d.dirDel k).dirLog k else d) d3
    .done (if way == .log then
        { d4 with pr := { d4.pr with holds := d4.pr.holds ++ [MirHold.mk (d3.pr.txSeq - 1) t.part (ps.flatMap Piece.blks) none who none] } }
      else d4) [] 0

/-- The write of bytes at a target by channel work; `own` names its locked sequence, whose cap was checked at its first beat (R297). -/
def Dev.tgtWrite (d : Dev) (t : Tgt) (m : List (Option Byte)) (cls : Nat) (who : Option (Nat × Nat)) (own : Lock → Bool) : ChAcc :=
  let ps := d.writePieces t m.length
  let ks := pieceKeys ps
  let lines := tgtLines t m.length
  let partialOrphan := lines.any (fun k =>
    d.orphaned k && !(t.off ≤ k % 2 ^ 42 * 64 && k % 2 ^ 42 * 64 + 64 ≤ t.off + m.length && fullMask m))
  if ps.any (fun x => x.blks.any (fun b => d.blkHeld x.part b || d.repairing x.part b)) || d.mirrorWay t.part t.obj ks == .hold then
    .wait d
  else if d.writeRefusal t m == some 0x10 then .fail d 0x10 0x0008
  else if ks.any d.inT3 then .wait (d.promoteAll cls ks)
  else if ks.any d.pageLocked || d.arbHeld ps own then .wait d
  else if !d.bw.locks.any own && d.capBars ps true cls then .wait (d.noteHeld 0 ((who.map (·.1 + 1)).getD 0) cls)
  else if partialOrphan then .fail d 0x21 0
  else match d.readyLines true (((if t.obj.tracked then lines else []) ++ ps.flatMap d.windowLines).filter (fun k => !d.orphaned k)) with
    | some d1 => .wait d1
    | none => if d.writePoison t m then .fail d 0x20 0x000B else d.tgtStore t m cls who

/-- A channel write into a partition's range. An alias imported for reading only refuses it. -/
def Dev.chWrite (d : Dev) (p off : Nat) (m : List (Option Byte)) (cls : Nat) (who : Option (Nat × Nat)) (own : Lock → Bool := noLock) :
    ChAcc :=
  match d.objAt p off, d.resolve p off with
  | some (_, o), some t =>
    if !t.holds m.length then .fail d 0x11 0x0003
    else if d.leaseFenced t.part t.obj then .fail d 0x32 0
    else if o.aliasOf.isSome && !o.aliasRw then .fail d 0x10 0x0008
    else d.tgtWrite t m cls who own
  | _, _ => .fail d 0x11 0x0003

/-! ## Buffers at a location of Table 06.5 -/

/-- A failed access of a buffer in device memory: CHANNEL_RESET with DETAIL 0x000A (Table 07.18, R193), but for poisoned or orphaned data
read and for a lease fence, which keep their statuses. -/
def ChAcc.buffer (a : ChAcc) (write : Bool) : ChAcc :=
  match a with
  | .fail d st dt => if st == 0x10 || st == 0x11 || (write && (st == 0x20 || st == 0x21)) then .fail d 0x30 0x000A else .fail d st dt
  | x => x

/-- The UBL lines of a run of bytes. -/
def ublLines (addr len : Nat) : List Nat :=
  (List.range ((addr + len - 1) / 64 + 1 - addr / 64)).map (fun i => (addr / 64 + i) * 64)

/-- A timeout counted, and reported in AER for a PCIe or CXL.io request. -/
def Dev.countTimeout (d : Dev) (t : OutTag) : Dev :=
  let d1 := d.inc K.cplTimeouts
  match t.fn with
  | some f => if t.ubl then d1 else d1.aer f 1 aerCplTimeout
  | none => d1

/-- The timeout of a read that a command issued and lost: its tag is quarantined (R345). -/
def Dev.readLost (d : Dev) (t : OutTag) : Dev :=
  ({ d with tags := d.tags ++ [{ t with quarantined := true }] }).countTimeout t

/-- A buffer read for a channel: from host memory as the operand gives it, from the device as a channel read. A failed
access is CHANNEL_RESET with DETAIL 0x000A (R193); of a lost one the tag of its last request is quarantined (R345). -/
def Dev.bufRead (d : Dev) (k : Nat) (c : Chan) (cls loc ep addr len : Nat) (r : Resp) : ChAcc :=
  let f := c.fn k
  let taken := fun (d : Dev) =>
    match r with
    | .data bs => if bs.length == len then ChAcc.done d bs 0 else .fail d 0x30 0x000A
    | .timedOut =>
      .fail (d.readLost ⟨d.nextTag - 1, some f, if loc == 1 then (d.routePort ep ((addr + len - 1) / 64)).getD 0 else f.port, loc == 1, .chanData k, true⟩)
        0x30 0x000A
    | .poisoned => .fail (if loc == 0 then d.aer f 1 aerPoisoned else d) 0x30 0x000A
    | .failed => .fail d 0x30 0x000A
  match loc with
  | 0 =>
    if !d.bme f then .wait d
    else taken (({ d with nextTag := d.nextTag + 1 }).emit (.hostRd f addr len d.nextTag))
  | 1 =>
    if !d.bme f then .wait d
    else match d.routePort ep (addr / 64) with
      | none => .fail d 0x30 0x000A
      | some _ =>
        taken ((ublLines addr len).foldl (fun d a =>
          ({ d with nextTag := d.nextTag + 1 }).emit
            (.ubl ((d.routePort ep (a / 64)).getD 0) opRdUncached ep (d.rd (K.ofPart K.endpoint (ctxPart k))) a d.nextTag cls false 0 [])) d)
  | 2 => (d.chRead (ctxPart k) addr len cls (k + 1)).buffer false
  | _ => .fail d 0x11 0x0003

/-- A buffer written for a channel. -/
def Dev.bufWrite (d : Dev) (k : Nat) (c : Chan) (cls loc ep addr : Nat) (bs : List Byte) (seq : Nat) : ChAcc :=
  let f := c.fn k
  match loc with
  | 0 => if !d.bme f then .wait d else .done (d.emit (.hostWr f addr bs)) [] 0
  | 1 =>
    if !d.bme f then .wait d
    else match d.routePort ep (addr / 64) with
      | none => .fail d 0x30 0x000A
      | some _ =>
        .done ((ublLines addr bs.length).foldl (fun d a =>
          let m := maskAt (if a < addr then addr - a else 0) 64 ((bs.drop (a - addr)).map some)
          (d.newTag (some f) ((d.routePort ep (a / 64)).getD 0) true (.chanData k)).emit
            (.ubl ((d.routePort ep (a / 64)).getD 0) opWrUncached ep (d.rd (K.ofPart K.endpoint (ctxPart k))) a d.nextTag cls false 0
              (leBytes 8 (maskBits m) ++ maskData m))) d) [] 0
  | 2 => (d.chWrite (ctxPart k) addr (bs.map some) cls (some (k, seq))).buffer true
  | _ => .fail d 0x11 0x0003

end Sys2Proof.Machine
end

