-- ==== Sys2Proof/Machine/Queues.lean ====
section
/-! DEFINITION. The queue registers of a function (R180, R181, R318, R322, R325), the doorbells (R194, R195, R350), and the
fetch and completion of descriptors (R193, R196 to R205). -/

namespace Sys2Proof.Machine

/-! ## BAR0 writes -/

/-- Whether memory requests reach a function: it exists on a fabric port whose link is up, configuration has opened, and it
does not recover from a reset (R307, R313). -/
def Dev.barUp (d : Dev) (f : FnId) : Bool :=
  d.fnExists f && d.linkUp f.port && d.configOpen && !(d.fn f).recovering

/-- Whether BAR0 serves the registers at an offset: FSTAT and the mailbox always, the others once READY is 1 (R454). -/
def Dev.bar0Open (d : Dev) (off : Nat) : Bool := d.operational || off < 8 || (0x3000 ≤ off && off < 0x4000)

/-- A write of BAR0 at an offset: carried out with Memory Space Enable where the registers are served, else discarded and logged
(Table 11.9, R357). -/
def Dev.barPut (d : Dev) (f : FnId) (off : Nat) (run : Dev → Dev) : Dev :=
  if !d.barUp f then d else if d.mse f && d.bar0Open off then run d else d.aer f 0 aerAdvisory

/-- A write of queue registers or doorbells through BAR0. -/
def Dev.barWrite (d : Dev) (f : FnId) (run : Dev → Dev) : Dev := d.barPut f 0x1000 run

/-! ## Admin queue registers -/

/-- A fresh enable of an admin queue: both indexes at 0 and phase 1, or SIZE_ERROR (R181). -/
def AdmQ.start (q : AdmQ) : AdmQ :=
  let bad := q.asqLog2 < 4 || 12 < q.asqLog2 || q.acqLog2 < 4 || 12 < q.acqLog2 || q.asqBase % 4096 != 0 || q.acqBase % 4096 != 0
  { q with
    enable := true, ready := !bad, sizeErr := bad, accFail := false, asqTail := 0, asqHead := 0, acqTail := 0, acqHead := 0,
    acqPhase := true, live := [], old := q.old ++ q.live, runs := q.runs + 1 }

/-- An admin queue stopped: READY stays while fetched commands run (R181). -/
def AdmQ.stop (q : AdmQ) : AdmQ :=
  { q with enable := false, ready := q.ready && !(q.old ++ q.live).isEmpty, live := [], old := q.old ++ q.live, runs := q.runs + 1 }

/-- A write of AQ_ENABLE (R181). -/
def AdmQ.write (q : AdmQ) (v : Nat) : AdmQ :=
  match v with
  | 0 => if q.enable then q.stop else q
  | 1 => if q.enable && !q.accFail then q else q.start
  | _ => q

/-- A write of AQ_ENABLE carried out; a read that an enable or disable leaves behind is discarded (R181). -/
def Dev.aqEnable (d : Dev) (f : FnId) (v : Nat) : Dev :=
  let q := (d.fn f).aq
  let d1 := d.setFn f { d.fn f with aq := q.write v }
  if (q.write v).runs == q.runs then d1 else d1.dropAdmRead f

/-- AQ_ENABLE (R181). -/
def execAqEnable (fn : FnId) (v : Nat) (s : State) : Res := ok s (s.dev.barWrite fn (fun d => d.aqEnable fn v))

/-- Whether an ASQ_TAIL write breaks R181: at or beyond the size, or over more commands than the queue holds. -/
def AdmQ.tailBad (q : AdmQ) (v : Nat) : Bool :=
  2 ^ q.asqLog2 ≤ v || 2 ^ q.asqLog2 - 1 < ringDist q.asqLog2 q.asqHead q.asqTail + ringDist q.asqLog2 q.asqTail v

/-- ASQ_TAIL (R181): new commands become visible, and the read of the first of them is issued, which ends as the write says. -/
def execAsqTail (fn : FnId) (v : QWrite) (s : State) : Res :=
  ok s (s.dev.barWrite fn (fun d =>
    let q := (d.fn fn).aq
    if !q.enable then d
    else if q.tailBad v.val then d.inc K.doorbellErrors
    else ((d.setFn fn { d.fn fn with aq := { q with asqTail := v.val } }).admRead fn).admAnswer fn v.acc))

/-- Whether an ACQ_HEAD write breaks R181. -/
def AdmQ.headBad (q : AdmQ) (v : Nat) : Bool :=
  2 ^ q.acqLog2 ≤ v || ringDist q.acqLog2 q.acqHead q.acqTail < ringDist q.acqLog2 q.acqHead v

/-- ACQ_HEAD (R181): completions are released, which may let the next command be read; that read ends as the write says. -/
def execAcqHead (fn : FnId) (v : QWrite) (s : State) : Res :=
  ok s (s.dev.barWrite fn (fun d =>
    let q := (d.fn fn).aq
    if !q.enable then d
    else if q.headBad v.val then d.inc K.doorbellErrors
    else ((d.setFn fn { d.fn fn with aq := { q with acqHead := v.val } }).admRead fn).admAnswer fn v.acc))

/-- UNKNOWN_ADMIN_OPCODE (R183): refused with DETAIL 0x0001. -/
def execUnknownAdminOpcode (h : Adm) (_opcode : Nat) (s : State) : Res :=
  ok s (s.dev.admin h false (fun d h => d.adminRefuse h 0x0001))

/-! ## Event queue registers -/

/-- A write of EQ_ENABLE (R318, by R181). Disabling treats every written entry as acknowledged. -/
def EvQ.write (q : EvQ) (v : Nat) : EvQ :=
  match v with
  | 0 => if q.enable then { q with enable := false, ready := false, ack := q.tail } else q
  | 1 =>
    if q.enable && !q.accFail then q
    else
      let bad := q.log2 < 4 || 12 < q.log2 || q.base % 4096 != 0
      { q with enable := true, ready := !bad, sizeErr := bad, accFail := false, tail := 0, ack := 0, phase := true }
  | _ => q

/-- Whether a function has event queue entries at all: the placeholder has none (R304). -/
def Dev.evThere (d : Dev) (f : FnId) : Bool := !d.placeholder f

/-- EQ_ENABLE (R318): held events are written once the queue is READY. -/
def execEqEnable (fn : FnId) (v : Nat) (s : State) : Res :=
  ok s (s.dev.barWrite fn (fun d =>
    if d.evThere fn then (d.setFn fn { d.fn fn with eq := (d.fn fn).eq.write v }).pumpEv fn else d))

/-- EQ_ACK (R318, R325): entries acknowledged, held events written into the room, the wire brought in line. -/
def execEqAck (fn : FnId) (v : Nat) (s : State) : Res :=
  ok s (s.dev.barWrite fn (fun d =>
    let q := (d.fn fn).eq
    if !q.enable then d
    else if 2 ^ q.log2 ≤ v || q.unacked < ringDist q.log2 q.ack v then d.inc K.doorbellErrors
    else (d.setFn fn { d.fn fn with eq := { q with ack := v } }).pumpEv fn))

/-- EVENT_HELD_WRITE (R322): held events of a function written as far as room and Bus Master Enable allow. -/
def execEventHeldWrite (fn : FnId) (s : State) : Res := ok s (s.dev.pumpEv fn)

/-! ## Channel doorbells -/

/-- Whether a doorbell's SQ_TAIL breaks R195. -/
def Chan.tailBad (c : Chan) (v : Nat) : Bool :=
  2 ^ c.sqLog2 ≤ v || 2 ^ c.sqLog2 - 1 < ringDist c.sqLog2 c.sqHead c.sqTail + ringDist c.sqLog2 c.sqTail v

/-- Whether a doorbell's CQ_HEAD breaks R195. -/
def Chan.headBad (c : Chan) (v : Nat) : Bool :=
  2 ^ c.cqLog2 ≤ v || ringDist c.cqLog2 c.cqHead c.cqTail < ringDist c.cqLog2 c.cqHead v

/-- A doorbell word applied to a channel: `sq` and `cq` say which of its fields the write carries (R194, R195). -/
def Dev.bellChan (d : Dev) (k : Nat) (sq cq : Bool) (word : Nat) : Dev :=
  match d.chan k with
  | none => d.inc K.doorbellErrors
  | some c =>
    let sqOn := sq && bit word 31
    let cqOn := cq && bit word 63
    let tail := fld word 0 16
    let head := fld word 32 16
    if c.st == .ending || (sqOn && c.tailBad tail) || (cqOn && c.headBad head) then d.inc K.doorbellErrors
    else
      let c1 := { c with sqTail := if sqOn then tail else c.sqTail, cqHead := if cqOn then head else c.cqHead }
      (d.setChan k c1).fetchRead k c1

/-- What a read of a channel's doorbell returns through a function (R194): the SQ head in the lower half, the CQ tail in the upper one; 0 for an
index that names no live channel (DESIGN CHOICE, log entry 146). -/
def Dev.bellRead (d : Dev) (f : FnId) (idx : Nat) : Nat :=
  if d.placeholder f then 0
  else match d.chan (ctxKey f.num idx) with
    | some c => c.sqHead + c.cqTail * 2 ^ 32
    | none => 0

/-- CHANNEL_DOORBELL (R194, R195): `part` 0 writes all 8 bytes, 1 the lower 4, 2 the upper 4. Through a placeholder no channel is
named (R304). -/
def execChannelDoorbell (fn : FnId) (idx part word : Nat) (s : State) : Res :=
  ok s (s.dev.barWrite fn (fun d =>
    if d.placeholder fn then d.inc K.doorbellErrors else
    d.bellChan (ctxKey fn.num idx) (part == 0 || part == 1) (part == 0 || part == 2) (if part == 2 then word * 2 ^ 32 else word)))

/-- DOORBELL (R195, R343, R348): a UBL doorbell message. On a link without the DOORBELL feature its OPCODE is unknown. -/
def execDoorbell (port dst handle word : Nat) (s : State) : Res :=
  ok s (let d := s.dev
    if !d.linkUp port || !d.native port then d
    else if !bit (d.port port).feats 3 then d.inc K.ublMalformed
    else match d.endpointPart port dst with
      | none => d.inc K.misrouted
      | some p =>
        match d.chanOf p handle with
        | none => d.inc K.badHandles
        | some k => d.bellChan k true true word)

/-! ## Descriptors -/

/-- The opcodes that a recipe or pipeline defines; NOP belongs to every one (R196, R216, R273). -/
def Dev.opcodeThere (d : Dev) (recipe op : Nat) : Bool :=
  op == 0 ||
  (match recipe with
    | 1 => op == 0x10
    | 2 => op == 0x10 || op == 0x11
    | 3 => op == 0x10 || op == 0x11
    | 4 => op == 0x10 || op == 0x11
    | 5 => op == 0x10 || op == 0x11
    | 6 => op == 0x10
    | _ => (d.manifest recipe).any (fun m => bit (leAt m 0x10 32) op))

/-- A descriptor from its 64 bytes (Table 06.8.A), under the class and policy in force (R191). -/
def dscOf (seq cls policy : Nat) (bs : List Byte) : Dsc where
  seq := seq
  op := leAt bs 0 1
  flags := leAt bs 1 1
  tag := leAt bs 2 2
  waitH := leAt bs 4 4
  waitV := leAt bs 8 8
  sigH := leAt bs 0x10 4
  deadline := leAt bs 0x14 4
  sigAdd := leAt bs 0x18 8
  args := slice bs 0x20 32
  cls := cls
  policy := policy
  ph := .held
  status := 0
  detail := 0
  result := 0
  failed := 0
  overrun := false
  fallback := 0
  late := false
  missed := false
  step := 0
  passed := []
  dones := []

/-- The refusal of a descriptor at its fetch (R178, R197, R207). -/
def Dev.dscRefusal (d : Dev) (p recipe : Nat) (x : Dsc) : Option (Nat × Nat) :=
  if 32 ≤ x.flags then some (0x11, 0x0002)
  else if !d.opcodeThere recipe x.op then some (0x11, 0x0001)
  else if (x.wait && (d.syncOf p x.waitH).isNone) || (x.signal && (d.syncOf p x.sigH).isNone) then some (0x12, 0x0008)
  else none

/-! ### The ranges of WSTREAM (R235 to R240) -/

/-- The DELTA window of a WSTREAM channel, with its two parts. -/
structure Win where
  t : Tgt
  store : Nat
  sobj : Obj
  bpart : Nat
  bnum : Nat
  bobj : Obj
deriving DecidableEq, Repr

/-- The window that RECIPE_ARGS names, none when it, its base or its store is gone (R239). -/
def Dev.wsWin (d : Dev) (p args : Nat) : Option Win :=
  match d.obj p (argAt args 0 2) with
  | none => none
  | some w =>
    match d.obj p w.backing, d.realObj p w.base with
    | some s, some b =>
      if w.kind == 5 && w.aliasOf.isNone then
        some ⟨⟨p, argAt args 0 2, w, w.ext * 2 ^ 30⟩, w.backing, s, (d.real p w.base).1, (d.real p w.base).2, b⟩
      else none
    | _, _ => none

/-- The page keys of a run of an object. -/
def runKeys (p : Nat) (o : Obj) (rel len : Nat) : List Nat :=
  pieceKeys [⟨p, o.ext * 2 ^ 30 + rel, len⟩]

/-- Whether the pages of a part are ready: none homed in T3, none PROMOTING (R237). -/
def Dev.partReady (d : Dev) (ks : List Nat) : Bool := ks.all (fun k => !d.inT3 k && (d.page k).st != .promoting)

/-- The refusal of the range of a PUSH or PREFETCH (R236, R217): status and DETAIL. -/
def wsRefusal (w : Win) (x : Dsc) : Option (Nat × Nat) :=
  if x.arg 0x20 8 % 4096 != 0 || x.arg 0x28 4 % 4096 != 0 || 2 ^ 31 < x.arg 0x28 4 then some (0x11, 0x0003)
  else if w.t.obj.n * 2 ^ 30 < x.arg 0x20 8 + x.arg 0x28 4 then some (0xF0, 0x0002)
  else none

/-- The page keys of base and delta that a descriptor's range reads. -/
def wsBase (w : Win) (x : Dsc) : List Nat := runKeys w.bpart w.bobj (x.arg 0x20 8) (x.arg 0x28 4)
def wsDelta (w : Win) (x : Dsc) : List Nat := runKeys w.t.part w.sobj (x.arg 0x20 8) (x.arg 0x28 4)

/-- The promotions that a PUSH starts when it is fetched: those of the pages of its range that are homed in T3 (R237). -/
def Dev.pushFetched (d : Dev) (k : Nat) (c : Chan) (x : Dsc) : Dev :=
  if !x.isPush c.recipe || x.ph == .done then d
  else match d.wsWin (ctxPart k) c.args with
    | some w => if (wsRefusal w x).isSome then d else d.promoteAll x.cls (wsBase w x ++ wsDelta w x)
    | none => d

/-- A fetched descriptor put into its channel: refused ones are finished, the others wait for their turn (R199, R205). -/
def Dev.takeDsc (d : Dev) (k : Nat) (c : Chan) (bs : List Byte) : Dev :=
  let x := dscOf c.nextSeq c.cls c.policy bs
  let x1 := match d.dscRefusal (ctxPart k) c.recipe x with
    | some (st, dt) => { x with ph := DPhase.done, status := st, detail := dt, result := x.early c.recipe }
    | none => x
  let d1 := if (match d.dscRefusal (ctxPart k) c.recipe x with
      | some (st, _) => st == 0x12
      | none => false) then d.inc K.badHandles else d
  let c1 := { c with sqHead := (c.sqHead + 1) % 2 ^ c.sqLog2, nextSeq := c.nextSeq + 1, fetched := c.fetched ++ [x1] }
  (((d1.setChan k c1).pushFetched k c x1).startChan k).fetchRead k c1

/-- The fetch of one descriptor (R199, R193). -/
def Dev.fetchDsc (d : Dev) (k : Nat) (c : Chan) (r : Resp) : Dev :=
  if !d.fetchReady k c then d
  else
    let a := c.sqAddr + 64 * c.sqHead
    if c.sqLoc == 2 then
      match d.chRead (ctxPart k) a 64 c.cls (k + 1) with
      | .wait d1 => d1
      | .fail d1 _ _ => (d1.haltChan k none 0x30 0x000A).settle
      | .done d1 bs _ => (d1.thForget (k + 1)).takeDsc k c bs
    else
      let d1 := d.freeTags (.descFetch k)
      match r with
      | .timedOut =>
        ((((d.tags.filter (fun (t : OutTag) => t.use == .descFetch k && !t.quarantined)).foldl Dev.readLost d1).haltChan k none 0x30 0x000A)).settle
      | .data bs => if bs.length == 64 then d1.takeDsc k c bs else (d1.haltChan k none 0x30 0x000A).settle
      | .poisoned => ((d1.aer (c.fn k) 1 aerPoisoned).haltChan k none 0x30 0x000A).settle
      | .failed => (d1.haltChan k none 0x30 0x000A).settle

/-- The channel that a handle names to the device's own work, when it is live. -/
def Dev.workChan (d : Dev) (handle : Nat) : Option (Nat × Chan) :=
  (d.chanOf (hPart handle) handle).bind (fun k => (d.chan k).map (fun c => (k, c)))

/-- DESCRIPTOR_FETCH (R199): without a descriptor that may be fetched nothing happens. -/
def execDescriptorFetch (handle : Nat) (r : Resp) (s : State) : Res :=
  ok s (match s.dev.workChan handle with
    | some (k, c) => s.dev.fetchDsc k c r
    | none => s.dev)

/-- Whether a descriptor's writes still wait for the partner (R408). -/
def Dev.awaitsLog (d : Dev) (k seq : Nat) : Bool := d.pr.holds.any (fun h => h.chan == some (k, seq))

/-- Whether the write of a completion into host memory over PCIe is accepted: `ok` says so. A write over UBL fails with its answer, one
into device memory when it is carried out (R193). -/
def Chan.cqTakes (c : Chan) (ok : Bool) : Bool := c.cqLoc != 0 || ok

/-- The completion of the oldest descriptor of a channel, which is done (R187, R198, R200). -/
def Dev.finishDsc (d : Dev) (k : Nat) (c : Chan) (x : Dsc) (ok : Bool) : Dev :=
  if haltsChan x.status then
    if x.status == 0x32 then d.haltChan k none 0x32 0 else d.haltChan k (some x.seq) 0x30 0
  else if (x.noCqe && x.status == 0) || c.cqTakes ok then (d.completeDsc k x).cqPump k
  else ((d.completeDsc k x).cqeFailed k).cqPump k

/-- DESCRIPTOR_COMPLETE (R198): the oldest descriptor of the channel completes once it is done and its mirrored writes are
acknowledged; `ok` is false when a completion write over PCIe fails. -/
def execDescriptorComplete (handle : Nat) (ok' : Bool) (s : State) : Res :=
  ok s (match s.dev.workChan handle with
    | some (k, c) =>
      (match c.fetched with
        | x :: _ =>
          if x.ph == .done && !s.dev.awaitsLog k x.seq then (s.dev.finishDsc k c x ok').settle else s.dev
        | [] => s.dev)
    | none => s.dev)

/-- The oldest running descriptor of a channel with an opcode. -/
def Chan.running (c : Chan) (op : Nat) : Option Dsc := c.fetched.find? (fun x => x.ph == .running && x.op == op)

/-- A descriptor finished with a status, DETAIL and RESULT; its completion is the row DESCRIPTOR_COMPLETE. -/
def Dev.endDsc (d : Dev) (k seq status detail result : Nat) : Dev :=
  d.modDsc k seq (fun x => { x with ph := .done, status := status, detail := detail, result := result })

/-- NOP_DESCRIPTOR (R197): the oldest running NOP has nothing else to do. -/
def execNopDescriptor (handle : Nat) (s : State) : Res :=
  ok s (match s.dev.workChan handle with
    | some (k, c) =>
      (match c.running 0 with
        | some x => s.dev.endDsc k x.seq 0 0 0
        | none => s.dev)
    | none => s.dev)

end Sys2Proof.Machine
end

