-- ==== Sys2Proof/Machine/Objects.lean ====
section
/-! DEFINITION. The admin commands of objects and views, of sharing and of grants (R42 to R49, R82 to R86, R104, R126 to R131,
R146), with the device events that carry them to their ends, and the way of a command on a mirrored object (R411). -/

namespace Sys2Proof.Machine

/-! ## Ranges and descriptors -/

/-- Extents of a partition's range (R27). -/
def rangeExtents : Nat := 262144

/-- Whether an extent count and offset name no run of a partition's range. -/
def runBad (off n : Nat) : Bool := n < 1 || off % 2 ^ 30 != 0 || rangeExtents < off / 2 ^ 30 + n

/-- Whether reserved bits of a placement descriptor are set (Table 02.6, R12). -/
def pdReserved (x : Nat) : Bool := fld x 12 20 != 0 || bit x 10 || fld x 4 4 != 0

/-- A written descriptor normalised for an object of a kind over a run of extents (R44, R79); TH does not count for a
mirrored one (R406). -/
def Dev.normFor (d : Dev) (p ext n kind x : Nat) : Nat :=
  d.normalise kind (if d.runMirrored p ext n then setFld x 0 4 (clrBit (pdAllowed x) 3) else x)

/-- Whether a job of destruction stands on a number or meets a run of extents. -/
def Dev.clearOn (d : Dev) (p n : Nat) : Bool := d.mm.clearing.any (fun c => c.part == p && c.num == n)
def Dev.clearOver (d : Dev) (p ext n : Nat) : Bool :=
  d.mm.clearing.any (fun c => c.part == p && c.ext < ext + n && ext < c.ext + c.n)

/-- Whether a run is taken: by an object, or by one still being cleared (R27, R40). -/
def Dev.runTaken (d : Dev) (p ext n : Nat) : Bool := d.overlaps p ext n || d.clearOver p ext n

/-! ## OBJ_CREATE -/

/-- The extents of a partition that its lendable objects hold beyond their commitments (R49). -/
def Dev.beyond (d : Dev) (p : Nat) : Nat := sumBy (fun e : Nat × Obj => if e.2.ordinary then e.2.n - e.2.k else 0) (d.objsOf p)

/-- The refusal of OBJ_CREATE (R27, R44, R47, R49, R406). -/
def Dev.objCreateCheck (d : Dev) (p obj n off k desc : Nat) : Option (Nat × Nat) :=
  let no := fun dt => some (0x11, dt)
  let fl := pdFloor (d.normFor p (off / 2 ^ 30) n 0 desc)
  if pdReserved desc then no 0x0002
  else if runBad off n || pdBad desc || n < k || (k != n && !pdLendable desc) then no 0x0003
  else if (d.obj p obj).isSome || d.runTaken p (off / 2 ^ 30) n then no 0x0004
  else if d.partlyMirrored p (off / 2 ^ 30) n then no 0x0003
  else if d.resv p fl < d.committedExt p fl + k ||
    [Tier.t1, .t2, .t3].any (fun t => d.room p t - (if t == fl then k * 16384 else 0 : Nat) < 0) ||
    (n != k && d.resv p .th < d.beyond p + (n - k)) then no 0x0006
  else none

/-- A new object: TRANSPARENT, every page NONE (R49, R80). -/
def newObj (ext n k wdesc desc : Nat) : Obj :=
  ⟨ext, n, k, wdesc, desc, 0, 0, false, 0, 0, 0, 0, 0, none, none, false, 0, false, none, [], none, none, false, 0⟩

/-- An object created. -/
def Dev.objCreateDo (d : Dev) (h : Adm) (p obj n off k desc : Nat) : Dev :=
  (d.setObj p obj (newObj (off / 2 ^ 30) n k desc (d.normFor p (off / 2 ^ 30) n 0 desc))).adminOk h 0

/-! ## OBJ_PLACE -/

/-- The home a page has when its migration is over, and the object's commands with it. -/
def Dev.finalHome (d : Dev) (k : Nat) (x : Page) : Option Home :=
  match kfind k d.mm.migs with
  | some m => some m.final
  | none => x.home

/-- Frames of tiers T1 to T3 as the plan of an OBJ_PLACE counts them, and floor frames taken. -/
structure Plan where
  r1 : Int
  r2 : Int
  r3 : Int
  held : Nat
deriving DecidableEq, Repr

/-- The room left in a tier by a plan. -/
def Plan.room (x : Plan) (t : Tier) : Int :=
  match t with
  | .t1 => x.r1
  | .t2 => x.r2
  | _ => x.r3

/-- One frame of a tier taken in a plan: at the floor a committed one. -/
def Plan.take (x : Plan) (fl t : Tier) : Plan :=
  if t == fl then { x with held := x.held + 1 }
  else match t with
    | .t1 => { x with r1 := x.r1 - 1 }
    | .t2 => { x with r2 := x.r2 - 1 }
    | _ => { x with r3 := x.r3 - 1 }

/-- Whether a page in a home stays where it is under a descriptor; a staged page holds no room (R58). -/
def Plan.stay (desc : Nat) (x : Plan) (e : Home × Bool) : Plan :=
  if e.1.tier == .th || !pdAllows desc e.1.owner then x
  else if e.1.staged then { x with held := x.held + 1 }
  else x.take (pdFloor desc) e.1.tier

/-- A page that must leave its tier put where R45 says. -/
def Plan.move (desc : Nat) (x : Plan) (e : Home × Bool) : Plan :=
  if pdAllows desc e.1.owner || (e.1.owner == .t3 && !e.2) then x
  else
    let below := [Tier.t2, .t3].filter (fun t => e.1.owner.code < t.code && pdAllows desc t && t != pdFloor desc)
    x.take (pdFloor desc) ((below.find? (fun t => 0 < x.room t)).getD (pdFloor desc))

/-- The plan of an OBJ_PLACE (R45): the rooms once the commitment has moved and every page is at its last home. -/
def Dev.placePlan (d : Dev) (p : Nat) (o : Obj) (desc : Nat) : Plan :=
  let pages := (d.pagesOf p o).filterMap (fun e => (d.finalHome e.1 e.2).map (fun h => (h, e.2.fl)))
  let fl := pdFloor desc
  let base := fun t : Tier =>
    d.room p t + (if t == pdFloor o.desc then (o.k * 16384 : Nat) else 0 : Int) - (if t == fl then (o.k * 16384 : Nat) else 0 : Int) +
      (if t == pdFloor o.desc then 0 else countBy (fun e => (d.pageHomes e.1 e.2).any (fun h => h.counts t)) (d.pagesOf p o) : Nat)
  pages.foldl (Plan.move desc) (pages.foldl (Plan.stay desc) ⟨base .t1, base .t2, base .t3, 0⟩)

/-- The refusal of OBJ_PLACE (R44, R45, R47, R86, R127). Pages that would fall to a floor whose frames are all taken are refused with DETAIL
0x0006 like a move that finds no room (DESIGN CHOICE, log entry 140). -/
def Dev.objPlaceCheck (d : Dev) (p obj desc : Nat) : Option (Nat × Nat) :=
  let no := fun dt => some (0x11, dt)
  match d.obj p obj with
  | none => no 0x0004
  | some o =>
    let nd := d.normFor p o.ext o.n o.kind desc
    let pl := d.placePlan p o nd
    if !o.ordinary then no 0x0008
    else if pdReserved desc then no 0x0002
    else if pdBad desc || (o.k != o.n && !pdLendable desc) then no 0x0003
    else if pdFloor nd != pdFloor o.desc &&
      (d.resv p (pdFloor nd) < d.committedExt p (pdFloor nd) + o.k || pl.r1 < 0 || pl.r2 < 0 || pl.r3 < 0) then no 0x0006
    else if o.k * 16384 < pl.held then no 0x0006
    else none

/-- The floor frames held after the floor of an object has changed (R49). -/
def Dev.refloor (d : Dev) (p : Nat) (o : Obj) (fl : Tier) : Dev :=
  (d.pagesOf p o).foldl (fun d e =>
    d.setPage e.1 { d.page e.1 with fl := match e.2.home with
      | some h => h.owner == fl
      | none => false }) d

/-- A descriptor replaced (R45): the floor, the cause OBJ_PLACE of an invocation (R52), and the moves out of removed tiers. The
command completes after the last switch. -/
def Dev.objPlaceDo (d : Dev) (h : Adm) (p obj desc : Nat) : Dev :=
  match d.obj p obj with
  | none => d.adminRefuse h 0x0004
  | some o =>
    let nd := d.normFor p o.ext o.n o.kind desc
    let d1 := d.setObj p obj { o with
      wdesc := desc, desc := nd, causes := o.causes ||| 2, stops := 0, fellBack := false, placing := some h }
    (if pdFloor nd == pdFloor o.desc then d1 else d1.refloor p o (pdFloor nd)).restartPlaces.finishPlaces

/-! ## OBJ_DISCARD and OBJ_QUERY -/

/-- The pages, keys, that a run of blocks of a partition meets. -/
def Dev.runPages (d : Dev) (p first count : Nat) : List Nat :=
  (d.mm.pages.filter (fun e => pagePart e.1 == p && (e.1 % 2 ^ 32) * 256 < first + count && first < (e.1 % 2 ^ 32 + 1) * 256)).map (·.1)

/-- Whether OBJ_DISCARD must wait: a page of its run moves (R62), or the mirror log holds it back. -/
def Dev.discardWaits (d : Dev) (p obj first count : Nat) : Bool :=
  match d.obj p obj with
  | none => false
  | some o =>
    let ks := d.runPages p (o.ext * 2 ^ 22 + first) count
    count != 0 && o.ordinary && first + count ≤ o.n * 2 ^ 22 && (ks.any d.moving || d.mirrorWay p o ks == .hold)

/-- The refusal of OBJ_DISCARD (R42, R47, R86, R127). -/
def Dev.objDiscardCheck (d : Dev) (p obj first count : Nat) : Option (Nat × Nat) :=
  match d.obj p obj with
  | none => some (0x11, 0x0004)
  | some o =>
    if !o.ordinary then some (0x11, 0x0008) else if o.n * 2 ^ 22 < first + count then some (0x11, 0x0003) else none

/-- A run of blocks discarded (R42). On a mirrored object the completion waits for the log's acknowledgement (R408). -/
def Dev.objDiscardDo (d : Dev) (h : Adm) (p obj first count : Nat) : Dev :=
  match d.obj p obj with
  | none => d.adminRefuse h 0x0004
  | some o =>
    let a := o.ext * 2 ^ 22 + first
    let ks := d.runPages p a count
    let way := d.mirrorWay p o ks
    let d1 := (d.discardBlocks p a count).mirrorNote way ks [⟨p, .discard a count⟩]
    if way == .log then { d1 with pr := { d1.pr with holds := d1.pr.holds ++ [MirHold.mk (d1.pr.txSeq - 1) p [] none none (some h)] } }
    else d1.adminOk h 0

/-- A page map entry as OBJ_QUERY writes it, Table 02.3. -/
def Dev.pageEntry (d : Dev) (k : Nat) : Nat :=
  let x := d.page k
  let validity := if x.home.isNone then 0 else if x.valid == validAll then 1 else 2
  let st := match x.st with
    | .resident => 0 | .migrating => 1 | .promoting => 2
  let home := match x.home with
    | some h => h.tier.code * 2 ^ 62 + b2n h.staged * 2 ^ 54 + h.frame
    | none => 0
  (x.vslot.getD 0) * 2 ^ 102 + x.heat * 2 ^ 80 + x.epoch * 2 ^ 64 + validity * 2 ^ 60 + st * 2 ^ 57 + b2n x.poison * 2 ^ 56 +
    b2n (d.pageCached k) * 2 ^ 55 + home

/-- A view record, Table 03.3. -/
def Dev.viewRecord (d : Dev) (p n : Nat) (o : Obj) : Nat :=
  o.scalePage * 2 ^ 96 + o.base * 2 ^ 80 + o.backing * 2 ^ 64 + o.declSectors * 2 ^ 48 + o.declMode * 2 ^ 16 +
    b2n (d.sealedObj p n o) * 2 ^ 15 + b2n o.stoch * 2 ^ 12 + o.fmt * 2 ^ 8 + o.kind

/-- What OBJ_QUERY writes: the header, and for an ordinary object its entries (R86, R184). An alias shows the record of the
exported object. -/
def Dev.queryBytes (d : Dev) (p n : Nat) (o : Obj) (first count : Nat) : List Byte :=
  let r := d.real p n
  let u := (d.obj r.1 r.2).getD o
  leBytes 16 (if o.ordinary then o.desc else 0) ++ leBytes 16 (d.viewRecord r.1 r.2 u) ++ leBytes 4 o.k ++ leBytes 4 o.n ++ zeros 24 ++
    (if o.ordinary then (List.range count).flatMap (fun i => leBytes 16 (d.pageEntry (pageKey p (o.ext * 16384 + first + i)))) else [])

/-- Where and how much a query buffer holds: whether it is refused. -/
def Dev.queryBad (d : Dev) (h : Adm) (o : Obj) (loc count first ep addr : Nat) : Bool :=
  (o.ordinary && (count < 1 || 4096 < count || o.n * 16384 < first + count)) ||
  (match loc with
    | 0 => false
    | 1 => !d.native h.fn.port || 2 ^ 48 ≤ addr || 2 ^ 20 ≤ ep
    | 2 => (d.resolve h.fn.num addr).isNone
    | _ => true)

/-- The refusal of OBJ_QUERY (R47, R184). -/
def Dev.objQueryCheck (d : Dev) (h : Adm) (obj loc count first ep addr : Nat) : Option (Nat × Nat) :=
  match d.obj h.fn.num obj with
  | none => some (0x11, 0x0004)
  | some o =>
    if d.queryBad h o loc count first ep addr then some (0x11, 0x0003)
    else if loc == 1 && (d.routePort ep (addr / 64)).isNone then some (0x11, 0x0008) else none

/-- Bytes written by the device over UBL in a class, one WR_UNCACHED a line. -/
def Dev.ublWrite (d : Dev) (p ep addr cls : Nat) (bs : List Byte) : Dev :=
  (ublLines addr bs.length).foldl (fun (d : Dev) (a : Nat) =>
    let m : List (Option Byte) := maskAt (if a < addr then addr - a else 0) 64 ((bs.drop (a - addr)).map some)
    ({ d with nextTag := d.nextTag + 1 }).emit
      (.ubl ((d.routePort ep (a / 64)).getD 0) opWrUncached ep (d.rd (K.ofPart K.endpoint p)) a d.nextTag cls false 0
        (leBytes 8 (maskBits m) ++ maskData m))) d

/-- OBJ_QUERY carried out: the buffer written in LS_CLASS (R277), on the bus only while Bus Master Enable lets the function start
requests (R314), then the completion; one in device memory may have to wait, and is
refused where the write is (R492 gives the DETAIL). -/
def Dev.objQueryDo (d : Dev) (h : Adm) (obj loc count first ep addr : Nat) : Dev :=
  match d.obj h.fn.num obj with
  | none => d.adminRefuse h 0x0004
  | some o =>
    let bs := d.queryBytes h.fn.num obj o first count
    match loc with
    | 0 => (if d.bme h.fn then d.emit (.hostWr h.fn addr bs) else d).adminOk h 0
    | 1 => (d.ublWrite h.fn.num ep addr (d.lsCls h.fn.num) bs).adminOk h 0
    | _ => (d.deviceWrite (.query h) h.fn.num addr (d.lsCls h.fn.num) bs).settle

/-! ## OBJ_DESTROY (R47, R86, R127) -/

/-- The objects that go before an object: its aliases and the windows over it, each after those that go before it. -/
def Dev.goesBefore (d : Dev) : Nat → Nat × Nat → List (Nat × Nat)
  | 0, _ => []
  | fuel + 1, (p, n) =>
    let kids := (d.mm.objs.filter (fun e =>
      e.2.aliasOf == some (p, n) || windowOver p n (e.1 / 2 ^ 16) e.2)).map (fun e => (e.1 / 2 ^ 16, e.1 % 2 ^ 16))
    kids.flatMap (fun x => d.goesBefore fuel x ++ [x])

/-- The aliases of an object, with what goes before each. -/
def Dev.aliasTree (d : Dev) (p n : Nat) : List (Nat × Nat) :=
  ((d.mm.objs.filter (fun e => e.2.aliasOf == some (p, n))).map (fun e => (e.1 / 2 ^ 16, e.1 % 2 ^ 16))).flatMap
    (fun x => d.goesBefore 4 x ++ [x])

/-- The revokes that the end of an alias begins: one for each slot with a record over it (R127). -/
def Dev.revokeOver (d : Dev) (p ext n : Nat) : Dev :=
  (((d.coh.grants.filter (fun g => g.part == p && g.drain.isNone && g.first < ext + n && ext < g.first + g.count)).map (·.slot)).eraseDups).foldl
    (fun d slot => d.startRevoke slot p ext n []) d

/-- One job put at the end of the list, unless the object has one; an alias begins its revokes. -/
def Dev.addClear (kind : ClrKind) (h : Option Adm) (d : Dev) (x : Nat × Nat) : Dev :=
  match d.obj x.1 x.2 with
  | none => d
  | some o =>
    if d.clearOn x.1 x.2 && h.isNone then d
    else
      let d1 := { d with mm := { d.mm with clearing := d.mm.clearing ++ [Clear.mk kind x.1 x.2 o.ext o.n false 0 h] } }
      if o.aliasOf.isSome then d1.revokeOver x.1 o.ext o.n else d1

/-- An object's destruction begun, with what goes before it. -/
def Dev.objDestroyDo (d : Dev) (h : Adm) (p obj : Nat) : Dev :=
  (((d.goesBefore 4 (p, obj)).eraseDups.foldl (Dev.addClear .destroy none) d).addClear .destroy (some h) (p, obj)).settle

/-- The refusal of a command that needs its object only to exist. -/
def Dev.objThere (d : Dev) (p obj : Nat) : Option (Nat × Nat) := if (d.obj p obj).isSome then none else some (0x11, 0x0004)

/-! ## Views -/

/-- Whether every page of an object is NONE. -/
def Dev.allNone (d : Dev) (p : Nat) (o : Obj) : Bool := (d.pagesOf p o).all (fun e => e.2.home.isNone)

/-- Whether an object backs a FIXED window. -/
def Dev.backsFixed (d : Dev) (p n : Nat) : Bool :=
  (d.objsOf p).any (fun e => e.2.kind == 4 && e.2.aliasOf.isNone && e.2.backing == n)

/-- The refusal of VIEW_SET (R83). -/
def Dev.viewSetCheck (d : Dev) (p obj kind fmt : Nat) : Option (Nat × Nat) :=
  let no := fun dt => some (0x11, dt)
  match d.obj p obj with
  | none => no 0x0004
  | some o =>
    if 3 < kind || (if kind == 2 then fmt != 1 && fmt != 2 else fmt != 0) then no 0x0003
    else if !o.ordinary || o.kind == 6 || (d.backsFixed p obj && kind != 1) || (kind == 3 && d.baseSealed p obj) then no 0x0008
    else if kind == 2 && !d.sparsePriv p then no 0x0009
    else if (kind == 3) != (o.kind == 3) && !d.allNone p o then no 0x0008
    else none

/-- An object given a kind and format; its descriptor is normalised anew (R84). -/
def Dev.setKind (d : Dev) (p n : Nat) (o : Obj) (kind fmt : Nat) : Dev :=
  d.setObj p n { o with kind := kind, fmt := fmt, desc := d.normFor p o.ext o.n kind o.wdesc, viewTo := none }

/-- VIEW_SET carried out at once, or its TH pages set moving out (R84). -/
def Dev.viewSetDo (d : Dev) (h : Adm) (p obj kind fmt : Nat) : Dev :=
  match d.obj p obj with
  | none => d.adminRefuse h 0x0004
  | some o =>
    let d1 := if kind == 1 then d else d.stopThMoves p o
    if kind == 1 || (d1.thPagesOf p o).isEmpty then (d1.setKind p obj o kind fmt).adminOk h 0
    else
      let o1 := { o with viewTo := some (kind, fmt, h) }
      (d1.setObj p obj o1).viewDrain p obj o1 h

/-- The end of a VIEW_SET that drained TH (R84 step 2). -/
def Dev.viewDrained (d : Dev) (p obj : Nat) : Dev :=
  match d.obj p obj with
  | none => d
  | some o =>
    match o.viewTo with
    | none => d
    | some (kind, fmt, h) =>
      if (d.pagesOf p o).any (fun e => (e.2.home.toList ++ (d.finalHome e.1 e.2).toList).any (fun x => x.tier == .th)) then d
      else (d.setKind p obj o kind fmt).adminOk h 0

/-- SCALE_PAGE and the extents that a FIXED window of `v` extents needs of its backing (R95). -/
def scalePage (fmt v : Nat) : Nat := ceilDiv ((mxOf fmt).bytes * (v * 2 ^ 24)) 65536
def fixedExtents (fmt v : Nat) : Nat := ceilDiv (scalePage fmt v * 65536 + v * 2 ^ 24) (2 ^ 30)

/-- The refusal of VIEW_CREATE for what its window names (R85). A DELTA window of more extents than the store is refused with DETAIL
0x0003 (DESIGN CHOICE, log entry 133), and an object that has taken the number of a destroyed base stands for the base (DESIGN
CHOICE, log entry 134). -/
def Dev.backingBad (d : Dev) (p kind fmt v backing : Nat) : Option Nat :=
  match d.obj p backing with
  | none => some 0x0004
  | some b =>
    if kind == 4 then
      if !b.ordinary || 1 < b.kind then some 0x0008 else if b.n < fixedExtents fmt v then some 0x0003 else none
    else if !b.ordinary || b.kind != 6 then some 0x0008
    else if (d.realObj p b.base).isNone then some 0x0004
    else if b.n < v then some 0x0003 else none

/-- The windows of a partition (VIEWS, R112). -/
def Dev.viewsOf (d : Dev) (p : Nat) : Nat := countBy (fun e : Nat × Obj => e.2.window && e.2.aliasOf.isNone) (d.objsOf p)

/-- The refusal of VIEW_CREATE (R85, R112, R406). -/
def Dev.viewCreateCheck (d : Dev) (p win kind fmt v off backing stoch : Nat) : Option (Nat × Nat) :=
  let no := fun dt => some (0x11, dt)
  if runBad off v || (kind != 4 && kind != 5) || (kind == 4 && 4 < fmt) || 1 < stoch then no 0x0003
  else if (d.obj p win).isSome || d.runTaken p (off / 2 ^ 30) v then no 0x0004
  else match d.backingBad p kind fmt v backing with
    | some dt => no dt
    | none =>
      if d.partlyMirrored p (off / 2 ^ 30) v then no 0x0003
      else if 4096 ≤ d.viewsOf p then no 0x0005 else none

/-- A window created; a FIXED backing of kind TRANSPARENT becomes RAW (R85). -/
def Dev.viewCreateDo (d : Dev) (h : Adm) (p win kind fmt v off backing stoch : Nat) : Dev :=
  let w := newObj (off / 2 ^ 30) v 0 0 0
  let base := match d.obj p backing with
    | some b => if kind == 5 then b.base else 0
    | none => 0
  let d1 := d.setObj p win { w with
    kind := kind, fmt := fmt, stoch := stoch == 1, backing := backing, base := base,
    scalePage := if kind == 4 then scalePage fmt v else 0 }
  (if kind == 4 then d1.modObj p backing (fun b => if b.kind == 0 then { b with kind := 1 } else b) else d1).adminOk h 0

/-! ## DELTA_SEAL (R104) -/

/-- The refusal of DELTA_SEAL. -/
def Dev.sealCheck (d : Dev) (p obj base fmt mode sectors : Nat) : Option (Nat × Nat) :=
  let no := fun dt => some (0x11, dt)
  match d.obj p obj, d.realObj p base with
  | some o, some b =>
    if 2 < fmt || 1 < mode || (mode == 0 && (sectors < 2 || 128 < sectors)) then no 0x0003
    else if !o.ordinary || 1 < o.kind || 3 ≤ b.kind || o.n != b.n then no 0x0008
    else none
  | _, _ => no 0x0004

/-- Whether an object holds a poisoned block. -/
def Dev.objPoison (d : Dev) (p : Nat) (o : Obj) : Bool := (d.pagesOf p o).any (fun e => e.2.lost || d.anyPoison e.1)

/-- The seals that run, and those that wait, in command order. -/
def Dev.sealsRunning (d : Dev) : Nat := countBy (fun e : Nat × Obj => e.2.sealStarted) d.mm.objs

/-- Waiting seals started in command order while fewer than 4 run. -/
def Dev.startSeals (d : Dev) : Dev :=
  let waits := d.mm.objs.filterMap (fun e => e.2.sealing.bind (fun x => if x.started then none else some (x.ord, e.1)))
  (sortBy (fun a b => a.1 < b.1) waits).foldl (fun d e =>
    if d.sealsRunning < 4 then
      d.modObj (e.2 / 2 ^ 16) (e.2 % 2 ^ 16) (fun o => { o with
        sealing := o.sealing.map (fun x => { x with started := true, clean := !d.objPoison (e.2 / 2 ^ 16) o }) })
    else d) d

/-- A seal accepted: it starts at once, or waits for its turn. -/
def Dev.sealDo (d : Dev) (h : Adm) (p obj base fmt mode sectors : Nat) : Dev :=
  let d1 := d.modObj p obj (fun o => { o with sealing := some ⟨d.coh.nextOp, h, fmt, mode, sectors, base, false, true⟩ })
  ({ d1 with coh := { d1.coh with nextOp := d1.coh.nextOp + 1 } }).startSeals

/-- The histogram of the high (`par` 1) or low bytes of the elements of an extent. -/
def Dev.histogram (d : Dev) (p ext par : Nat) : List Nat :=
  let a := cellKey p (ext * 2 ^ 30)
  let cs := d.mm.cells.filter (fun c => a ≤ c.1 && c.1 < a + 2 ^ 30 && c.1 % 2 == par)
  (List.range 256).map (fun s => if s == 0 then 2 ^ 29 - cs.length else countBy (fun c => c.2.toNat == s) cs)

/-- Code lengths for a histogram: those the device builds when they are 1 to 16 bits for every symbol that occurs and leave
room for a code of each; else 8 bits for every symbol. -/
def codeTable (hist : List Nat) : List Nat :=
  let l := Config.codeLengths hist
  if l.length == 256 && l.all (fun n => decide (n ≤ 16)) && (List.range 256).all (fun s => hist.getD s 0 == 0 || l.getD s 0 != 0) &&
    sumBy (fun n => if n == 0 then 0 else 2 ^ (16 - n)) l ≤ 2 ^ 16 then l
  else List.replicate 256 8

/-- A chunk of a delta object encoded in place: its blocks beyond the stored sectors become invalid. One that fits in no coded form
is stored as 128 sectors of delta elements under codec none; its blocks that stand so already are left (R87, R102). -/
def Dev.sealChunk (p cls : Nat) (c : Codes) (d : Dev) (ch : Nat) : Dev :=
  let blks := (List.range 16).map (fun i => ch * 16 + i)
  let k := pageKey p (ch / 16)
  let t := d.medium k
  let old := sumBy (fun b => if d.blkValid p b then 32 * (d.meta (blkKey p b)).sectors else 0) blks
  let d0 := d.chargeTier t false cls (2 * old)
  let lo := ch % 16 * 16
  match encodeChunk c (d.bytes p (ch * 4096) 4096) with
  | none =>
    let anew := blks.filter (fun b => !(d.blkValid p b && (d.meta (blkKey p b)).codec == 0))
    let d1 := anew.foldl (fun d b => d.setMeta (blkKey p b) Meta.zero) d0
    (d1.setValid k ((d1.page k).valid ||| (2 ^ (lo + 16) - 2 ^ lo))).chargeTier t true cls (256 * anew.length)
  | some (n, bs) =>
    let nb := ceilDiv n 8
    let d1 := { d0 with mm := { d0.mm with cells := cellsPut (cellKey p (ch * 4096)) (bs ++ zeros (4096 - bs.length)) d0.mm.cells } }
    let d2 := blks.foldl (fun d b =>
      d.setMeta (blkKey p b) (if b % 16 < nb then ⟨Min.min 8 (n - 8 * (b % 16)), false, 4, false⟩ else Meta.zero)) d1
    let v := (d2.page k).valid
    (d2.setValid k (v &&& (validAll - (2 ^ (lo + 16) - 2 ^ lo)) ||| (2 ^ (lo + nb) - 2 ^ lo))).chargeTier t true cls (32 * n)

/-- The chunks of the pages of an object that are not NONE (R240). -/
def Dev.homedChunks (d : Dev) (p : Nat) (o : Obj) : List Nat :=
  (d.pagesOf p o).flatMap (fun e =>
    if e.2.home.isSome then (List.range 16).map (fun i => e.1 % 2 ^ 32 * 16 + i) else [])

/-- Whether a chunk holds a poisoned block. -/
def Dev.chunkPoison (d : Dev) (p ch : Nat) : Bool := (List.range 16).any (fun i => d.blkPoison p (ch * 16 + i))

/-- The two passes of a seal over chunks in ascending order (Table 03.12, steps 2 to 4). -/
def Dev.sealChunks (d : Dev) (p : Nat) (o : Obj) (codes : List (Nat × Codes)) (chs : List Nat) : Dev :=
  chs.foldl (fun d ch => Dev.sealChunk p (d.rd (K.migrationClass + p)) (kget ⟨[], []⟩ (ch / 2 ^ 18 - o.ext) codes) d ch) d

/-- The code tables of a seal, one set for each extent (step 3). -/
def Dev.sealCodes (d : Dev) (p : Nat) (o : Obj) : List (Nat × Codes) :=
  (List.range o.n).map (fun i => (i, Codes.mk (codeTable (d.histogram p (o.ext + i) 1)) (codeTable (d.histogram p (o.ext + i) 0))))

/-- A seal that meets a poisoned block: the object keeps its kind. Poison that was there at the start is met in the first pass; poison
that came later in either pass, a free choice, and in the second the chunks before it stay coded (R104; log entry 132). -/
def Dev.sealPoisoned (d : Dev) (p obj : Nat) (o : Obj) (x : Seal) : Dev :=
  let d1 := if x.clean && Config.roundUp d.fresh then
      d.sealChunks p o (d.sealCodes p o) ((d.homedChunks p o).takeWhile (fun ch => !d.chunkPoison p ch))
    else d
  (((d1.drawn.setObj p obj { o with sealing := none }).adminDone x.h 0x20 0x000B 0).startSeals).settle

/-- Whether a seal meets an arbiter that a locked sequence holds (R297), or is held by the cap of its class (R287). -/
def Dev.sealLocked (d : Dev) (p : Nat) (o : Obj) : Bool := d.pagesHeld (fun _ => false) ((d.pagesOf p o).map (·.1))
def Dev.sealCapped (d : Dev) (p : Nat) (o : Obj) (cls : Nat) : Bool :=
  let ks := (d.pagesOf p o).map (·.1)
  d.capPages ks false cls || d.capPages ks true cls

/-- The end of the seal of an object (Table 03.12, steps 2 to 6). -/
def Dev.sealDone (d : Dev) (p obj : Nat) : Dev :=
  match d.obj p obj with
  | none => d
  | some o =>
    match o.sealing with
    | none => d
    | some x =>
      let cls := d.rd (K.migrationClass + p)
      if !x.started || d.sealLocked p o then d
      else if d.sealCapped p o cls then d.noteHeld 2 (p * 2 ^ 16 + obj) cls
      else if d.objPoison p o then d.sealPoisoned p obj o x
      else
        let codes := d.sealCodes p o
        (((((d.sealChunks p o codes (d.homedChunks p o)).setObj p obj { o with
          kind := 6, fmt := x.fmt, declMode := x.mode, declSectors := if x.mode == 0 then x.sectors else 0, base := x.base,
          sealing := none, codes := codes }).adminOk x.h 0).startSeals)).settle

/-! ## Sharing (R126, R127) -/

/-- The refusal of SHARE_EXPORT (R126). -/
def Dev.shareCheck (d : Dev) (p obj acc : Nat) : Option (Nat × Nat) :=
  match d.obj p obj with
  | none => some (0x11, 0x0004)
  | some o =>
    if 1 < acc then some (0x11, 0x0003)
    else if !d.mm.shareOn || o.kind == 3 || o.kind == 6 || o.aliasOf.isSome then some (0x11, 0x0008) else none

/-- The refusal of SHARE_WITHDRAW. -/
def Dev.withdrawCheck (d : Dev) (p obj : Nat) : Option (Nat × Nat) :=
  match d.obj p obj with
  | none => some (0x11, 0x0004)
  | some o => if o.exported.isNone then some (0x11, 0x0008) else none

/-- An export taken back: its aliases go first (R127). -/
def Dev.withdrawDo (d : Dev) (h : Adm) (p obj : Nat) : Dev :=
  (((d.aliasTree p obj).eraseDups.foldl (Dev.addClear .destroy none) d).addClear .withdraw (some h) (p, obj)).settle

/-- The refusal of SHARE_IMPORT (R127, R406). -/
def Dev.importCheck (d : Dev) (p al owner acc oobj off : Nat) : Option (Nat × Nat) :=
  let no := fun dt => some (0x11, dt)
  if 64 ≤ owner || 1 < acc || off % 2 ^ 30 != 0 then no 0x0003
  else if !bit (d.rd (K.importMask + owner)) p then no 0x0009
  else match d.obj owner oobj with
    | none => no 0x0004
    | some o =>
      if o.exported.isNone || (acc == 1 && o.exported != some true) then no 0x0008
      else if runBad off o.n then no 0x0003
      else if (d.obj p al).isSome || d.runTaken p (off / 2 ^ 30) o.n then no 0x0004
      else if d.partlyMirrored p (off / 2 ^ 30) o.n then no 0x0003 else none

/-- An alias created, with the exported object's extent count and view record. -/
def Dev.importDo (d : Dev) (h : Adm) (p al owner acc oobj off : Nat) : Dev :=
  match d.obj owner oobj with
  | none => d.adminRefuse h 0x0004
  | some o =>
    (d.setObj p al { newObj (off / 2 ^ 30) o.n 0 0 0 with
      kind := o.kind, fmt := o.fmt, stoch := o.stoch, declMode := o.declMode, declSectors := o.declSectors, scalePage := o.scalePage,
      backing := o.backing, base := o.base, aliasOf := some (owner, oobj), aliasRw := acc == 1 }).adminOk h 0

/-! ## ACCEPT_STALE -/

/-- The refusal of ACCEPT_STALE (R146). -/
def Dev.staleCheck (d : Dev) (p count off : Nat) : Option (Nat × Nat) :=
  if off % 64 != 0 || count < 1 || 65536 < count then some (0x11, 0x0003)
  else match d.objAt p off with
    | none => some (0x11, 0x0003)
    | some (_, o) =>
      if (o.ext + o.n) * 2 ^ 30 < off + 64 * count then some (0x11, 0x0003)
      else if o.aliasOf.isSome then some (0x11, 0x0008) else none

/-- The orphaned lines of a range returned to I (R146). -/
def Dev.staleDo (d : Dev) (h : Adm) (p count off : Nat) : Dev :=
  let a := lineKey p (off / 64)
  ((d.coh.dir.filter (fun e => a ≤ e.1 && e.1 < a + count && e.2.st == .orph)).foldl (fun d e => (d.dirDel e.1).dirLog e.1) d).adminOk h 0

/-! ## Commands on objects, and on mirrored ones (R182, R411) -/

/-- The refusal of a command on an object, by its own checks. -/
def Dev.cmdCheck (d : Dev) (p : Nat) : ObjCmd → Option (Nat × Nat)
  | .create obj n off k desc => d.objCreateCheck p obj n off k desc
  | .place obj desc => d.objPlaceCheck p obj desc
  | .destroy obj => d.objThere p obj
  | .viewSet obj kind fmt => d.viewSetCheck p obj kind fmt
  | .viewCreate win kind fmt v off backing stoch => d.viewCreateCheck p win kind fmt v off backing stoch
  | .seal obj base fmt mode sectors => d.sealCheck p obj base fmt mode sectors
  | .share obj acc => d.shareCheck p obj acc
  | .withdraw obj => d.withdrawCheck p obj
  | .imp al owner acc oobj off => d.importCheck p al owner acc oobj off
  | .acceptStale count off => d.staleCheck p count off

/-- A command on an object carried out; it completes `h`, at once or at its end. -/
def Dev.cmdDo (d : Dev) (h : Adm) (p : Nat) : ObjCmd → Dev
  | .create obj n off k desc => d.objCreateDo h p obj n off k desc
  | .place obj desc => d.objPlaceDo h p obj desc
  | .destroy obj => d.objDestroyDo h p obj
  | .viewSet obj kind fmt => d.viewSetDo h p obj kind fmt
  | .viewCreate win kind fmt v off backing stoch => d.viewCreateDo h p win kind fmt v off backing stoch
  | .seal obj base fmt mode sectors => d.sealDo h p obj base fmt mode sectors
  | .share obj acc => (d.modObj p obj (fun o => { o with exported := some (acc == 1) })).adminOk h 0
  | .withdraw obj => d.withdrawDo h p obj
  | .imp al owner acc oobj off => d.importDo h p al owner acc oobj off
  | .acceptStale count off => d.staleDo h p count off

/-- The object numbers that a command names, with their partitions. -/
def cmdNames (p : Nat) : ObjCmd → List (Nat × Nat)
  | .create obj _ _ _ _ => [(p, obj)]
  | .place obj _ => [(p, obj)]
  | .destroy obj => [(p, obj)]
  | .viewSet obj _ _ => [(p, obj)]
  | .viewCreate win _ _ _ _ backing _ => [(p, win), (p, backing)]
  | .seal obj base _ _ _ => [(p, obj), (p, base)]
  | .share obj _ => [(p, obj)]
  | .withdraw obj => [(p, obj)]
  | .imp al owner _ oobj _ => [(p, al), (owner, oobj)]
  | .acceptStale _ _ => []

/-- Whether a command acts on a mirrored object of a PRIMARY partition (R411). -/
def Dev.cmdMirrored (d : Dev) (p : Nat) (c : ObjCmd) : Bool :=
  d.pairRole p == 1 && (match c with
    | .create _ n off _ _ => d.runMirrored p (off / 2 ^ 30) n
    | .viewCreate _ _ _ v off _ _ => d.runMirrored p (off / 2 ^ 30) v
    | .imp _ owner _ oobj off => (d.obj owner oobj).any (fun o => d.runMirrored p (off / 2 ^ 30) o.n)
    | .acceptStale _ off => (d.objAt p off).any (fun e => d.objMirrored p e.2)
    | .place obj _ | .destroy obj | .viewSet obj _ _ | .seal obj _ _ _ _ | .share obj _ | .withdraw obj =>
      (d.obj p obj).any (fun o => d.objMirrored p o))

/-- Whether an earlier command on an object number has not ended (R182); a seal does not hold back OBJ_DESTROY (R104). -/
def Dev.numberBusy (d : Dev) (destroy : Bool) (x : Nat × Nat) : Bool :=
  d.clearOn x.1 x.2 || d.pr.cmds.any (fun c => (cmdNames c.h.fn.num c.cmd).contains x) ||
  (d.obj x.1 x.2).any (fun o => o.placing.isSome || o.viewTo.isSome || (o.sealing.isSome && !destroy))

/-- Whether a command waits: for an earlier one on the same number, or on a mirrored object for the pair (R418, R421). -/
def Dev.cmdWaits (d : Dev) (p : Nat) (c : ObjCmd) : Bool :=
  (cmdNames p c).any (d.numberBusy (match c with
    | .destroy _ => true
    | _ => false)) ||
  (d.cmdMirrored p c && (d.pr.st == .partnerLost || d.pr.handing == some p || (d.pr.st == .mirrored && !d.logRoom)))

/-- A command that its checks let pass: on a mirrored object first sent to the partner (R411). -/
def Dev.cmdGo (d : Dev) (h : Adm) (p : Nat) (c : ObjCmd) : Dev :=
  if d.cmdMirrored p c && (d.pr.st == .mirrored || d.pr.st == .syncing) then
    let d1 := d.logSend [⟨p, .command c⟩]
    { d1 with pr := { d1.pr with cmds := d1.pr.cmds ++ [MirCmd.mk (d1.pr.txSeq - 1) h c] } }
  else d.cmdDo h p c

/-- A command on an object by the admin queue of a function. -/
def Dev.objAdmin (d : Dev) (h : Adm) (served : Bool) (c : ObjCmd) : Dev :=
  let p := h.fn.num
  if d.cmdWaits p c && (d.admBar h served).isNone then d
  else d.admin h served (fun d h =>
    if d.cmdMirrored p c && d.pr.st == .fenced then d.adminFenced h
    else d.admTry h (d.cmdCheck p c) (fun d => d.cmdGo h p c))

/-- OBJ_CREATE (R49). -/
def execObjCreate (h : Adm) (obj n off k desc : Nat) (s : State) : Res := ok s (s.dev.objAdmin h false (.create obj n off k desc))

/-- OBJ_PLACE (R45). -/
def execObjPlace (h : Adm) (obj desc : Nat) (s : State) : Res := ok s (s.dev.objAdmin h false (.place obj desc))

/-- OBJ_DISCARD (R42). -/
def execObjDiscard (h : Adm) (obj first count : Nat) (s : State) : Res :=
  ok s (let d := s.dev
    let p := h.fn.num
    if (d.numberBusy false (p, obj) || d.discardWaits p obj first count) && (d.admBar h false).isNone then d
    else d.admin h false (fun d h =>
      if (d.obj p obj).any (fun o => d.leaseFenced p o) then d.adminFenced h
      else d.admTry h (d.objDiscardCheck p obj first count) (fun d => d.objDiscardDo h p obj first count)))

/-- OBJ_QUERY (R47, R86); a fenced partition is served too (R309). -/
def execObjQuery (h : Adm) (obj loc count first ep addr : Nat) (s : State) : Res :=
  ok s (if s.dev.numberBusy false (h.fn.num, obj) && (s.dev.admBar h true).isNone then s.dev
    else s.dev.admin h true (fun d h =>
      d.admTry h (d.objQueryCheck h obj loc count first ep addr) (fun d => d.objQueryDo h obj loc count first ep addr)))

/-- OBJ_DESTROY (R47, R86, R127); a fenced partition is served too (R309). -/
def execObjDestroy (h : Adm) (obj : Nat) (s : State) : Res := ok s (s.dev.objAdmin h true (.destroy obj))

/-- VIEW_SET (R83). -/
def execViewSet (h : Adm) (obj kind fmt : Nat) (s : State) : Res := ok s (s.dev.objAdmin h false (.viewSet obj kind fmt))

/-- VIEW_SET_TH_DRAINED (R84). -/
def execViewSetThDrained (part obj : Nat) (s : State) : Res := ok s (s.dev.viewDrained part obj)

/-- VIEW_CREATE (R85). -/
def execViewCreate (h : Adm) (win kind fmt v off backing stoch : Nat) (s : State) : Res :=
  ok s (s.dev.objAdmin h false (.viewCreate win kind fmt v off backing stoch))

/-- DELTA_SEAL (R104). -/
def execDeltaSeal (h : Adm) (obj base fmt mode sectors : Nat) (s : State) : Res :=
  ok s (s.dev.objAdmin h false (.seal obj base fmt mode sectors))

/-- SEAL_DONE (R104). -/
def execSealDone (part obj : Nat) (s : State) : Res := ok s (s.dev.sealDone part obj)

/-- SHARE_EXPORT (R126). -/
def execShareExport (h : Adm) (obj acc : Nat) (s : State) : Res := ok s (s.dev.objAdmin h false (.share obj acc))

/-- SHARE_WITHDRAW (R127). -/
def execShareWithdraw (h : Adm) (obj : Nat) (s : State) : Res := ok s (s.dev.objAdmin h false (.withdraw obj))

/-- SHARE_IMPORT (R127). -/
def execShareImport (h : Adm) (al owner acc oobj off : Nat) (s : State) : Res :=
  ok s (s.dev.objAdmin h false (.imp al owner acc oobj off))

/-- ACCEPT_STALE (R146). -/
def execAcceptStale (h : Adm) (count off : Nat) (s : State) : Res := ok s (s.dev.objAdmin h false (.acceptStale count off))

/-! ## Clearing -/

/-- One extent of a partition cleared, for the oldest job that has one (R40). -/
def Dev.extentCleared (d : Dev) (p : Nat) : Dev :=
  match d.mm.clearing.find? (fun c => c.part == p && c.left != 0) with
  | some c => (d.putClear c (some { c with left := c.left - 1 })).settle
  | none => d

/-- EXTENT_CLEAR_DONE (R40). -/
def execExtentClearDone (part : Nat) (s : State) : Res := ok s (s.dev.extentCleared part)

/-! ## GRANT and REVOKE (R129 to R131) -/

/-- Whether a run of extents leaves the partition's range. -/
def extentsBad (first count : Nat) : Bool := count < 1 || rangeExtents < first + count

/-- The refusal of GRANT (R129, R131). -/
def Dev.grantCheck (d : Dev) (p slot acc count first : Nat) : Option (Nat × Nat) :=
  let no := fun dt => some (0x11, dt)
  let met := d.grantsOver slot p first count
  if 4096 ≤ slot || 1 < acc then no 0x0003
  else if !d.slotActive slot then no 0x0008
  else if slPartition (d.slot slot) != p then no 0x0009
  else if extentsBad first count then no 0x0003
  else if met.any (fun g => g.drain.isSome) then no 0x0008
  else if !met.isEmpty then no 0x0004
  else if d.rd (K.grantQuota + p) ≤ d.grantsUsed p || 65536 ≤ d.coh.grants.length then no 0x0005
  else none

/-- A grant record written and its host told (Table 04.4, G1 to G3). -/
def Dev.grantDo (d : Dev) (h : Adm) (slot acc count first : Nat) : Dev :=
  let p := h.fn.num
  let d1 := ({ d with coh := { d.coh with grants := d.coh.grants ++ [Grant.mk slot p first count (acc == 1) none] } }).logState p
    (.grant slot first count (acc == 1) false)
  if slMode (d.slot slot) == 2 then d1.dcQueue (slPort (d.slot slot)) 0 first count (acc == 1) [h]
  else (d1.notice opGrantNotice slot first count acc).adminOk h 0

/-- GRANT (R129). -/
def execGrant (h : Adm) (slot acc count first : Nat) (s : State) : Res :=
  ok s (s.dev.admin h false (fun d h =>
    d.admTry h (d.grantCheck h.fn.num slot acc count first) (fun d => d.grantDo h slot acc count first)))

/-- The refusal of REVOKE (R131): the split needs free records. -/
def Dev.revokeCheck (d : Dev) (p slot count first : Nat) : Option (Nat × Nat) :=
  let more := (d.splitGrants slot p first count).length - d.coh.grants.length
  if 4096 ≤ slot || extentsBad first count then some (0x11, 0x0003)
  else if more != 0 && (d.rd (K.grantQuota + p) < d.grantsUsed p + more || 65536 < d.coh.grants.length + more) then some (0x11, 0x0005)
  else none

/-- REVOKE carried out (V1): a run without record completes at once, one that drains with the last of its drains (R131). -/
def Dev.revokeDo (d : Dev) (h : Adm) (slot count first : Nat) : Dev :=
  let p := h.fn.num
  let met := d.grantsOver slot p first count
  let ids := met.filterMap (fun g => g.drain)
  let d1 := { d with coh := { d.coh with
      revokes := d.coh.revokes.map (fun r => if ids.contains r.id then { r with hs := r.hs ++ [h] } else r) } }
  if met.any (fun g => g.drain.isNone) then d1.startRevoke slot p first count [h]
  else if ids.isEmpty then d.adminOk h 0
  else d1

/-- REVOKE (R130). -/
def execRevoke (h : Adm) (slot count first : Nat) (s : State) : Res :=
  ok s (s.dev.admin h true (fun d h =>
    d.admTry h (d.revokeCheck h.fn.num slot count first) (fun d => d.revokeDo h slot count first)))

/-- Whether requests of the slot to the run of a revoke are still on their way (V2). -/
def Dev.revokeBusy (d : Dev) (r : Revoke) : Bool :=
  (d.mm.held.map (fun x => x.r) ++ d.pr.holds.filterMap (fun x => x.answer)).any (fun x =>
    x.kind.hosted && d.reqPart x == some r.part && d.reqSlot x r.part == some r.slot &&
    r.first ≤ x.q.off / 2 ^ 30 && x.q.off / 2 ^ 30 < r.first + r.count)

/-- The notice or record of a revoke, and the recall of every line that the slot holds in the run (V3, V4). Lines under
another recall follow in turn. -/
def Dev.revokeRecall (d : Dev) (r : Revoke) : Dev :=
  let d1 := if slMode (d.slot r.slot) == 2 then d.dcQueue (slPort (d.slot r.slot)) 1 r.first r.count false []
    else d.notice opRevokeNotice r.slot r.first r.count 0
  let d2 := d1.revokeRecallLines r
  { d2 with coh := { d2.coh with revokes := d2.coh.revokes.map (fun x => if x.id == r.id then { x with st := .v4 } else x) } }

/-- REVOKE_DRAINED (R130): once nothing of the slot is on its way. -/
def Dev.revokeDrained (d : Dev) (op : Nat) : Dev :=
  match d.coh.revokes.find? (fun r => r.id == op) with
  | some r => if r.st == .v2 && !d.revokeBusy r then (d.revokeRecall r).settle else d
  | none => d

/-- REVOKE_DRAINED (R130). -/
def execRevokeDrained (op : Nat) (s : State) : Res := ok s (s.dev.revokeDrained op)

/-- RELEASE_TIMEOUT_EXPIRY (R130, R355): the forced record is queued, the commands complete once it stands in the log, the records
are freed. -/
def Dev.releaseExpired (d : Dev) (op : Nat) : Dev :=
  match d.coh.revokes.find? (fun r => r.id == op) with
  | some r =>
    let last := r.hs.filter (fun h => !d.coh.revokes.any (fun x => x.id != r.id && x.hs.contains h))
    if r.st == .v5 then ((d.dcQueue (slPort (d.slot r.slot)) 2 r.first r.count false last).revokeEnd { r with hs := [] }).settle else d
  | none => d

/-- RELEASE_TIMEOUT_EXPIRY (R130). -/
def execReleaseTimeoutExpiry (op : Nat) (s : State) : Res := ok s (s.dev.releaseExpired op)

end Sys2Proof.Machine
end

