-- ==== Sys2Proof/Machine/Loads.lean ====
section
/-! DEFINITION. Loads, stores and coherence messages of hosts (R115 to R119, R136 to R147, R342 to R350), BAR2 accesses (R340),
responses to the device's own requests (R345 to R348), and broken locks (R298). -/

namespace Sys2Proof.Machine

/-! ## Messages of Table 11.12 and CXL.mem requests -/

/-- Whether loads and stores reach the device on a port: it is operational and the port runs native or CXL mode with its link
up. -/
def Dev.hostPort (d : Dev) (port : Nat) : Bool :=
  d.operational && port < 22 && d.linkUp port && (d.native port || d.cxl port)

/-- A UBL message of an unknown OPCODE: counted, and a non-posted one answered with NO_RESERVATION (R348). -/
def Dev.ublUnknown (d : Dev) (port src dst off tag pool : Nat) (nonPosted : Bool) : Dev :=
  let d1 := d.inc K.ublMalformed
  if nonPosted then d1.emit (.ubl port opResp src dst off tag pool false 0x11 []) else d1

/-- Whether requests of a class from a port are withheld: its ingress holds 64 of the class, and in native mode keeps back credits of that class
alone, in CXL mode and for BAR2 those of the link (R287). The host then sends none. -/
def Dev.ingressFull (d : Dev) (port cls : Nat) (native : Bool) : Bool :=
  let cnt := fun c => countBy (fun x : Held => x.why == .cls && x.r.q.port == port && x.r.cls == c) d.mm.held
  if native then 64 ≤ cnt cls else (List.range 16).any (fun c => 64 ≤ cnt c)

/-- The class of a host's request (R277): LS_CLASS of the partition that it addresses. -/
def Dev.hostCls (d : Dev) (r : HostReq) : Nat := ((d.reqPart r).map d.lsCls).getD 0

/-- A line request of a host: its message needs feature bit `feat` of the link, without which its OPCODE is unknown; a native
message names an aligned line (R347, R348). -/
def Dev.hostLine (d : Dev) (kind : HKind) (feat : Nat) (q : HReq) (mask : Nat) (data : List Byte) (med : Med) : Dev :=
  if !d.hostPort q.port then d
  else if d.native q.port && (!bit (d.port q.port).feats feat || q.off % 64 != 0) then
    d.ublUnknown q.port q.src q.dst q.off q.tag q.pool (kind != .evict)
  else if d.cxl q.port && kind == .evict then d
  else
    let r : HostReq := ⟨kind, { q with off := q.off / 64 * 64 }, ⟨q.port, 0⟩, 64, mask, data, med, 0⟩
    if d.ingressFull q.port (d.hostCls r) (d.native q.port) then d else (d.request { r with cls := d.hostCls r }).settle

/-- RD_SHARED (R136). -/
def execRdShared (q : HReq) (med : Med) (s : State) : Res := ok s (s.dev.hostLine .rdShared 1 q 0 [] med)

/-- RD_OWN (R136). -/
def execRdOwn (q : HReq) (med : Med) (s : State) : Res := ok s (s.dev.hostLine .rdOwn 1 q 0 [] med)

/-- RD_UNCACHED (R136). -/
def execRdUncached (q : HReq) (med : Med) (s : State) : Res := ok s (s.dev.hostLine .rdUncached 0 q 0 [] med)

/-- WR_UNCACHED (R136). -/
def execWrUncached (q : HReq) (mask : BitVec 64) (data : List Byte) (med : Med) (s : State) : Res :=
  ok s (s.dev.hostLine .wrUncached 0 q mask.toNat data med)

/-- WR_BACK (R136). -/
def execWrBack (q : HReq) (data : List Byte) (s : State) : Res := ok s (s.dev.hostLine .wrBack 1 q (2 ^ 64 - 1) data .good)

/-- EVICT (R136). -/
def execEvict (q : HReq) (s : State) : Res := ok s (s.dev.hostLine .evict 1 q 0 [] .good)

/-- UBL_UNKNOWN_OPCODE (R348). -/
def execUblUnknownOpcode (port src dst tag _opcode : Nat) (nonPosted : Bool) (s : State) : Res :=
  ok s (if s.dev.linkUp port && s.dev.native port then s.dev.ublUnknown port src dst 0 tag 0 nonPosted
    else if 22 ≤ port && s.dev.linkUp port then s.dev.inc K.ublMalformed else s.dev)

/-! ## Answers to recalls -/

/-- An answer to a recall (R137, R147): one to a line already orphaned is discarded and counted. -/
def Dev.recallReply (d : Dev) (port tag : Nat) (data : Option (List Byte)) : Dev :=
  match d.coh.recalls.find? (fun r => r.tag == tag && r.port == port) with
  | some r =>
    (match data with
      | none => d.recallAnswered r.line r.slot none
      | some bs => d.request ⟨.recallData r.slot, ⟨port, r.line / 2 ^ 42, r.line / 2 ^ 42, r.line % 2 ^ 42 * 64, tag, 0, false, false, 0, false⟩,
          ⟨port, 0⟩, 64, 2 ^ 64 - 1, bs, .good, 0⟩).settle
  | none =>
    if d.coh.lateTags.contains (port, tag) then
      ({ d with coh := { d.coh with lateTags := d.coh.lateTags.erase (port, tag) } }).inc K.lateRecallResponses
    else d

/-- RECALL_ACK (R137). -/
def execRecallAck (port tag : Nat) (s : State) : Res := ok s (s.dev.recallReply port tag none)

/-- RECALL_DATA (R137). -/
def execRecallData (port tag : Nat) (data : List Byte) (s : State) : Res := ok s (s.dev.recallReply port tag (some data))

/-- A recall that timed out (R143): counted; its slot becomes LOST. A slot that is no longer ACTIVE only ends the recall. -/
def Dev.recallExpired (d : Dev) (tag : Nat) : Dev :=
  match d.coh.recalls.find? (fun r => r.tag == tag) with
  | none => d
  | some r =>
    if d.mm.held.any (fun x => x.r.kind == .recallData r.slot && lineKey x.r.q.dst (x.r.q.off / 64) == r.line) then d else
    let d1 := d.inc K.recallTimeouts
    if d1.slotActive r.slot then (d1.hostLost r.slot).settle
    else match d1.dirGet r.line with
      | some e => (if e.st == .ro && e.vec == r.slot then d1.orphan r.line e else d1.recallAnswered r.line r.slot none).settle
      | none => (d1.recallAnswered r.line r.slot none).settle

/-- RECALL_TIMEOUT_EXPIRY (R143). -/
def execRecallTimeoutExpiry (tag : Nat) (s : State) : Res := ok s (s.dev.recallExpired tag)

/-- BICONFLICT (R139): the device acknowledges; the host's request for the line takes part in the recall as R137 says, whichever
came first. -/
def execBiconflict (port tag : Nat) (_reqFirst : Bool) (s : State) : Res :=
  ok s (let d := s.dev
    if d.cxl port && d.coh.recalls.any (fun r => r.tag == tag && r.port == port) then d.emit (.cxlConflictAck port tag) else d)

/-! ## BAR2 -/

/-- Whether a BAR2 access reaches a window: the function has the register and the offset lies in it (R339, R340). -/
def Dev.bar2There (d : Dev) (f : FnId) (off : Nat) : Bool := (d.fn f).bar2On && !d.placeholder f && off < 2 ^ (d.fn f).bar2Log2

/-- One BAR2 request within a 4 KiB range. -/
def Dev.bar2One (d : Dev) (kind : HKind) (f : FnId) (off tag len : Nat) (data : List Byte) (poisoned : Bool) (med : Med) : Dev :=
  let q : HReq := ⟨f.port, 0, f.num, d.rd (K.ofPart K.bar2Offset f.num) + off, tag, 0, false, false, 0, poisoned⟩
  let r : HostReq := ⟨kind, q, f, len, 2 ^ len - 1, data, med, d.lsCls f.num⟩
  if d.mse f && d.bar2There f off then ((if poisoned then d.aer f 1 aerPoisoned else d).request r).settle else d.refuseBar r 1

/-- A BAR2 access, in two requests where it crosses a 4 KiB boundary (R340). A function in its reset answers with Unsupported Request
(Table 10.6, step F1). -/
def Dev.bar2 (d : Dev) (kind : HKind) (f : FnId) (off tag len : Nat) (data : List Byte) (poisoned : Bool) (med : Med) : Dev :=
  let first := 4096 - off % 4096
  if !d.barUp f then (if kind == .barRead && d.fnExists f && d.linkUp f.port && d.configOpen then d.emit (.cpl f tag 1 [] false) else d)
  else if d.ingressFull f.port 0 false then d
  else if len ≤ first then d.bar2One kind f off tag len data poisoned med
  else (d.bar2One kind f off tag first (data.take first) poisoned med).bar2One kind f (off + first) tag (len - first) (data.drop first)
    poisoned med

/-- BAR2_READ (R340). -/
def execBar2Read (fn : FnId) (off len tag : Nat) (med : Med) (s : State) : Res :=
  ok s (s.dev.bar2 .barRead fn off tag len [] false med)

/-- BAR2_WRITE (R340). -/
def execBar2Write (fn : FnId) (off : Nat) (data : List Byte) (poisoned : Bool) (med : Med) (s : State) : Res :=
  ok s (s.dev.bar2 .barWrite fn off 0 data.length data poisoned med)

/-! ## Responses to the device's requests -/

/-- The request outstanding under a tag on a port. -/
def Dev.tagOf (d : Dev) (tag : Nat) : Option OutTag := d.tags.find? (fun t => t.tag == tag && !t.quarantined)

/-- A tag freed. -/
def Dev.dropTag (d : Dev) (tag : Nat) : Dev := { d with tags := d.tags.filter (fun t => t.tag != tag) }

/-- The line of a page that a lender returned put in its place (R66). -/
def Dev.thFill (d : Dev) (l : Nat) (data : List Byte) : Dev :=
  let p := l / 2 ^ 42
  if (d.thHome (l / 1024)).isSome && data.length == 64 && d.blkValid p (l % 2 ^ 42 / 4) then d.setBytes p (l % 2 ^ 42 * 64) data else d

/-- A page whose lender returned poisoned data: every block of it is poisoned, lent memory having no marks of blocks (R79). -/
def Dev.thPoison (d : Dev) (k : Nat) : Dev :=
  if (d.thHome k).isSome then (pageBlks k).foldl (fun d b => d.poisonBlock (pagePart k) (b % 2 ^ 40)) d else d

/-- An answer of a lender to the read of a line, for an access that waits or for the copy of a page. -/
def Dev.thAnswer (d : Dev) (status : Nat) (l : Nat) (data : List Byte) : Dev :=
  if status == 0x20 then d.thPoison (l / 1024) else d.thFill l data

/-- A failed access of the device, by what it was issued for (R345): a queue or buffer of a channel (R193), an admin or event queue
(R181, R318), a notify write (R206), a TH page (R68), a stream operation (R254). -/
def Dev.useFailed (d : Dev) (u : TagUse) : Dev :=
  match u with
  | .cqWrite k => ((d.cqeFailed k).cqPump k).settle
  | .descFetch k | .chanData k => (d.haltChan k none 0x30 0x000A).settle
  | .gone => d
  | .notify _ => d.inc K.notifyFailures
  | .adminQ f => d.admFailed f
  | .eventQ f => d.setFn f { d.fn f with eq := { (d.fn f).eq with accFail := true } }
  | .th i | .thLine i _ _ | .thCopy i _ => (if lendState (d.lendEntry i) == 5 then d else d.lenderLost i).settle
  | .stream c op =>
    (match (d.clu c).chan with
      | some k => if (d.clu c).streams.any (fun o => o.id == op) then (d.haltChan k none 0x30 0x000A).settle else d
      | none => d)

/-- An answer with data: to a read of lent memory, to the fetch of a descriptor, or to a stream load, whose data are taken
when the operation ends (STREAM_COMPLETE). Poisoned data of a lender poisons the page
(R79). -/
def Dev.dataAnswer (d : Dev) (t : OutTag) (status : Nat) (data : List Byte) : Dev :=
  let d1 := d.dropTag t.tag
  match t.use with
  | .descFetch k =>
    (match d1.chan k with
      | some c => d1.fetchDsc k c (if status == 0 then .data data else .failed)
      | none => d1)
  | .thLine _ who l =>
    if status == 0 || status == 0x20 then
      let d2 := d1.thAnswer status l data
      ({ d2 with mm := { d2.mm with thGot := d2.mm.thGot ++ [(who, l)] } }).settle
    else d1.useFailed t.use
  | .thCopy _ k =>
    if status == 0 || status == 0x20 then
      (match kfind k d1.mm.migs with
        | some m => d1.thAnswer status (k * 1024 + (m.next - 1)) data
        | none => d1).settle
    else d1.useFailed t.use
  | .stream _ _ => if status == 0 then d1 else d1.useFailed t.use
  | _ => d1

/-- RESP_DATA (R348): on the port of an outstanding UBL read. -/
def execRespData (port tag status : Nat) (data : List Byte) (s : State) : Res :=
  ok s (match s.dev.tagOf tag with
    | some t => if t.ubl && t.port == port then s.dev.dataAnswer t status data else s.dev
    | none => s.dev)

/-- A write of the device done: the copy of a page to a lender goes on, or a completion is written (R198). -/
def Dev.wroteLine (d : Dev) (u : TagUse) : Dev :=
  match u with
  | .thCopy _ _ => d.settle
  | .cqWrite k => ((d.cqeWritten k).cqPump k).settle
  | _ => d

/-- RESP (R348): the write is done, or the access failed. -/
def execResp (port tag status : Nat) (s : State) : Res :=
  ok s (match s.dev.tagOf tag with
    | some t =>
      if !t.ubl || t.port != port then s.dev
      else if failed status then (s.dev.dropTag tag).useFailed t.use else (s.dev.dropTag tag).wroteLine t.use
    | none => s.dev)

/-- LATE_COMPLETION (R346): discarded, counted and logged as advisory; the tag leaves quarantine. -/
def execLateCompletion (tag : Nat) (s : State) : Res :=
  ok s (match s.dev.tags.find? (fun t => t.tag == tag && t.quarantined) with
    | some t =>
      let d := (s.dev.dropTag tag).inc K.lateCompletions
      (match t.fn with
        | some f => if t.ubl then d else d.aer f 0 aerAdvisory
        | none => d)
    | none => s.dev)

/-- TAG_QUARANTINE_EXPIRY (R315). -/
def execTagQuarantineExpiry (tag : Nat) (s : State) : Res :=
  ok s ({ s.dev with tags := s.dev.tags.filter (fun t => !(t.tag == tag && t.quarantined)) })

/-! ## Broken locks -/

/-- A lock broken (R298). Of a host's, the beats that wait complete with LOCK_BROKEN, and `next` says how later beats are taken; of a
stage's, the descriptor completes with LOCK_BROKEN and the channel halts, which breaks the lock (Table 09.8). -/
def Dev.lockFails (d : Dev) (l : Lock) (next : LockSt) : Dev :=
  if l.host then
    let mine := d.mm.held.filter (fun x => x.r.ownLock l)
    let d1 := d.breakLock l (if mine.any (fun x => x.r.q.last) then none else some next)
    (mine.foldl (fun (d : Dev) (x : Held) => d.answerWrite x.r 0x22)
      { d1 with mm := { d1.mm with held := d1.mm.held.filter (fun x => !x.r.ownLock l) } }).settle
  else match (d.clu l.src).chan with
    | none => (d.breakLock l none).settle
    | some k =>
      (match d.lockDsc l with
        | some s => d.failHalt k s 0x22 0
        | none => d.haltChan k none 0x22 0).settle

/-- LOCK_TIMEOUT_EXPIRY (R298). -/
def execLockTimeoutExpiry (lock : Nat) (s : State) : Res :=
  ok s (match s.dev.bw.locks.find? (fun l => l.id == lock && l.st == .held) with
    | some l => s.dev.lockFails l .open_
    | none => s.dev)

end Sys2Proof.Machine
end

