-- ==== Sys2Proof/Machine/Cluster.lean ====
section
/-! DEFINITION. Clusters (R150 to R174, R380, R389 to R394): Buds, retirement, SRAM errors, faults of stage programs,
duplicate windows, in-field tests and the takeover. -/

namespace Sys2Proof.Machine

/-! ## Buds and retirement -/

/-- The free Buds in ascending order. -/
def Dev.freeBuds (d : Dev) : List Nat := (List.range 256).filter (fun c => (d.clu c).st == .bud)

/-- The Bud that replaces a cluster: of the same tile, else of the nearest tile, the lowest number first (R171). -/
def Dev.pickBud (d : Dev) (c : Nat) : Option Nat :=
  (tilesFrom (tileOf c)).findSome? (fun t => d.freeBuds.find? (fun b => tileOf b == t))

/-- A cluster changed. -/
def Dev.modClu (d : Dev) (c : Nat) (f : Clu → Clu) : Dev := d.setClu c (f (d.clu c))

/-- The place of a stage moved from one cluster to a Bud; the first keeps nothing of it. -/
def Dev.moveStage (d : Dev) (c b : Nat) (st : ClSt) : Dev :=
  let u := d.clu c
  let d1 := d.modClu b (fun v =>
    { v.cleared with
      st := st, logical := u.logical, chan := u.chan, stage := u.stage, rank := u.rank, prog := u.prog,
      sramLimit := u.sramLimit, feeders := u.feeders, steps := 0, sinceDup := u.sinceDup, lastClean := u.lastClean })
  let d2 := d1.setClu c
    { u.cleared with
      logical := none, chan := none, stage := 0, rank := 0, prog := [], sramLimit := 0, feeders := [], steps := 0,
      sinceDup := 0, lastClean := 0 }
  match u.logical with
  | some l => { d2 with lmap := kput l b d2.lmap }
  | none => d2

/-- The number of a retired cluster given to a Bud while more than BUD_RESERVE are free, or left vacant (R171). -/
def Dev.replaceClu (d : Dev) (c : Nat) : Dev :=
  match (d.clu c).logical with
  | none => d
  | some l =>
    match (if d.rd K.budReserve < d.freeBuds.length then d.pickBud c else none) with
    | some b => d.moveStage c b .active
    | none =>
      { d.modClu c (fun u =>
          { u.cleared with
            logical := none, chan := none, stage := 0, rank := 0, prog := [], sramLimit := 0, feeders := [] }) with
        lmap := kdel l d.lmap }

/-- The tests that fell due on clusters that hold no stage at work, started as far as four run at once (R392). -/
def Dev.startTests (d : Dev) : Dev :=
  (d.cl.filter (fun e => e.2.iftDue && (match e.2.chan with
    | some k => (d.chan k).all (fun c => c.st != .active)
    | none => true))).foldl (fun d e => d.testDue e.1) d

/-- The Bud that took over from a cluster under test keeps its number as an ACTIVE cluster (R173). -/
def Dev.keepNumber (d : Dev) (c : Nat) : Dev :=
  { d with cl := d.cl.map (fun e => if e.2.tookFrom == some c then (e.1, { e.2 with st := .active, tookFrom := none }) else e) }

/-- A cluster retired for good: its duplicate window ends, its channel is reset, and its number goes to a Bud or becomes
vacant (R167, R168, R170, R171, R174). -/
def Dev.retireClu (d : Dev) (c : Nat) : Dev :=
  let u := d.clu c
  if u.st == .retired then d
  else
    let d1 := match u.dupOf with
      | some a => d.modClu a (fun v => { v with window := none })
      | none => d
    let d2 := (d1.endWindow c).modClu c (fun v => { v with iftDue := false, iftForce := false, inPlace := false, ceTest := false })
    let d3 := match u.chan with
      | some k => d2.haltChan k none 0x30 0
      | none => d2
    let d4 := (d3.modClu c (fun v => { v.cleared with st := .retired, dupOf := none, tookFrom := none })).replaceClu c
    (d4.keepNumber c).startTests

/-- A signature record of a cluster (R399). -/
def Dev.cluSig (d : Dev) (c cls sev resp status : Nat) : Sig :=
  let u := d.clu c
  { Sig.base cls sev resp with
    status := status, unitType := 4, unit := c,
    part := (u.chan.map ctxPart).getD (ones 1), channel := (u.chan.map d.chHandle).getD (ones 4) }

/-- STATUS of the record of a cluster that leaves service: CHANNEL_RESET where an ACTIVE channel has a stage on it. -/
def Dev.cluStatus (d : Dev) (c : Nat) : Nat :=
  match (d.clu c).chan with
  | some k => if (d.chan k).any (fun x => x.st == .active) then 0x30 else 0
  | none => 0

/-! ## The descriptor that an event of a cluster concerns -/

/-- The descriptor that a cluster holds, else the oldest in the pipeline, else the oldest fetched (R153, R269). -/
def Dev.cluDsc (u : Clu) (c : Chan) (any : Bool) : Option Nat :=
  match u.cur with
  | some s => some s
  | none =>
    match c.fetched.find? (fun x => x.ph == .running) with
    | some x => some x.seq
    | none => if any then c.fetched.head?.map (·.seq) else none

/-- The channel of a cluster ended by an error of the cluster: its descriptor keeps the status, the others complete with
CHANNEL_RESET, the halt event carries the status. -/
def Dev.cluFail (d : Dev) (c status detail : Nat) : Dev :=
  let u := d.clu c
  match u.chan with
  | none => d
  | some k =>
    match d.chan k with
    | none => d
    | some ch =>
      match Dev.cluDsc u ch true with
      | some s => d.failHalt k s status detail
      | none => d.haltChan k none status detail

/-- A fault of a stage program: the record as RESULT of the descriptor, the halt, LAST_FAULT and its count (R269). -/
def Dev.stageFault (d : Dev) (c code imm : Nat) : Dev :=
  let u := d.clu c
  match u.chan with
  | none => d
  | some k =>
    match d.chan k with
    | none => d
    | some ch =>
      let rec8 := code + u.stage * 2 ^ 8 + u.rank * 2 ^ 16 + u.pc % 8192 * 2 ^ 24 + imm * 2 ^ 37
      let seq := Dev.cluDsc u ch false
      let tag := ((seq.bind (fun s => ch.fetched.find? (fun x => x.seq == s))).map (·.tag)).getD 0
      let d1 := (d.inc K.stageFaults).wr (K.lastFault + ctxPart k) (rec8 + d.chHandle k * 2 ^ 64 + tag * 2 ^ 96)
      (match seq with
        | some s =>
          (d1.modDsc k s (fun x => { x with ph := .done, status := 0x30, detail := 0, result := rec8 })).haltChan k (some s) 0x30 0
        | none => d1.haltChan k none 0x30 0).settle

/-! ## Cluster SRAM (R153, R380) -/

/-- A retirement for repeated SRAM errors, with its record. -/
def Dev.sramRetire (d : Dev) (c : Nat) : Dev := (d.sign (d.cluSig c 0x0B 1 7 (d.cluStatus c))).retireClu c

/-- A corrected error of word `w`: counted, written back; a word that corrects again is hard, and 16 hard words retire the
cluster. -/
def Dev.sramCorrected (d : Dev) (c w : Nat) : Dev :=
  let u := d.clu c
  let d1 := (d.inc K.sramCorrected).sign (d.cluSig c 0x0B 0 1 0)
  if !u.ceWords.contains w then d1.modClu c (fun v => { v with ceWords := v.ceWords ++ [w] })
  else if u.hardWords.contains w then d1
  else
    let d2 := (d1.inc K.hardWords).modClu c (fun v => { v with hardWords := v.hardWords ++ [w] })
    if 16 ≤ u.hardWords.length + 1 then d2.sramRetire c else d2

/-- An uncorrectable error: the channel halts with POISON, the test is due at once; the second within 24 h, which the
device's free draw decides, retires the cluster. -/
def Dev.sramUncorrectable (d : Dev) (c : Nat) : Dev :=
  let u := d.clu c
  let again := u.ueRecent && Config.roundUp d.fresh
  let d1 := ((d.drawn.inc K.sramUncorrectable).sign (d.cluSig c 0x0B 1 5 0x20)).modClu c
    (fun v => { v with ueRecent := true, ceTest := true, iftDue := true })
  let d2 := d1.cluFail c 0x20 0x000B
  ((if again then d2.sramRetire c else d2).testDue c).settle

/-! ## Duplicate windows (R389 to R391) -/

/-- Whether a window may be started on a cluster: ACTIVE, running a stage of an ACTIVE channel, not in a window. -/
def Dev.dupReady (d : Dev) (c : Nat) : Bool :=
  let u := d.clu c
  u.st == .active && u.window.isNone && (match u.chan with
    | some k => (d.chan k).any (fun x => x.st == .active)
    | none => false)

/-- Whether it has the most steps since its last window (R390). -/
def Dev.dupFirst (d : Dev) (c : Nat) : Bool :=
  d.cl.all (fun e => !d.dupReady e.1 || e.2.sinceDup ≤ (d.clu c).sinceDup)

/-- The start of a window on a Bud, which receives the registers. -/
def Dev.windowStart (d : Dev) (c b : Nat) : Dev :=
  let u := d.clu c
  (d.modClu b (fun v =>
    { v.cleared with
      st := .duplicating, dupOf := some c, x := u.x, v := u.v, stat := u.stat, tags := u.tags, acc := u.acc, sinceDup := 0 })).modClu c
    (fun v => { v with window := some b, paused := false })

/-- DUP_WINDOW_START (R389, R390): any free Bud may be taken. -/
def execDupWindowStart (c : Nat) (s : State) : Res :=
  let d := s.dev
  let bs := d.freeBuds
  ok s (match bs[d.free % bs.length]? with
    | some b => if d.flag K.dupEnable && d.dupReady c && d.dupFirst c then d.drawn.windowStart c b else d
    | none => d)

/-- A window that ends clean after its 256th step. -/
def Dev.windowClean (d : Dev) (c b : Nat) : Dev :=
  ((d.inc K.dupWindows).modClu c (fun u =>
    { u with window := none, lastClean := u.lastClean + u.sinceDup, sinceDup := 0 })).freeBud b

/-- A mismatch: the window stops, the channel halts with CHANNEL_RESET, both clusters are tested at once (R391). -/
def Dev.windowMismatch (d : Dev) (c b : Nat) : Dev :=
  let u := d.clu c
  let sig := { d.cluSig c 0x09 1 5 0x30 with stepFirst := u.lastClean, stepLast := u.lastClean + u.sinceDup }
  let d1 := (d.inc K.dupMismatches).sign sig
  let d2 := (d1.modClu b (fun v => { v with iftDue := true })).modClu c (fun v => { v with iftDue := true })
  let d3 := match u.chan with
    | some k => d2.haltChan k none 0x30 0
    | none => d2
  (d3.testDue c).settle

/-! ## In-field tests (R392 to R394) -/

/-- A test that falls due (Table 12.9). -/
def Dev.iftDue (d : Dev) (c : Nat) : Dev :=
  if !d.flag K.iftEnable || (d.clu c).st == .retired || (d.clu c).st == .testing then d
  else (d.modClu c (fun u => { u with iftDue := true })).startTests

/-- IFT_DUE (R392). -/
def execIftDue (c : Nat) (s : State) : Res := ok s (s.dev.iftDue c)

/-- IFT_DEFER_EXPIRY (R392): the stage of a cluster whose test is due pauses at its next boundary. -/
def execIftDeferExpiry (c : Nat) (s : State) : Res :=
  ok s (if (s.dev.clu c).iftDue then s.dev.modClu c (fun u => { u with iftForce := true }) else s.dev)

/-- Whether a Bud took the number of a cluster over. -/
def Dev.takenOver (d : Dev) (c : Nat) : Bool := d.cl.any (fun e => e.2.tookFrom == some c)

/-- A test passed: the cluster is a Bud after a takeover or without a number, ACTIVE otherwise; after a test in place its
stage goes on with the state held for it (R393, R394). -/
def Dev.iftPass (d : Dev) (c : Nat) : Dev :=
  let d1 := d.keepNumber c
  d1.modClu c (fun u =>
    { (if u.inPlace then u else u.cleared) with
      st := if u.logical.isSome then .active else .bud, inPlace := false, iftDue := false, iftForce := false, ceTest := false })

/-- A test failed: the record, and the retirement (R394, R380). -/
def Dev.iftFail (d : Dev) (c : Nat) : Dev :=
  let u := d.clu c
  let sig := { d.cluSig c (if u.ceTest then 0x0B else 0x0A) 1 7 (d.cluStatus c) with
    stepFirst := u.lastClean, stepLast := u.lastClean + u.sinceDup }
  ((d.inc K.iftFails).sign sig).retireClu c

/-- The end of a test. -/
def Dev.iftDone (d : Dev) (c : Nat) (pass : Bool) : Dev :=
  if (d.clu c).st != .testing then d
  else
    let d1 := d.inc K.iftRuns
    let d2 := if pass then d1.iftPass c else d1.iftFail c
    d2.startTests.settle

/-- IFT_DONE (R394). -/
def execIftDone (c : Nat) (pass : Bool) (s : State) : Res := ok s (s.dev.iftDone c pass)

end Sys2Proof.Machine
end

