-- ==== Sys2Proof/Machine/Stage.lean ====
section
/-! DEFINITION. How a cluster carries out one instruction of a stage program (R250, R251, R255, R264, R267): registers,
SRAM with its ranges and interlocks, the program counter, faults, and SRAM errors of the words it reads. -/

namespace Sys2Proof.Machine

/-! ## Registers and SRAM -/

/-- The keyed list with the entry of `k` at `v`, unlisted when `v` is the value that an unlisted entry reads as. -/
def kset {α : Type} [DecidableEq α] (z : α) (k : Nat) (v : α) (m : List (Nat × α)) : List (Nat × α) :=
  if v = z then kdel k m else kput k v m

/-- Scalar register `r`; x0 reads zero. -/
def Clu.xr (u : Clu) (r : Fin 32) : W64 := if r = 0 then 0 else kget 0 r.val u.x

/-- Scalar register `r` written; a write to x0 is discarded. -/
def Clu.setX (u : Clu) (r : Fin 32) (v : W64) : Clu := if r = 0 then u else { u with x := kset 0 r.val v u.x }

/-- A vector register of zeros. -/
def vzero : List W32 := List.replicate 512 0

/-- Vector register `r`. -/
def Clu.vr (u : Clu) (r : Fin 32) : List W32 := kget vzero r.val u.v

/-- Vector register `r` written. -/
def Clu.setV (u : Clu) (r : Fin 32) (v : List W32) : Clu := { u with v := kset vzero r.val v u.v }

/-- Bytes of SRAM. -/
def Clu.rdSram (u : Clu) (a n : Nat) : List Byte := (List.range n).map (fun i => cellAt u.sram (a + i))

/-- Bytes of SRAM written. -/
def Clu.wrSram (u : Clu) (a : Nat) (bs : List Byte) : Clu := { u with sram := cellsPut a bs u.sram }

/-- The first address of the queue from the k-th feeding stage (R264). -/
def queueBase (k : Nat) : Nat := 0x600000 - 32768 * (k + 1)

/-- The address of a buffer in the input queues. -/
def Clu.bufAddr (u : Clu) (b : QBuf) : Nat := queueBase ((u.feeders.idxOf b.stage)) + 4096 * b.pos

/-- Whether the 4,096 bytes at an address are a popped buffer. -/
def Clu.popped (u : Clu) (a : Nat) : Bool := u.queue.any (fun b => b.popped && u.bufAddr b == a)

/-- Whether a range may be read: below SRAM_LIMIT, or in popped buffers (R264, Table 08.11). -/
def Clu.readOk (u : Clu) (a n : Nat) : Bool :=
  a + n ≤ u.sramLimit ||
  (a + n ≤ 0x600000 &&
    (List.range ((a + n - 1) / 4096 + 1 - a / 4096)).all (fun i => u.popped ((a / 4096 + i) * 4096)))

/-- Whether an outstanding stream operation still reads or writes a range (R251). -/
def Clu.busy (u : Clu) (a n : Nat) : Bool := u.streams.any (fun o => a < o.sram + o.len && o.sram < a + n)

/-! ## The outcome of an instruction -/

/-- What an instruction does: it waits and is tried again; it faults; the cluster goes on at the next instruction, or at
another; the device as a whole changed and the cluster goes on; or it does not go on. -/
inductive SRes where
  | wait
  | fault (code imm : Nat)
  | go (u : Clu)
  | jump (u : Clu) (pc : Nat)
  | dev (d : Dev)
  | stop (d : Dev)
deriving DecidableEq, Repr

/-- A read of SRAM that is out of range, misaligned or must wait. -/
def Clu.rdStop (u : Clu) (a n align : Nat) : Option SRes :=
  if a % align != 0 || !u.readOk a n then some (.fault 0x02 0) else if u.busy a n then some .wait else none

/-- A write of SRAM that is out of range, misaligned or must wait. -/
def Clu.wrStop (u : Clu) (a n align : Nat) : Option SRes :=
  if a % align != 0 || u.sramLimit < a + n then some (.fault 0x02 0) else if u.busy a n then some .wait else none

/-- The first stop among several, or what the instruction does. -/
def orStop (l : List (Option SRes)) (r : SRes) : SRes :=
  match l.filterMap id with
  | x :: _ => x
  | [] => r

/-- The length of the program of a cluster (R250, R272). -/
def Clu.progLen (u : Clu) : Nat := if u.prog.isEmpty then 8192 else u.prog.length

/-- Whether a cluster can carry out an instruction: it serves a stage of an ACTIVE channel and is not under test. -/
def Dev.stageOn (d : Dev) (c : Nat) : Bool :=
  let u := d.clu c
  (u.st == .active || u.st == .takeover) && (match u.chan with
    | some k => (d.chan k).any (fun x => x.st == .active)
    | none => false)

/-- The limits that end an instruction before it acts: PC_RANGE and STEP_OVERRUN (R267, Table 08.11). -/
def Clu.limit (u : Clu) : Option Nat :=
  if u.progLen ≤ u.pc then some 0x01 else if 65536 ≤ u.insns then some 0x05 else none

/-- The cluster past an instruction, at `pc`. -/
def Clu.past (u : Clu) (pc : Nat) : Clu := { u with pc := pc, insns := u.insns + 1 }

/-- The effect of an outcome on the device. -/
def Dev.take (d : Dev) (c : Nat) : SRes → Dev
  | .wait => d
  | .fault code imm => d.stageFault c code imm
  | .go u => d.setClu c (u.past (u.pc + 1))
  | .jump u pc => d.setClu c (u.past pc)
  | .dev d' => d'.modClu c (fun u => u.past (u.pc + 1))
  | .stop d' => d'

/-- One instruction on cluster `c`: nothing while the cluster cannot carry it out or its stage is paused. -/
def Dev.stage (d : Dev) (c : Nat) (run : Clu → SRes) : Dev :=
  let u := d.clu c
  if !d.stageOn c || u.paused then d
  else match u.limit with
    | some code => d.stageFault c code 0
    | none => d.take c (run u)

/-- One instruction that reads SRAM from `word` on, with the outcome of the ECC check of what it reads (R153). -/
def Dev.stageRd (d : Dev) (c : Nat) (ecc : Ecc) (word : Clu → Nat) (run : Clu → SRes) : Dev :=
  let u := d.clu c
  let acts := d.stageOn c && !u.paused && u.limit.isNone && (match run u with
    | .wait => false
    | .fault _ _ => false
    | _ => true)
  match ecc with
  | .ok => d.stage c run
  | .corrected => if acts then (d.sramCorrected c (word u / 8)).stage c run else d.stage c run
  | .uncorrectable => if acts then d.sramUncorrectable c else d.stage c run

/-- The channel of a cluster, for an instruction that acts beyond it. -/
def Dev.stageChan (d : Dev) (u : Clu) (run : Nat → Chan → SRes) : SRes :=
  match u.chan with
  | some k =>
    (match d.chan k with
      | some ch => run k ch
      | none => .wait)
  | none => .wait

end Sys2Proof.Machine
end

