-- ==== Sys2Proof/Machine/StageArray.lean ====
section
/-! DEFINITION. The array operations of stage programs (R154 to R162, R166, R167, R257 to R259): layouts of quads, slabs
and drained tiles, accumulation, conversions, and the residue check. -/

namespace Sys2Proof.Machine

/-! ## Formats (Table 08.4) -/

/-- Whether a format code is an MX element format. -/
def isMx (f : Nat) : Bool := f ≤ 4

/-- Bytes of 32 packed elements: a row of a quad, a column of a slab (R259). -/
def rowBytes (f : Nat) : Nat :=
  match f with
  | 0 => 16
  | 1 => 24
  | 2 => 24
  | 3 => 32
  | 4 => 32
  | 5 => 32
  | _ => 64

/-- Element `i` of packed elements as an exact value, without a scale. -/
def elemVal (f : Nat) (bs : List Byte) (i : Nat) : FV :=
  match f with
  | 5 => .ofInt (sext 8 (leAt bs i 1))
  | 6 => fBF16.read (leAt bs (2 * i) 2)
  | 7 => fFP16.read (leAt bs (2 * i) 2)
  | f => (mxOf f).read ((mxOf f).elem bs i)

/-- Whether two operand formats may be paired (R155). -/
def pairOk (a b : Nat) : Bool := (isMx a && isMx b) || (a == b && 5 ≤ a && a ≤ 7)

/-! ## One block of 32 positions (R160, R161) -/

/-- The products of two rows of 32 elements. -/
def products (fa : Nat) (a : List Byte) (fb : Nat) (b : List Byte) : List FV :=
  (List.range 32).map (fun k => (elemVal fa a k).mul (elemVal fb b k))

/-- The scale of an MX block: NaN for a code 0xFF. -/
def blockScale (v : FV) (sa sb : Nat) : FV :=
  if sa == 0xFF || sb == 0xFF then .nan else v.scale ((sa + sb : Nat) - 254 : Int)

/-- One block added to an accumulator: for MX and INT8 the exact sum with one rounding, for BF16 and FP16 product after
product. -/
def accBlock (fa : Nat) (a : List Byte) (sa fb : Nat) (b : List Byte) (sb : Nat) (acc : W32) : W32 :=
  let ps := products fa a fb b
  if fa ≤ 5 then
    let sum := ps.foldl FV.add .zero
    w32 ((f32 acc).add (if isMx fa then blockScale sum sa sb else sum))
  else ps.foldl (fun w p => w32 ((f32 w).add p)) acc

/-! ## Registers of the arrays -/

/-- A tile of zeros. -/
def tileZero : List W32 := List.replicate 16 0

/-- Accumulator tile `t` of array `a`. -/
def Clu.tile (u : Clu) (a t : Nat) : List W32 := kget tileZero (a * 8 + t) u.acc

/-- The accumulator tiles with tile `t` of array `a` put in. -/
def putTile (acc : List (Nat × List W32)) (a t : Nat) (v : List W32) : List (Nat × List W32) := kset tileZero (a * 8 + t) v acc

/-- A slab of zeros. -/
def slabZero : List Byte := zeros 256

/-- The arrays and tiles that an operation on tiles T0 to T0 + N - 1 names. -/
def tilesOf (n t0 : Nat) : List (Nat × Nat) := (List.range 256).flatMap (fun a => (List.range n).map (fun t => (a, t0 + t)))

/-- The base of group `g`. -/
def groupBase (a stride : W64) (g : Nat) : Nat := (a + BitVec.ofNat 64 g * stride).toNat

/-! ## The operations -/

/-- The stride of TLDS. -/
def tldsStride (s : W64) : W64 := if s = 0 then 4096 else s

/-- TLDS: 256 slabs and their tag. -/
def arrLoad (fmtB : Nat) (rs1 rs2 : Fin 32) (u : Clu) : SRes :=
  let base := groupBase (u.xr rs1) (tldsStride (u.xr rs2))
  if 7 < fmtB then .wait
  else orStop ((List.range 16).map (fun g => u.rdStop (base g) 4096 1))
    (.go { u with
      stat := (List.range 256).foldl (fun m a => kset slabZero a (u.rdSram (base (a / 16) + a % 16 * 256) 256) m) u.stat
      tags := (List.range 256).foldl (fun m a => kset 0 a fmtB m) u.tags })

/-- Bytes of a group that TMMA reads. -/
def quadBytes (f n : Nat) : Nat := n * 4 * rowBytes f + (if isMx f then n * 4 else 0)

/-- The tile of array `a` after quad `t` of `n` quads that start at `base`. -/
def Clu.mmaTile (u : Clu) (fa fb base n a t t0 : Nat) : List W32 :=
  let slab := kget slabZero a u.stat
  let old := u.tile a (t0 + t)
  (List.range 16).map (fun i =>
    let r := i / 4
    let col := i % 4
    let row := u.rdSram (base + (t * 4 + r) * rowBytes fa) (rowBytes fa)
    let sa := (cellAt u.sram (base + n * 4 * rowBytes fa + t * 4 + r)).toNat
    accBlock fa row sa fb (slice slab (col * rowBytes fb) (rowBytes fb)) (leAt slab (252 + col) 1) (old.getD i 0))

/-- TMMA: N quads of every group against the slabs; FORMAT_MISMATCH when a tag differs. -/
def arrMma (fa fb : Nat) (rs1 rs2 : Fin 32) (n t0 : Nat) (u : Clu) : SRes :=
  let base := groupBase (u.xr rs1) (u.xr rs2)
  if !pairOk fa fb || n < 1 || 8 < t0 + n then .wait
  else if (List.range 256).any (fun a => kget 0 a u.tags != fb) then .fault 0x03 0
  else orStop ((List.range 16).map (fun g => u.rdStop (base g) (quadBytes fa n) 1))
    (.go { u with
      acc := (tilesOf n 0).foldl (fun m at' =>
        putTile m at'.1 (t0 + at'.2) (u.mmaTile fa fb (base (at'.1 / 16)) n at'.1 at'.2 t0)) u.acc })

/-- Bytes of a drained value; none for a format that TDRAIN does not write. -/
def drainSize (f : Nat) : Option Nat :=
  match f with
  | 6 => some 2
  | 7 => some 2
  | 8 => some 4
  | 9 => some 4
  | _ => none

/-- A value drained (Table 05.5). -/
def drainVal (f : Nat) (w : W32) : Nat :=
  match f with
  | 6 => fBF16.write (f32 w)
  | 7 => fFP16.write (f32 w)
  | 9 => (BitVec.ofInt 32 ((f32 w).toInt (-(2 ^ 31)) (2 ^ 31 - 1))).toNat
  | _ => w.toNat

/-- The bytes that a group drains: tile after tile, 4 rows of 64 columns in array order. -/
def Clu.drainGroup (u : Clu) (f size n t0 g : Nat) : List Byte :=
  (List.range (n * 256)).flatMap (fun i =>
    leBytes size (drainVal f ((u.tile (16 * g + i % 64 / 4) (t0 + i / 256)).getD (i / 64 % 4 * 4 + i % 4) 0)))

/-- TDRAIN. -/
def arrDrain (fa : Nat) (rs1 rs2 : Fin 32) (n t0 : Nat) (u : Clu) : SRes :=
  let base := groupBase (u.xr rs1) (u.xr rs2)
  match drainSize fa with
  | none => .wait
  | some size =>
    if n < 1 || 8 < t0 + n then .wait
    else orStop ((List.range 16).map (fun g => u.wrStop (base g) (n * 256 * size) 1))
      (.go ((List.range 16).foldl (fun v g => v.wrSram (base g) (u.drainGroup fa size n t0 g)) u))

/-- TZERO. -/
def arrZero (n t0 : Nat) (u : Clu) : SRes :=
  if n < 1 || 8 < t0 + n then .wait
  else .go { u with acc := u.acc.filter (fun e => e.1 % 8 < t0 || t0 + n ≤ e.1 % 8) }

/-- TLDA: FP32 values in the layout of TDRAIN. -/
def arrLoadAcc (rs1 rs2 : Fin 32) (n t0 : Nat) (u : Clu) : SRes :=
  let base := groupBase (u.xr rs1) (u.xr rs2)
  if n < 1 || 8 < t0 + n then .wait
  else orStop ((List.range 16).map (fun g => u.rdStop (base g) (n * 1024) 1))
    (.go { u with
      acc := (tilesOf n 0).foldl (fun m at' =>
        putTile m at'.1 (t0 + at'.2) ((List.range 16).map (fun i =>
          BitVec.ofNat 32 (leNat (u.rdSram
            (base (at'.1 / 16) + 4 * (at'.2 * 256 + i / 4 * 64 + at'.1 % 16 * 4 + i % 4)) 4))))) u.acc })

/-- A masked residue mismatch of cluster `c`: counted and recorded (R167). -/
def Dev.residueMasked (d : Dev) (c : Nat) : Dev := (d.inc K.residueMasked).sign (d.cluSig c 0x07 0 1 0)

/-- A hard fault on the Bud `b` that re-executes the work of cluster `c`: the duplicate result is discarded, the Bud is
retired, and the pass starts again on another Bud, any free one, where there is one (R168). -/
def Dev.residueBud (d : Dev) (c b : Nat) : Dev :=
  let d1 := ((d.inc K.residueHard).sign (d.cluSig b 0x08 1 7 0)).retireClu b
  let bs := d1.freeBuds
  match bs[d1.free % bs.length]? with
  | some b2 => d1.drawn.windowStart c b2
  | none => d1

/-- The residue check of a TMMA that acts: a masked fault is counted and the result stands; a hard one takes the cluster out
of service (R167). A mismatch of the Bud needs a duplicate window; the result of the active cluster stands (R168). -/
def Dev.residue (d : Dev) (c : Nat) (res : Residue) (run : Clu → SRes) (ecc : Ecc) (rs1 : Fin 32) : Dev :=
  let word := fun u : Clu => (u.xr rs1).toNat
  let acts := d.stageOn c && !(d.clu c).paused && (d.clu c).limit.isNone && (match run (d.clu c) with
    | .go _ => true
    | _ => false)
  if acts && ecc != .uncorrectable then
    match res with
    | .pass => d.stageRd c ecc word run
    | .masked => (d.residueMasked c).stageRd c ecc word run
    | .hard => (((d.inc K.residueHard).sign (d.cluSig c 0x08 1 7 0x30)).retireClu c).settle
    | .budMasked =>
      match (d.clu c).window with
      | some b => (d.residueMasked b).stageRd c ecc word run
      | none => d.stageRd c ecc word run
    | .budHard =>
      match (d.clu c).window with
      | some b => ((d.residueBud c b).stageRd c ecc word run).settle
      | none => d.stageRd c ecc word run
  else d.stageRd c ecc word run

/-- TLDS (R258). -/
def execTlds (c : Nat) (fmtB : Nat) (rs1 rs2 : Fin 32) (ecc : Ecc) (s : State) : Res :=
  ok s (s.dev.stageRd c ecc (fun u => (u.xr rs1).toNat) (arrLoad fmtB rs1 rs2))

/-- TMMA (R258). -/
def execTmma (c : Nat) (fmtA fmtB : Nat) (rs1 rs2 : Fin 32) (n t0 : Nat) (res : Residue) (ecc : Ecc) (s : State) : Res :=
  ok s (s.dev.residue c res (arrMma fmtA fmtB rs1 rs2 n t0) ecc rs1)

/-- TDRAIN (R258). -/
def execTdrain (c : Nat) (fmtA : Nat) (rs1 rs2 : Fin 32) (n t0 : Nat) (s : State) : Res :=
  ok s (s.dev.stage c (arrDrain fmtA rs1 rs2 n t0))

/-- TZERO (R258). -/
def execTzero (c : Nat) (n t0 : Nat) (s : State) : Res := ok s (s.dev.stage c (arrZero n t0))

/-- TLDA (R258). -/
def execTlda (c : Nat) (rs1 rs2 : Fin 32) (n t0 : Nat) (ecc : Ecc) (s : State) : Res :=
  ok s (s.dev.stageRd c ecc (fun u => (u.xr rs1).toNat) (arrLoadAcc rs1 rs2 n t0))

end Sys2Proof.Machine
end

