-- ==== Sys2Proof/Machine/StageVector.lean ====
section
/-! DEFINITION. The vector unit of stage programs (R160 to R163, R260, R261): lane functions, reductions, conversions, MX
groups, and vector moves. -/

namespace Sys2Proof.Machine

/-! ## Lane functions (Table 05.7, Table 08.6) -/

/-- A lane mask. -/
def laneMask (b : Bool) : W32 := if b then 0xFFFFFFFF else 0

def lSub (a b : W32) : W32 := w32 ((f32 a).add (f32 b).neg)
def lMin (a b : W32) : W32 := w32 ((f32 a).min (f32 b))
def lMax (a b : W32) : W32 := w32 ((f32 a).max (f32 b))
def lAbs (a : W32) : W32 := w32 (f32 a).abs
def lNeg (a : W32) : W32 := w32 (f32 a).neg
def lEq (a b : W32) : W32 := laneMask ((f32 a).eq (f32 b))
def lLt (a b : W32) : W32 := laneMask ((f32 a).lt (f32 b))
def lLe (a b : W32) : W32 := laneMask ((f32 a).lt (f32 b) || (f32 a).eq (f32 b))

/-- VA where VC is nonzero, VB elsewhere. -/
def lSel (a b c : W32) : W32 := if c = 0 then b else a

/-- INT32 shifts by the lane of VB; beyond 31 the result is free (R260 states none). -/
def lShl (a b : W32) : W32 := if b.toNat < 32 then a <<< b.toNat else Config.shiftOver 0 a b
def lSra (a b : W32) : W32 := if b.toNat < 32 then a.sshiftRight b.toNat else Config.shiftOver 1 a b

/-- One function of VA. -/
def vec1 (f : W32 → W32) (vd va : Fin 32) (u : Clu) : SRes := .go (u.setV vd ((u.vr va).map f))

/-- One function of VA and VB. -/
def vec2 (f : W32 → W32 → W32) (vd va vb : Fin 32) (u : Clu) : SRes := .go (u.setV vd (List.zipWith f (u.vr va) (u.vr vb)))

/-- One function of VA, VB and VC. -/
def vec3 (f : W32 → W32 → W32 → W32) (vd va vb vc : Fin 32) (u : Clu) : SRes :=
  .go (u.setV vd (List.zipWith (fun ab c => f ab.1 ab.2 c) ((u.vr va).zip (u.vr vb)) (u.vr vc)))

/-! ## Reductions -/

/-- Adjacent pairs joined. -/
def pairUp (f : W32 → W32 → W32) : List W32 → List W32
  | a :: b :: r => f a b :: pairUp f r
  | l => l

/-- The pairwise tree over 2^levels inputs. -/
def redTree (f : W32 → W32 → W32) : Nat → List W32 → List W32
  | 0, l => l
  | n + 1, l =>
    redTree f n (if Config.redHalves n then List.zipWith f (l.take (l.length / 2)) (l.drop (l.length / 2)) else pairUp f l)

/-- A reduction into lane 0; the other lanes are +0. -/
def vecRed (f : W32 → W32 → W32) (vd va : Fin 32) (u : Clu) : SRes :=
  .go (u.setV vd (((redTree f 9 (u.vr va)).take 1) ++ List.replicate 511 0))

/-! ## Conversions (R162, R257, R260) -/

/-- The bytes of a vector register. -/
def laneBytes (v : List W32) : List Byte := v.flatMap (fun w => leBytes 4 w.toNat)

/-- A vector register from bytes; lanes past their end are zero. -/
def bytesLanes (bs : List Byte) : List W32 := (List.range 512).map (fun i => BitVec.ofNat 32 (leAt bs (4 * i) 4))

/-- Element `i` of a packed register of format `code` as FP32; none for a code that conversions do not take. -/
def cvtIn (code : Nat) (bs : List Byte) (i : Nat) : W32 :=
  match code with
  | 5 => w32 (.ofInt (sext 8 (leAt bs i 1)))
  | 6 => w32 (fBF16.read (leAt bs (2 * i) 2))
  | 7 => w32 (fFP16.read (leAt bs (2 * i) 2))
  | 9 => w32 (.ofInt (sext 32 (leAt bs (4 * i) 4)))
  | _ => w32 (f32 (BitVec.ofNat 32 (leAt bs (4 * i) 4)))

/-- A lane converted out of FP32 as bytes. -/
def cvtOut (code : Nat) (w : W32) : List Byte :=
  match code with
  | 5 => leBytes 1 (BitVec.ofInt 8 ((f32 w).toInt (-128) 127)).toNat
  | 6 => leBytes 2 (fBF16.write (f32 w))
  | 7 => leBytes 2 (fFP16.write (f32 w))
  | 9 => leBytes 4 (BitVec.ofInt 32 ((f32 w).toInt (-(2 ^ 31)) (2 ^ 31 - 1))).toNat
  | _ => leBytes 4 (w32 (f32 w)).toNat

/-- Whether conversions take a code. -/
def cvtCode (code : Nat) : Bool := 5 ≤ code && code ≤ 9

/-- CVTIN. -/
def vecIn (vd va : Fin 32) (code : Nat) (u : Clu) : SRes :=
  if !cvtCode code then .wait
  else .go (u.setV vd ((List.range 512).map (cvtIn code (laneBytes (u.vr va)))))

/-- CVTOUT: packed results, the upper lanes zero. -/
def vecOut (vd va : Fin 32) (code : Nat) (u : Clu) : SRes :=
  if !cvtCode code then .wait
  else .go (u.setV vd (bytesLanes ((u.vr va).flatMap (cvtOut code))))

/-- MXENC: 16 groups of 32 lanes as 4 quads, 16 rows of codes and then 16 scales. -/
def mxEnc (code : Nat) (v : List W32) : List Byte :=
  let gs := (List.range 16).map (fun g => (mxOf code).encode none (((v.drop (32 * g)).take 32).map f32))
  gs.flatMap (fun e => (mxOf code).pack e.2) ++ gs.map (fun e => BitVec.ofNat 8 e.1)

/-- MXDEC: the reverse. -/
def mxDec (code : Nat) (bs : List Byte) : List W32 :=
  let b := rowBytesMx code
  (List.range 16).flatMap (fun g => ((mxOf code).group (leAt bs (16 * b + g) 1) (slice bs (g * b) b)).map w32)
where
  /-- Bytes of 32 packed elements of an MX format. -/
  rowBytesMx (code : Nat) : Nat := (mxOf code).bytes

/-- MXENC on a register. -/
def vecEnc (vd va : Fin 32) (code : Nat) (u : Clu) : SRes :=
  if 4 < code then .wait else .go (u.setV vd (bytesLanes (mxEnc code (u.vr va))))

/-- MXDEC on a register. -/
def vecDec (vd va : Fin 32) (code : Nat) (u : Clu) : SRes :=
  if 4 < code then .wait else .go (u.setV vd (mxDec code (laneBytes (u.vr va))))

/-! ## Moves (Table 08.7) -/

/-- Whether a byte count is none of 64 to 2,048 in steps of 64. -/
def vecCountBad (n : Nat) : Bool := n % 64 != 0 || n < 64 || 2048 < n

/-- V := `n` bytes at `a`, the remaining lanes zero. -/
def vecLd (v : Fin 32) (a n : Nat) (u : Clu) : SRes :=
  if vecCountBad n then .fault 0x02 0
  else orStop [u.rdStop a n 64] (.go (u.setV v (bytesLanes (u.rdSram a n))))

/-- `n` bytes at `a` := the leading bytes of V. -/
def vecSt (v : Fin 32) (a n : Nat) (u : Clu) : SRes :=
  if vecCountBad n then .fault 0x02 0
  else orStop [u.wrStop a n 64] (.go (u.wrSram a ((laneBytes (u.vr v)).take n)))

/-- Every lane := the low 32 bits of RS1. -/
def vecBcast (v rs1 : Fin 32) (u : Clu) : SRes := .go (u.setV v (List.replicate 512 ((u.xr rs1).truncate 32)))

/-- RD := one lane, zero-extended. -/
def vecExt (rd va rs2 : Fin 32) (u : Clu) : SRes :=
  .go (u.setX rd (((u.vr va).getD ((u.xr rs2).toNat % 512) 0).zeroExtend 64))

/-! ## The instructions -/

/-- VADD (R260). -/
def execVadd (c : Nat) (vd va vb : Fin 32) (s : State) : Res := ok s (s.dev.stage c (vec2 f32add vd va vb))

/-- VSUB (R260). -/
def execVsub (c : Nat) (vd va vb : Fin 32) (s : State) : Res := ok s (s.dev.stage c (vec2 lSub vd va vb))

/-- VMUL (R260). -/
def execVmul (c : Nat) (vd va vb : Fin 32) (s : State) : Res := ok s (s.dev.stage c (vec2 f32mul vd va vb))

/-- VMIN (R260). -/
def execVmin (c : Nat) (vd va vb : Fin 32) (s : State) : Res := ok s (s.dev.stage c (vec2 lMin vd va vb))

/-- VMAX (R260). -/
def execVmax (c : Nat) (vd va vb : Fin 32) (s : State) : Res := ok s (s.dev.stage c (vec2 lMax vd va vb))

/-- VCMPEQ (R260). -/
def execVcmpeq (c : Nat) (vd va vb : Fin 32) (s : State) : Res := ok s (s.dev.stage c (vec2 lEq vd va vb))

/-- VCMPLT (R260). -/
def execVcmplt (c : Nat) (vd va vb : Fin 32) (s : State) : Res := ok s (s.dev.stage c (vec2 lLt vd va vb))

/-- VCMPLE (R260). -/
def execVcmple (c : Nat) (vd va vb : Fin 32) (s : State) : Res := ok s (s.dev.stage c (vec2 lLe vd va vb))

/-- VAND (R260). -/
def execVand (c : Nat) (vd va vb : Fin 32) (s : State) : Res := ok s (s.dev.stage c (vec2 (· &&& ·) vd va vb))

/-- VOR (R260). -/
def execVor (c : Nat) (vd va vb : Fin 32) (s : State) : Res := ok s (s.dev.stage c (vec2 (· ||| ·) vd va vb))

/-- VXOR (R260). -/
def execVxor (c : Nat) (vd va vb : Fin 32) (s : State) : Res := ok s (s.dev.stage c (vec2 (· ^^^ ·) vd va vb))

/-- VIADD (R260). -/
def execViadd (c : Nat) (vd va vb : Fin 32) (s : State) : Res := ok s (s.dev.stage c (vec2 (· + ·) vd va vb))

/-- VISHL (R260). -/
def execVishl (c : Nat) (vd va vb : Fin 32) (s : State) : Res := ok s (s.dev.stage c (vec2 lShl vd va vb))

/-- VISRA (R260). -/
def execVisra (c : Nat) (vd va vb : Fin 32) (s : State) : Res := ok s (s.dev.stage c (vec2 lSra vd va vb))

/-- VFMA (R260). -/
def execVfma (c : Nat) (vd va vb vc : Fin 32) (s : State) : Res := ok s (s.dev.stage c (vec3 f32fma vd va vb vc))

/-- VSEL (R260). -/
def execVsel (c : Nat) (vd va vb vc : Fin 32) (s : State) : Res := ok s (s.dev.stage c (vec3 lSel vd va vb vc))

/-- VABS (R163, R260). -/
def execVabs (c : Nat) (vd va : Fin 32) (s : State) : Res := ok s (s.dev.stage c (vec1 lAbs vd va))

/-- VNEG (R163, R260). -/
def execVneg (c : Nat) (vd va : Fin 32) (s : State) : Res := ok s (s.dev.stage c (vec1 lNeg vd va))

/-- VRCP (R163, R260). -/
def execVrcp (c : Nat) (vd va : Fin 32) (s : State) : Res := ok s (s.dev.stage c (vec1 vRcp vd va))

/-- VRSQRT (R163, R260). -/
def execVrsqrt (c : Nat) (vd va : Fin 32) (s : State) : Res := ok s (s.dev.stage c (vec1 vRsqrt vd va))

/-- VSQRT (R163, R260). -/
def execVsqrt (c : Nat) (vd va : Fin 32) (s : State) : Res := ok s (s.dev.stage c (vec1 vSqrt vd va))

/-- VEXP2 (R163, R260). -/
def execVexp2 (c : Nat) (vd va : Fin 32) (s : State) : Res := ok s (s.dev.stage c (vec1 vExp2 vd va))

/-- VLOG2 (R163, R260). -/
def execVlog2 (c : Nat) (vd va : Fin 32) (s : State) : Res := ok s (s.dev.stage c (vec1 vLog2 vd va))

/-- VEXP (R163, R260). -/
def execVexp (c : Nat) (vd va : Fin 32) (s : State) : Res := ok s (s.dev.stage c (vec1 vExp vd va))

/-- VLOG (R163, R260). -/
def execVlog (c : Nat) (vd va : Fin 32) (s : State) : Res := ok s (s.dev.stage c (vec1 vLog vd va))

/-- VTANH (R163, R260). -/
def execVtanh (c : Nat) (vd va : Fin 32) (s : State) : Res := ok s (s.dev.stage c (vec1 vTanh vd va))

/-- VREDADD (R163, R260). -/
def execVredadd (c : Nat) (vd va : Fin 32) (s : State) : Res := ok s (s.dev.stage c (vecRed f32add vd va))

/-- VREDMAX (R163, R260). -/
def execVredmax (c : Nat) (vd va : Fin 32) (s : State) : Res := ok s (s.dev.stage c (vecRed lMax vd va))

/-- VCVTIN (R260). -/
def execVcvtin (c : Nat) (vd va : Fin 32) (code : Nat) (s : State) : Res := ok s (s.dev.stage c (vecIn vd va code))

/-- VCVTOUT (R260). -/
def execVcvtout (c : Nat) (vd va : Fin 32) (code : Nat) (s : State) : Res := ok s (s.dev.stage c (vecOut vd va code))

/-- VMXENC (R260). -/
def execVmxenc (c : Nat) (vd va : Fin 32) (code : Nat) (s : State) : Res := ok s (s.dev.stage c (vecEnc vd va code))

/-- VMXDEC (R260). -/
def execVmxdec (c : Nat) (vd va : Fin 32) (code : Nat) (s : State) : Res := ok s (s.dev.stage c (vecDec vd va code))

/-- VLD (R261). -/
def execVld (c : Nat) (v rs1 : Fin 32) (ecc : Ecc) (s : State) : Res :=
  ok s (s.dev.stageRd c ecc (fun u => (u.xr rs1).toNat) (fun u => vecLd v (u.xr rs1).toNat 2048 u))

/-- VST (R261). -/
def execVst (c : Nat) (v rs1 : Fin 32) (s : State) : Res := ok s (s.dev.stage c (fun u => vecSt v (u.xr rs1).toNat 2048 u))

/-- VLDN (R261). -/
def execVldn (c : Nat) (v rs1 rs2 : Fin 32) (ecc : Ecc) (s : State) : Res :=
  ok s (s.dev.stageRd c ecc (fun u => (u.xr rs1).toNat) (fun u => vecLd v (u.xr rs1).toNat (u.xr rs2).toNat u))

/-- VSTN (R261). -/
def execVstn (c : Nat) (v rs1 rs2 : Fin 32) (s : State) : Res :=
  ok s (s.dev.stage c (fun u => vecSt v (u.xr rs1).toNat (u.xr rs2).toNat u))

/-- VBCAST (R261). -/
def execVbcast (c : Nat) (v rs1 : Fin 32) (s : State) : Res := ok s (s.dev.stage c (vecBcast v rs1))

/-- VEXT (R261). -/
def execVext (c : Nat) (rd va rs2 : Fin 32) (s : State) : Res := ok s (s.dev.stage c (vecExt rd va rs2))

end Sys2Proof.Machine
end

