-- ==== Sys2Proof/Machine/Attention.lean ====
section
/-! DEFINITION. The attention recipes (R218 to R234): APPEND, DECODE, PREFILL and MERGE, over FIXED windows that hold a
key/value cache. What the manual leaves open in their arithmetic (orders of arrival, the accuracy of vector functions) is
drawn free; the order of the FP32 steps is DEDUCED (log entry 30). -/

namespace Sys2Proof.Machine

/-! ## Recipe descriptors -/

/-- The descriptor at work at the head of a built-in pipeline when it has opcode `op` (R213). -/
def Chan.head (c : Chan) (op : Nat) : Option Dsc :=
  match c.fetched.find? (fun x => x.ph == .running && x.op != 0) with
  | some x => if x.op == op then some x else none
  | none => none

/-- A recipe descriptor finished. -/
def Dev.recEnd (d : Dev) (k : Nat) (x : Dsc) (st dt result : Nat) : Dev := (d.endDsc k x.seq st dt result).settle

/-- A descriptor that read overrun chunks: OK becomes OK_OVERRUN (R106). -/
def Dsc.overran (x : Dsc) : Dsc := { x with overrun := true, status := if x.ph == .done && x.status == 0 then 2 else x.status }

/-- A descriptor's work `d1`, done on `d`, with the overrun chunks that it met, now or before, noted on the descriptor (R106). -/
def Dev.overrunNoted (d : Dev) (k : Nat) (x : Dsc) (d1 : Dev) : Dev :=
  if x.overrun || d1.rd K.overrunChunks != d.rd K.overrunChunks then d1.modDsc k x.seq Dsc.overran else d1

/-- A recipe opcode on the channel of a handle: it acts on the head descriptor; reserved argument bits refuse it (R197). -/
def Dev.onRecipe (d : Dev) (handle : Nat) (recipes : List Nat) (op : Nat) (rsv : Dsc → Bool)
    (run : Dev → Nat → Chan → Dsc → Dev) : Dev :=
  match d.workChan handle with
  | some (k, c) =>
    if !recipes.contains c.recipe || c.st != .active then d
    else match c.head op with
      | some x =>
        if rsv x then d.recEnd k x 0x11 0x0002 (x.early c.recipe)
        else d.overrunNoted k x (run d k c x)
      | none => d
  | none => d

/-- What an access to memory leads to: a wait changes no more than the access did; a failure ends the descriptor with
`result`. -/
def Dev.endAcc (k : Nat) (x : Dsc) (result : Nat) (a : ChAcc) (f : Dev → List Byte → Nat → Dev) : Dev :=
  match a with
  | .wait d => d
  | .fail d st dt => d.recEnd k x st dt result
  | .done d bs ovr => f d bs ovr

/-- The first of several accesses, each tried on the same state, that must wait. -/
def firstWait : List ChAcc → Option Dev
  | [] => none
  | .wait d :: _ => some d
  | _ :: r => firstWait r

/-- Whether a host refused or lost an access that it must answer. -/
def hostFails (loc : Nat) (r : Resp) : Bool := loc != 2 && r == .failed

/-! ## The shape record (Table 07.3) -/

def shLayers (a : Nat) : Nat := argAt a 0 1
def shKv (a : Nat) : Nat := argAt a 1 1
def shQper (a : Nat) : Nat := argAt a 2 1
def shTmax (a : Nat) : Nat := 2 ^ argAt a 3 1
def shDim (a : Nat) : Nat := argAt a 4 2
def shScale (a : Nat) : W32 := BitVec.ofNat 32 (argAt a 12 4)

/-- The endpoint for buffers over UBL. -/
def argEp (a : Nat) : Nat := argAt a 8 4 % 2 ^ 20

/-- Bytes of a token row (R219). -/
def shRow (a : Nat) : Nat := shKv a * shDim a * 2

/-- Query heads (R221). -/
def shHeads (a : Nat) : Nat := shKv a * shQper a

/-- The offset of a token row in a window. -/
def rowOff (a layer kv t : Nat) : Nat := ((layer * 2 + kv) * shTmax a + t) * shRow a

/-- Why a descriptor may not use a window (R220, R239): status and DETAIL. -/
def Dev.winRefusal (d : Dev) (p args num layer t0 count : Nat) : Option (Nat × Nat) :=
  match d.realObj p num with
  | none => some (0x11, 0x0004)
  | some w =>
    if w.kind != 4 then some (0xF0, 0x0001)
    else if w.n * 2 ^ 30 < shLayers args * 2 * shTmax args * shRow args then some (0xF0, 0x0002)
    else if shLayers args ≤ layer || shTmax args < t0 + count then some (0xF0, 0x0002)
    else none

/-- The 32 values of a group as they stand in stored form (R97, R99, R222). -/
def Dev.groupVals (d : Dev) (p : Nat) (w : Obj) (g : Nat) : List FV :=
  let (doff, b, soff) := d.groupAt p w g
  if !d.blkValid p (doff / 256) && !d.blkValid p ((doff + b - 1) / 256) then List.replicate 32 .zero
  else (mxOf w.fmt).group (d.byte p soff).toNat (d.bytes p doff b)

/-- Element `i` of a window, counted in BF16 elements of its host form. -/
def Dev.winElem (d : Dev) (q : Nat) (w : Obj) (i : Nat) : FV := (d.groupVals q w (i / 32)).getD (i % 32) .zero

/-! ## APPEND (R223) -/

/-- The rows of the keys (0) or values (1) in the source. -/
def appendRows (args count kv : Nat) (src : List Byte) : List Byte :=
  (List.range count).flatMap (fun t => slice src ((2 * t + kv) * shRow args) (shRow args))

/-- The writes of an APPEND, keys then values. -/
def Dev.appendStore (d : Dev) (k : Nat) (c : Chan) (x : Dsc) (src : List Byte) : ChAcc :=
  let p := ctxPart k
  let count := x.arg 0x28 4
  let base := d.baseOff p (x.arg 0x20 2)
  let off := fun kv => base + rowOff c.args (x.arg 0x22 1) kv (x.arg 0x24 4)
  let rows := fun kv => (appendRows c.args count kv src).map some
  match firstWait [d.chWrite p (off 0) (rows 0) x.cls (some (k, x.seq)), d.chWrite p (off 1) (rows 1) x.cls (some (k, x.seq))] with
  | some d1 => .wait d1
  | none => (d.chWrite p (off 0) (rows 0) x.cls (some (k, x.seq))).next
      (fun d _ _ => d.chWrite p (off 1) (rows 1) x.cls (some (k, x.seq)))

/-- APPEND on its channel. -/
def Dev.append (d : Dev) (r : Resp) (k : Nat) (c : Chan) (x : Dsc) : Dev :=
  let count := x.arg 0x28 4
  if count < 1 || 65536 < count then d.recEnd k x 0x11 0x0003 0
  else match d.winRefusal (ctxPart k) c.args (x.arg 0x20 2) (x.arg 0x22 1) (x.arg 0x24 4) count with
    | some (st, dt) => d.recEnd k x st dt 0
    | none =>
      Dev.endAcc k x 0 ((d.bufRead k c x.cls (x.arg 0x23 1 % 4) (argEp c.args) (x.arg 0x30 8) (2 * count * shRow c.args) r).next
        (fun d src _ => d.appendStore k c x src)) (fun d _ _ => d.recEnd k x 0 0 count)

/-- APPEND (R223). -/
def execAppend (handle : Nat) (r : Resp) (s : State) : Res :=
  ok s (s.dev.onRecipe handle [1] 0x10 (fun x => 4 ≤ x.arg 0x23 1 || x.arg 0x2C 4 != 0 || x.arg 0x38 8 != 0)
    (fun d k c x => d.append r k c x))

/-! ## Attention arithmetic (R225, R226, R228, R231) -/

/-- A list in an order that the device leaves free, by draws from `n` on. -/
def shuffle {α : Type} (n : Nat) (l : List α) : List α :=
  (sortBy (fun a b => Config.free (n + a.2) < Config.free (n + b.2)) l.zipIdx).map (·.1)

/-- The parts of a head that lie in one stored group each: start and length within the head (R226). -/
def headParts (base dim : Nat) : List (Nat × Nat) :=
  (List.range ((base + dim - 1) / 32 + 1 - base / 32)).map (fun i =>
    let g := base / 32 + i
    let lo := Max.max base (32 * g)
    (lo - base, Min.min (base + dim) (32 * g + 32) - lo))

/-- The exact sum of products of values, scaled by a scale code; NaN for code 0xFF. -/
def mxSum (scale : Nat) (as bs : List FV) : FV :=
  blockScale ((List.zipWith FV.mul as bs).foldl FV.add .zero) scale 127

/-- One part of a query as an MXFP8 E4M3 block against the values of a key part. -/
def qkPart (q key : List FV) (acc : W32) : W32 :=
  let e := mxE4M3.encode none (q ++ List.replicate (32 - q.length) .zero)
  w32 ((f32 acc).add (mxSum e.1 ((e.2.take key.length).map mxE4M3.read) key))

/-- The score of a query head against a key: the parts one after another, times SM_SCALE. -/
def score (sm : W32) (base dim : Nat) (q : List FV) (key : Nat → FV) : W32 :=
  f32mul sm ((headParts base dim).foldl (fun acc pt =>
    qkPart ((q.drop pt.1).take pt.2) ((List.range pt.2).map (fun j => key (pt.1 + j))) acc) 0)

/-- The largest of some scores; minus infinity of none. -/
def maxOf (l : List W32) : W32 :=
  match l with
  | [] => w32 (.inf true)
  | a :: r => r.foldl lMax a

/-- A sum by the tree of REDUCE_ADD, 512 lanes at a time. -/
def sumOf (l : List W32) : W32 :=
  (List.range ((l.length + 511) / 512)).foldl (fun acc i =>
    let xs := (l.drop (512 * i)).take 512
    f32add acc ((redTree f32add 9 (xs ++ List.replicate (512 - xs.length) 0)).getD 0 0)) 0

/-- A running or block result: maximum, sum of exponentials, weighted values. -/
structure Att where
  m : W32
  l : W32
  o : List W32
deriving DecidableEq, Repr

/-- A block of DECODE: p and, as the stage DEQ converts them, the values in BF16 (R225, R97); products added in ascending
token order. -/
def decBlock (dim : Nat) (ss : List W32) (val : Nat → Nat → FV) : Att :=
  let m := maxOf ss
  let ps := ss.map (fun s => fBF16.read (fBF16.write (f32 (vExp (lSub s m)))))
  ⟨m, sumOf (ps.map w32),
    (List.range dim).map (fun j => ps.zipIdx.foldl (fun acc e => w32 ((f32 acc).add (e.1.mul (fBF16.read (fBF16.write (val e.2 j)))))) 0)⟩

/-- Two results folded. -/
def Att.fold (a b : Att) : Att :=
  let m := lMax a.m b.m
  let wa := vExp (lSub a.m m)
  let wb := vExp (lSub b.m m)
  ⟨m, f32add (f32mul a.l wa) (f32mul b.l wb), List.zipWith (fun x y => f32add (f32mul x wa) (f32mul y wb)) a.o b.o⟩

/-- A partial record: the elements o and lse (R228). -/
structure Rec where
  o : List W32
  lse : W32
deriving DecidableEq, Repr

/-- The record of nothing attended. -/
def Rec.empty (dim : Nat) : Rec := ⟨List.replicate dim 0, w32 (.inf true)⟩

/-- The record of a result. -/
def Att.record (a : Att) : Rec := ⟨a.o.map (fun x => f32mul x (vRcp a.l)), f32add a.m (vLog a.l)⟩

/-- Records combined by log-sum-exp, in the order given (R234). -/
def mergeRecs (dim : Nat) (rs : List Rec) : Rec :=
  let live := rs.filter (fun r => r.lse != w32 (.inf true))
  if live.isEmpty then Rec.empty dim
  else
    let m := maxOf (live.map (·.lse))
    let ws := live.map (fun r => vExp (lSub r.lse m))
    let sum := ws.foldl f32add 0
    ⟨(live.zip ws).foldl (fun o e => List.zipWith (fun x y => f32add x (f32mul (f32mul e.2 (vRcp sum)) y)) o e.1.o)
        (List.replicate dim 0),
      f32add m (vLog sum)⟩

/-- The bytes of a record. -/
def Rec.bytes (r : Rec) : List Byte := r.o.flatMap (fun w => leBytes 4 w.toNat) ++ leBytes 4 r.lse.toNat

/-- Elements of a record that are NaN or infinite; the lse of an empty set is none of them. -/
def Rec.nonfinite (r : Rec) : Nat :=
  countBy (fun w => !(f32 w).finiteB) r.o + (if !(f32 r.lse).finiteB && r.lse != w32 (.inf true) then 1 else 0)

/-- A query as values: element `i` of head `h` of query token `n`. -/
def queryAt (args : Nat) (bs : List Byte) (n h : Nat) : List FV :=
  (List.range (shDim args)).map (fun j => fBF16.read (leAt bs (((n * shHeads args + h) * shDim args + j) * 2) 2))

/-- What the device is while a destination of `n` bytes in its own memory makes a descriptor wait. -/
def Dev.outWaits (d : Dev) (k : Nat) (x : Dsc) (loc addr n : Nat) : Option Dev :=
  if loc == 2 && n != 0 then firstWait [d.chWrite (ctxPart k) addr ((zeros n).map some) x.cls (some (k, x.seq))] else none

/-- The output of a descriptor written, its nonfinite elements reported (R217). -/
def Dev.emitOut (d : Dev) (k : Nat) (c : Chan) (x : Dsc) (loc addr : Nat) (bs : List Byte) (bad result : Nat) (r : Resp) : Dev :=
  if hostFails loc r then d.recEnd k x 0x30 0x000A 0
  else Dev.endAcc k x 0 (d.bufWrite k c x.cls loc (argEp c.args) addr bs x.seq) (fun d _ _ =>
    if bad == 0 then d.recEnd k x 0 0 result else d.recEnd k x 0xF1 (satN 16 bad) result)

/-- Key and value elements of a head: token `t`, element `j`. -/
def Dev.kvElem (d : Dev) (p num args layer kv h t j : Nat) : FV :=
  match d.realObj p num with
  | some w => d.winElem (d.real p num).1 w (rowOff args layer kv t / 2 + h * shDim args + j)
  | none => .zero

/-- The read of the key and value rows of a run of tokens, for what it meets (R222). -/
def Dev.kvRead (d : Dev) (k : Nat) (args : Nat) (x : Dsc) (t0 n : Nat) : ChAcc :=
  let p := ctxPart k
  let off := fun kv => d.baseOff p (x.arg 0x20 2) + rowOff args (x.arg 0x22 1) kv t0
  if n == 0 then .done d [] 0
  else match firstWait [d.chRead p (off 0) (n * shRow args) x.cls (k + 1), d.chRead p (off 1) (n * shRow args) x.cls (k + 1)] with
    | some d1 => .wait d1
    | none => (d.chRead p (off 0) (n * shRow args) x.cls (k + 1)).next (fun d _ _ => d.chRead p (off 1) (n * shRow args) x.cls (k + 1))

/-! ## DECODE (R228) -/

/-- One query head of DECODE. -/
def Dev.decodeHead (d : Dev) (p args : Nat) (x : Dsc) (q : List FV) (h fresh : Nat) : Rec :=
  let n := x.arg 0x28 4
  let t0 := x.arg 0x24 4
  let kh := h / shQper args
  let el := fun kv t j => d.kvElem p (x.arg 0x20 2) args (x.arg 0x22 1) kv kh t j
  let blocks := (List.range ((n + 1023) / 1024)).map (fun b =>
    let ts := (List.range (Min.min 1024 (n - 1024 * b))).map (fun i => t0 + 1024 * b + i)
    decBlock (shDim args) (ts.map (fun t => score (shScale args) (kh * shDim args) (shDim args) q (el 0 t)))
      (fun i j => el 1 (t0 + 1024 * b + i) j))
  match shuffle fresh blocks with
  | [] => Rec.empty (shDim args)
  | a :: r => (r.foldl Att.fold a).record

/-- DECODE on its channel. -/
def Dev.decode (d : Dev) (r : Resp) (k : Nat) (c : Chan) (x : Dsc) : Dev :=
  let p := ctxPart k
  let n := x.arg 0x28 4
  let loc := x.arg 0x23 1
  if shTmax c.args < n then d.recEnd k x 0x11 0x0003 0
  else match d.winRefusal p c.args (x.arg 0x20 2) (x.arg 0x22 1) (x.arg 0x24 4) n with
    | some (st, dt) => d.recEnd k x st dt 0
    | none =>
      match d.outWaits k x (loc / 4 % 4) (x.arg 0x38 8) (shHeads c.args * 4 * (shDim c.args + 1)) with
      | some d1 => d1
      | none =>
      Dev.endAcc k x 0 ((d.kvRead k c.args x (x.arg 0x24 4) n).next (fun d _ _ =>
        d.bufRead k c x.cls (loc % 4) (argEp c.args) (x.arg 0x30 8) (shHeads c.args * shDim c.args * 2) r)) (fun d q _ =>
        let recs := (List.range (shHeads c.args)).map (fun h =>
          d.decodeHead p c.args x (queryAt c.args q 0 h) h (d.fresh + h * ((n + 1023) / 1024)))
        let d1 := { d with fresh := d.fresh + shHeads c.args * ((n + 1023) / 1024) }
        d1.emitOut k c x (loc / 4 % 4) (x.arg 0x38 8) (recs.flatMap Rec.bytes)
          (sumBy Rec.nonfinite recs) n r)

/-- DECODE (R228). -/
def execDecode (handle : Nat) (r : Resp) (s : State) : Res :=
  ok s (s.dev.onRecipe handle [2] 0x10 (fun x => 16 ≤ x.arg 0x23 1 || x.arg 0x2C 4 != 0) (fun d k c x => d.decode r k c x))

/-! ## PREFILL (R230 to R232) -/

/-- The part of a unit of PREFILL that concerns one query token and head: the scores of the unit's tokens that the token
attends, p and values as E4M3 blocks of 32 tokens. The value blocks are those that DEQ made of the stored tokens, whatever
part of them is attended (R230, R231); a token that is not attended takes part with a p of zero. -/
def preUnit (dim : Nat) (ss : List W32) (val : Nat → Nat → FV) : Att :=
  let m := maxOf ss
  let ps := ss.map (fun s => vExp (lSub s m))
  let blk := fun (l : List FV) => mxE4M3.encode none (l ++ List.replicate (32 - l.length) .zero)
  ⟨m, sumOf ps,
    (List.range dim).map (fun j =>
      (List.range ((ps.length + 31) / 32)).foldl (fun acc b =>
        let xs := (ps.drop (32 * b)).take 32
        let pe := blk (xs.map f32)
        let ve := mxE4M3.encode none ((List.range 32).map (fun i => val (32 * b + i) j))
        w32 ((f32 acc).add (blockScale
          ((List.zipWith (fun a v => (mxE4M3.read a).mul (mxE4M3.read v)) pe.2 ve.2).foldl FV.add .zero) pe.1 ve.1))) 0)⟩

/-- One query head of one query token: units of `len` tokens, merged in the order of their arrival. The units are those of
its tile of 128 query tokens: the ranges of a tile all begin at the same multiples of `len`, so each full unit takes the same
number of multiply-accumulates, and units dealt one by one to the least loaded ATTN cluster meet R230 for any `len`. DEQ reads
the tokens that some query of the chunk attends; positions of the last block beyond them are zero (DEDUCED, log entry 30). -/
def Dev.prefillHead (d : Dev) (p args : Nat) (x : Dsc) (q : List FV) (i h len fresh : Nat) : Rec :=
  let n := attended x i
  let kh := h / shQper args
  let el := fun kv t j => d.kvElem p (x.arg 0x20 2) args (x.arg 0x22 1) kv kh t j
  let units := (List.range ((n + len - 1) / len)).map (fun b =>
    let ts := (List.range (Min.min len (n - len * b))).map (fun j => len * b + j)
    (preUnit (shDim args) (ts.map (fun t => score (shScale args) (kh * shDim args) (shDim args) q (el 0 t)))
      (fun j e => if len * b + j < attended x (x.arg 0x2C 2 - 1) then el 1 (len * b + j) e else .zero)).record)
  mergeRecs (shDim args) (shuffle fresh units)

/-- PREFILL on its channel. The size of a unit's key range is left free. -/
def Dev.prefill (d : Dev) (r : Resp) (k : Nat) (c : Chan) (x : Dsc) : Dev :=
  let p := ctxPart k
  let n := x.arg 0x28 4
  let qc := x.arg 0x2C 2
  let loc := x.arg 0x23 1
  if qc < 1 || 16384 < qc then d.recEnd k x 0x11 0x0003 0
  else match d.winRefusal p c.args (x.arg 0x20 2) (x.arg 0x22 1) 0 n with
    | some (st, dt) => d.recEnd k x st dt 0
    | none =>
      match d.outWaits k x (loc / 4 % 4) (x.arg 0x38 8) (qc * shHeads c.args * 4 * (shDim c.args + 1)) with
      | some d1 => d1
      | none =>
      Dev.endAcc k x 0 ((d.kvRead k c.args x 0 (attended x (qc - 1))).next (fun d _ _ =>
        d.bufRead k c x.cls (loc % 4) (argEp c.args) (x.arg 0x30 8) (qc * shHeads c.args * shDim c.args * 2) r)) (fun d q _ =>
        let len := 32 * (1 + d.free % 524288)
        let units := (n + len - 1) / len
        let recs := (List.range (qc * shHeads c.args)).map (fun e =>
          d.prefillHead p c.args x (queryAt c.args q (e / shHeads c.args) (e % shHeads c.args)) (e / shHeads c.args)
            (e % shHeads c.args) len (d.fresh + 1 + e * units))
        let d1 := { d with fresh := d.fresh + 1 + qc * shHeads c.args * units }
        d1.emitOut k c x (loc / 4 % 4) (x.arg 0x38 8)
          (recs.flatMap Rec.bytes) (sumBy Rec.nonfinite recs) qc r)

/-- PREFILL (R232). -/
def execPrefill (handle : Nat) (r : Resp) (s : State) : Res :=
  ok s (s.dev.onRecipe handle [3] 0x10 (fun x => 16 ≤ x.arg 0x23 1 || x.arg 0x2E 2 != 0) (fun d k c x => d.prefill r k c x))

/-! ## MERGE (R233, R234) -/

/-- The reads of PARTS sets of `n` bytes at their stride, one after another. -/
def Dev.readSets (d : Dev) (k : Nat) (c : Chan) (x : Dsc) (n : Nat) (r : Resp) : Nat → ChAcc
  | 0 => .done d [] 0
  | i + 1 =>
    (Dev.readSets d k c x n r i).next (fun d bs _ =>
      (d.bufRead k c x.cls (x.arg 0x21 1 % 4) (argEp c.args) (x.arg 0x30 8 + i * x.arg 0x28 8) n
        (match r with
          | .data all => .data (slice all (i * n) n)
          | r => r)).next (fun d b _ => .done d (bs ++ b) 0))

/-- Record `j` of the bytes of a set. -/
def recAt (dim : Nat) (bs : List Byte) (off : Nat) : Rec :=
  ⟨(List.range dim).map (fun j => BitVec.ofNat 32 (leAt bs (off + 4 * j) 4)), BitVec.ofNat 32 (leAt bs (off + 4 * dim) 4)⟩

/-- MERGE on its channel: the parts are taken in an order that is left free. -/
def Dev.merge (d : Dev) (r : Resp) (k : Nat) (c : Chan) (x : Dsc) : Dev :=
  let parts := x.arg 0x20 1
  let qc := x.arg 0x24 2
  let form := x.arg 0x22 1
  let dim := shDim c.args
  let recB := 4 * (dim + 1)
  let n := qc * shHeads c.args * recB
  if parts < 2 || 16 < parts || 1 < form || qc < 1 || 16384 < qc then d.recEnd k x 0x11 0x0003 0
  else match d.outWaits k x (x.arg 0x21 1 / 4 % 4) (x.arg 0x38 8)
    (qc * shHeads c.args * (if form == 0 then recB else 2 * dim)) with
  | some d1 => d1
  | none =>
    Dev.endAcc k x 0 (d.readSets k c x n r parts) (fun d bs _ =>
      let order := shuffle d.fresh (List.range parts)
      let recs := (List.range (qc * shHeads c.args)).map (fun e =>
        mergeRecs dim (order.map (fun i => recAt dim bs (i * n + e * recB))))
      let outs := if form == 0 then recs.flatMap Rec.bytes
        else recs.flatMap (fun y => y.o.flatMap (fun w => leBytes 2 (fBF16.write (f32 w))))
      let bad := if form == 0 then sumBy Rec.nonfinite recs
        else sumBy (fun y : Rec => countBy (fun w => !(fBF16.read (fBF16.write (f32 w))).finiteB) y.o) recs
      ({ d with fresh := d.fresh + parts }).emitOut k c x (x.arg 0x21 1 / 4 % 4) (x.arg 0x38 8) outs bad qc r)

/-- MERGE (R234). -/
def execMerge (handle : Nat) (r : Resp) (s : State) : Res :=
  ok s (s.dev.onRecipe handle [2, 3] 0x11
    (fun x => 16 ≤ x.arg 0x21 1 || x.arg 0x23 1 != 0 || x.arg 0x26 2 != 0) (fun d k c x => d.merge r k c x))

end Sys2Proof.Machine
end

