-- ==== Sys2Proof/Machine/StageStream.lean ====
section
/-! DEFINITION. Streams, queues, descriptors, synchronisation, steps and boundaries of stage programs (R252 to R254, R262 to
R270). -/

namespace Sys2Proof.Machine

/-! ## Stream operations (R262, R263, R254) -/

/-- Whether the parameters of a stream operation are out of order (R262). -/
def streamBad (kind space mem sram len : Nat) : Bool :=
  3 ≤ space || (kind == 2 && space != 0) || len % 64 != 0 || len < 64 || 1048576 < len || mem % 64 != 0 || sram % 64 != 0 ||
  (space == 2 && 2 ^ 48 ≤ mem)

/-- The endpoint of SPACE 2: RECIPE_ARGS offset 0x38, the low 20 bits. -/
def Chan.streamEp (c : Chan) : Nat := argAt c.args 8 4 % 2 ^ 20

/-- Whether a failure is recorded against a descriptor, so that its stream accesses are dropped (R254). -/
def Chan.dscFailed (c : Chan) (desc : Option Nat) : Bool :=
  match desc with
  | some s => c.fetched.any (fun x => x.seq == s && x.failed != 0)
  | none => false

/-- The class of a stream access: that of its descriptor (R191, R212). -/
def Chan.opClass (c : Chan) (o : StreamOp) : Nat :=
  match o.desc.bind (fun s => c.fetched.find? (fun x => x.seq == s)) with
  | some x => x.cls
  | none => c.cls

/-- FP32 sums element by element, each rounded once. -/
def addFp32 (mem add : List Byte) : List Byte :=
  (List.range (add.length / 4)).flatMap (fun i =>
    leBytes 4 (f32add (BitVec.ofNat 32 (leAt mem (4 * i) 4)) (BitVec.ofNat 32 (leAt add (4 * i) 4))).toNat)

/-! ### Stores and accumulates in the channel's partition: locked sequences (R296 to R298) -/

/-- Whether a lock is that of a stream operation. -/
def streamLock (c : Nat) (o : StreamOp) (l : Lock) : Bool := !l.host && l.src == c && l.lockId == o.id

/-- The write of `n` bytes of an operation from byte `a` of it on; an accumulate reads them first. -/
def Dev.beatAcc (d : Dev) (c k : Nat) (ch : Chan) (o : StreamOp) (a n : Nat) : ChAcc :=
  let p := ctxPart k
  let cls := ch.opClass o
  let who := o.desc.map (fun s => (k, s))
  let own := streamLock c o
  let bs := slice o.data a n
  if o.kind == 1 then d.chWrite p (o.mem + a) (bs.map some) cls who own
  else (d.chRead p (o.mem + a) n cls (k + 1) own).next (fun d old _ => d.chWrite p (o.mem + a) ((addFp32 old bs).map some) cls who own)

/-- The bytes of an operation, from byte `a` of it on, that lie in the same aligned 4 KiB range. -/
def StreamOp.piece (o : StreamOp) (a : Nat) : Nat := Min.min (o.len - a) (4096 - (o.mem + a) % 4096)

/-- The pages at whose arbiters a write of the channel's partition is served, and its blocks, with their partition. -/
def Dev.lockPlace (d : Dev) (p off n : Nat) : Nat × List Nat × List Nat :=
  match d.resolve p off with
  | some t => let ps := d.writePieces t n; (t.part, pieceKeys ps, ps.flatMap Piece.blks)
  | none => (p, [], [])

/-- How many bytes of an operation have had their beats granted. -/
def Dev.streamSent (d : Dev) (c : Nat) (o : StreamOp) (n : Nat) : Dev :=
  d.modClu c (fun u => { u with streams := u.streams.map (fun x => if x.id == o.id then { x with sent := n } else x) })

/-- The first beat of an operation, when all of its first 4 KiB piece could be written now: the sequence takes the lock with it (R297).
A piece of one beat is written with the rest. -/
def Dev.streamFirst (d : Dev) (c k : Nat) (ch : Chan) (o : StreamOp) : Dev :=
  if o.kind == 0 || o.space != 0 || o.piece 0 ≤ 64 then d
  else match d.beatAcc c k ch o 0 (o.piece 0) with
    | .done _ _ _ =>
      (match d.beatAcc c k ch o 0 64 with
        | .done d1 _ _ =>
          let x := d.lockPlace (ctxPart k) o.mem 64
          ({ d1 with bw := { d1.bw with
              nextLock := d1.bw.nextLock + 1
              locks := d1.bw.locks ++ [Lock.mk d1.bw.nextLock false 24 c 0 o.id (ctxPart k) (o.mem / 4096) 1 x.1 x.2.1 x.2.2 .held] } }).streamSent c o 64
        | _ => d)
    | _ => d

/-- The end of a sequence of an operation: the lock is released. -/
def Dev.streamUnlock (d : Dev) (c : Nat) (o : StreamOp) : Dev :=
  (d.bw.locks.filter (streamLock c o)).foldl (fun d l => d.putLock l none) d

/-- A sequence of a stage that meets a poisoned block (Table 09.8): the beats before it are written and their blocks poisoned with those
written earlier, and it counts as broken. -/
def Dev.streamBroken (d : Dev) (c k : Nat) (ch : Chan) (o : StreamOp) (a : Nat) : Dev :=
  let n := (((List.range (o.piece a / 64)).reverse.map (64 * ·)).find? (fun n => n != 0 && (match d.beatAcc c k ch o a n with
    | .done _ _ _ => true
    | _ => false))).getD 0
  let d1 := match (if n == 0 then ChAcc.done d [] 0 else d.beatAcc c k ch o a n) with
    | .done d1 _ _ => if n == 0 then d1 else (let x := d.lockPlace (ctxPart k) (o.mem + a) n; d1.poisonBlks x.1 x.2.2)
    | _ => d
  match d1.bw.locks.find? (streamLock c o) with
  | some l => d1.breakLock l none
  | none => d1.inc K.locksBroken

/-- The rest of an operation from byte `a` on written, one aligned 4 KiB piece after another, each a sequence of its own, at most
`fuel` pieces. -/
def Dev.streamPieces (c k : Nat) (ch : Chan) (o : StreamOp) : Nat → Nat → Dev → ChAcc
  | 0, _, d => .done d [] 0
  | n + 1, a, d =>
    if o.len ≤ a then .done d [] 0
    else match d.beatAcc c k ch o a (o.piece a) with
      | .done d1 _ _ => Dev.streamPieces c k ch o n (a + o.piece a) ((d1.streamUnlock c o).streamSent c o (a + o.piece a))
      | .wait d1 => .wait d1
      | .fail d1 st dt => if st == 0x20 then .fail (d1.streamBroken c k ch o a) 0x22 0 else .fail d1 st dt

/-- The requests that a stream operation sends to a host at issue (Table 06.5): reads under tags, posted writes, UBL writes
line by line. -/
def Dev.streamSend (d : Dev) (c k : Nat) (ch : Chan) (o : StreamOp) : Dev :=
  let f := ch.fn k
  let src := d.rd (K.ofPart K.endpoint (ctxPart k))
  match o.space, o.kind with
  | 1, 0 => (d.newTag (some f) ch.port false (.stream c o.id)).emit (.hostRd f o.mem o.len d.nextTag)
  | 1, _ => d.emit (.hostWr f o.mem o.data)
  | 2, kind =>
    (ublLines o.mem o.len).foldl (fun d a =>
      match d.routePort o.ep (a / 64) with
      | none => d
      | some q =>
        (d.newTag (some f) q true (.stream c o.id)).emit
          (if kind == 0 then .ubl q opRdUncached o.ep src a d.nextTag (ch.opClass o) false 0 []
           else .ubl q opWrUncached o.ep src a d.nextTag (ch.opClass o) false 0 (leBytes 8 (2 ^ 64 - 1) ++ slice o.data (a - o.mem) 64))) d
  | _, _ => d

/-- A stream operation issued: `kind` 0 SLD, 1 SST, 2 SACC. The data of a store are taken at issue. One that goes through the
function of the bound port waits while Bus Master Enable is 0 there: the device starts no request through it (R314). -/
def Dev.streamIssue (d : Dev) (c kind space : Nat) (rs1 rs2 rs3 : Fin 32) (u : Clu) : SRes :=
  let mem := (u.xr rs1).toNat
  let sram := (u.xr rs2).toNat
  let len := (u.xr rs3).toNat
  if streamBad kind space mem sram len then .fault 0x0B 0
  else if 16 ≤ u.streams.length then .wait
  else orStop [if kind == 0 then u.wrStop sram len 64 else u.rdStop sram len 64]
    (d.stageChan u (fun k ch =>
      if space != 0 && !ch.dscFailed u.cur && !d.bme (ch.fn k) then .wait
      else
      let o : StreamOp :=
        ⟨u.nextOp, kind, space, mem, sram, len, if kind == 0 then [] else u.rdSram sram len, u.cur, ch.streamEp, 0⟩
      let d1 := d.setClu c { u with streams := u.streams ++ [o], nextOp := u.nextOp + 1 }
      .dev (if ch.dscFailed u.cur then d1 else if space == 0 then d1.streamFirst c k ch o else d1.streamSend c k ch o)))

/-- SLD (R262). -/
def execSld (c : Nat) (space : Nat) (rs1 rs2 rs3 : Fin 32) (s : State) : Res :=
  ok s (s.dev.stage c (s.dev.streamIssue c 0 space rs1 rs2 rs3))

/-- A store or accumulate, which reads SRAM: on the state after a corrected error is counted. -/
def Dev.streamStore (d : Dev) (c kind space : Nat) (rs1 rs2 rs3 : Fin 32) (ecc : Ecc) : Dev :=
  let word := fun u : Clu => (u.xr rs2).toNat
  let acts := d.stageOn c && !(d.clu c).paused && (d.clu c).limit.isNone &&
    (match d.streamIssue c kind space rs1 rs2 rs3 (d.clu c) with
      | .dev _ => true
      | _ => false)
  match ecc with
  | .ok => d.stage c (d.streamIssue c kind space rs1 rs2 rs3)
  | .corrected =>
    if acts then
      let d1 := d.sramCorrected c (word (d.clu c) / 8)
      d1.stage c (d1.streamIssue c kind space rs1 rs2 rs3)
    else d.stage c (d.streamIssue c kind space rs1 rs2 rs3)
  | .uncorrectable => if acts then d.sramUncorrectable c else d.stage c (d.streamIssue c kind space rs1 rs2 rs3)

/-- SST (R262). -/
def execSst (c : Nat) (space : Nat) (rs1 rs2 rs3 : Fin 32) (ecc : Ecc) (s : State) : Res :=
  ok s (s.dev.streamStore c 1 space rs1 rs2 rs3 ecc)

/-- SACC (R262). -/
def execSacc (c : Nat) (space : Nat) (rs1 rs2 rs3 : Fin 32) (ecc : Ecc) (s : State) : Res :=
  ok s (s.dev.streamStore c 2 space rs1 rs2 rs3 ecc)

/-- The outstanding operation gone, with data for its SRAM range where it is a load. -/
def Dev.streamDone (d : Dev) (c : Nat) (o : StreamOp) (bs : List Byte) : Dev :=
  ((d.streamUnlock c o).freeTags (.stream c o.id)).modClu c (fun u =>
    let u1 := { u with streams := u.streams.filter (fun x => x.id != o.id) }
    if o.kind == 0 then u1.wrSram o.sram (slice bs 0 o.len) else u1)

/-- A failed stream access (R254). -/
def Dev.streamFail (d : Dev) (c k : Nat) (o : StreamOp) (st dt : Nat) : Dev :=
  if st == 0x11 || st == 0x10 then
    (match o.desc with
      | some s => d.modDsc k s (fun x => if x.failed == 0 then { x with failed := st + 256 * dt } else x)
      | none => d).streamDone c o []
  else if st == 0x20 || st == 0x21 || st == 0x22 then
    match o.desc with
    | some s => d.failHalt k s st dt
    | none => d.cluFail c st dt
  else d.haltChan k none st dt

/-- The memory access of an operation in the channel's partition. -/
def Dev.streamMem (d : Dev) (c k : Nat) (ch : Chan) (o : StreamOp) : ChAcc :=
  if o.kind == 0 then d.chRead (ctxPart k) o.mem o.len (ch.opClass o) (k + 1)
  else Dev.streamPieces c k ch o (o.len / 4096 + 2) o.sent d

/-- What a host answered an operation outside the partition: poisoned data are a failed access (R193). -/
def streamHost (d : Dev) (o : StreamOp) (r : Resp) : ChAcc :=
  match r with
  | .data bs => if o.kind == 0 && bs.length != o.len then .fail d 0x30 0x000A else .done d bs 0
  | _ => .fail d 0x30 0x000A

/-- Whether an earlier operation of the cluster with an overlapping memory range is outstanding (R263). -/
def Clu.earlier (u : Clu) (o : StreamOp) : Bool :=
  u.streams.any (fun x => x.id < o.id && x.space == o.space && x.mem < o.mem + o.len && o.mem < x.mem + x.len)

/-- The end of a stream operation of a live channel. -/
def Dev.streamEnd (d : Dev) (c k : Nat) (ch : Chan) (o : StreamOp) (r : Resp) : Dev :=
  if ch.dscFailed o.desc then d.streamDone c o []
  else match (if o.space == 0 then d.streamMem c k ch o else streamHost d o r) with
    | .wait d1 => d1
    | .fail d1 st dt => (d1.streamFail c k o st dt).settle
    | .done d1 bs ovr =>
      let d2 := match o.desc with
        | some s => if ovr == 0 then d1 else d1.modDsc k s (fun x => { x with overrun := true })
        | none => d1
      (d2.streamDone c o bs).settle

/-- STREAM_COMPLETE (R254, R263). -/
def execStreamComplete (c : Nat) (op : Nat) (r : Resp) (s : State) : Res :=
  let d := s.dev
  let u := d.clu c
  ok s (match u.streams.find? (fun o => o.id == op), u.chan with
    | some o, some k =>
      (match d.chan k with
        | some ch => if ch.st == .active && !u.earlier o then d.streamEnd c k ch o r else d
        | none => d)
    | _, _ => d)

/-- Whether an earlier store or accumulate of the cluster is outstanding (R263). -/
def Clu.storesOut (u : Clu) : Bool := u.streams.any (fun o => o.kind != 0)

/-! ## Queues (R264) -/

/-- The queue with the first buffer that `p` picks changed. -/
def modFirst (p : QBuf → Bool) (f : QBuf → Option QBuf) : List QBuf → List QBuf
  | [] => []
  | b :: r => if p b then (match f b with
      | some b' => b' :: r
      | none => r) else b :: modFirst p f r

/-- QPOP: waits for a buffer. -/
def queuePop (stage : Nat) (r1 : Fin 32) (u : Clu) : SRes :=
  if r1 = 0 || r1 = 31 || !u.feeders.contains stage then .wait
  else match (u.from stage).find? (fun b => !b.popped) with
    | none => .wait
    | some b =>
      let u1 := { u with queue := modFirst (fun x => x.stage == stage && !x.popped) (fun x => some { x with popped := true }) u.queue }
      .go ((u1.setX r1 (BitVec.ofNat 64 (u.bufAddr b))).setX (r1 + 1) (BitVec.ofNat 64 (b.len + b.tag * 2 ^ 32)))

/-- QREL: the oldest popped buffer released. -/
def queueRel (stage : Nat) (u : Clu) : SRes :=
  match (u.from stage).find? (fun b => b.popped) with
  | none => .fault 0x09 0
  | some b =>
    if u.busy (u.bufAddr b) 4096 then .wait
    else .go { u with queue := modFirst (fun x => x.stage == stage && x.popped) (fun _ => none) u.queue }

/-- QCNT. -/
def queueCnt (stage : Nat) (r1 : Fin 32) (u : Clu) : SRes :=
  .go (u.setX r1 (BitVec.ofNat 64 (countBy (fun b => !b.popped) (u.from stage))))

/-- A buffer put into the queue of a receiving cluster, at the position after the last one. -/
def Clu.receive (u : Clu) (stage tag : Nat) (bs : List Byte) : Clu :=
  let pos := match (u.from stage).getLast? with
    | some b => (b.pos + 1) % 8
    | none => 0
  let b : QBuf := ⟨stage, pos, bs.length, tag, false⟩
  { u with queue := u.queue ++ [b] }.wrSram (u.bufAddr b) bs

/-- The receivers of a buffer: every cluster of the stage, or one by key or rotation. -/
def Dev.receivers (d : Dev) (ch : Chan) (u : Clu) (dst key : Nat) : List Nat :=
  let cs := d.stageClus ch dst
  if bit (d.bcastMask ch.recipe u.stage) dst then cs
  else (cs[(if key == 0xFFFF then kget 0 dst u.rot else key) % cs.length]?).toList

/-- QSEND: waits for credit at every receiver and for earlier stores. -/
def Dev.queueSend (d : Dev) (c dst : Nat) (r1 r2 r3 : Fin 32) (u : Clu) : SRes :=
  let a := (u.xr r1).toNat
  let n := (u.xr r2).toNat
  let key := (u.xr r3).toNat % 2 ^ 16
  d.stageChan u (fun _ ch =>
    if !bit (d.outMask ch.recipe u.stage) dst then .wait
    else if n % 64 != 0 || n < 64 || 4096 < n then .fault 0x09 0
    else orStop [u.rdStop a n 1] (
      let rs := d.receivers ch u dst key
      if u.storesOut || rs.isEmpty || rs.any (fun x => 8 ≤ ((d.clu x).from u.stage).length) then .wait
      else
        let d1 := d.setClu c { u with
          rot := if key == 0xFFFF && !bit (d.bcastMask ch.recipe u.stage) dst then kput dst (kget 0 dst u.rot + 1) u.rot else u.rot }
        .dev (rs.foldl (fun d x => d.modClu x (fun v => v.receive u.stage ((u.xr r3).toNat / 2 ^ 32) (u.rdSram a n))) d1)))

/-- QPOP (R264). -/
def execQpop (c : Nat) (stage : Nat) (r1 : Fin 32) (s : State) : Res := ok s (s.dev.stage c (queuePop stage r1))

/-- QREL (R264). -/
def execQrel (c : Nat) (stage : Nat) (s : State) : Res := ok s (s.dev.stage c (queueRel stage))

/-- QCNT (R264). -/
def execQcnt (c : Nat) (stage : Nat) (r1 : Fin 32) (s : State) : Res := ok s (s.dev.stage c (queueCnt stage r1))

/-- QSEND with the ECC outcome of the bytes it reads. -/
def Dev.queueSendEcc (d : Dev) (c dst : Nat) (r1 r2 r3 : Fin 32) (ecc : Ecc) : Dev :=
  let acts := d.stageOn c && !(d.clu c).paused && (d.clu c).limit.isNone && (match d.queueSend c dst r1 r2 r3 (d.clu c) with
    | .dev _ => true
    | _ => false)
  match ecc with
  | .ok => d.stage c (d.queueSend c dst r1 r2 r3)
  | .corrected =>
    if acts then
      let d1 := d.sramCorrected c (((d.clu c).xr r1).toNat / 8)
      d1.stage c (d1.queueSend c dst r1 r2 r3)
    else d.stage c (d.queueSend c dst r1 r2 r3)
  | .uncorrectable => if acts then d.sramUncorrectable c else d.stage c (d.queueSend c dst r1 r2 r3)

/-- QSEND (R264). -/
def execQsend (c : Nat) (stage : Nat) (r1 r2 r3 : Fin 32) (ecc : Ecc) (s : State) : Res :=
  ok s (s.dev.queueSendEcc c stage r1 r2 r3 ecc)

/-! ## Descriptors (R252, R253) -/

/-- The 64 bytes of a descriptor (Table 06.8.A). -/
def Dsc.bytes (x : Dsc) : List Byte :=
  leBytes 1 x.op ++ leBytes 1 x.flags ++ leBytes 2 x.tag ++ leBytes 4 x.waitH ++ leBytes 8 x.waitV ++ leBytes 4 x.sigH ++
  leBytes 4 x.deadline ++ leBytes 8 x.sigAdd ++ x.args

/-- Whether a descriptor has reached a stage (R252). -/
def Chan.reached (c : Chan) (x : Dsc) (stage : Nat) : Bool :=
  stage == 0 || (List.range (c.stages.getD (stage - 1) []).length).all (fun r => x.passed.contains (stage - 1, r))

/-- The next descriptor that a cluster has not had: the first at work, NOP apart, in SQ order. -/
def Chan.nextFor (c : Chan) (stage rank : Nat) : Option Dsc :=
  c.fetched.find? (fun x =>
    x.ph == .running && x.op != 0 && !x.passed.contains (stage, rank) &&
    !(stage + 1 == c.stages.length && x.dones.any (fun e => e.1 == rank)))

/-- DNEXT. -/
def Dev.dscNext (d : Dev) (r1 : Fin 32) (u : Clu) : SRes :=
  let a := (u.xr r1).toNat
  if u.cur.isSome then .fault 0x07 0
  else orStop [u.wrStop a 64 64]
    (d.stageChan u (fun _ ch =>
      match ch.nextFor u.stage u.rank with
      | some x => if ch.reached x u.stage then .go { u.wrSram a x.bytes with cur := some x.seq } else .wait
      | none => .wait))

/-- DPASS. -/
def Dev.dscPass (d : Dev) (c : Nat) (u : Clu) : SRes :=
  d.stageChan u (fun k ch =>
    match u.cur with
    | none => .fault 0x07 0
    | some s =>
      if u.stage + 1 == ch.stages.length then .fault 0x07 0
      else if u.storesOut then .wait
      else .dev ((d.modDsc k s (fun x => { x with passed := x.passed ++ [(u.stage, u.rank)] })).setClu c { u with cur := none }))

/-- Whether a status word of DDONE is refused (R253). -/
def doneBad (w : Nat) : Bool := !(w == 0 || (w < 2 ^ 24 && 0xF0 ≤ w % 256))

/-- The outcome of a descriptor when every cluster of the last stage has given its word: status, DETAIL, RESULT (R253). -/
def Dsc.outcome (x : Dsc) : Nat × Nat × Nat :=
  let ds := sortBy (fun a b => a.1 < b.1) x.dones
  let result := ((ds.find? (fun e => e.1 == 0)).map (fun e => e.2.2)).getD 0
  if x.failed != 0 then (x.failed % 256, x.failed / 256, result)
  else match ds.find? (fun e => e.2.1 != 0) with
    | some e => (e.2.1 % 256, e.2.1 / 256, result)
    | none => (if x.overrun then 2 else 0, 0, result)

/-- A descriptor that every cluster of the last stage is done with is finished. -/
def Dev.dscFinish (d : Dev) (k s n : Nat) : Dev :=
  match (d.chan k).bind (fun c => c.fetched.find? (fun x => x.seq == s)) with
  | some x => if x.dones.length < n then d else d.endDsc k s x.outcome.1 x.outcome.2.1 x.outcome.2.2
  | none => d

/-- DDONE. -/
def Dev.dscDone (d : Dev) (c : Nat) (r1 r2 : Fin 32) (u : Clu) : SRes :=
  let w := (u.xr r1).toNat
  d.stageChan u (fun k ch =>
    match u.cur with
    | none => .fault 0x07 0
    | some s =>
      if u.stage + 1 != ch.stages.length then .fault 0x07 0
      else if doneBad w then .fault 0x08 0
      else if u.storesOut then .wait
      else
        let d1 := d.modDsc k s (fun x => { x with dones := x.dones ++ [(u.rank, w, (u.xr r2).toNat)] })
        .dev ((d1.setClu c { u with cur := none }).dscFinish k s (ch.stages.getD u.stage []).length))

/-- DSTAT. -/
def Dev.dscStat (d : Dev) (r1 : Fin 32) (u : Clu) : SRes :=
  d.stageChan u (fun _ ch =>
    let st := ((u.cur.bind (fun s => ch.fetched.find? (fun x => x.seq == s))).map (fun x => x.failed % 256)).getD 0
    .go (u.setX r1 (BitVec.ofNat 64 st)))

/-- DNEXT (R252). -/
def execDnext (c : Nat) (r1 : Fin 32) (s : State) : Res := ok s (s.dev.stage c (s.dev.dscNext r1))

/-- DPASS (R252). -/
def execDpass (c : Nat) (s : State) : Res := ok s (s.dev.stage c (s.dev.dscPass c))

/-- DDONE (R253). -/
def execDdone (c : Nat) (r1 r2 : Fin 32) (s : State) : Res := ok s (s.dev.stage c (s.dev.dscDone c r1 r2))

/-- DSTAT (R265). -/
def execDstat (c : Nat) (r1 : Fin 32) (s : State) : Res := ok s (s.dev.stage c (s.dev.dscStat r1))

/-! ## Synchronisation and identity (R265) -/

/-- The synchronisation object that a register names; none for BAD_SYNC. -/
def Dev.stageSync (d : Dev) (k : Nat) (h : W64) : Option Nat := if h.toNat < 2 ^ 32 then d.syncOf (ctxPart k) h.toNat else none

/-- SSIG. -/
def Dev.stageSignal (d : Dev) (r1 r2 : Fin 32) (u : Clu) : SRes :=
  d.stageChan u (fun k _ =>
    match d.stageSync k (u.xr r1) with
    | none => .fault 0x06 0
    | some y => if u.storesOut then .wait else .dev (d.signalObj y (u.xr r2).toNat))

/-- SWAIT. -/
def Dev.stageWait (d : Dev) (r1 r2 : Fin 32) (u : Clu) : SRes :=
  d.stageChan u (fun k _ =>
    match (d.stageSync k (u.xr r1)).bind (fun y => kfind y d.chs.syncs) with
    | none => .fault 0x06 0
    | some y => if (u.xr r2).toNat ≤ y.value then .go u else .wait)

/-- CARGS. -/
def Dev.stageArgs (d : Dev) (r1 : Fin 32) (u : Clu) : SRes :=
  let a := (u.xr r1).toNat
  orStop [u.wrStop a 16 16] (d.stageChan u (fun _ ch => .go (u.wrSram a (leBytes 16 ch.args))))

/-- The identity values 0 to 6. -/
def Dev.identity (d : Dev) (u : Clu) (k : Nat) (ch : Chan) (i : Nat) : Nat :=
  match i with
  | 0 => u.stage
  | 1 => u.rank
  | 2 => (ch.stages.getD u.stage []).length
  | 3 => u.logical.getD 0
  | 4 => ctxPart k
  | 5 => d.chHandle k
  | _ => u.steps

/-- ID: the count of aclk cycles is a free value. -/
def Dev.stageId (d : Dev) (c : Nat) (r1 : Fin 32) (imm : BitVec 14) (u : Clu) : SRes :=
  let i := imm.toNat
  d.stageChan u (fun k ch =>
    if 7 < i then .wait
    else if i == 7 then .dev (d.drawn.setClu c (u.setX r1 (BitVec.ofNat 64 d.free)))
    else .go (u.setX r1 (BitVec.ofNat 64 (d.identity u k ch i))))

/-- SSIG (R265, R203). -/
def execSsig (c : Nat) (r1 r2 : Fin 32) (s : State) : Res := ok s (s.dev.stage c (s.dev.stageSignal r1 r2))

/-- SWAIT (R265). -/
def execSwait (c : Nat) (r1 r2 : Fin 32) (s : State) : Res := ok s (s.dev.stage c (s.dev.stageWait r1 r2))

/-- CARGS (R265). -/
def execCargs (c : Nat) (r1 : Fin 32) (s : State) : Res := ok s (s.dev.stage c (s.dev.stageArgs r1))

/-- ID (R265). -/
def execIdRead (c : Nat) (r1 : Fin 32) (imm : BitVec 14) (s : State) : Res := ok s (s.dev.stage c (s.dev.stageId c r1 imm))

/-! ## Steps and boundaries (R267, R268, R389 to R393) -/

/-- NOP (R270). -/
def execNop (c : Nat) (s : State) : Res := ok s (s.dev.stage c (fun u => .go u))

/-- Whether a stage pauses at a STEP for want of a Bud (R390). -/
def Dev.dupStarved (d : Dev) (u : Clu) : Bool :=
  d.flag K.dupEnable && u.st == .active && u.window.isNone && 65280 ≤ u.sinceDup && d.freeBuds.isEmpty

/-- The comparison of a window at a STEP: it begins at the first STEP after its start and ends clean at the 256th after
that. -/
def Dev.windowStep (d : Dev) (c b : Nat) (dup : DupCheck) : Dev :=
  let n := (d.clu b).sinceDup
  if n != 0 && dup == .differ then d.windowMismatch c b
  else if 256 ≤ n then (d.windowClean c b).startTests
  else d.modClu b (fun v => { v with sinceDup := n + 1 })

/-- STEP on a cluster that can go on. -/
def Dev.stepOn (d : Dev) (c : Nat) (dup : DupCheck) (u : Clu) : Dev :=
  let d1 := d.setClu c { u with pc := u.pc + 1, insns := 0, steps := u.steps + 1, sinceDup := u.sinceDup + 1, paused := false }
  match u.window with
  | some b => d1.windowStep c b dup
  | none => d1

/-- STEP (R267). A built-in stage has a boundary every 256 steps at most (R214): it takes no further step before that
boundary. -/
def execStep (c : Nat) (dup : DupCheck) (s : State) : Res :=
  let d := s.dev
  let u := d.clu c
  ok s (
    if !d.stageOn c || (u.prog.isEmpty && 256 ≤ u.steps) then d
    else match u.limit with
      | some code => d.stageFault c code 0
      | none =>
        if 4096 ≤ u.steps then d.stageFault c 0x04 0
        else if d.dupStarved u then (if u.paused then d else (d.inc K.dupPauses).modClu c (fun v => { v with paused := true }))
        else d.stepOn c dup u)

/-- What a boundary carries (R268): the program counter, the scalar registers, the descriptor, the queues with their buffers,
and `n` bytes of SRAM at `a`. -/
def Clu.carried (u : Clu) (a n : Nat) : Clu :=
  { u.cleared with
    pc := u.pc + 1, x := u.x, cur := u.cur, queue := u.queue, rot := u.rot, steps := 0,
    sram := u.sram.filter (fun e => (a ≤ e.1 && e.1 < a + n) || queueBase (u.feeders.length - 1) ≤ e.1 && !u.feeders.isEmpty) }

/-- The takeover of a stage by a Bud, and the test of its cluster (R173, R268, R392). -/
def Dev.takeOver (d : Dev) (c b : Nat) (v : Clu) : Dev :=
  let d1 := (d.endWindow c).moveStage c b .takeover
  let d2 := d1.modClu b (fun w =>
    { w with pc := v.pc, x := v.x, cur := v.cur, queue := v.queue, rot := v.rot, sram := v.sram, tookFrom := some c })
  (d2.modClu c (fun w => { w with st := .testing, iftDue := false, iftForce := false })).inc K.clusterTakeovers

/-- BND with nothing outstanding. -/
def Dev.boundary (d : Dev) (c a n : Nat) (u : Clu) : SRes :=
  let v := u.carried a n
  let bs := d.freeBuds
  if u.iftDue && u.st == .active && 2 ≤ bs.length && d.testsRunning < 4 then
    match bs[d.free % bs.length]? with
    | some b => .stop (d.drawn.takeOver c b v)
    | none => .wait
  else if u.iftDue && u.iftForce && u.st == .active && d.testsRunning < 4 then
    .stop (((d.endWindow c).setClu c { v with st := .testing, inPlace := true, iftDue := false, iftForce := false, window := none }).inc K.iftPauses)
  else .go { u with steps := 0 }

/-- BND. -/
def Dev.stageBnd (d : Dev) (c : Nat) (r1 r2 : Fin 32) (u : Clu) : SRes :=
  let a := (u.xr r1).toNat
  let n := (u.xr r2).toNat
  if !u.streams.isEmpty then .wait
  else if u.queue.any (fun b => b.popped) || 262144 < n then .fault 0x0A 0
  else if a % 64 != 0 || (0 < n && u.sramLimit < a + n) then .fault 0x02 0
  else d.boundary c a n u

/-- BND (R268). -/
def execBnd (c : Nat) (r1 r2 : Fin 32) (s : State) : Res := ok s (s.dev.stage c (s.dev.stageBnd c r1 r2))

/-- SFENCE (R270). -/
def execSfence (c : Nat) (imm : BitVec 14) (s : State) : Res :=
  ok s (s.dev.stage c (fun u => if u.streams.length ≤ imm.toNat then .go u else .wait))

/-- FAULT (R270). -/
def execFault (c : Nat) (imm : BitVec 14) (s : State) : Res := ok s (s.dev.stage c (fun _ => .fault 0x0C imm.toNat))

end Sys2Proof.Machine
end

