-- ==== Sys2Proof/Machine/Recipes.lean ====
section
/-! DEFINITION. The recipes WSTREAM (R235 to R241), REDUCE (R242 to R245, R109) and GATHER (R246). -/

namespace Sys2Proof.Machine

/-! ## WSTREAM -/

/-- The end of a PUSH that delivers no bytes; RESULT shows what was decided (Table 07.17). -/
def Dev.pushEnd (d : Dev) (k : Nat) (x : Dsc) (st dt : Nat) : Dev := d.recEnd k x st dt (x.early 4)

/-- RESULT of a PUSH (Table 07.17). -/
def pushResult (x : Dsc) (ovr : Nat) : Nat :=
  x.arg 0x28 4 / 4096 + x.early 4 + satN 20 ovr * 2 ^ 44

/-- The status of a PUSH that delivered its bytes (R106, R238). -/
def pushStatus (x : Dsc) (ovr : Nat) : Nat :=
  if x.missed then 0x40 else if x.fallback != 0 then 1 else if ovr != 0 then 2 else 0

/-- The source of a PUSH: the window, its base alone, or its base with the coarse store (Table 07.13). A coarse store that does not meet
R240 any more, because it was destroyed, ends the PUSH as R239 says of a destroyed delta store (DESIGN CHOICE, log entry 147). -/
def Dev.pushSource (d : Dev) (k : Nat) (w : Win) (args : Nat) (x : Dsc) : ChAcc :=
  let rel := x.arg 0x20 8
  let len := x.arg 0x28 4
  if len == 0 then .done d [] 0
  else match x.fallback with
    | 1 => d.tgtRead ⟨w.bpart, w.bnum, w.bobj, w.bobj.ext * 2 ^ 30 + rel⟩ len x.cls (k + 1) noLock
    | 2 =>
      if d.coarseBad (ctxPart k) (argAt args 0 2) (argAt args 2 2) then .fail d 0x11 0x0004
      else d.tgtRead ⟨w.t.part, w.t.num, { w.t.obj with backing := argAt args 2 2 }, w.t.off + rel⟩ len x.cls (k + 1) noLock
    | _ => d.tgtRead { w.t with off := w.t.off + rel } len x.cls (k + 1) noLock

/-- The bytes of a PUSH delivered. -/
def Dev.pushGo (d : Dev) (r : Resp) (k : Nat) (c : Chan) (x : Dsc) (w : Win) : Dev :=
  let loc := x.arg 0x2C 1 % 4
  if hostFails loc r then d.pushEnd k x 0x30 0x000A
  else match d.outWaits k x loc (x.arg 0x30 8) (x.arg 0x28 4) with
    | some d1 => d1
    | none =>
      match d.pushSource k w c.args x with
      | .wait d1 => d1
      | .fail d1 st dt => d1.pushEnd k x st dt
      | .done d1 bs ovr =>
        match (if bs.isEmpty then ChAcc.done d1 [] 0 else d1.bufWrite k c x.cls loc (argEp c.args) (x.arg 0x30 8) bs x.seq) with
        | .wait d2 => d2
        | .fail d2 st dt => d2.pushEnd k x st dt
        | .done d2 _ _ => (d2.add K.pushBytes (x.arg 0x28 4)).recEnd k x (pushStatus x ovr) 0 (pushResult x ovr)

/-- PUSH at the head of its stage: the promotions of pages that are not ready, then the bytes as soon as the parts that the
decision calls for are ready (R237). -/
def Dev.push (d : Dev) (r : Resp) (k : Nat) (c : Chan) (x : Dsc) : Dev :=
  match d.wsWin (ctxPart k) c.args with
  | none => d.pushEnd k x 0x11 0x0004
  | some w =>
    match wsRefusal w x with
    | some (st, dt) => d.pushEnd k x st dt
    | none =>
      let d1 := d.promoteAll x.cls (wsBase w x ++ wsDelta w x)
      if d1.partReady (wsBase w x) && (x.fallback != 0 || d1.partReady (wsDelta w x)) then d1.pushGo r k c x w else d1

/-- PUSH (R237). -/
def execPush (handle : Nat) (r : Resp) (s : State) : Res :=
  ok s (s.dev.onRecipe handle [4] 0x10 (fun x => 4 ≤ x.arg 0x2C 1 || x.arg 0x2D 1 != 0 || x.arg 0x38 8 != 0)
    (fun d k c x => d.push r k c x))

/-- The decision of Table 07.13 for a PUSH under a policy (0 STALL, 1 BASE, 2 COARSE): DEADLINE_MISSED, LATE_START,
FALLBACK. -/
def pushDecide (policy : Nat) (base delta late : Bool) : Bool × Bool × Nat :=
  if base && delta then (late && policy == 0, late && policy != 0, 0)
  else if !base || policy == 0 then (true, false, 0)
  else (false, false, policy)

/-- PUSH_DECISION (R238): once, for a PUSH with a deadline at the head of its stage. -/
def execPushDecision (handle : Nat) (late : Bool) (s : State) : Res :=
  ok s (s.dev.onRecipe handle [4] 0x10 (fun _ => false) (fun d k c x =>
    match d.wsWin (ctxPart k) c.args with
    | none => d
    | some w =>
      if x.deadline == 0 || x.step != 0 then d
      else
        let r := pushDecide x.policy (d.partReady (wsBase w x)) (d.partReady (wsDelta w x)) late
        d.modDsc k x.seq (fun y => { y with missed := r.1, late := r.2.1, fallback := r.2.2, step := 1 })))

/-- PREFETCH on its channel: the promotions started, complete once each is accepted; a promotion that waits for a staging
frame is not (R236, R58). -/
def Dev.prefetch (d : Dev) (k : Nat) (c : Chan) (x : Dsc) : Dev :=
  match d.wsWin (ctxPart k) c.args with
  | none => d.recEnd k x 0x11 0x0004 0
  | some w =>
    match wsRefusal w x with
    | some (st, dt) => d.recEnd k x st dt 0
    | none =>
      let ks := wsBase w x ++ wsDelta w x
      let n := if x.step == 0 then countBy (fun y => d.inT3 y && !d.moving y) ks.eraseDups else x.result
      let d1 := d.promoteAll x.cls ks
      if ks.any (fun y => d1.mm.wantPromo.any (fun e => e.1 == y)) then
        d1.modDsc k x.seq (fun y => { y with step := 1, result := n })
      else d1.recEnd k x 0 0 n

/-- PREFETCH (R236). -/
def execPrefetch (handle : Nat) (s : State) : Res :=
  ok s (s.dev.onRecipe handle [4] 0x11 (fun x => x.arg 0x2D 1 != 0 || x.arg 0x38 8 != 0) (fun d k c x => d.prefetch k c x))

/-! ## REDUCE -/

/-- Bytes of `count` elements in a format (Table 07.15). -/
def redBytes (fmt count : Nat) : Nat :=
  match fmt with
  | 0 => 4 * count
  | 1 => 2 * count
  | _ => count / 128 * 68

/-- A GQ4 unit of 68 bytes decoded into 128 values (R109). -/
def gq4Decode (bs : List Byte) : List FV :=
  (List.range 4).flatMap (fun k => mxE2M1.group (leAt bs k 1) (slice bs (4 + 16 * k) 16))

/-- 128 values encoded as a GQ4 unit. -/
def gq4Encode (vs : List FV) : List Byte :=
  let es := (List.range 4).map (fun k => mxE2M1.encode none ((vs.drop (32 * k)).take 32))
  es.map (fun e => BitVec.ofNat 8 e.1) ++ es.flatMap (fun e => mxE2M1.pack e.2)

/-- Elements of a format as FP32 bytes. -/
def redDecode (fmt count : Nat) (bs : List Byte) : List Byte :=
  match fmt with
  | 0 => slice bs 0 (4 * count)
  | 1 => (List.range count).flatMap (fun i => leBytes 4 (leAt bs (2 * i) 2 * 2 ^ 16))
  | _ => (List.range (count / 128)).flatMap (fun u => (gq4Decode (slice bs (68 * u) 68)).flatMap (fun v => leBytes 4 (w32 v).toNat))

/-- The refusal of ACCUMULATE and READOUT (R217, Table 07.18), with the accumulator's first byte otherwise. -/
def Dev.redRefusal (d : Dev) (p : Nat) (args : Nat) (x : Dsc) : Option (Nat × Nat) :=
  let n := x.arg 0x28 4
  match d.obj p (argAt args 0 2) with
  | none => some (0x11, 0x0004)
  | some o =>
    if x.arg 0x20 8 % 512 != 0 || n % 128 != 0 || n < 128 || 2 ^ 24 < n || 2 < x.arg 0x2C 1 || o.n * 2 ^ 30 < x.arg 0x20 8 + 4 * n then
      some (0x11, 0x0003)
    else none

/-- ACCUMULATE on its channel. -/
def Dev.accumulate (d : Dev) (r : Resp) (k : Nat) (c : Chan) (x : Dsc) : Dev :=
  let p := ctxPart k
  let n := x.arg 0x28 4
  match d.redRefusal p c.args x with
  | some (st, dt) => d.recEnd k x st dt 0
  | none =>
    let off := d.baseOff p (argAt c.args 0 2) + x.arg 0x20 8
    match firstWait [d.chRead p off (4 * n) x.cls (k + 1), d.chWrite p off ((zeros (4 * n)).map some) x.cls (some (k, x.seq))] with
    | some d1 => d1
    | none =>
      Dev.endAcc k x 0
        ((d.bufRead k c x.cls (x.arg 0x2D 1 % 4) (argEp c.args) (x.arg 0x30 8) (redBytes (x.arg 0x2C 1) n) r).next (fun d src _ =>
          (d.chRead p off (4 * n) x.cls (k + 1)).next (fun d bs _ =>
            d.chWrite p off ((addFp32 bs (redDecode (x.arg 0x2C 1) n src)).map some) x.cls (some (k, x.seq))))) (fun d _ _ =>
        if argAt c.args 4 4 == 0 then d.recEnd k x 0 0 n
        else match d.syncOf p (argAt c.args 4 4) with
          | some y => (d.signalObj y (n / 128)).recEnd k x 0 0 n
          | none => (d.inc K.badHandles).recEnd k x 0x12 0x0008 n)

/-- Whether reserved bits of REDUCE arguments are set: LOC, FLAGS (of which READOUT defines bit 0), reserved bytes. -/
def redReserved (readout : Bool) (x : Dsc) : Bool :=
  4 ≤ x.arg 0x2D 1 || (if readout then 2 else 1) ≤ x.arg 0x2E 1 || x.arg 0x2F 1 != 0 || x.arg 0x38 8 != 0

/-- ACCUMULATE (R243, R245). -/
def execAccumulate (handle : Nat) (r : Resp) (s : State) : Res :=
  ok s (s.dev.onRecipe handle [5] 0x10 (redReserved false) (fun d k c x => d.accumulate r k c x))

/-- The output of a READOUT in a format, and the residues after it (R109, R244). -/
def readoutBytes (fmt n : Nat) (acc res : List Byte) : List Byte × List Byte :=
  match fmt with
  | 0 => (acc, [])
  | 1 => ((List.range n).flatMap (fun i => leBytes 2 (fBF16.write (f32 (BitVec.ofNat 32 (leAt acc (4 * i) 4))))), [])
  | _ =>
    let vs := (List.range n).map (fun i => f32add (BitVec.ofNat 32 (leAt acc (4 * i) 4)) (BitVec.ofNat 32 (leAt res (4 * i) 4)))
    let units := (List.range (n / 128)).map (fun u => gq4Encode (((vs.drop (128 * u)).take 128).map f32))
    (units.flatten,
      (vs.zip (units.flatMap gq4Decode)).flatMap (fun e => leBytes 4 (w32 ((f32 e.1).add e.2.neg)).toNat))

/-- The accumulators of a READOUT made invalid, with the log record of a mirrored object (R244). -/
def Dev.readoutClear (d : Dev) (p : Nat) (o : Obj) (rel n k seq : Nat) : Dev :=
  let first := o.ext * 2 ^ 22 + rel / 256
  let ks := d.runPages p first (n / 64)
  let way := d.mirrorWay p o ks
  let d1 := (d.discardBlocks p first (n / 64)).mirrorNote way ks [⟨p, .discard first (n / 64)⟩]
  if way == .log then
    { d1 with pr := { d1.pr with holds := d1.pr.holds ++ [MirHold.mk (d1.pr.txSeq - 1) p [] none (some (k, seq)) none] } }
  else d1

/-- Whether the clear of a READOUT must wait: a page of it moves, or the mirror log holds it back. -/
def Dev.clearWaits (d : Dev) (p : Nat) (o : Obj) (rel n : Nat) : Bool :=
  let ks := d.runPages p (o.ext * 2 ^ 22 + rel / 256) (n / 64)
  ks.any d.moving || d.mirrorWay p o ks == .hold

/-- READOUT on its channel: the accumulators read, the residues for GQ4, the output, the residues written, the clear. -/
def Dev.readout (d : Dev) (r : Resp) (k : Nat) (c : Chan) (x : Dsc) : Dev :=
  let p := ctxPart k
  let n := x.arg 0x28 4
  let fmt := x.arg 0x2C 1
  let loc := x.arg 0x2D 1 % 4
  let clear := bit (x.arg 0x2E 1) 0
  match d.redRefusal p c.args x, d.obj p (argAt c.args 0 2) with
  | some (st, dt), _ => d.recEnd k x st dt 0
  | none, none => d
  | none, some o =>
    let off := o.ext * 2 ^ 30 + x.arg 0x20 8
    let roff := d.baseOff p (argAt c.args 2 2) + x.arg 0x20 8
    let who := some (k, x.seq)
    if hostFails loc r then d.recEnd k x 0x30 0x000A 0
    else if fmt == 2 && (d.obj p (argAt c.args 2 2)).isNone then d.recEnd k x 0x11 0x0004 0
    else if clear && d.clearWaits p o (x.arg 0x20 8) n then d
    else match firstWait ([d.chRead p off (4 * n) x.cls (k + 1)] ++
        (if fmt == 2 then [d.chRead p roff (4 * n) x.cls (k + 1), d.chWrite p roff ((zeros (4 * n)).map some) x.cls who] else []) ++
        (if loc == 2 then [d.chWrite p (x.arg 0x30 8) ((zeros (redBytes fmt n)).map some) x.cls who] else [])) with
      | some d1 => d1
      | none =>
        Dev.endAcc k x 0
          ((d.chRead p off (4 * n) x.cls (k + 1)).next (fun d acc _ =>
            (if fmt == 2 then d.chRead p roff (4 * n) x.cls (k + 1) else .done d [] 0).next (fun d res _ =>
              let out := readoutBytes fmt n acc res
              (d.bufWrite k c x.cls loc (argEp c.args) (x.arg 0x30 8) out.1 x.seq).next (fun d _ _ =>
                if fmt == 2 then d.chWrite p roff (out.2.map some) x.cls who else .done d [] 0)))) (fun d _ _ =>
          (if clear then d.readoutClear p o (x.arg 0x20 8) n k x.seq else d).recEnd k x 0 0 n)

/-- READOUT (R244). -/
def execReadout (handle : Nat) (r : Resp) (s : State) : Res :=
  ok s (s.dev.onRecipe handle [5] 0x11 (redReserved true) (fun d k c x => d.readout r k c x))

/-! ## GATHER (R246) -/

/-- The items of a GATHER from number `i` on, `left` of them: each read in host form and written to its place. A wait keeps
the number of items that are done. -/
def Dev.gatherItems (k : Nat) (c : Chan) (x : Dsc) (idx : List Byte) : Nat → Nat → Dev → Dev
  | 0, i, d => d.recEnd k x 0 0 i
  | left + 1, i, d =>
    let p := ctxPart k
    let item := x.arg 0x24 4
    let loc := x.arg 0x28 1 / 4 % 4
    let keep := fun (d : Dev) => d.modDsc k x.seq (fun y => { y with step := i })
    match firstWait ([d.chRead p (leAt idx (8 * i) 8) item x.cls (k + 1)] ++
        (if loc == 2 then [d.chWrite p (x.arg 0x38 8 + i * item) ((zeros item).map some) x.cls (some (k, x.seq))] else [])) with
    | some d1 => keep d1
    | none =>
      match d.chRead p (leAt idx (8 * i) 8) item x.cls (k + 1) with
      | .wait d1 => keep d1
      | .fail d1 st dt => d1.recEnd k x st dt i
      | .done d1 bs _ =>
        match d1.bufWrite k c x.cls loc (argEp c.args) (x.arg 0x38 8 + i * item) bs x.seq with
        | .wait d3 => keep d3
        | .fail d3 st dt => d3.recEnd k x st dt i
        | .done d3 _ _ => Dev.gatherItems k c x idx left (i + 1) d3

/-- GATHER on its channel. -/
def Dev.gather (d : Dev) (r : Resp) (k : Nat) (c : Chan) (x : Dsc) : Dev :=
  let n := x.arg 0x20 4
  let item := x.arg 0x24 4
  let loc := x.arg 0x28 1
  if n < 1 || 65536 < n || item % 64 != 0 || item < 64 || 65536 < item || x.arg 0x30 8 % 64 != 0 then d.recEnd k x 0x11 0x0003 0
  else if loc % 4 == 2 && hostFails (loc / 4 % 4) r then d.recEnd k x 0x30 0x000A x.step
  else Dev.endAcc k x x.step (d.bufRead k c x.cls (loc % 4) (argEp c.args) (x.arg 0x30 8) (8 * n) r) (fun d idx _ =>
    Dev.gatherItems k c x idx (n - x.step) x.step d)

/-- GATHER (R246). -/
def execGather (handle : Nat) (r : Resp) (s : State) : Res :=
  ok s (s.dev.onRecipe handle [6] 0x10 (fun x => 16 ≤ x.arg 0x28 1 || x.arg 0x29 7 != 0) (fun d k c x => d.gather r k c x))

end Sys2Proof.Machine
end

