-- ==== Sys2Proof/Machine/Od.lean ====
section
/-! DEFINITION. How an access to the object dictionary is checked (R426 to R434, R452): the checks of Table 14.4 in their
order, shared by every row that writes an entry and by every transport. -/

namespace Sys2Proof.Machine

/-! ## Entries -/

/-- Whether an index exists (R426). Restricted indexes exist to nobody here: no published table defines one (R433). -/
def idxExists (idx : Nat) : Bool := dictRows.any (fun r => r.il ≤ idx && idx ≤ r.ih)

/-- The highest subindex defined under an index. -/
def dictTop (idx : Nat) : Nat :=
  dictRows.foldl (fun n r => if r.il ≤ idx && idx ≤ r.ih then Max.max n r.sh else n) 0

/-- Whether an entry exists: subindex 0 of every index does (R426). -/
def subExists (idx sub : Nat) : Bool := sub == 0 || (dictRow idx sub).isSome

/-- Whether an index lies in the standby set (Table 14.15). -/
def inStandbySet (idx : Nat) : Bool :=
  [0x100, 0x200, 0x300, 0x400, 0x2020, 0x3000].contains idx || (0x2900 ≤ idx && idx ≤ 0x2907)

/-- The entries of an array that are constant although the array is written: bindings, budgets and caps of Q0 and Q15, shadow
ranks of both, and the built-in placement program (R299, R300, R51). -/
def constEntry (idx sub : Nat) : Bool :=
  (((0x901 ≤ idx && idx ≤ 0x909) || (0xA10 ≤ idx && idx ≤ 0xA15)) && (sub == 1 || sub == 16)) || (idx == 0x1101 && sub == 1)

/-- The access code of an entry that exists (R428). -/
def entryAcc (idx sub : Nat) : Acc :=
  if constEntry idx sub then .const
  else match dictRow idx sub with
    | some r => r.acc
    | none => .const

/-- The type of an entry; subindex 0 is a U8 (R426). -/
def entryTy (idx sub : Nat) : Ty :=
  match dictRow idx sub with
  | some r => r.ty
  | none => .u8

/-- Whether a type takes a value of this length (R427). -/
def Ty.fits (t : Ty) (n : Nat) : Bool :=
  match t with
  | .octets m => n ≤ m
  | .vstr m => n ≤ m
  | t => n == t.len

/-- Whether a type is a number, whose range its row states. -/
def Ty.scalar : Ty → Bool
  | .bool => true | .u8 => true | .u16 => true | .u32 => true | .u64 => true | .f32 => true
  | _ => false

/-- Whether a value is outside the range of a scalar entry (Table 14.1). A counter of access RWC takes any value. -/
def rangeBad (idx sub v : Nat) : Bool :=
  match dictRow idx sub with
  | some r => r.ty.scalar && r.acc != .rwc && (v < r.lo || r.hi < v)
  | none => false

/-! ## Roles -/

/-- Whether the PARTITION role of `p` may write an entry: RESET and CLUSTER_RESET of its own descriptor (R326). -/
def partWrites (p idx sub : Nat) : Bool := idx == 0x800 + p && (sub == 0x0B || sub == 0x0D)

/-- Whether a role may write an entry (R432). -/
def roleMayWrite (r : Role) (idx sub : Nat) : Bool :=
  match r with
  | .fabric => true
  | .observer => false
  | .partition p => partWrites p idx sub

/-- Whether another session than `me` has a segmented write open on an entry (R443). -/
def Dev.segBusy (d : Dev) (me : Option Nat) (idx sub : Nat) : Bool :=
  d.mg.sessions.any (fun x => x.isOpen && some x.num != me && (match x.seg with
    | some g => g.idx == idx && g.sub == sub
    | none => false))

/-! ## The checks of a write -/

/-- Whether the entry is out of service (R452): it is outside the standby set while the module is not operational. -/
def Dev.unavailable (d : Dev) (idx : Nat) : Bool := !d.operational && !inStandbySet idx

/-- The first check of Table 14.4, up to RANGE, that a write of `len` bytes spelling `v` fails; none when it reaches the
entry's own rule. -/
def Dev.odRefuse (d : Dev) (r : Role) (me : Option Nat) (idx sub len v : Nat) : Option Nat :=
  if !idxExists idx then some 0x01
  else if !subExists idx sub then some 0x02
  else if d.unavailable idx then some 0x03
  else if !roleMayWrite r idx sub then some 0x04
  else if entryAcc idx sub == .const || entryAcc idx sub == .ro then some 0x05
  else if !(entryTy idx sub).fits len then some 0x06
  else if d.segBusy me idx sub then some 0x09
  else if rangeBad idx sub v then some 0x07
  else none

/-- Whether Larkspur serves accesses: standby power is present and it does not restart (R376, R452). -/
def Dev.served (d : Dev) : Bool := d.su.standby && !d.mg.restarting

/-- The code of a write whose result comes later (R470). -/
def resultWaits : Nat := 0x100

/-- The result of a write sent, unless it waits. -/
def Dev.answered (r : Dev × Nat) : Dev := if r.2 == resultWaits then r.1 else r.1.result r.2

/-- A write by a row of its own: checked, then carried out under the entry's rule, and answered with its result (R434). -/
def Dev.entryWrite (d : Dev) (r : Role) (idx sub len v : Nat) (f : Dev → Dev × Nat) : Dev :=
  if !d.served then d
  else match d.odRefuse r none idx sub len v with
    | some c => d.result c
    | none => Dev.answered (f d)

/-- The same for a scalar entry, whose length its type gives. -/
def Dev.scalarWrite (d : Dev) (r : Role) (idx sub v : Nat) (f : Dev → Dev × Nat) : Dev :=
  d.entryWrite r idx sub (entryTy idx sub).len v f

/-- A write refused by its entry's rule: nothing changes (R431). -/
def Dev.refused (d : Dev) : Dev × Nat := (d, 0x08)

/-- A write whose value is out of the layout's range. -/
def Dev.outOfRange (d : Dev) : Dev × Nat := (d, 0x07)

/-- A write that stores its value. -/
def Dev.store (d : Dev) (k v : Nat) : Dev × Nat := (d.wr k v, 0)

/-- A write that a test refuses, or that has an effect. -/
def Dev.unless (d : Dev) (bad : Bool) (f : Dev → Dev) : Dev × Nat := if bad then d.refused else (f d, 0)

end Sys2Proof.Machine
end

