-- ==== Sys2Proof/Machine/Bandwidth.lean ====
section
/-! DEFINITION. The rows of the chapter "Bandwidth classes, admission and arbitration": refill and degraded reservations,
budgets, caps, bindings, and the priority sets with their commit (R276 to R300). -/

namespace Sys2Proof.Machine

/-! ## Deliverable figures and room (R280, R281) -/

/-- Whether a cartridge is missing or failed, and whether a rebuild is in progress (R72, R74). -/
def Dev.cartMissing (d : Dev) : Bool := d.bays.any (fun b => b.2.missing)
def Dev.rebuilding (d : Dev) : Bool := d.bays.any (fun b => b.2.cart == 3)

/-- The figures that the causes of Table 09.4 give a resource, the full figure of Table 09.3 first. -/
def Dev.delivFigures (d : Dev) (r : Nat) : List Nat :=
  let derate := d.rd K.mclkDiv == 10
  match r with
  | 0 => [13760000 - 1720000 * popcount 8 d.er.stacksLost] ++ (if derate then [11008000] else [])
  | 1 => [860000 - 53750 * popcount 16 d.er.ddrLost] ++ (if derate then [688000] else [])
  | 2 => [90000] ++ (if d.cartMissing || d.rebuilding then [45000] else [])
  | _ => [28000] ++ (if d.cartMissing then [24500] else []) ++ (if d.rebuilding then [21000] else []) ++
      (if d.bw.flashLow then [14000] else [])

/-- The deliverable figure under every cause that holds: the lowest (R280). -/
def Dev.delivNow (d : Dev) (r : Nat) : Nat := (d.delivFigures r).foldl Min.min 13760000

/-- room(r) of R281 from a figure. -/
def roomOf (deliv pct : Nat) : Nat := deliv * (100 - pct) / 100

/-- room(r) with the figure in effect. -/
def Dev.bwRoom (d : Dev) (r : Nat) : Nat := roomOf (d.rd (K.delivT1 + r)) (d.rd K.q0ReservePct)

/-- The sum of the tenant budgets of a resource, with the budget of class `c` taken as `v` when it is given. -/
def Dev.budgetSum (d : Dev) (r : Nat) (repl : Option (Nat × Nat)) : Nat :=
  sumBy (fun c => match repl with
    | some (c', v) => if c == c' then v else d.budget r c
    | none => d.budget r c) tenants

/-- The factor of a resource in effect, as numerator and denominator; 1 at reset. -/
def Dev.factor (d : Dev) (r : Nat) : Nat × Nat := (kget 1 r d.bw.num, kget 1 r d.bw.den)

/-- Whether the factor of a resource is below 1 (R284). -/
def Dev.degraded (d : Dev) (r : Nat) : Bool := (d.factor r).1 < (d.factor r).2

/-! ## Refill -/

/-- n / m as FP32, rounded to nearest even; the quotient keeps a sticky bit below its 64 fraction bits. -/
def ratF32 (n m : Nat) : Nat :=
  let q := n * 2 ^ 64 / m
  (w32 (.num false (2 * q + (if n * 2 ^ 64 % m == 0 then 0 else 1)) (-65))).toNat

/-- The partitions bound to a class (R278). -/
def Dev.bound (d : Dev) (c n : Nat) : Bool := bit (d.rd (K.classPartitions + c)) n

/-- SHARE of a partition for a resource: the effective budgets of the classes bound to it (R290). -/
def Dev.shareOf (d : Dev) (n r : Nat) : Nat :=
  sumBy (fun c => if d.bound c n then kget 0 (r * 16 + c) d.bw.eff else 0) tenants

/-- Whether a change of the factor of a resource concerns a partition: a class bound to it has a nonzero budget there. -/
def Dev.affected (d : Dev) (n r : Nat) : Bool := d.enabled n && tenants.any (fun c => d.bound c n && d.budget r c != 0)

/-- The event of a factor change to one partition (R290, Table 10.10). -/
def Dev.postFactor (r : Nat) (d : Dev) (n : Nat) : Dev :=
  if d.affected n r then d.post n ⟨0x07, 0x41, 0, r, d.rd (K.factorT1 + r) + 2 ^ 32 * d.shareOf n r⟩ else d

/-- FACTOR written, the change counted and posted (R290). -/
def Dev.factorChanged (d : Dev) (r : Nat) : Dev :=
  let d1 := (d.wr (K.factorT1 + r) (ratF32 (d.factor r).1 (d.factor r).2)).inc K.factorChanges
  (List.range 64).foldl (Dev.postFactor r) d1

/-- The factor that sum and room give (R289). -/
def factorOf (sum room : Nat) : Nat × Nat := if sum ≤ room then (1, 1) else (room, sum)

/-- The meters of one class on one resource at a refill (R285). -/
def Dev.refillMeter (r num den : Nat) (d : Dev) (c : Nat) : Dev :=
  let eff := d.budget r c * num / den
  let bw := d.bw
  { d with bw := { bw with
      eff := kput (r * 16 + c) eff bw.eff
      credit := kput (r * 16 + c) ((eff * 8192 / 175 : Nat) : Int) bw.credit
      used := kput (r * 16 + c) 0 bw.used } }

/-- One resource refilled: the deliverable figure, the factor, the meters, and what a change of the factor brings
(R280, R285, R289, R290). -/
def Dev.refillRes (d : Dev) (r : Nat) : Dev :=
  let d1 := d.wr (K.delivT1 + r) (d.delivNow r)
  let f := factorOf (d1.budgetSum r none) (d1.bwRoom r)
  let old := d.factor r
  let bw := d1.bw
  let d2 := { d1 with bw := { bw with num := kput r f.1 bw.num, den := kput r f.2 bw.den } }
  let d3 := tenants.foldl (Dev.refillMeter r f.1 f.2) d2
  if f.1 * old.2 == old.1 * f.2 then d3 else d3.factorChanged r

/-- A refill of all four resources; what its caps hold back is counted anew. -/
def Dev.refillAll (d : Dev) : Dev :=
  let d1 := [0, 1, 2, 3].foldl Dev.refillRes d
  { d1 with bw := { d1.bw with heldNow := [] } }

/-- REFILL (R285): then the held requests are released in arrival order. -/
def execRefill (s : State) : Res := ok s (if s.dev.operational then s.dev.refillAll.settle else s.dev)

/-! ## Admission -/

/-- Whether a budget write is refused (R281, R283, R284): beyond the cap, a raise while the factor is below 1, or a sum beyond
room. -/
def Dev.budgetBad (d : Dev) (r c v : Nat) : Bool :=
  (d.cap r c != 0 && d.cap r c < v) ||
  (if d.degraded r then d.budget r c < v else d.bwRoom r < d.budgetSum r (some (c, v)))

/-- The effect of a write of a budget. -/
def Dev.wBudget (d : Dev) (r c v : Nat) : Dev × Nat := d.unless (d.budgetBad r c v) (fun d => d.wr (K.budgetT1 + r * 256 + c) v)

/-- BUDGET_WRITE (R281, R284). -/
def execBudgetWrite (role : Role) (res cls v : Nat) (s : State) : Res :=
  ok s (s.dev.scalarWrite role (0x902 + res) (cls + 1) v (fun d => d.wBudget res cls v))

/-- The effect of a write of a cap (R283). -/
def Dev.wCap (d : Dev) (r c v : Nat) : Dev × Nat :=
  d.unless (v != 0 && v < d.budget r c) (fun d => d.wr (K.capT1 + r * 256 + c) v)

/-- CAP_WRITE (R283). -/
def execCapWrite (role : Role) (res cls v : Nat) (s : State) : Res :=
  ok s (s.dev.scalarWrite role (0x906 + res) (cls + 1) v (fun d => d.wCap res cls v))

/-- The effect of a write of Q0_RESERVE_PCT: refused when the budgets of any resource would exceed its new room (R281). -/
def Dev.wQ0Reserve (d : Dev) (v : Nat) : Dev × Nat :=
  d.unless ([0, 1, 2, 3].any (fun r => roomOf (d.rd (K.delivT1 + r)) v < d.budgetSum r none)) (fun d => d.wr K.q0ReservePct v)

/-- Q0_RESERVE_PCT (R281). -/
def execQ0ReservePct (role : Role) (v : Nat) (s : State) : Res :=
  ok s (s.dev.scalarWrite role 0x900 3 v (fun d => d.wQ0Reserve v))

/-! ## Bindings (R278) -/

/-- Whether a partition uses a class: a channel of it carries the class, or its LS_CLASS or MIGRATION_CLASS names it. -/
def Dev.classUsed (d : Dev) (n c : Nat) : Bool :=
  (d.chansOf n).any (fun e => e.2.cls == c || e.2.fetched.any (fun x => x.cls == c) || e.2.cqes.any (fun x => x.cls == c)) ||
  d.rd (K.lsClass + n) == c || d.rd (K.migrationClass + n) == c

/-- The effect of a write of CLASS_PARTITIONS: refused when it clears the bit of a partition that uses the class. -/
def Dev.wClassPartitions (d : Dev) (c mask : Nat) : Dev × Nat :=
  d.unless ((List.range 64).any (fun n => d.bound c n && !bit mask n && d.classUsed n c))
    (fun d => d.wr (K.classPartitions + c) mask)

/-- CLASS_PARTITIONS (R278). -/
def execClassPartitions (role : Role) (cls mask : Nat) (s : State) : Res :=
  ok s (s.dev.scalarWrite role 0x901 (cls + 1) mask (fun d => d.wClassPartitions cls mask))

/-- The effect of a write of LS_CLASS or MIGRATION_CLASS: refused for a class not bound to the partition. -/
def Dev.wLsClass (d : Dev) (n : Nat) (migration : Bool) (v : Nat) : Dev × Nat :=
  d.unless (!d.bound v n) (fun d => d.wr ((if migration then K.migrationClass else K.lsClass) + n) v)

/-- LS_CLASS (R278): of host loads and stores, or of migration. -/
def execLsClass (role : Role) (part : Nat) (migration : Bool) (v : Nat) (s : State) : Res :=
  ok s (s.dev.scalarWrite role (if migration then 0x1102 else 0x910) (part + 1) v (fun d => d.wLsClass part migration v))

/-! ## Priority sets (R293, R294) -/

/-- The effect of a write of a shadow rank: refused while the group's commit is pending. -/
def Dev.wShadow (d : Dev) (g c rank : Nat) : Dev × Nat :=
  let d1 := d.commitMeets
  if bit (d1.rd K.commitPending) g then d1.refused else d1.store (K.shadow + 256 * g + c) rank

/-- SHADOW (R293). -/
def execShadow (role : Role) (group cls rank : Nat) (s : State) : Res :=
  ok s (s.dev.scalarWrite role (0xA10 + group) (cls + 1) rank (fun d => d.wShadow group cls rank))

/-- The effect of a write of ARB_COMMIT: refused while a commit is pending (R294). -/
def Dev.wArbCommit (d : Dev) (mask : Nat) : Dev × Nat :=
  let d1 := d.commitMeets
  if d1.rd K.commitPending != 0 then d1.refused else d1.store K.commitPending mask

/-- ARB_COMMIT (R294): a mask of 0, or one with a bit above bit 5, is RANGE. -/
def execArbCommit (role : Role) (mask : Nat) (s : State) : Res :=
  ok s (s.dev.scalarWrite role 0xA00 1 mask (fun d => d.wArbCommit mask))

end Sys2Proof.Machine
end

