-- ==== Sys2Proof/Machine/Rv32.lean ====
section
/-! DEFINITION. The RV32IMC core that runs a placement program (R51, R53, R55): the instructions of the base integer set, the M
extension and the compressed set, as the RISC-V unprivileged specification has them (PRESUMED, log entry 88), the regions that a
program may access, its limits, and its return. -/

namespace Sys2Proof.Machine

/-- The registers of a core, its program counter, and the bytes written so far, keyed by offset from the base of the regions. -/
structure Rv where
  pc : W32
  x : List (Nat × W32)
  wr : List (Nat × Byte)
deriving DecidableEq, Repr

/-- The memory of an invocation: the base address of its regions and the bytes of each one at entry. -/
structure RvMem where
  base : W32
  code : List Byte
  data : List Byte
  record : List Byte
  out : List Byte
deriving DecidableEq, Repr

/-- The offsets of the regions from their base (DESIGN CHOICE, log entry 88): code at 0, as it is entered there, private data,
the invocation record, the output buffer, and the address to which a program returns, which lies in no region. -/
def rvData : Nat := 0x4000
def rvRecord : Nat := 0x6000
def rvOut : Nat := 0x6450
def rvRet : Nat := 0x8000

/-- Whether an offset lies in a region. -/
def RvMem.has (m : RvMem) (o : Nat) : Bool :=
  o < m.code.length || (rvData ≤ o && o < rvData + 8192) || (rvRecord ≤ o && o < rvRecord + 1104) || (rvOut ≤ o && o < rvOut + 1024)

/-- Whether a run of bytes lies in one region. -/
def RvMem.holds (m : RvMem) (o n : Nat) : Bool :=
  o + n ≤ m.code.length || (rvData ≤ o && o + n ≤ rvData + 8192) || (rvRecord ≤ o && o + n ≤ rvRecord + 1104) ||
    (rvOut ≤ o && o + n ≤ rvOut + 1024)

/-- The byte at an offset when the program begins. -/
def RvMem.first (m : RvMem) (o : Nat) : Byte :=
  if o < rvData then m.code.getD o 0
  else if o < rvRecord then m.data.getD (o - rvData) 0
  else if o < rvOut then m.record.getD (o - rvRecord) 0
  else m.out.getD (o - rvOut) 0

/-- The byte at an offset now. -/
def Rv.byte (c : Rv) (m : RvMem) (o : Nat) : Byte := (kfind o c.wr).getD (m.first o)

/-- A run of bytes as they stand. -/
def Rv.bytes (c : Rv) (m : RvMem) (o n : Nat) : List Byte := (List.range n).map (fun i => c.byte m (o + i))

/-- An integer register; register 0 reads zero. -/
def Rv.reg (c : Rv) (r : Nat) : W32 := if r == 0 then 0 else kget 0 r c.x

/-- A register written and the program counter moved on; register 0 takes no value. -/
def Rv.put (c : Rv) (r : Nat) (v : W32) (len : Nat) : Rv :=
  { c with x := if r == 0 then c.x else kput r v c.x, pc := c.pc + BitVec.ofNat 32 len }

/-- A load of `n` bytes at an address: none when it is misaligned or leaves the regions (R55). -/
def Rv.load (c : Rv) (m : RvMem) (a : W32) (n : Nat) : Option Nat :=
  let o := (a - m.base).toNat
  if a.toNat % n == 0 && m.holds o n then some (leNat (c.bytes m o n)) else none

/-- A store of the low `n` bytes of a value, with the program counter moved on. -/
def Rv.store (c : Rv) (m : RvMem) (a v : W32) (n len : Nat) : Option Rv :=
  let o := (a - m.base).toNat
  if a.toNat % n == 0 && m.holds o n then
    some { c with
      wr := (leBytes n v.toNat).zipIdx.foldl (fun w e => kput (o + e.2) e.1 w) c.wr
      pc := c.pc + BitVec.ofNat 32 len }
  else none

/-! ## Immediates of the 32-bit encodings -/

/-- A field of `w` bits taken as a signed number. -/
def immS (w n : Nat) : W32 := BitVec.ofInt 32 (sext w n)

def rvImmI (w : Nat) : W32 := immS 12 (fld w 20 12)
def rvImmS (w : Nat) : W32 := immS 12 (fld w 25 7 * 32 + fld w 7 5)
def rvImmB (w : Nat) : W32 := immS 13 (fld w 31 1 * 4096 + fld w 7 1 * 2048 + fld w 25 6 * 32 + fld w 8 4 * 2)
def rvImmU (w : Nat) : W32 := BitVec.ofNat 32 (fld w 12 20 * 4096)
def rvImmJ (w : Nat) : W32 := immS 21 (fld w 31 1 * 1048576 + fld w 12 8 * 4096 + fld w 20 1 * 2048 + fld w 21 10 * 2)

/-! ## Operations -/

/-- OP and OP-IMM: the function by funct3; `alt` is bit 30 where it selects SUB or SRA. -/
def rvAlu (f : Nat) (alt : Bool) (a b : W32) : W32 :=
  match f with
  | 0 => if alt then a - b else a + b
  | 1 => a <<< (b.toNat % 32)
  | 2 => if a.slt b then 1 else 0
  | 3 => if a.ult b then 1 else 0
  | 4 => a ^^^ b
  | 5 => if alt then a.sshiftRight (b.toNat % 32) else a >>> (b.toNat % 32)
  | 6 => a ||| b
  | _ => a &&& b

/-- The M extension: products, quotients and remainders. Division by zero gives all ones and the dividend; the overflow of a
signed division the dividend and zero. -/
def rvMul (f : Nat) (a b : W32) : W32 :=
  let ofI := fun (x : Int) => BitVec.ofInt 32 x
  match f with
  | 0 => a * b
  | 1 => ofI (a.toInt * b.toInt / 2 ^ 32)
  | 2 => ofI (a.toInt * (b.toNat : Int) / 2 ^ 32)
  | 3 => BitVec.ofNat 32 (a.toNat * b.toNat / 2 ^ 32)
  | 4 => if b == 0 then -1 else ofI (a.toInt.tdiv b.toInt)
  | 5 => if b == 0 then -1 else BitVec.ofNat 32 (a.toNat / b.toNat)
  | 6 => if b == 0 then a else ofI (a.toInt.tmod b.toInt)
  | _ => if b == 0 then a else BitVec.ofNat 32 (a.toNat % b.toNat)

/-- Whether a branch is taken, by funct3; none where it names no branch. -/
def rvTaken (f : Nat) (a b : W32) : Option Bool :=
  match f with
  | 0 => some (a == b)
  | 1 => some (a != b)
  | 4 => some (a.slt b)
  | 5 => some (!a.slt b)
  | 6 => some (a.ult b)
  | 7 => some (!a.ult b)
  | _ => none

/-- A jump: the link register takes the address that follows. -/
def Rv.jump (c : Rv) (rd len : Nat) (target : W32) : Rv :=
  { c.put rd (c.pc + BitVec.ofNat 32 len) 0 with pc := target }

/-- One instruction of 32 bits, `len` bytes long as it stands in memory: none where it stops the program (R55). FENCE orders
nothing for a core that runs alone; ECALL, EBREAK and every encoding outside RV32IM stop it. -/
def Rv.exec32 (c : Rv) (m : RvMem) (w len : Nat) : Option Rv :=
  let rd := fld w 7 5
  let f3 := fld w 12 3
  let f7 := fld w 25 7
  let a := c.reg (fld w 15 5)
  let b := c.reg (fld w 20 5)
  match fld w 0 7 with
  | 0x37 => some (c.put rd (rvImmU w) len)
  | 0x17 => some (c.put rd (c.pc + rvImmU w) len)
  | 0x6F => some (c.jump rd len (c.pc + rvImmJ w))
  | 0x67 => if f3 == 0 then some (c.jump rd len ((a + rvImmI w) &&& ~~~1)) else none
  | 0x63 => (rvTaken f3 a b).map (fun t => if t then { c with pc := c.pc + rvImmB w } else { c with pc := c.pc + BitVec.ofNat 32 len })
  | 0x03 =>
    let p := a + rvImmI w
    (match f3 with
      | 0 => (c.load m p 1).map (fun v => c.put rd (immS 8 v) len)
      | 1 => (c.load m p 2).map (fun v => c.put rd (immS 16 v) len)
      | 2 => (c.load m p 4).map (fun v => c.put rd (BitVec.ofNat 32 v) len)
      | 4 => (c.load m p 1).map (fun v => c.put rd (BitVec.ofNat 32 v) len)
      | 5 => (c.load m p 2).map (fun v => c.put rd (BitVec.ofNat 32 v) len)
      | _ => none)
  | 0x23 => if f3 < 3 then c.store m (a + rvImmS w) b (2 ^ f3) len else none
  | 0x13 =>
    if f3 == 1 && f7 != 0 then none
    else if f3 == 5 && f7 != 0 && f7 != 0x20 then none
    else some (c.put rd (rvAlu f3 (f3 == 5 && f7 == 0x20) a (rvImmI w)) len)
  | 0x33 =>
    if f7 == 0 then some (c.put rd (rvAlu f3 false a b) len)
    else if f7 == 0x20 && (f3 == 0 || f3 == 5) then some (c.put rd (rvAlu f3 true a b) len)
    else if f7 == 1 then some (c.put rd (rvMul f3 a b) len)
    else none
  | 0x0F => if f3 == 0 then some { c with pc := c.pc + BitVec.ofNat 32 len } else none
  | _ => none

/-! ## The compressed set, as the 32-bit instruction that each stands for -/

def encR (f7 rs2 rs1 f3 rd op : Nat) : Nat := f7 * 2 ^ 25 + rs2 * 2 ^ 20 + rs1 * 2 ^ 15 + f3 * 2 ^ 12 + rd * 2 ^ 7 + op
def encI (imm rs1 f3 rd op : Nat) : Nat := imm % 4096 * 2 ^ 20 + rs1 * 2 ^ 15 + f3 * 2 ^ 12 + rd * 2 ^ 7 + op
def encS (imm rs2 rs1 f3 op : Nat) : Nat :=
  fld imm 5 7 * 2 ^ 25 + rs2 * 2 ^ 20 + rs1 * 2 ^ 15 + f3 * 2 ^ 12 + fld imm 0 5 * 2 ^ 7 + op
def encB (imm rs2 rs1 f3 : Nat) : Nat :=
  fld imm 12 1 * 2 ^ 31 + fld imm 5 6 * 2 ^ 25 + rs2 * 2 ^ 20 + rs1 * 2 ^ 15 + f3 * 2 ^ 12 + fld imm 1 4 * 2 ^ 8 + fld imm 11 1 * 2 ^ 7 + 0x63
def encJ (imm rd : Nat) : Nat :=
  fld imm 20 1 * 2 ^ 31 + fld imm 1 10 * 2 ^ 21 + fld imm 11 1 * 2 ^ 20 + fld imm 12 8 * 2 ^ 12 + rd * 2 ^ 7 + 0x6F

/-- A number of `w` bits widened by its sign to `v` bits. -/
def widen (w v n : Nat) : Nat := if bit n (w - 1) then n % 2 ^ w + (2 ^ v - 2 ^ w) else n % 2 ^ w

/-- The jump offset of C.J and C.JAL. -/
def cImmJ (h : Nat) : Nat :=
  widen 12 21 (fld h 12 1 * 2048 + fld h 11 1 * 16 + fld h 9 2 * 256 + fld h 8 1 * 1024 + fld h 7 1 * 64 + fld h 6 1 * 128 +
    fld h 3 3 * 2 + fld h 2 1 * 32)

/-- The branch offset of C.BEQZ and C.BNEZ. -/
def cImmB (h : Nat) : Nat :=
  widen 9 13 (fld h 12 1 * 256 + fld h 10 2 * 8 + fld h 5 2 * 64 + fld h 3 2 * 2 + fld h 2 1 * 32)

/-- The six-bit signed immediate of the CI forms, as 12 bits. -/
def cImm6 (h : Nat) : Nat := widen 6 12 (fld h 12 1 * 32 + fld h 2 5)

/-- Quadrant 0. -/
def expand0 (h : Nat) : Option Nat :=
  let rd := 8 + fld h 2 3
  let rs := 8 + fld h 7 3
  let wImm := fld h 10 3 * 8 + fld h 6 1 * 4 + fld h 5 1 * 64
  match fld h 13 3 with
  | 0 =>
    let imm := fld h 11 2 * 16 + fld h 7 4 * 64 + fld h 6 1 * 4 + fld h 5 1 * 8
    if imm == 0 then none else some (encI imm 2 0 rd 0x13)
  | 2 => some (encI wImm rs 2 rd 0x03)
  | 6 => some (encS wImm rd rs 2 0x23)
  | _ => none

/-- Quadrant 1. -/
def expand1 (h : Nat) : Option Nat :=
  let rd := fld h 7 5
  let rs := 8 + fld h 7 3
  let r2 := 8 + fld h 2 3
  match fld h 13 3 with
  | 0 => some (encI (cImm6 h) rd 0 rd 0x13)
  | 1 => some (encJ (cImmJ h) 1)
  | 2 => some (encI (cImm6 h) 0 0 rd 0x13)
  | 3 =>
    if rd == 2 then
      let imm := fld h 12 1 * 512 + fld h 6 1 * 16 + fld h 5 1 * 64 + fld h 3 2 * 128 + fld h 2 1 * 32
      if imm == 0 then none else some (encI (widen 10 12 imm) 2 0 2 0x13)
    else if cImm6 h == 0 then none
    else some (widen 6 20 (fld h 12 1 * 32 + fld h 2 5) * 4096 + rd * 2 ^ 7 + 0x37)
  | 4 =>
    (match fld h 10 2 with
      | 0 => if bit h 12 then none else some (encI (fld h 2 5) rs 5 rs 0x13)
      | 1 => if bit h 12 then none else some (encI (fld h 2 5 + 0x400) rs 5 rs 0x13)
      | 2 => some (encI (cImm6 h) rs 7 rs 0x13)
      | _ =>
        if bit h 12 then none
        else match fld h 5 2 with
          | 0 => some (encR 0x20 r2 rs 0 rs 0x33)
          | 1 => some (encR 0 r2 rs 4 rs 0x33)
          | 2 => some (encR 0 r2 rs 6 rs 0x33)
          | _ => some (encR 0 r2 rs 7 rs 0x33))
  | 5 => some (encJ (cImmJ h) 0)
  | 6 => some (encB (cImmB h) 0 rs 0)
  | _ => some (encB (cImmB h) 0 rs 1)

/-- Quadrant 2. -/
def expand2 (h : Nat) : Option Nat :=
  let rd := fld h 7 5
  let r2 := fld h 2 5
  match fld h 13 3 with
  | 0 => if bit h 12 then none else some (encI r2 rd 1 rd 0x13)
  | 2 => if rd == 0 then none else some (encI (fld h 12 1 * 32 + fld h 4 3 * 4 + fld h 2 2 * 64) 2 2 rd 0x03)
  | 4 =>
    if !bit h 12 then
      (if r2 == 0 then (if rd == 0 then none else some (encI 0 rd 0 0 0x67)) else some (encR 0 r2 0 0 rd 0x33))
    else if r2 == 0 then (if rd == 0 then none else some (encI 0 rd 0 1 0x67))
    else some (encR 0 r2 rd 0 rd 0x33)
  | 6 => some (encS (fld h 9 4 * 4 + fld h 7 2 * 64) r2 2 2 0x23)
  | _ => none

/-- The 32-bit instruction of a compressed one; none where it is illegal, is C.EBREAK, or belongs to no part of RV32IMC. -/
def expandC (h : Nat) : Option Nat :=
  match h % 4 with
  | 0 => expand0 h
  | 1 => expand1 h
  | 2 => expand2 h
  | _ => none

/-- The bytes of an instruction at an offset: 2 or 4 of them, all in one region. -/
def Rv.fetch (c : Rv) (m : RvMem) (o : Nat) : Option (Nat × Nat) :=
  if !m.holds o 2 then none
  else
    let h := leNat (c.bytes m o 2)
    if h % 4 != 3 then (expandC h).map (fun w => (w, 2))
    else if m.holds o 4 then some (leNat (c.bytes m o 4), 4) else none

/-- One instruction at the program counter. -/
def Rv.step (c : Rv) (m : RvMem) : Option Rv :=
  if c.pc.toNat % 2 == 1 then none
  else (c.fetch m (c.pc - m.base).toNat).bind (fun e => c.exec32 m e.1 e.2)

/-- A program run until it returns: none when it is stopped, by a condition of R55 or by its budget of instructions. -/
def Rv.run (m : RvMem) : Nat → Rv → Option Rv
  | 0, c => if c.pc == m.base + BitVec.ofNat 32 rvRet then some c else none
  | n + 1, c => if c.pc == m.base + BitVec.ofNat 32 rvRet then some c else (c.step m).bind (Rv.run m n)

/-- The core at entry: a0 points to the record, a1 to the output buffer, ra to the place to return to; what the other registers
hold is open. -/
def Rv.entry (m : RvMem) (regs : Nat → W32) : Rv where
  pc := m.base
  x := (1, m.base + BitVec.ofNat 32 rvRet) :: ((List.range 31).map (· + 1)).filterMap (fun r =>
    if r == 1 then none
    else some (r, if r == 10 then m.base + BitVec.ofNat 32 rvRecord else if r == 11 then m.base + BitVec.ofNat 32 rvOut else regs r))
  wr := []

end Sys2Proof.Machine
end

