-- ==== Sys2Proof/Machine/Placement.lean ====
section
/-! DEFINITION. The rows of the chapter "Address space, tiers and placement" other than the object commands: epochs,
placement programs, the end of a migration, the flash tier, reservations and lent memory (R46 to R75). -/

namespace Sys2Proof.Machine

/-! ## Epochs (R46, R52) -/

/-- What an epoch end does to one page entry: HEAT is halved when the epoch is one of decay (R33). -/
def Page.decay (x : Page) (halve : Bool) : Page := if halve then { x with heat := x.heat / 2 } else x

/-- What an epoch end does to one object: a HINT_TIME above 1 is decremented, and the causes of an invocation are noted
(bit 0 epoch, bit 4 HINT_TIME reaching 1). -/
def Obj.epochEnd (o : Obj) : Obj :=
  let h := pdHint o.desc
  let o1 := { o with causes := o.causes ||| (if o.accessed then 1 else 0), accessed := false }
  if 1 < h then
    { o1 with desc := setFld o1.desc 48 16 (h - 1), causes := o1.causes ||| (if h == 2 then 16 else 0) }
  else o1

/-- An epoch ends. -/
def Dev.epochEnd (d : Dev) : Dev :=
  let e := d.mm.epoch + 1
  let halve := e % (d.rd K.heatDecayEpochs) == 0
  let pages := (d.mm.pages.map (fun x => (x.1, x.2.decay halve))).filter (fun x => x.2 != Page.none)
  { d with mm := { d.mm with
      epoch := e
      pages := pages
      objs := d.mm.objs.map (fun x => (x.1, x.2.epochEnd)) } }

/-- EPOCH_END (R46, R52). -/
def execEpochEnd (s : State) : Res := ok s (if s.dev.operational then s.dev.epochEnd else s.dev)

/-! ## Placement programs (R51 to R57) -/

/-- Whether room in a tier lies below 1/16 of its reservation (R52). -/
def Dev.pressed (d : Dev) (p : Nat) (t : Tier) : Bool := d.room p t < ((d.resv p t * 1024 : Nat) : Int)

/-- Whether any tier of a partition is pressed. -/
def Dev.pressure (d : Dev) (p : Nat) : Bool := [Tier.t1, .t2, .t3, .th].any (d.pressed p)

/-- CAUSE of an invocation (Table 02.9). Pressure is a cause as long as it lasts (DESIGN CHOICE, log entry 141). -/
def Dev.invocationCause (d : Dev) (p : Nat) (o : Obj) : Nat := o.causes ||| (if d.pressure p then 4 else 0)

/-- Whether an invocation whose only cause is an epoch end waits: another object of the same placement core has been given
another cause, and other causes are served first (R52). -/
def Dev.causeWaits (d : Dev) (p n : Nat) (o : Obj) : Bool :=
  d.invocationCause p o == 1 && d.mm.objs.any (fun e =>
    e.1 != p * 2 ^ 16 + n && e.1 % 8 == n % 8 && e.2.ordinary && e.2.causes &&& 0x1E != 0 && !d.fenced (e.1 / 2 ^ 16))

/-- The homed pages of an object that satisfy a test on their tier. -/
def Dev.homedIn (d : Dev) (p : Nat) (o : Obj) (f : Tier → Bool) : List (Nat × Page) :=
  (d.pagesOf p o).filter (fun e => match e.2.home with
    | some h => f h.tier
    | none => false)

/-- The hottest candidates: below PREFERRED, by falling HEAT, then the more recent access, then the lower page (R53). -/
def Dev.hottest (d : Dev) (p : Nat) (o : Obj) : List (Nat × Page) :=
  let l := d.homedIn p o (fun t => pdPreferred o.desc < t.code)
  (sortBy (fun a b => b.2.heat < a.2.heat || (a.2.heat == b.2.heat && b.2.epoch < a.2.epoch)) l).take 32

/-- The coldest candidates: above the floor, by rising HEAT, then the longer idle, then the lower page; a page below
PREFERRED appears only among the hottest (R53). -/
def Dev.coldest (d : Dev) (p : Nat) (o : Obj) : List (Nat × Page) :=
  let l := d.homedIn p o (fun t => t.code < (pdFloor o.desc).code && t.code ≤ pdPreferred o.desc)
  (sortBy (fun a b => a.2.heat < b.2.heat || (a.2.heat == b.2.heat && a.2.epoch < b.2.epoch)) l).take 32

/-- The nearest allowed tier above or below a tier. -/
def nextAbove (desc : Nat) (t : Tier) : Option Tier := [Tier.t3, .t2, .t1].find? (fun u => u.code < t.code && pdAllows desc u)
def nextBelow (desc : Nat) (t : Tier) : Option Tier := [Tier.t2, .t3, .th].find? (fun u => t.code < u.code && pdAllows desc u)

/-- The tier of a candidate. -/
def Page.tier (x : Page) : Tier := (x.home.map Home.tier).getD .t1

/-- A move entry of one page. -/
def oneMove (base : Nat) (e : Nat × Page) (t : Option Tier) : List Move :=
  (t.map (fun t => Move.mk (e.1 - base) 1 t.code true)).toList

/-- What the built-in program of slot 0 returns (R57). -/
def Dev.slot0 (d : Dev) (p : Nat) (o : Obj) : List Move :=
  let thr0 := if pdParam0 o.desc != 0 then pdParam0 o.desc else 64
  let idle := if pdParam1 o.desc != 0 then pdParam1 o.desc else 1000
  if pdHot o.desc == 255 || pdHint o.desc == 1 then [Move.mk 0 (o.n * 16384) (pdPreferred o.desc) true]
  else
    let thr := Max.max 1 (thr0 * (255 - pdHot o.desc) / 127)
    let base := pageKey p (o.ext * 16384)
    ((d.hottest p o).flatMap (fun e => if thr ≤ e.2.heat then oneMove base e (nextAbove o.desc e.2.tier) else [])) ++
    ((d.coldest p o).flatMap (fun e =>
      if idle ≤ d.idle e.2 || d.pressed p e.2.tier then oneMove base e (nextBelow o.desc e.2.tier) else []))

/-! ### The record and output of a loaded program (R53, R54) -/

/-- A candidate record (R53). -/
def Dev.candidate (d : Dev) (base : Nat) (e : Nat × Page) : List Byte :=
  let x := e.2
  let part := x.valid != 0 && x.valid != validAll
  leBytes 4 (e.1 - base) ++ leBytes 1 x.tier.code ++
    leBytes 1 (b2n (d.pageCached e.1) + 2 * b2n part + 4 * b2n x.staged) ++ zeros 2 ++
    leBytes 2 x.heat ++ leBytes 2 (d.idle x) ++ leBytes 4 (popcount 256 x.valid)

/-- ROOM of a tier in the record: clamped at zero, and zero while the tier has a shortfall and no free frame (R396). -/
def Dev.roomField (d : Dev) (p : Nat) (t : Tier) : Nat :=
  let short := match t with
    | .t1 => d.t1Reservable < d.resvSum .t1
    | .t2 => d.t2Reservable < d.resvSum .t2
    | _ => false
  if short && (d.freeFrame t).isNone then 0 else Min.min (2 ^ 32 - 1) (d.room p t).toNat

/-- The invocation record of an object (Table 02.9). -/
def Dev.record (d : Dev) (p n : Nat) (o : Obj) : List Byte :=
  let base := pageKey p (o.ext * 16384)
  let cands := d.hottest p o ++ d.coldest p o
  let tiers := [Tier.t1, .t2, .t3, .th]
  let bs := leBytes 4 (d.invocationCause p o) ++ leBytes 2 p ++ leBytes 2 n ++ leBytes 16 o.desc ++ leBytes 4 (o.n * 16384) ++
    leBytes 4 d.mm.epoch ++ tiers.flatMap (fun t => leBytes 4 (d.roomField p t)) ++
    tiers.flatMap (fun t => leBytes 4 (d.homedIn p o (fun u => u == t)).length) ++ leBytes 4 cands.length ++ zeros 12 ++
    cands.flatMap (d.candidate base)
  bs ++ zeros (1104 - bs.length)

/-- A move entry read from the output buffer (R54). -/
def moveAt (bs : List Byte) (i : Nat) : Move :=
  ⟨leAt bs (16 * i) 4, leAt bs (16 * i + 4) 4, leAt bs (16 * i + 8) 1, allZero (slice bs (16 * i + 9) 7)⟩

/-- The key of the private data of a slot on the core that serves an object (R51). -/
def dataKey (slot n : Nat) : Nat := slot * 8 + n % 8

/-- The memory of an invocation of a loaded program, with `out` in its output buffer. Private data begin as zeros (log entry 88). -/
def Dev.progMem (d : Dev) (p n : Nat) (o : Obj) (out : List Byte) : RvMem where
  base := BitVec.ofNat 32 (Config.progBase * 65536)
  code := kget [] (pdProgram o.desc) d.mm.progs
  data := kget (zeros 8192) (dataKey (pdProgram o.desc) n) d.mm.progData
  record := d.record p n o
  out := out

/-- A loaded program run for an object: its move entries, or none when it is stopped; and the private data as it leaves them. A
stopped one leaves them as they were (log entry 88). -/
def Dev.runProgram (d : Dev) (p n : Nat) (o : Obj) (out : List Byte) : Option (List Move × List Byte) :=
  let m := d.progMem p n o out
  (Rv.run m (d.rd K.insnBudget) (Rv.entry m Config.progRegs)).map (fun c =>
    ((List.range (Min.min 64 (c.reg 10).toNat)).map (moveAt (c.bytes m rvOut 1024)), c.bytes m rvData 8192))

/-- Whether a page of a move entry is skipped (R56, R79). -/
def Dev.moveSkips (d : Dev) (o : Obj) (k : Nat) (x : Page) (t : Tier) : Bool :=
  (match x.home with
    | some h => h.tier == t && !h.staged
    | none => true) ||
  !pdAllows o.desc t || d.moving k || d.waiting k || (t == .th && (x.poison || o.viewTo.isSome))

/-- The pages of one entry taken in ascending order: accepted moves counted; false when one found no room. -/
def Dev.moveRange (o : Obj) (t : Tier) (cls : Nat) : List (Nat × Page) → Dev → Nat → Dev × Nat × Bool
  | [], d, n => (d, n, true)
  | (k, _) :: r, d, n =>
    if d.moveSkips o k (d.page k) t then Dev.moveRange o t cls r d n
    else match d.acceptMove k o t .program cls with
      | some d1 => Dev.moveRange o t cls r d1 (n + 1)
      | none => (d, n, false)

/-- Whether a move entry is valid: a page count, a tier that exists, zero bytes at its end (R54). -/
def moveOk (m : Move) : Bool := m.count != 0 && m.tier < 4 && m.zeroTail

/-- Move entries taken in list order until one finds no room: the moves accepted (R56). -/
def Dev.takeMoves (p : Nat) (o : Obj) (cls : Nat) : List Move → Dev → Nat → Dev × Nat
  | [], d, n => (d, n)
  | m :: r, d, n =>
    if !moveOk m then Dev.takeMoves p o cls r d n
    else
      let base := pageKey p (o.ext * 16384)
      let ks := (d.pagesOf p o).filter (fun e => base + m.first ≤ e.1 && e.1 < base + m.first + m.count)
      let x := Dev.moveRange o (tierOf m.tier) cls ks d n
      if x.2.2 then Dev.takeMoves p o cls r x.1 x.2.1 else (x.1, x.2.1)

/-- The output of an invocation carried out: moves in the migration class, everything else counted as skipped or dropped. -/
def Dev.placeOut (d : Dev) (p n : Nat) (o : Obj) (ms : List Move) : Dev :=
  let d0 := d.modObj p n (fun o => { o with causes := 0 })
  let r := Dev.takeMoves p o (d.rd (K.migrationClass + p)) (ms.take 64) d0 0
  r.1.add K.movesSkipped (sumBy (fun m : Move => m.count) (ms.take 64) - r.2)

/-- A stopped invocation: its outputs are discarded, it is counted, and after ABORT_LIMIT stops in a row slot 0 takes the
object's place until OBJ_PLACE names a program again (R55). -/
def Dev.placeStopped (d : Dev) (p n : Nat) : Dev :=
  (d.inc K.invocationsStopped).modObj p n (fun o =>
    { o with causes := 0, stops := o.stops + 1, fellBack := o.fellBack || d.rd K.abortLimit ≤ o.stops + 1 })

/-- Whether an object's invocation runs slot 0: it names slot 0 or an unloaded slot, or it has fallen back (R44, R55). -/
def Dev.runsSlot0 (d : Dev) (o : Obj) : Bool :=
  o.fellBack || pdProgram o.desc == 0 || 16 ≤ pdProgram o.desc || (kfind (pdProgram o.desc) d.mm.progs).isNone

/-- One invocation of an object's program, when a cause calls for it and its partition is not fenced (R52, R309). -/
def Dev.invoke (d : Dev) (p n : Nat) (out : List Byte) : Dev :=
  match d.obj p n with
  | none => d
  | some o =>
    if !o.ordinary || d.fenced p || d.invocationCause p o == 0 || d.causeWaits p n o then d
    else if d.runsSlot0 o then (d.placeOut p n o (d.slot0 p o)).afterMoves.settle
    else match d.runProgram p n o out with
      | none => d.placeStopped p n
      | some (ms, data) =>
        let d1 := { d with mm := { d.mm with progData := kput (dataKey (pdProgram o.desc) n) data d.mm.progData } }
        ((d1.modObj p n (fun o => { o with stops := 0 })).placeOut p n o ms).afterMoves.settle

/-- PLACEMENT_INVOCATION (R53). -/
def execPlacementInvocation (part obj : Nat) (out : List Byte) (s : State) : Res :=
  ok s (if s.dev.operational then s.dev.invoke part obj out else s.dev)

/-! ## The end of a migration (R59, R62, R63) -/

/-- Whether a repair of a block of a page is outstanding. -/
def Dev.pageRepairing (d : Dev) (k : Nat) : Bool :=
  d.pr.repairs.any (fun e => pageKey e.1 (e.2 / 256) == k)

/-- The medium reads of the copy, which meet an error in one block of the page, a free choice. What an uncorrectable error
leaves unrepaired on the way into TH poisons the whole page (R79). -/
def Dev.copyRead (d : Dev) (k : Nat) (m : Mig) (med : Med) : Dev :=
  if med = .good then d
  else
    let p := pagePart k
    let vs := (List.range 256).filter (fun i => bit (d.page k).valid i)
    match vs[d.free % Max.max 1 vs.length]? with
    | none => d.drawn
    | some i =>
      let d1 := d.drawn.medRead p (k % 2 ^ 32 * 256 + i) med
      if med = .uncorrectable && m.dst.tier == .th && !d1.pageRepairing k then
        (pageBlks k).foldl (fun d b => d.poisonBlock p (b % 2 ^ 40)) d1
      else d1

/-- The copy of a page ends: its source is read; a repair from the partner is waited for; then the entry is switched
(Table 02.10, Table 02.11). -/
def Dev.copyDone (d : Dev) (k : Nat) (med : Med) : Dev :=
  match kfind k d.mm.migs with
  | none => d
  | some m =>
    if !d.copyReady k || d.pageRepairing k then d
    else if d.copyCapped k m then d.noteHeld 1 k m.cls
    else
      let d1 := d.copyRead k m med
      if d1.pageRepairing k then d1 else ((d1.switchPage k m).afterMoves).settle

/-- MIGRATION_COPY_DONE (R62). -/
def execMigrationCopyDone (part page : Nat) (med : Med) (s : State) : Res :=
  ok s (if s.dev.operational then s.dev.copyDone (pageKey part page) med else s.dev)

/-- T3_PROGRAM_DONE (R59): the page that entered write staging first has been programmed. -/
def execT3ProgramDone (s : State) : Res :=
  let d := s.dev
  ok s (if d.operational && !d.mm.staged.isEmpty then
    (({ d with mm := { d.mm with staged := d.mm.staged.drop 1 } }.flashWear).afterMoves).settle else d)

/-! ## Flash upkeep (R69) -/

/-- Whether the cartridge of a bay serves. -/
def Dev.cartServing (d : Dev) (b : Nat) : Bool :=
  d.operational && !(d.bay b).missing && ((d.bay b).cart == 2 || (d.bay b).cart == 3)

/-- An upkeep of a bay's flash: no data, address or page map entry changes (R69). -/
def Dev.upkeep (d : Dev) (b : Nat) : Dev := if d.cartServing b then d.flashWear else d

/-- READ_DISTURB_RELOCATE (R69). -/
def execReadDisturbRelocate (bay _blk : Nat) (s : State) : Res := ok s (s.dev.upkeep bay)

/-- RETENTION_REFRESH (R69). -/
def execRetentionRefresh (bay _blk : Nat) (s : State) : Res := ok s (s.dev.upkeep bay)

/-- WEAR_LEVEL (R69). -/
def execWearLevel (bay : Nat) (s : State) : Res := ok s (s.dev.upkeep bay)

/-- WEAR_PCT of a bay: as last lowered, else as its cartridge was delivered (R71). -/
def Dev.wearPct (d : Dev) (b : Nat) : Nat :=
  match kfind (K.wearPct + b) d.od with
  | some v => v
  | none => Config.wear b % 101

/-- A flash block retired into overprovisioning: noted for its bay, whose WEAR_PCT falls to the value that the flash
translation layer computes, never rising (R69, R71). -/
def Dev.retireFlash (d : Dev) (b blk wear : Nat) : Dev :=
  let l := d.mm.flashRetired
  let d1 := { d with mm := { d.mm with flashRetired := if l.contains (b, blk) then l else l ++ [(b, blk)] } }
  (d1.wr (K.wearPct + b) (Min.min (d.wearPct b) wear)).flashWear

/-- FLASH_BLOCK_RETIRE (R69). -/
def execFlashBlockRetire (bay blk wear : Nat) (s : State) : Res :=
  ok s (if s.dev.cartServing bay then s.dev.retireFlash bay blk wear else s.dev)

/-! ## Reservations (R48) -/

/-- The extents lent: those of entries that may home pages (R65). -/
def Dev.lent (d : Dev) : Nat :=
  sumBy (fun i => if 1 ≤ lendState (d.lendEntry i) && lendState (d.lendEntry i) ≤ 3 then lendExtents (d.lendEntry i) else 0)
    (List.range 64)

/-- The extents that can be reserved in a tier (Table 02.2). -/
def Dev.reservable (d : Dev) (t : Tier) : Nat :=
  match t with
  | .t1 => d.t1Reservable
  | .t2 => d.t2Reservable
  | .t3 => 98304
  | .th => d.lent

/-- The frames that a partition uses in a tier: commitments and promoted frames; for TH the extents beyond commitments and
the pages charged to the limit (R48, R49). -/
def Dev.tierUse (d : Dev) (p : Nat) (t : Tier) : Nat :=
  match t with
  | .th => Max.max (d.beyond p * 16384) (d.thPages p)
  | t => d.committedExt p t * 16384 + d.promoted p t

/-- The key of a partition's reservation in a tier. -/
def resvKey (p : Nat) (t : Tier) : Nat :=
  p + match t with
    | .t1 => K.resvT1
    | .t2 => K.resvT2
    | .t3 => K.resvT3
    | .th => K.thLimit

/-- The effect of a write of a reservation: refused when the sum over partitions would exceed what can be reserved, or when it
falls below use. While a tier has a shortfall a lowering is accepted even though the sum stays above, and no value is raised
(R396). -/
def Dev.wReservation (d : Dev) (t : Tier) (p v : Nat) : Dev × Nat :=
  let above := decide (d.reservable t < d.resvSum t - d.resv p t + v)
  let lowered := t != .th && decide (d.reservable t < d.resvSum t) && decide (v < d.resv p t)
  d.unless ((above && !lowered) || v * 16384 < d.tierUse p t) (fun d => d.wr (resvKey p t) v)

/-- TIER_RESERVATION_WRITE (R48). -/
def execTierReservationWrite (role : Role) (tier part v : Nat) (s : State) : Res :=
  ok s (s.dev.scalarWrite role (0x1001 + tier) (part + 1) v (fun d => d.wReservation (tierOf tier) part v))

/-! ## Lent memory (R65 to R68) -/

/-- Whether the writer may take a lend entry from `a` to `b`: only STATE changes, except when the entry is made ACTIVE or
freed. -/
def lendAllowed (a b : Nat) : Bool :=
  let x := lendState a
  let y := lendState b
  let same := setFld a 108 4 0 == setFld b 108 4 0
  ((x == 0 || x == 4 || x == 5) && y == 1) || (x == 1 && y == 2 && same) || (x == 2 && y == 3 && same) ||
    ((x == 4 || x == 5) && y == 0)

/-- Whether the layout of a lend entry is out of range: an ACTIVE one lends 1 to 4,096 extents from a whole-extent offset. -/
def lendBad (v : Nat) : Bool :=
  5 < lendState v || (lendState v == 1 && (lendExtents v < 1 || 4096 < lendExtents v || lendOffset v % 2 ^ 30 != 0))

/-- What an accepted lend write does: WITHDRAWING moves pages out, FORCE loses the pages still there; both give up the moves into
the entry (R67). Reserved bits read zero (R12). -/
def Dev.lendSet (d : Dev) (i v : Nat) : Dev :=
  let v := v / 2 ^ 40 * 2 ^ 40
  let d1 := d.wr (K.lend + i) v
  if lendState v == 2 then (d1.stopLendMoves i).afterMoves.settle
  else if lendState v == 3 then
    let d2 := d1.stopLendMoves i
    (((d2.lendPages i).foldl Dev.losePage d2).wr (K.lend + i) (setFld v 108 4 4)).afterMoves.settle
  else d1

/-- The effect of a write of a lend entry. -/
def Dev.wLend (d : Dev) (i v : Nat) : Dev × Nat :=
  let a := d.lendEntry i
  if lendBad v then d.outOfRange
  else
    let mine := if 1 ≤ lendState a && lendState a ≤ 3 then lendExtents a else 0
    d.unless (!lendAllowed a v || (lendState v == 1 && 4096 < d.lent - mine + lendExtents v)) (fun d => d.lendSet i v)

/-- LEND (R65). -/
def execLend (role : Role) (i v : Nat) (s : State) : Res :=
  ok s (s.dev.entryWrite role 0x1005 (i + 1) 16 v (fun d => d.wLend i v))

/-! ## Placement program images (R51) -/

/-- The effect of a write of a placement program slot: its program from the next invocation on. An empty image leaves the slot
without a program. -/
def Dev.wProgramImage (d : Dev) (slot : Nat) (img : List Byte) : Dev × Nat :=
  d.measured ({ d with mm := { d.mm with progs := if img.isEmpty then kdel slot d.mm.progs else kput slot img d.mm.progs } }, 0)

/-- PROGRAM_IMAGE (R51). -/
def execProgramImage (role : Role) (slot : Nat) (img : List Byte) (s : State) : Res :=
  ok s (s.dev.entryWrite role 0x1101 (slot + 1) img.length 0 (fun d => d.wProgramImage slot img))

/-! ## Sharing and host slots (R114, R123) -/

/-- The effect of a write of SHARED_ENABLE (R123). -/
def Dev.wSharedEnable (d : Dev) (v : Nat) : Dev × Nat :=
  if v == 1 then
    if d.mm.shareOn || d.mm.shareEnabling then (d, 0)
    else d.unless (751 < d.resvSum .t1) (fun d => ({ d with mm := { d.mm with shareEnabling := true } }).afterMoves)
  else
    d.unless (d.mm.objs.any (fun e => e.2.exported.isSome) || !d.coh.dir.isEmpty)
      (fun d => { d.wr K.sharedEnable 0 with mm := { d.mm with shareOn := false, shareEnabling := false } })

/-- SHARED_ENABLE (R123). -/
def execSharedEnable (role : Role) (v : Nat) (s : State) : Res :=
  ok s (s.dev.scalarWrite role 0x1300 1 v (fun d => d.wSharedEnable v))

/-- ENDPOINT, PARTITION, PORT and MODE of a host slot entry. -/
def slIdent (e : Nat) : Nat := e / 2 ^ 95

/-- Whether two ACTIVE entries would stand for the same host and partition (R114). -/
def slSame (a b : Nat) : Bool :=
  slMode a == slMode b && slPartition a == slPartition b &&
    (if slMode a == 2 then slPort a == slPort b else slEndpoint a == slEndpoint b)

/-- Whether a slot entry may become ACTIVE as `v`: its mode and port exist and no other ACTIVE slot is the same. -/
def Dev.slotMayAct (d : Dev) (i v : Nat) : Bool :=
  (slMode v == 1 || (slMode v == 2 && slPort v < 22)) &&
    !d.slots.any (fun e => e.1 != i && slState e.2 == 1 && slSame e.2 v)

/-- Whether a write of a slot entry is one of the changes of R114. -/
def Dev.slotAllowed (d : Dev) (i v : Nat) : Bool :=
  let a := d.slot i
  let same := slIdent a == slIdent v
  match slState a, slState v with
  | 0, 1 => d.slotMayAct i v
  | 1, 2 => same
  | 2, 1 => same && d.slotMayAct i v
  | 2, 0 => true
  | _, _ => false

/-- Whether the device loses a slot as soon as it is ACTIVE: its partition is fenced, or no link leads to its host (R116). -/
def Dev.slotDoomed (d : Dev) (v : Nat) : Bool :=
  d.fenced (slPartition v) || (if slMode v == 1 then (d.upPorts (d.route (slEndpoint v))).isEmpty else !d.linkUp (slPort v))

/-- The effect of a write of a host slot entry; a slot set LOST is lost as the device would lose it (R116). Reserved bits read
zero (R12). -/
def Dev.wHostSlot (d : Dev) (i w : Nat) : Dev × Nat :=
  let v := w / 2 ^ 92 * 2 ^ 92
  d.unless (!d.slotAllowed i v) (fun d =>
    if slState v == 2 then (d.hostLost i).settle
    else
      let d1 := (d.wr (slotKey i) v).logState (slPartition v) (.slot i v)
      if slState v == 1 && d1.slotDoomed v then (d1.hostLost i).settle else d1)

/-- HOST_SLOT (R114). -/
def execHostSlot (role : Role) (i v : Nat) (s : State) : Res :=
  ok s (s.dev.entryWrite role (0x1310 + i / 128) (i % 128 + 1) 16 v (fun d => d.wHostSlot i v))

/-! ## Quotas (R179) -/

/-- The effect of a write of CH_QUOTA or SYNC_QUOTA: refused when the sum over partitions would exceed the device's. -/
def Dev.wQuota (d : Dev) (sync : Bool) (p v : Nat) : Dev × Nat :=
  let k := if sync then K.syncQuota else K.chQuota
  let total := sumBy (fun q => if q == p then v else d.rd (k + q)) (List.range 64)
  d.unless ((if sync then 16384 else 65536) < total) (fun d => d.wr (k + p) v)

/-- CH_QUOTA (R179). -/
def execChQuota (role : Role) (sync : Bool) (part v : Nat) (s : State) : Res :=
  ok s (s.dev.scalarWrite role (if sync then 0x1A02 else 0x1A01) (part + 1) v (fun d => d.wQuota sync part v))

end Sys2Proof.Machine
end

