-- ==== Sys2Proof/Machine/Programs.lean ====
section
/-! DEFINITION. The stage program store and its verifier (R255 to R274), and the two writes that take a cluster away from its
stage (R170, R316). -/

namespace Sys2Proof.Machine

/-! ## Verification of one instruction (R274, Table 08.14) -/

/-- Whether a word is a defined encoding with its zero fields zero (R255 to R270). -/
def insnDefined (w : Nat) : Bool :=
  match fld w 28 4 with
  | 0x0 => fld w 22 6 ≤ 0x0D && fld w 0 7 == 0
  | 0x1 => fld w 24 4 ≤ 0xB
  | 0x2 => true
  | 0x3 => fld w 0 5 == 0
  | 0x4 =>
    !bit w 0 && (match fld w 25 3 with
      | 0 => fld w 17 4 ≤ 7
      | 1 => fld w 21 4 ≤ 7 && fld w 17 4 ≤ 7
      | 2 => (drainSize (fld w 21 4)).isSome
      | 3 => true
      | 4 => true
      | _ => false)
  | 0x5 =>
    fld w 0 2 == 0 && (match fld w 22 6 with
      | 0x1C => cvtCode (fld w 2 5)
      | 0x1D => cvtCode (fld w 2 5)
      | 0x1E => fld w 2 5 ≤ 4
      | 0x1F => fld w 2 5 ≤ 4
      | f => f ≤ 0x1B)
  | 0x6 => fld w 25 3 ≤ 5 && fld w 0 10 == 0
  | 0x7 => fld w 26 2 ≤ 2 && fld w 24 2 ≤ 2 && fld w 0 9 == 0
  | 0x8 => fld w 0 7 == 0
  | 0x9 => fld w 24 4 ≤ 7 && !(fld w 24 4 == 7 && 7 < fld w 0 14)
  | 0xA => fld w 24 4 ≤ 4
  | _ => false

/-- Whether instruction `i` of `n` branches outside the program. -/
def branchOut (w i n : Nat) : Bool :=
  fld w 28 4 == 2 && fld w 25 3 != 7 &&
    (let t := (i : Int) + sext 15 (fld w 0 15)
     decide (t < 0 || (n : Int) ≤ t))

/-- Whether a TMMA pairs formats that R155 forbids. -/
def pairBad (w : Nat) : Bool := fld w 28 4 == 4 && fld w 25 3 == 1 && !pairOk (fld w 21 4) (fld w 17 4)

/-- Whether a tile range goes beyond tile 7, or QPOP names R1 outside 1 to 30. -/
def tileBad (w : Nat) : Bool :=
  (fld w 28 4 == 4 && 1 ≤ fld w 25 3 && 8 < fld w 1 3 + fld w 4 3 + 1) ||
  (fld w 28 4 == 8 && fld w 26 2 == 0 && (fld w 17 5 < 1 || 30 < fld w 17 5))

/-- The reason for which one instruction of an image is refused; 0 for none. -/
def insnReason (w i n : Nat) : Nat :=
  if !insnDefined w then 0x02
  else if branchOut w i n then 0x03
  else if pairBad w then 0x04
  else if tileBad w then 0x05
  else 0

/-- The first instruction of a program that a check refuses: reason and index. -/
def firstBad (f : Nat → Nat → Nat) : List Nat → Nat → Option (Nat × Nat)
  | [], _ => none
  | w :: r, i => if f w i != 0 then some (f w i, i) else firstBad f r (i + 1)

/-- LOAD_RESULT from a reason, a stage and an instruction index (R275). -/
def loadResult (reason stage i : Nat) : Nat := reason + stage * 2 ^ 8 + i % 8192 * 2 ^ 12

/-- Whether the header of an image is out of range (R272). -/
def imageHeaderBad (img : List Byte) : Bool :=
  let n := leAt img 0 4
  img.length < 32 || n < 1 || 8192 < n || img.length != 32 + 4 * n || leAt img 4 4 % 64 != 0 || !allZero (slice img 12 20)

/-- LOAD_RESULT of an image by itself. -/
def imageResult (img : List Byte) : Nat :=
  if imageHeaderBad img then loadResult 0x01 0 0
  else
    let ws := imageWords img
    match firstBad (fun w i => insnReason w i ws.length) ws 0 with
    | some (r, i) => loadResult r 0 i
    | none => 0

/-! ## Verification of a manifest (R273) -/

/-- Fields of a manifest. -/
def mfStages (m : List Byte) : Nat := leAt m 0 1
def mfProgram (m : List Byte) (s : Nat) : Nat := leAt m (0x30 + 16 * s) 2
def mfDefault (m : List Byte) (s : Nat) : Nat := leAt m (0x32 + 16 * s) 1
def mfOut (m : List Byte) (s : Nat) : Nat := leAt m (0x34 + 16 * s) 2
def mfBcast (m : List Byte) (s : Nat) : Nat := leAt m (0x36 + 16 * s) 2

/-- Whether the fields of one stage are out of range. -/
def mfStageBad (m : List Byte) (s : Nat) : Bool :=
  1024 ≤ mfProgram m s || mfDefault m s < 1 || 240 < mfDefault m s || leAt m (0x33 + 16 * s) 1 != 0 ||
  !allZero (slice m (0x38 + 16 * s) 8) ||
  (List.range 16).any (fun t => bit (mfOut m s) t && !(s < t && t < mfStages m)) ||
  (List.range 16).any (fun t => bit (mfBcast m s) t && !bit (mfOut m s) t)

/-- Whether the head of a manifest is out of range; bytes after its last stage are zero. -/
def mfHeadBad (m : List Byte) : Bool :=
  let n := mfStages m
  n < 1 || 16 < n || m.length < 0x30 + 16 * n || !allZero (m.drop (0x30 + 16 * n)) || leAt m 1 1 != 1 ||
  leAt m 2 1 < n || 240 < leAt m 2 1 || !allZero (slice m 3 5) || leAt m 0x10 2 != 0 ||
  240 < sumBy (mfDefault m) (List.range n)

/-- The stages that feed stage `s`. -/
def mfFeeders (m : List Byte) (s : Nat) : List Nat := (List.range s).filter (fun t => bit (mfOut m t) s)

/-- The reason for which an instruction is refused in stage `s` of a manifest; 0 for none. -/
def stageReason (m : List Byte) (s w : Nat) : Nat :=
  let c := fld w 28 4
  if c == 8 && fld w 26 2 == 0 && !(mfFeeders m s).contains (fld w 22 4) then 0x06
  else if c == 8 && fld w 26 2 == 2 && !bit (mfOut m s) (fld w 22 4) then 0x06
  else if c == 9 && fld w 24 4 == 2 && s + 1 != mfStages m then 0x07
  else if c == 9 && fld w 24 4 == 1 && s + 1 == mfStages m then 0x07
  else 0

/-- LOAD_RESULT of one stage of a manifest against the image that it names; 0 when it passes. -/
def Dev.stageResult (d : Dev) (m : List Byte) (s : Nat) : Nat :=
  match kfind (mfProgram m s) d.progs with
  | none => loadResult 0x0A s 0
  | some img =>
    if 0x600000 - 32768 * (mfFeeders m s).length < leAt img 4 4 then loadResult 0x08 s 0
    else match firstBad (fun w _ => stageReason m s w) (imageWords img) 0 with
      | some (r, i) => loadResult r s i
      | none => 0

/-- LOAD_RESULT of a manifest. -/
def Dev.manifestResult (d : Dev) (m : List Byte) : Nat :=
  if m.length < 0x30 || mfHeadBad m then loadResult 0x09 0 0
  else match (List.range (mfStages m)).find? (mfStageBad m) with
    | some s => loadResult 0x09 s 0
    | none => (((List.range (mfStages m)).map (d.stageResult m)).find? (· != 0)).getD 0

/-! ## Writes of the store (R274) -/

/-- Whether a loaded manifest names a program slot. -/
def Dev.slotNamed (d : Dev) (n : Nat) : Bool :=
  d.pipes.any (fun e => (List.range (mfStages e.2)).any (fun s => mfProgram e.2 s == n))

/-- The slots with an image put in, or with the slot emptied by an empty one. -/
def storePut (n : Nat) (img : List Byte) (l : List (Nat × List Byte)) : List (Nat × List Byte) :=
  if img.isEmpty then kdel n l else kput n img l

/-- LOAD_RESULT written, and the store when it accepts. -/
def Dev.loadEnd (d : Dev) (res : Nat) (f : Dev → Dev) : Dev × Nat :=
  let d1 := d.wr K.loadResult res
  if res == 0 then (f d1, 0) else (d1, 0x08)

/-- The effect of a write of a program slot. -/
def Dev.wProgram (d : Dev) (slot : Nat) (img : List Byte) : Dev × Nat :=
  let res := if d.slotNamed slot then loadResult 0x0B 0 0 else if img.isEmpty then 0 else imageResult img
  d.measured (d.loadEnd res (fun d => { d with progs := storePut slot img d.progs }))

/-- PROGRAM (R272, R274). -/
def execProgram (role : Role) (slot : Nat) (img : List Byte) (s : State) : Res :=
  ok s (s.dev.entryWrite role (0x1940 + slot / 16) (slot % 16 + 1) img.length 0 (fun d => d.wProgram slot img))

/-- Whether a live channel uses a pipeline slot. -/
def Dev.pipeUsed (d : Dev) (n : Nat) : Bool := d.chs.chans.any (fun e => e.2.recipe == 0x100 + n)

/-- The effect of a write of a pipeline slot. -/
def Dev.wPipeline (d : Dev) (slot : Nat) (img : List Byte) : Dev × Nat :=
  let res := if d.pipeUsed slot then loadResult 0x0B 0 0 else if img.isEmpty then 0 else d.manifestResult img
  d.measured (d.loadEnd res (fun d => { d with pipes := storePut slot img d.pipes }))

/-- PIPELINE (R273, R274). -/
def execPipeline (role : Role) (slot : Nat) (img : List Byte) (s : State) : Res :=
  ok s (s.dev.entryWrite role (0x1980 + slot / 8) (slot % 8 + 1) img.length 0 (fun d => d.wPipeline slot img))

/-! ## Clusters taken away by a write -/

/-- The effect of a write of CLUSTER_RETIRE (R170). -/
def Dev.wClusterRetire (d : Dev) (c : Nat) : Dev × Nat := ((d.retireClu c).settle, 0)

/-- CLUSTER_RETIRE (R170, R171). -/
def execClusterRetire (role : Role) (c : Nat) (s : State) : Res :=
  ok s (s.dev.scalarWrite role 0x1800 0x15 c (fun d => d.wClusterRetire c))

/-- The channel that holds a logical cluster. -/
def Dev.holderOf (d : Dev) (l : Nat) : Option Nat := (d.chs.chans.find? (fun e => e.2.logical.contains l)).map (·.1)

/-- The reset of a logical cluster: the channel that holds it halts with CHANNEL_RESET, the cluster serving it is cleared. -/
def Dev.clusterReset (d : Dev) (l : Nat) : Dev :=
  let d1 := match d.holderOf l with
    | some k => d.haltChan k none 0x30 0
    | none => d
  (match d1.physOf l with
    | some c => d1.modClu c Clu.cleared
    | none => d1).settle

/-- Whether a role may reset a logical cluster: FABRIC any, a partition one held by its own channels (R316). -/
def Dev.mayResetClu (d : Dev) (role : Role) (l : Nat) : Bool :=
  match role with
  | .partition p => (d.holderOf l).any (fun k => ctxPart k == p)
  | _ => true

/-- The effect of a write of CLUSTER_RESET. -/
def Dev.wClusterReset (d : Dev) (role : Role) (l : Nat) : Dev × Nat :=
  d.unless (!d.mayResetClu role l) (fun d => d.clusterReset l)

/-- CLUSTER_RESET (R316). -/
def execClusterReset (role : Role) (part l : Nat) (s : State) : Res :=
  ok s (s.dev.scalarWrite role (0x800 + part) 0x0D l (fun d => d.wClusterReset role l))

end Sys2Proof.Machine
end

