-- ==== Sys2Proof/Machine/Partition.lean ====
section
/-! DEFINITION. Partitions (chapter "Partitions, resets and interrupts"): enabling, fencing and resetting a partition (R302, R308,
R312), Bus Master Enable and the power state of a function (R314, R335), function-level resets (R313), and completion
timeouts (R345). -/

namespace Sys2Proof.Machine

/-! ## Partition reset (R312) -/

/-- Every synchronisation object of a partition freed; armed thresholds go without events (step P3). -/
def Dev.freeSyncs (d : Dev) (p : Nat) : Dev :=
  let gone := (d.chs.syncs.filter (fun e => ctxPart e.1 == p)).map (·.1)
  let sp := d.sySp p
  if gone.isEmpty then d
  else { d with chs := { d.chs with
      syncs := kkeep (fun k => ctxPart k != p) d.chs.syncs
      syncSpace := kput p { sp with freed := sp.freed ++ gone.map (· % 2 ^ 14) } d.chs.syncSpace } }

/-- Every channel of a partition freed (step P2). -/
def Dev.freeChans (d : Dev) (p : Nat) : Dev :=
  ((d.chs.chans.filter (fun e => ctxPart e.1 == p)).map (·.1)).foldl Dev.freeChan d

/-- The aliases that a partition imports destroyed, and the destruction of the aliases of its exports begun (step P4). -/
def Dev.resetAliases (d : Dev) (p : Nat) : Dev :=
  let d1 := ((d.objsOf p).filter (fun e => e.2.aliasOf.isSome)).foldl (fun d e => d.removeObj p (e.1 % 2 ^ 16) e.2) d
  let tree := (d1.objsOf p).flatMap (fun e => d1.aliasTree p (e.1 % 2 ^ 16))
  (tree.eraseDups.filter (fun x => x.1 != p)).foldl (Dev.addClear .destroy none) d1

/-- A partition reset begun (steps P1 to P4); what follows goes on as its waits end. -/
def Dev.startReset (d : Dev) (p : Nat) : Dev :=
  let d1 := ((d.fenceAdd p 4).losePer (fun e => slPartition e == p)).wr (K.ofPart K.resetState p) 1
  let d2 := ((d1.freeChans p).freeSyncs p).resetAliases p
  ({ d2 with mm := { d2.mm with clearing := d2.mm.clearing ++ [Clear.mk .reset p 65536 0 262144 false 0 none] } }).settle

/-- Whether a partition reset is in progress. -/
def Dev.resetting (d : Dev) (p : Nat) : Bool := d.rd (K.ofPart K.resetState p) == 1

/-- The effect of a write of RESET (R326, R317). -/
def Dev.wReset (d : Dev) (p : Nat) : Dev × Nat :=
  d.unless (!d.enabled p) (fun d => if d.resetting p then d else d.startReset p)

/-- RESET (R312). -/
def execReset (role : Role) (part v : Nat) (s : State) : Res :=
  ok s (s.dev.scalarWrite role (0x800 + part) 0x0B v (fun d => d.wReset part))

/-! ## ENABLE (R302, R470) -/

/-- Whether another enabled partition has the ENDPOINT of this one. -/
def Dev.endpointClash (d : Dev) (p : Nat) : Bool :=
  (List.range 64).any (fun n => n != p && d.enabled n && d.rd (K.ofPart K.endpoint n) == d.rd (K.ofPart K.endpoint p))

/-- The effect of a write of ENABLE. A 1 that needs a key while the entropy source fails waits. A 0 during a reset leaves that reset to
clear the partition. -/
def Dev.wEnable (d : Dev) (p v : Nat) : Dev × Nat :=
  if v == 1 then
    if d.enabled p then (d, 0)
    else if d.endpointClash p || d.resetting p then d.refused
    else if d.su.entropyBad then
      ({ d with su := { d.su with keyWaits := d.su.keyWaits ++ [(p, Asker.row)] } }, resultWaits)
    else ((d.wr (K.ofPart K.enable p) 1).drawKey p, 0)
  else if d.rd (K.ofPart K.portsActive p) != 0 then d.refused
  else if d.enabled p then
    let d1 := d.wr (K.ofPart K.enable p) 0
    (if d.resetting p then { d1 with su := { d1.su with keys := kdel p d1.su.keys } } else d1.startReset p, 0)
  else (d, 0)

/-- ENABLE (R302). -/
def execEnable (role : Role) (part v : Nat) (s : State) : Res :=
  ok s (s.dev.scalarWrite role (0x800 + part) 0x01 v (fun d => d.wEnable part v))

/-! ## FENCE (R308, R309) -/

/-- The effect of a write of FENCE. -/
def Dev.wFence (d : Dev) (p v : Nat) : Dev × Nat :=
  ((if v == 1 then d.fenceAdd p 1 else d.setFence p (d.fenceCauses p &&& 4)).settle, 0)

/-- FENCE (R308). -/
def execFence (role : Role) (part v : Nat) (s : State) : Res :=
  ok s (s.dev.scalarWrite role (0x800 + part) 0x0A v (fun d => d.wFence part v))

/-! ## Configuration writes -/

/-- Whether a configuration request reaches a function (R313, R454). -/
def Dev.cfgOpen (d : Dev) (f : FnId) : Bool := d.configOpen && d.fnExists f && d.linkUp f.port && !(d.fn f).recovering

/-- Bus Master Enable gone: the channels bound to the function halt, reads outstanding are discarded (R314). -/
def Dev.busOff (d : Dev) (f : FnId) : Dev :=
  ((d.dropAdmRead f).haltAll 0x31 (fun k c => ctxPart k == f.num && c.port == f.port)).settle

/-- Bus Master Enable back: held events are written, admin fetching starts again (R314). -/
def Dev.busOn (d : Dev) (f : FnId) : Dev := (d.pumpEv f).admRead f

/-- A change of a function's configuration registers with what follows from Bus Master Enable and Interrupt Disable. -/
def Dev.cfgChange (d : Dev) (f : FnId) (g : Fn → Fn) : Dev :=
  let d1 := d.setFn f (g (d.fn f))
  let d2 := if d.bme f && !d1.bme f then d1.busOff f else if !d.bme f && d1.bme f then d1.busOn f else d1
  d2.updWire f

/-- A bit of the Command register given a value. -/
def Fn.setCommand (b : Nat) (v : Bool) (x : Fn) : Fn :=
  { x with command := if v then setBit x.command b else clrBit x.command b }

/-- MEMORY_SPACE_ENABLE (Table 11.4, R342). -/
def execMemorySpaceEnable (fn : FnId) (b : Bool) (s : State) : Res :=
  ok s (if s.dev.cfgOpen fn then s.dev.cfgChange fn (Fn.setCommand 1 b) else s.dev)

/-- BUS_MASTER_ENABLE (R314). -/
def execBusMasterEnable (fn : FnId) (b : Bool) (s : State) : Res :=
  ok s (if s.dev.cfgOpen fn then s.dev.cfgChange fn (Fn.setCommand 2 b) else s.dev)

/-- INTERRUPT_DISABLE (R323). -/
def execInterruptDisable (fn : FnId) (b : Bool) (s : State) : Res :=
  ok s (if s.dev.cfgOpen fn then s.dev.cfgChange fn (Fn.setCommand 10 b) else s.dev)

/-- A write of PowerState: D3hot and D0 act, D1 and D2 are ignored (R335). -/
def Fn.power (v : Nat) (x : Fn) : Fn := if v == 3 then { x with d3 := true } else if v == 0 then { x with d3 := false } else x

/-- POWER_STATE (R335). -/
def execPowerState (fn : FnId) (v : Nat) (s : State) : Res :=
  ok s (if s.dev.cfgOpen fn then s.dev.cfgChange fn (Fn.power v) else s.dev)

/-! ## Function-level reset (R313) -/

/-- The channels of a partition bound to a port. -/
def Dev.chansOn (d : Dev) (p port : Nat) : List Nat :=
  (d.chs.chans.filter (fun e => ctxPart e.1 == p && e.2.port == port)).map (·.1)

/-- The registers of a function in reset: their reset values, the admin commands it has fetched remembered (R181), with the
DETAIL and the count of its FUNCTION_RESET event. -/
def Fn.inReset (x : Fn) (why killed : Nat) : Fn :=
  { Fn.reset with
    recovering := true, resetWhy := why, killed := killed
    bar2On := x.bar2On, bar2Log2 := x.bar2Log2
    aq := { AdmQ.reset with old := x.aq.old ++ x.aq.live, runs := x.aq.runs + 1 } }

/-- A function-level reset begun (steps F1 to F5). `why` is 1 for a function-level reset, 2 a hot reset, 3 the loss of the
link. -/
def Dev.startFlr (why : Nat) (d : Dev) (f : FnId) : Dev :=
  let x := d.fn f
  let d1 := if x.wire then (d.setFn f { x with wire := false }).emit (.intx f false) else d
  let ks := if d.placeholder f then [] else d1.chansOn f.num f.port
  let d2 := d1.setFn f (x.inReset (if d.placeholder f then 0 else why) (x.killed + ks.length))
  let d3 := if d.placeholder f then d2 else x.eq.held.foldl (fun d e => d.post f.num e) d2
  let d4 := ks.foldl Dev.killChan d3
  let d5 := { d4 with tags := d4.tags.map (fun (t : OutTag) => if t.fn == some f then { t with quarantined := true } else t) }
  (d5.dropLocks (fun l => l.host && l.port == f.port && l.part == f.num)).settle

/-- INITIATE_FUNCTION_LEVEL_RESET (R313). -/
def execInitiateFlr (fn : FnId) (s : State) : Res :=
  ok s (if s.dev.cfgOpen fn then Dev.startFlr 1 s.dev fn else s.dev)

/-- BAR2 as a function takes it at a reset (R340); a placeholder has none (R304). -/
def Dev.bar2Taken (d : Dev) (f : FnId) (x : Fn) : Fn :=
  { x with
    bar2On := bit (d.rd (K.ofPart K.privileges f.num)) 1 && !d.placeholder f
    bar2Log2 := d.rd (K.ofPart K.bar2Log2 f.num) }

/-- The end of a function's reset (step F6); a placeholder has no partition to tell. -/
def Dev.flrDone (d : Dev) (f : FnId) : Dev :=
  let x := d.fn f
  if !x.recovering then d
  else
    let d1 := d.setFn f (d.bar2Taken f { x with recovering := false, resetWhy := 0, killed := 0 })
    if x.resetWhy == 0 then d1
    else
      ((d1.inc (K.ofPart K.flrs f.num)).post f.num ⟨0x0A, 0x30, x.resetWhy, f.port, x.killed⟩).updWire f

/-- FUNCTION_RESET_DONE (R313). -/
def execFunctionResetDone (fn : FnId) (s : State) : Res := ok s (s.dev.flrDone fn)

/-! ## Completion timeout (R345) -/

/-- A request timed out: its tag is quarantined and the requester's rule applies; a read that Bus Master Enable abandoned
only frees its tag (R314). -/
def Dev.timeOut (d : Dev) (t : OutTag) : Dev :=
  if t.use == .gone then (d.dropTag t.tag).countTimeout t
  else
    let d1 := { d with tags := d.tags.map (fun (x : OutTag) => if x.tag == t.tag then { x with quarantined := true } else x) }
    (d1.countTimeout t).useFailed t.use

/-- COMPLETION_TIMEOUT (R345). -/
def execCompletionTimeout (tag : Nat) (s : State) : Res :=
  ok s (match s.dev.tagOf tag with
    | some t => s.dev.timeOut t
    | none => s.dev)

end Sys2Proof.Machine
end

