-- ==== Sys2Proof/Machine/Links.lean ====
section
/-! DEFINITION. Link ports (chapter "Host endpoint and links"): training and its outcome (R327 to R329, R356), the functions that
a port presents and their resets with it (R305, R306, R311), the bypass crosspoint (R358 to R360), and the CXL mailbox
with dynamic capacity (R352 to R355). -/

namespace Sys2Proof.Machine

/-! ## Training -/

/-- PORT_MODE of a port. -/
def Dev.portMode (d : Dev) (p : Nat) : Nat := d.rd (K.portMode + p)

/-- MODE of Table 11.20. -/
def PMode.code : PMode → Nat
  | .none => 0 | .native => 1 | .cxl => 2 | .pcie => 3 | .ring => 4

/-- LINK of Table 11.20. -/
def LinkSt.code : LinkSt → Nat
  | .down => 0 | .training => 1 | .l0 => 2 | .recovery => 3 | .disabled => 4

/-- Whether a port may train: the module has power, its stage has come, and in Snowdrop it is port 0 (R453, R457); a ring
port needs an open crosspoint (R358). -/
def Dev.mayTrain (d : Dev) (p : Nat) : Bool :=
  if d.su.modState == 3 then p == 0
  else if p < 22 then d.configOpen
  else !d.flag K.bypassClosed

/-- A port without a link: nothing is negotiated. -/
def Port.drop (x : Port) (l : LinkSt) : Port := { x with mode := .none, link := l, speed := 0, width := 0, feats := 0, minor := 0 }

/-- The start of a training of a port whose setting is not DISABLED; with that setting the lanes stay idle (R328). -/
def Dev.startTraining (d : Dev) (p : Nat) : Dev :=
  let x := d.port p
  if !d.mayTrain p then d
  else if d.portMode p == 4 then d.setPort p (x.drop .disabled)
  else (d.setPort p (if d.linkUp p then { x with link := .recovery } else x.drop .training)).emit (.train p (d.portMode p))

/-! ## Resets of a port's functions (R305, R306, R311) -/

/-- The partition that CXL.mem of a port is served for from a reset of the port on (R353). -/
def Dev.cxlPartAt (d : Dev) (p : Nat) : Option Nat :=
  if d.rd (K.cxlPartition + p) < 64 then some (d.rd (K.cxlPartition + p)) else d.lowestOn p

/-- PORTS_ACTIVE of a partition with one port as its ENABLE and PORTS have it. -/
def Dev.fixOne (port : Nat) (d : Dev) (n : Nat) : Dev :=
  let on := d.enabled n && bit (d.rd (K.ofPart K.partPorts n)) port
  let a := d.rd (K.ofPart K.portsActive n)
  let d1 := d.wr (K.ofPart K.portsActive n) (if on then setBit a port else clrBit a port)
  let x := d1.fn ⟨port, n⟩
  if on && !bit a port && !x.recovering then d1.setFn ⟨port, n⟩ (d1.bar2Taken ⟨port, n⟩ Fn.reset)
  else if !on && bit a port then
    x.eq.held.foldl (fun d e => d.post n e) (d1.setFn ⟨port, n⟩ { x with eq := { x.eq with held := [] } })
  else d1

/-- The functions that a port presents fixed, and the partition of its CXL.mem; its CXL slots become LOST (R305, R353). -/
def Dev.fixPort (d : Dev) (port : Nat) : Dev :=
  let d1 := (List.range 64).foldl (Dev.fixOne port) d
  (d1.setPort port { d1.port port with cxlPart := d1.cxlPartAt port }).losePer (fun e => slMode e == 2 && slPort e == port)

/-- Every function of a port reset, with the DETAIL of its event. -/
def Dev.resetPort (d : Dev) (port why : Nat) : Dev :=
  let fs := ((List.range 64).filter (fun n => n == 0 || d.presented port n)).map (fun n => FnId.mk port n)
  (fs.foldl (Dev.startFlr why) d).fixPort port

/-- Lend entries whose lenders no link reaches any more become LOST (R68). -/
def Dev.loseLenders (d : Dev) : Dev :=
  (List.range 64).foldl (fun d i =>
    let e := d.lendEntry i
    if 1 ≤ lendState e && lendState e ≤ 3 && (d.upPorts (d.route (lendEndpoint e))).isEmpty then
      d.lenderLost i
    else d) d

/-- What follows when UBL links have gone: hosts and lenders without a route are lost, requests go on (R116, R68). -/
def Dev.afterRoutes (d : Dev) : Dev := (d.loseUnrouted.loseLenders).settle

/-- A link lost: counted, the port's functions reset with DETAIL 3 (R306). -/
def Dev.linkDrop (d : Dev) (p : Nat) : Dev :=
  let d1 := (d.inc (K.linkDowns + p)).setPort p ((d.port p).drop .down)
  (if p < 22 then d1.resetPort p 3 else d1).afterRoutes

/-- A link taken down, which then trains again (R356). -/
def Dev.dlDown (d : Dev) (p : Nat) : Dev := if d.linkUp p then (d.linkDrop p).startTraining p else d

/-- DL_DOWN (R306). -/
def execDlDown (port : Nat) (s : State) : Res := ok s (s.dev.dlDown port)

/-- A hot reset of a fabric port: its functions are reset, the link trains again without going down (R311, R328). -/
def Dev.hotReset (d : Dev) (p : Nat) : Dev :=
  if 22 ≤ p || !d.linkUp p then d
  else
    let d1 := (d.resetPort p 2).settle
    if d1.portMode p == 4 then (d1.linkDrop p).startTraining p else d1.startTraining p

/-- HOT_RESET (R311). -/
def execHotReset (port : Nat) (s : State) : Res := ok s (s.dev.hotReset port)

/-- A training that a RETRAIN starts; the setting DISABLED takes a live link down. -/
def Dev.retrainPort (d : Dev) (p : Nat) : Dev :=
  if d.portMode p == 4 && d.linkUp p then (d.linkDrop p).startTraining p else d.startTraining p

/-- The effect of a write of RETRAIN. -/
def Dev.wRetrain (d : Dev) (p v : Nat) : Dev × Nat := (if v == 1 then d.retrainPort p else d, 0)

/-- RETRAIN (R328). -/
def execRetrain (role : Role) (port v : Nat) (s : State) : Res :=
  ok s (s.dev.scalarWrite role 0x2806 (port + 1) v (fun d => d.wRetrain port v))

/-! ## The bypass crosspoint (R358 to R360) -/

/-- Whether the crosspoint is to be open. -/
def Dev.bypassOpen (d : Dev) : Bool :=
  d.su.mains && (d.su.modState == 2 || (d.su.modState == 1 && 6 ≤ d.su.stage)) && !d.flag K.bypassForce && !d.mg.restarting &&
  !d.flag K.ringFault

/-- The crosspoint brought in line: opening starts the training of both ring ports, closing breaks their links. -/
def Dev.updBypass (d : Dev) : Dev :=
  let closed := d.flag K.bypassClosed
  if closed == !d.bypassOpen then d
  else if closed then
    let d1 := (d.wr K.bypassClosed 0).emit (.pin 2 false)
    let d2 := [22, 23].foldl (fun d p => d.setPort p { d.port p with fails := 0 }) d1
    (d2.startTraining 22).startTraining 23
  else
    let d1 := (d.wr K.bypassClosed 1).emit (.pin 2 true)
    [22, 23].foldl (fun d p =>
      let d1 := if d.linkUp p then d.inc (K.linkDowns + p) else d
      d1.setPort p ((d1.port p).drop .down)) d1

/-- The effect of a write of BYPASS_FORCE. -/
def Dev.wBypassForce (d : Dev) (v : Nat) : Dev × Nat := ((d.wr K.bypassForce v).updBypass, 0)

/-- BYPASS_FORCE (R358). -/
def execBypassForce (role : Role) (v : Nat) (s : State) : Res :=
  ok s (s.dev.scalarWrite role 0x2800 0x06 v (fun d => d.wBypassForce v))

/-- RING_RETRY_EXPIRY (R360): RING_FAULT cleared, the crosspoint opens again. -/
def execRingRetryExpiry (s : State) : Res :=
  ok s (if s.dev.flag K.ringFault then (s.dev.wr K.ringFault 0).updBypass else s.dev)

/-! ## The outcome of a training (R328, R329, R356) -/

/-- The UBL features of a fabric port and of a ring port (Table 11.2, Table 13.5). -/
def portFeatures (p : Nat) : Nat := if p < 22 then 0x005F else 0x0F60

/-- UBL_OFFER of a port (R336). -/
def Dev.ublOffered (d : Dev) (p : Nat) : Bool := (22 ≤ p || (d.fn ⟨p, 0⟩).ublOffer) && d.portMode p ≤ 1 && d.su.modState != 3

/-- Whether a port offers CXL. -/
def Dev.cxlOffered (d : Dev) (p : Nat) : Bool := p < 22 && (d.portMode p == 0 || d.portMode p == 2) && d.su.modState != 3

/-- The mode in which a training ends. -/
def Dev.trainedMode (d : Dev) (p : Nat) (t : Training) : PMode :=
  if d.ublOffered p && t.selUbl && (t.major == 1 || t.major == 2) then (if p < 22 then .native else .ring)
  else if p < 22 then (if d.cxlOffered p && t.selCxl then .cxl else .pcie)
  else .none

/-- The rate in which it ends: no more than MAX_SPEED, 64 GT/s in CXL mode (R328) and 32 GT/s in Snowdrop (R457). -/
def Dev.trainedSpeed (d : Dev) (p : Nat) (m : PMode) (t : Training) : Nat :=
  let top := Min.min t.speed (d.rd (K.maxSpeed + p))
  if d.su.modState == 3 then Min.min top 5 else if m == .cxl then Min.min top 6 else top

/-- What a training that came up sets in its port; the lower minor version is the device's 0 (R329, R367). -/
def Dev.trained (d : Dev) (p : Nat) (t : Training) : Dev :=
  let m := d.trainedMode p t
  let ubl := m == .native || m == .ring
  d.setPort p { d.port p with
    mode := m, link := .l0, speed := d.trainedSpeed p m t, width := t.width,
    feats := if ubl then t.feats &&& portFeatures p else 0, minor := 0 }

/-- The counts of declined protocols of a training that ended in neither. -/
def Dev.countDeclined (d : Dev) (p : Nat) (m : PMode) : Dev :=
  if m == .pcie || m == .none then
    let d1 := if d.ublOffered p then d.inc (K.ublDeclined + p) else d
    if d.cxlOffered p then d1.inc (K.cxlDeclined + p) else d1
  else d

/-- A failed training: counted. Where it was to restore a link, that link is lost and the port trains again (R306); the third of a
ring port since the crosspoint opened, when it falls within 1 s of that, which the device's free draw decides, sets RING_FAULT
(R356, R360). -/
def Dev.trainFailed (d : Dev) (p : Nat) : Dev :=
  let d1 := if d.linkUp p then (d.linkDrop p).startTraining p else d.inc (K.linkDowns + p)
  if p < 22 then d1
  else
    let n := (d.port p).fails + 1
    let d2 := d1.setPort p { d1.port p with fails := n }
    if 3 ≤ n && Config.roundUp d2.fresh then ((d2.drawn.wr K.ringFault 1).updBypass) else d2.drawn

/-- A training that ends. A ring port whose partner declines UBL stays down and tries again. -/
def Dev.trainingDone (d : Dev) (p : Nat) (t : Training) : Dev :=
  let x := d.port p
  if x.link != .training && x.link != .recovery then d
  else if !t.up then d.trainFailed p
  else
    let m := d.trainedMode p t
    let d1 := d.countDeclined p m
    if m == .none then d1.trainFailed p
    else
      let d2 := if p < 22 then (d1.trained p t).afterRoutes else ((d1.trained p t).ringUp p).afterRoutes
      (List.range 64).foldl (fun d n => if d.fnExists ⟨p, n⟩ && p < 22 then d.pumpEv ⟨p, n⟩ else d) d2

/-- LINK_TRAINING_DONE (R328). -/
def execLinkTrainingDone (port : Nat) (t : Training) (s : State) : Res := ok s (s.dev.trainingDone port t)

/-- FLIT_CRC_ERROR (R356, R357): the FLIT is replayed, counted, and on a fabric port reported by function 0. -/
def execFlitCrcError (port : Nat) (s : State) : Res :=
  ok s (let d := s.dev
    if !d.linkUp port then d
    else
      let d1 := d.inc (K.flitRetries + port)
      if port < 22 then d1.aer ⟨port, 0⟩ 0 aerReceiver else d1)

/-! ## Dynamic capacity (R355, Table 04.4) -/

/-- Whether a port runs CXL for a host: mailbox and dynamic capacity are served through function 0. -/
def Dev.cxlServed (d : Dev) (port : Nat) : Bool :=
  d.operational && port < 22 && d.linkUp port && d.cxl port && !(d.fn ⟨port, 0⟩).recovering

/-- The answer to a CXL mailbox command of function 0, whose registers BAR0 holds (Table 11.8). -/
def Dev.cxlMb (d : Dev) (port cmd : Nat) (run : Dev → Dev × Nat × List Byte) : Dev :=
  if !d.cxlServed port || !d.mse ⟨port, 0⟩ then d
  else
    let r := run d
    r.1.emit (.cxlMb port cmd r.2.1 r.2.2)

/-- The end of step V5 by the host's release of a run: at once where the device waits for it, later where recalls still run. -/
def Dev.cxlRelease (d : Dev) (port ext count : Nat) : Dev :=
  d.coh.revokes.foldl (fun d r =>
    if slMode (d.slot r.slot) == 2 && slPort (d.slot r.slot) == port && ext ≤ r.first && r.first + r.count ≤ ext + count then
      match r.st with
      | .v5 => d.revokeEnd r
      | .v4 => { d with coh := { d.coh with revokes := d.coh.revokes.map (fun x => if x.id == r.id then { x with st := .v4r } else x) } }
      | _ => d
    else d) d

/-- CXL_RELEASE_DYNAMIC_CAPACITY (R130). -/
def execCxlReleaseDynamicCapacity (port ext count : Nat) (s : State) : Res :=
  ok s (s.dev.cxlMb port 0x4803 (fun d => ((d.cxlRelease port ext count).settle, 0, [])))

/-- CXL_ADD_DYNAMIC_CAPACITY_RESPONSE (R355): a rejection is counted; the grant record stays. -/
def execCxlAddDynamicCapacityResponse (port : Nat) (accepted : Bool) (s : State) : Res :=
  ok s (s.dev.cxlMb port 0x4802 (fun d => (if accepted then d else d.inc K.dcRejects, 0, [])))

/-- The records that wait moved into the log of a port as far as it has room, each with the commands it completes. -/
def Dev.dcRefill (port : Nat) : Nat → Dev → Dev
  | 0, d => d
  | n + 1, d =>
    let x := d.port port
    match x.dcWait with
    | r :: rest =>
      if x.dcLog.length < 256 then
        Dev.dcRefill port n (r.done.foldl (fun d h => d.adminOk h 0)
          (d.setPort port { x with dcLog := x.dcLog ++ [{ r with done := [] }], dcWait := rest }))
      else d
    | [] => d

/-! ## The CXL mailbox (R352) -/

/-- Mailbox return codes: success, invalid input, invalid handle (PRESUMED, CXL 3.1). -/
def cxlOk : Nat := 0
def cxlInvalidInput : Nat := 2
def cxlInvalidHandle : Nat := 0xE

/-- The opcodes of the mailbox commands that Table 11.14 names (PRESUMED, CXL 3.1), in ascending order. -/
def celOpcodes : List Nat :=
  [0x0100, 0x0101, 0x0102, 0x0103, 0x0400, 0x0401, 0x4000, 0x4300, 0x4800, 0x4801, 0x4802, 0x4803]

/-- IDENTIFY_MEMORY_DEVICE (R352): the size of the Dynamic Capacity Event Log. -/
def execIdentifyMemoryDevice (port : Nat) (s : State) : Res :=
  ok s (s.dev.cxlMb port 0x4000 (fun d => (d, cxlOk, leBytes 2 256)))

/-- GET_SUPPORTED_LOGS (R352): one log, the CEL, with its size. -/
def execGetSupportedLogs (port : Nat) (s : State) : Res :=
  ok s (s.dev.cxlMb port 0x0400 (fun d => (d, cxlOk, leBytes 2 1 ++ leBytes 4 (2 * celOpcodes.length))))

/-- GET_LOG (R352): bytes of the CEL, whose entries are listed here by their opcodes. -/
def execGetLog (port off len : Nat) (s : State) : Res :=
  ok s (s.dev.cxlMb port 0x0401 (fun d =>
    let cel := celOpcodes.flatMap (leBytes 2)
    if cel.length < off + len then (d, cxlInvalidInput, []) else (d, cxlOk, slice cel off len)))

/-- A dynamic capacity record as it is read: handle, type, first extent, extents, access, zero Timestamp. -/
def DcRec.bytes (r : DcRec) : List Byte :=
  leBytes 2 r.handle ++ leBytes 1 r.typ ++ leBytes 4 r.first ++ leBytes 4 r.count ++ leBytes 1 (b2n r.rw) ++ zeros 8

/-- GET_EVENT_RECORDS (R352, R355): log 4 is the Dynamic Capacity Event Log; the others hold nothing. -/
def execGetEventRecords (port log : Nat) (s : State) : Res :=
  ok s (s.dev.cxlMb port 0x0100 (fun d =>
    if 4 < log then (d, cxlInvalidInput, [])
    else if log == 4 then (d, cxlOk, (d.port port).dcLog.flatMap DcRec.bytes) else (d, cxlOk, [])))

/-- Records of a port's log cleared, and waiting ones moved up. -/
def Dev.dcClear (d : Dev) (port : Nat) (all : Bool) (handles : List Nat) : Dev × Nat × List Byte :=
  let x := d.port port
  if !all && !handles.all (fun h => x.dcLog.any (fun r => r.handle == h)) then (d, cxlInvalidHandle, [])
  else
    let d1 := d.setPort port { x with dcLog := if all then [] else x.dcLog.filter (fun r => !handles.contains r.handle) }
    (Dev.dcRefill port x.dcWait.length d1, cxlOk, [])

/-- CLEAR_EVENT_RECORDS (R355). -/
def execClearEventRecords (port log : Nat) (all : Bool) (handles : List Nat) (s : State) : Res :=
  ok s (s.dev.cxlMb port 0x0101 (fun d =>
    if 4 < log then (d, cxlInvalidInput, [])
    else if log == 4 then d.dcClear port all handles
    else if handles.isEmpty then (d, cxlOk, []) else (d, cxlInvalidHandle, [])))

/-- GET_EVENT_INTERRUPT_POLICY (R352): no interrupts for any of the five logs. -/
def execGetEventInterruptPolicy (port : Nat) (s : State) : Res :=
  ok s (s.dev.cxlMb port 0x0102 (fun d => (d, cxlOk, zeros 5)))

/-- SET_EVENT_INTERRUPT_POLICY (R352): only the setting with no interrupts is accepted. -/
def execSetEventInterruptPolicy (port : Nat) (policy : List Nat) (s : State) : Res :=
  ok s (s.dev.cxlMb port 0x0103 (fun d => (d, if policy.all (· == 0) then cxlOk else cxlInvalidInput, [])))

/-- The poisoned runs of a partition within a range of offsets: lost pages, then poisoned blocks of the others. -/
def Dev.poisonRuns (d : Dev) (p addr len : Nat) : List (Nat × Nat) :=
  let pages := (d.mm.pages.filter (fun e => pagePart e.1 == p && e.2.lost)).map (fun e => (e.1 % 2 ^ 32 * 65536, 65536))
  let blks := (d.mm.blocks.filter (fun e => e.1 / 2 ^ 40 == p && e.2.poison && !(d.page (pageKey p (e.1 % 2 ^ 40 / 256))).lost)).map
    (fun e => (e.1 % 2 ^ 40 * 256, 256))
  (pages ++ blks).filter (fun r => r.1 < addr + len && addr < r.1 + r.2)

/-- GET_POISON_LIST (R352): address and length in 64-byte units of every poisoned run in the range asked. -/
def execGetPoisonList (port addr len : Nat) (s : State) : Res :=
  ok s (s.dev.cxlMb port 0x4300 (fun d =>
    match d.cxlPart port with
    | some p => (d, cxlOk, (d.poisonRuns p addr len).flatMap (fun r => leBytes 8 r.1 ++ leBytes 4 (r.2 / 64)))
    | none => (d, cxlOk, [])))

/-- GET_DYNAMIC_CAPACITY_CONFIGURATION (R355): one region from DPA 0 over 2^48 bytes, in blocks of 1 GiB. -/
def execGetDynamicCapacityConfiguration (port : Nat) (s : State) : Res :=
  ok s (s.dev.cxlMb port 0x4800 (fun d => (d, cxlOk, leBytes 1 1 ++ leBytes 8 0 ++ leBytes 8 (2 ^ 48) ++ leBytes 8 (2 ^ 30))))

/-- The runs granted to the CXL slots of a port. -/
def Dev.cxlRuns (d : Dev) (port : Nat) : List Grant :=
  d.coh.grants.filter (fun g => g.drain.isNone && slMode (d.slot g.slot) == 2 && slPort (d.slot g.slot) == port)

/-- GET_DYNAMIC_CAPACITY_EXTENT_LIST (R355): the granted runs from index `first`, at most `count`, after their number. -/
def execGetDynamicCapacityExtentList (port first count : Nat) (s : State) : Res :=
  ok s (s.dev.cxlMb port 0x4801 (fun d =>
    let l := ((d.cxlRuns port).drop first).take count
    (d, cxlOk, leBytes 4 l.length ++ leBytes 4 (d.cxlRuns port).length ++
      l.flatMap (fun g => leBytes 8 (g.first * 2 ^ 30) ++ leBytes 8 (g.count * 2 ^ 30)))))

/-- GLOBAL_PERSISTENT_FLUSH (R352): each phase completes at once, because no tier persists. -/
def execGlobalPersistentFlush (port phase : Nat) (s : State) : Res :=
  ok s (if s.dev.cxlServed port then s.dev.emit (.cxlMb port phase cxlOk []) else s.dev)

end Sys2Proof.Machine
end

