-- ==== Sys2Proof/Machine/Bays.lean ====
section
/-! DEFINITION. Cartridge bays (R362 to R366, R368) and what the loss, return and rebuild of a cartridge does to the flash tier
(R72 to R74). -/

namespace Sys2Proof.Machine

/-! ## Registers of a bay -/

/-- Indicator encodings (Table 11.17.B). -/
def indOn : Nat := 1
def indBlink : Nat := 2
def indOff : Nat := 3

/-- Fields of BAY_CTRL. -/
def Bay.powerOff (x : Bay) : Bool := bit x.ctrl 10
def Bay.setPowerOff (x : Bay) (b : Bool) : Bay := { x with ctrl := if b then setBit x.ctrl 10 else clrBit x.ctrl 10 }
def Bay.setPowerInd (x : Bay) (v : Nat) : Bay := { x with ctrl := setFld x.ctrl 8 2 v }
def Bay.setAttnInd (x : Bay) (v : Nat) : Bay := { x with ctrl := setFld x.ctrl 6 2 v }

/-- PRESENCE and CART_READY of BAY_STATUS. -/
def Bay.present (x : Bay) : Bool := bit x.status 6
def Bay.ready (x : Bay) : Bool := bit x.status 7

/-- BAY_AUTO of a bay. -/
def Dev.bayAuto (d : Dev) (b : Nat) : Bool := d.flag (K.ofBay K.bayAuto b)

/-- A change bit of BAY_STATUS set, with the notification that its enable in BAY_CTRL allows (R362). -/
def Dev.baySignal (d : Dev) (b bitNo : Nat) (enable : Nat) : Dev :=
  let x := d.bay b
  let st := setBit x.status bitNo
  let d1 := d.setBay b { x with status := st }
  if bit x.ctrl enable then d1.notify 1 (0x2900 + b) 3 st else d1

/-- PRESENCE given a value, with PRESENCE_CHG when it changes. -/
def Dev.setPresence (d : Dev) (b : Nat) (v : Bool) : Dev :=
  let x := d.bay b
  if x.present == v then d
  else (d.setBay b { x with status := if v then setBit x.status 6 else clrBit x.status 6 }).baySignal b 3 3

/-- CART_READY given a value, with CART_READY_CHG when it changes. -/
def Dev.setReady (d : Dev) (b : Nat) (v : Bool) : Dev :=
  let x := d.bay b
  if x.ready == v then d
  else (d.setBay b { x with status := if v then setBit x.status 7 else clrBit x.status 7 }).baySignal b 8 2

/-- A bay changed. -/
def Dev.modBay (d : Dev) (b : Nat) (f : Bay → Bay) : Dev := d.setBay b (f (d.bay b))

/-! ## The flash tier without a cartridge -/

/-- Whether the codewords of another bay are missing. -/
def Dev.otherMissing (d : Dev) (b : Nat) : Bool := (List.range 8).any (fun i => i != b && (d.bay i).missing)

/-- Whether power may not be taken from a bay: another one is missing, failed, powered off or rebuilding (R363). -/
def Dev.removalBarred (d : Dev) (b : Nat) : Bool := (List.range 8).any (fun i => i != b && (d.bay i).cart != 2)

/-- The pages that flash holds, keys; those still in write staging are not on flash. -/
def Dev.flashPages (d : Dev) : List Nat := (d.mm.pages.filter (fun e => d.t3Cold e.1)).map (·.1)

/-- Whether a rebuild has already restored the stripes of a page, the n-th of a list: how far it has come is a free choice, page
by page (log entry 114). -/
def Dev.rebuilt (d : Dev) (n : Nat) : Bool := (List.range 8).any (fun i => (d.bay i).cart == 3) && Config.roundUp (d.fresh + n)

/-- A second loss: every page that flash holds with codewords on both missing cartridges becomes NONE with POISON set (R73). The
codewords that a rebuild has restored are not missing any more. -/
def Dev.secondLoss (d : Dev) : Dev :=
  let all := d.flashPages
  let ks := (all.zipIdx.filter (fun e => !d.rebuilt e.2)).map (·.1)
  (ks.foldl Dev.losePage { d with fresh := d.fresh + all.length }).add K.t3PagesLost ks.length

/-- The codewords of a bay go missing (R72); with others missing already, R73 follows. -/
def Dev.loseCodewords (d : Dev) (b : Nat) : Dev :=
  if (d.bay b).missing then d
  else
    let d1 := d.modBay b (fun x => { x with missing := true })
    if d.otherMissing b then d1.secondLoss.settle else d1

/-- Whether a bay's cartridge has power. -/
def Bay.powered (x : Bay) : Bool := x.cart == 1 || x.cart == 2 || x.cart == 3 || x.cart == 4

/-- Power taken from a bay in order: its codewords go missing first, then it is off (R364). -/
def Dev.powerDown (d : Dev) (b : Nat) : Dev :=
  ((d.loseCodewords b).modBay b (fun x => { x with cart := 5, pressed := false, settling := false, media := none }.setPowerOff true)).setReady b false

/-- A cartridge lost without notice (R365). -/
def Dev.loseCartridge (d : Dev) (b : Nat) : Dev :=
  let d1 := ((d.inc (K.ofBay K.surpriseRemovals b)).sign { Sig.base 0x10 0 7 with unitType := 3, unit := b }).loseCodewords b
  (d1.modBay b (fun x => (({ x with cart := 6, pressed := false, settling := false, media := none }.setPowerOff true).setPowerInd indOff).setAttnInd
    indOn)).setReady b false

/-! ## Orderly removal (R363, R364) -/

/-- A press of the attention button. -/
def Dev.press (d : Dev) (b : Nat) : Dev :=
  let d1 := d.baySignal b 0 0
  let x := d1.bay b
  if x.pressed then d1.setBay b ({ x with pressed := false }.setPowerInd indOn)
  else if !(x.cart == 2 || x.cart == 3) then d1
  else if d1.removalBarred b then (d1.setBay b { x with blinking := true }).inc (K.ofBay K.buttonRefusals b)
  else if d1.bayAuto b then d1.setBay b ({ x with pressed := true, blinking := false }.setPowerInd indBlink)
  else d1

/-- ATTN_BUTTON_PRESS (R363). -/
def execAttnButtonPress (bay : Nat) (s : State) : Res := ok s (s.dev.press bay)

/-- BAY_QUIESCE_TIMER (R364): 5 s after an accepted press. QUIESCING lasts for the reads in flight alone, of which the model holds none
(log entry 11). -/
def execBayQuiesceTimer (bay : Nat) (s : State) : Res :=
  ok s (if (s.dev.bay bay).pressed then (s.dev.powerDown bay).modBay bay (fun x => x.setPowerInd indOff) else s.dev)

/-- The remaining life of the cartridge in a bay noted as it leaves (R71). -/
def Dev.noteWear (d : Dev) (b : Nat) : Dev :=
  let sn := (d.bay b).serial
  { d with er := { d.er with wears := (sn, d.wearPct b) :: d.er.wears.filter (fun e => e.1 != sn) } }

/-- WEAR_PCT of a bay as the cartridge seated in it now has it: what it had when it left a bay, else what it brings, a free value
(R71). -/
def Dev.takeWear (d : Dev) (b : Nat) : Dev :=
  match d.er.wears.find? (fun e => e.1 == (d.bay b).serial) with
  | some e => d.wr (K.wearPct + b) e.2
  | none => (d.wr (K.wearPct + b) (d.free % 101)).drawn

/-- CARTRIDGE_REMOVED (R364): a cartridge without power leaves its bay. -/
def execCartridgeRemoved (bay : Nat) (s : State) : Res :=
  ok s (let x := s.dev.bay bay
    if x.present && !x.powered then
      ((s.dev.noteWear bay).setBay bay { x with cart := 0, serial := [], fw := [], settling := false }).setPresence bay false
    else s.dev)

/-- CARTRIDGE_SURPRISE_REMOVAL (R365): a cartridge with power leaves, or stops answering while it stays. -/
def execCartridgeSurpriseRemoval (bay : Nat) (present : Bool) (s : State) : Res :=
  ok s (if (s.dev.bay bay).powered then
      (let d := s.dev.loseCartridge bay
       if present then d else ((d.noteWear bay).modBay bay (fun x => { x with serial := [], fw := [] })).setPresence bay false)
    else s.dev)

/-- POWER_FAULT (R365): the power controller of a bay trips. -/
def execPowerFault (bay : Nat) (s : State) : Res :=
  ok s (if (s.dev.bay bay).powered then (s.dev.baySignal bay 1 1).loseCartridge bay else s.dev)

/-! ## Insertion (R366, R74) -/

/-- CARTRIDGE_INSERTED (R366): a cartridge seated in an empty bay settles without power. -/
def execCartridgeInserted (bay : Nat) (serial fw : List Byte) (s : State) : Res :=
  ok s (let x := s.dev.bay bay
    if x.present then s.dev
    else (((s.dev.setBay bay { x with cart := 5, serial := serial, fw := fw, settling := true }).takeWear bay).inc
      (K.ofBay K.insertions bay)).setPresence bay true)

/-- Power applied to a seated cartridge, which is then checked. -/
def Bay.powerUp (x : Bay) : Bay := { x with cart := 1, settling := false }.setPowerOff false

/-- CARTRIDGE_SETTLE_TIMER (R366): power is applied once the main rails are up, unless the fabric manager holds it off. -/
def execCartridgeSettleTimer (bay : Nat) (s : State) : Res :=
  ok s (let d := s.dev
    let x := d.bay bay
    if !x.settling || !d.su.mains then d
    else if d.bayAuto bay then d.setBay bay (x.powerUp.setPowerInd indBlink)
    else if x.powerOff then d.setBay bay { x with settling := false }
    else d.setBay bay x.powerUp)

/-- The end of a check: a qualified cartridge is ready under a media key drawn for it (R471), and rebuilt when its codewords are
missing; an unqualified one is powered off. -/
def Dev.checkDone (d : Dev) (b : Nat) (qualified : Bool) : Dev :=
  if (d.bay b).cart != 1 then d
  else if qualified then
    (d.drawn.modBay b (fun x => { x with cart := if x.missing then 3 else 2, media := some d.free }.setPowerInd indOn)).setReady b true
  else d.modBay b (fun x => (({ x with cart := 7 }.setPowerOff true).setPowerInd indOff).setAttnInd indOn)

/-- CARTRIDGE_CHECK_DONE (R366). -/
def execCartridgeCheckDone (bay : Nat) (qualified : Bool) (s : State) : Res := ok s (s.dev.checkDone bay qualified)

/-- The traffic of a rebuild, in Q0 (R74, R279): every stripe that holds mapped data is read from the seven other cartridges, and
one codeword in seven is written. It is charged when the rebuild ends (log entry 129). -/
def Dev.chargeRebuild (d : Dev) : Dev :=
  let n := 65536 * d.flashPages.length
  (d.chargeTier .t3 false 0 n).chargeTier .t3 true 0 (n / 7)

/-- REBUILD_DONE (R74): the bay's codewords are there again. -/
def execRebuildDone (bay : Nat) (s : State) : Res :=
  ok s (if (s.dev.bay bay).cart == 3 then s.dev.chargeRebuild.modBay bay (fun x => { x with cart := 2, missing := false }) else s.dev)

/-! ## BAY_CTRL (R362, R363) -/

/-- The value that BAY_CTRL takes: POWER_OFF and POWER_IND are the device's while BAY_AUTO is 1. -/
def bayCtrlTaken (old v : Nat) (auto : Bool) : Nat :=
  let keep := fld old 11 5 * 2 ^ 11 + fld old 4 2 * 2 ^ 4
  if auto then keep + fld old 8 3 * 2 ^ 8 + fld v 6 2 * 2 ^ 6 + fld v 0 4
  else keep + fld v 8 3 * 2 ^ 8 + fld v 6 2 * 2 ^ 6 + fld v 0 4

/-- The effect of a write of BAY_CTRL. -/
def Dev.wBayCtrl (d : Dev) (b v : Nat) : Dev × Nat :=
  let x := d.bay b
  let auto := d.bayAuto b
  if fld v 6 2 == 0 || (!auto && fld v 8 2 == 0) then d.outOfRange
  else
    let new := bayCtrlTaken x.ctrl v auto
    let off := bit new 10
    if !auto && off && !x.powerOff && d.removalBarred b then d.refused
    else
      let d1 := d.setBay b { x with ctrl := new, blinking := false }
      if off && !x.powerOff then (if x.powered then d1.powerDown b else d1, 0)
      else if !off && x.powerOff && x.present && d.su.mains && !x.powered then (d1.modBay b Bay.powerUp, 0)
      else (d1, 0)

/-- BAY_CTRL (R363): through its object, or through the bay DVSEC of function 0 of BAY_CTRL_PORT, which acts as the same write
by FABRIC and is read-only everywhere else (R362). -/
def execBayCtrl (w : Writer) (bay v : Nat) (s : State) : Res :=
  ok s (match w with
    | .role r => s.dev.scalarWrite r (0x2900 + bay) 0x02 v (fun d => d.wBayCtrl bay v)
    | .dvsec f =>
      if f.num == 0 && f.port == s.dev.rd K.bayCtrlPort && s.dev.cfgOpen f then (s.dev.wBayCtrl bay v).1 else s.dev)

end Sys2Proof.Machine
end

