-- ==== Sys2Proof/Machine/Errors.lean ====
section
/-! DEFINITION. Error detection and containment (chapter "Error detection, correction and containment"): data path parity (R373),
lockstep units and Larkspur's watchdog (R375, R376), patrol scrub and metadata errors (R384, R385), the Deadhead and
recommendation lists (R379, R387, R388), and the loss of a stack or DDR channel (R395, R396). -/

namespace Sys2Proof.Machine

/-! ## Data path parity (R373) -/

/-- A parity error counted and recorded; a masked one was reissued and checked. -/
def Dev.parity (d : Dev) (masked : Bool) (x : Sig) : Dev :=
  let d1 := d.inc K.datapathErrors
  (if masked then d1.inc K.datapathMasked else d1).sign x

/-- The record of a parity error. -/
def paritySig (masked : Bool) : Sig := if masked then Sig.base 5 0 3 else { Sig.base 5 1 4 with status := 0x20 }

/-- The newest message of the device with its data marked poisoned. -/
def poisonAnswer : Out → Out
  | .ubl port op dst src off tag pool nocache st data =>
    .ubl port op dst src off tag pool nocache (if st == 0 && (op == opRespData || op == opResp) then 0x20 else st) data
  | .cxl port tag data _ shared => .cxl port tag data true shared
  | .cpl f tag st data ep => .cpl f tag st data (ep || st == 0)
  | o => o

/-- The newest message changed, when it is newer than `n` messages. -/
def Dev.remark (d : Dev) (n : Nat) : Dev :=
  if n < d.out.length then { d with out := d.out.dropLast ++ (d.out.getLast?.map poisonAnswer).toList } else d

/-- Read data of a host request that failed its check: served again when the reissue checks, delivered poisoned otherwise. A
read that is held has no data yet. -/
def Dev.parityHostRead (d : Dev) (q : HReq) (masked : Bool) : Dev :=
  if !d.hostPort q.port then d
  else
    let d0 := d.parity masked { paritySig masked with unitType := 5, unit := q.port }
    match d0.serve ⟨.rdUncached, { q with off := q.off / 64 * 64 }, ⟨q.port, 0⟩, 64, 0, [], .good, 0⟩ false with
    | .done d1 => (if masked then d1 else d1.remark d0.out.length).settle
    | .hold _ _ => d

/-- Blocks of a run of a partition's range written with POISON set; pages without a frame take one first. -/
def Dev.poisonRun (d : Dev) (p off len : Nat) : Dev :=
  match d.resolve p off with
  | none => d
  | some t =>
    if !t.holds len then d
    else
      let ps := d.writePieces t len
      match Dev.framesFor ps d with
      | none => d
      | some d1 => ps.foldl (fun d x => d.poisonBlks x.part x.blks) d1

/-- Whether a CXL write is refused, which its answer does not show. -/
def Dev.cxlRefused (d : Dev) (q : HReq) : Bool :=
  match d.cxlPart q.port with
  | some p => d.fenced p || (d.resolve p q.off).isNone || (d.cxlSlot q.port p).isNone
  | none => true

/-- Write data of a host that failed their check: the blocks are poisoned, a native write is answered with POISON and a CXL
one as usual. A refused write is answered as it would be. -/
def Dev.parityHostWrite (d : Dev) (q : HReq) : Dev :=
  if !d.hostPort q.port then d
  else
    let q := { q with off := q.off / 64 * 64, lock := false }
    let d0 := d.parity false { paritySig false with unitType := 5, unit := q.port }
    match d0.serve ⟨.wrUncached, q, ⟨q.port, 0⟩, 64, 0, zeros 64, .good, 0⟩ false with
    | .done d1 =>
      let served : Bool := match d1.out.getLast? with
        | some (.ubl _ op _ _ _ _ _ _ st _) => d0.out.length < d1.out.length && op == opResp && st == 0
        | some (.cxlCmp _ _) => d0.out.length < d1.out.length && !d0.cxlRefused q
        | _ => false
      if served then
        match d0.reqPart ⟨.wrUncached, q, ⟨q.port, 0⟩, 64, 0, [], .good, 0⟩ with
        | some p => ((d1.poisonRun p q.off 64).remark d0.out.length).settle
        | none => d1.settle
      else d1.settle
    | .hold _ _ => d

/-- A BAR2 write whose data failed their check: its blocks are poisoned where the write would have been carried out, and it meets the
directory as one (R19). -/
def Dev.parityBar2 (d : Dev) (f : FnId) (off len : Nat) : Dev :=
  let d0 := d.parity false { paritySig false with unitType := 5, unit := f.port }
  if d.barUp f && d.mse f && d.bar2There f off && !d.fenced f.num then
    (d0.request ⟨.devWrite .poison, ⟨f.port, 0, f.num, d.rd (K.ofPart K.bar2Offset f.num) + off, 0, 0, false, false, 0, false⟩, f, len, 0, zeros len,
      .good, d.lsCls f.num⟩).settle
  else d0.refuseBar ⟨.barWrite, ⟨f.port, 0, f.num, off, 0, 0, false, false, 0, false⟩, f, len, 0, [], .good, 0⟩ 1

/-- Read data for BAR2 that failed their check (Table 11.9). -/
def Dev.parityBar2Read (d : Dev) (f : FnId) (tag off len : Nat) (masked : Bool) : Dev :=
  if !(d.barUp f && d.mse f && d.bar2There f off) then d
  else
    let d0 := d.parity masked { paritySig masked with unitType := 5, unit := f.port }
    match d0.serve ⟨.barRead, ⟨f.port, 0, f.num, d.rd (K.ofPart K.bar2Offset f.num) + off, tag, 0, false, false, 0, false⟩, f, len, 0, [],
        .good, d.lsCls f.num⟩ false with
    | .done d1 => (if masked then d1 else d1.remark d0.out.length).settle
    | .hold _ _ => d

/-- A header of a BAR2 request that failed its check. -/
def Dev.parityBar2Header (d : Dev) (f : FnId) (tag : Nat) (nonPosted : Bool) : Dev :=
  if !d.barUp f then d
  else
    let d1 := (d.parity false { paritySig false with unitType := 5, unit := f.port }).aer f 1 aerInternal
    if nonPosted then d1.emit (.cpl f tag 0 [] true) else d1

/-- A request whose header failed its check: discarded, a non-posted one answered as a poisoned read without data, and
reported by the function. -/
def Dev.parityHeader (d : Dev) (q : HReq) (nonPosted : Bool) : Dev :=
  if !d.hostPort q.port then d
  else
    let d0 := d.parity false { paritySig false with unitType := 5, unit := q.port }
    let f : FnId := ⟨q.port, (d.reqPart ⟨.rdUncached, q, ⟨q.port, 0⟩, 64, 0, [], .good, 0⟩).getD 0⟩
    let d1 := d0.aer f 1 aerInternal
    if !nonPosted then d1
    else if d.cxl q.port then d1.emit (.cxl q.port q.tag [] true false)
    else d1.emit (.ubl q.port opResp q.src q.dst q.off q.tag q.pool false 0x20 [])

/-- The stream operation of a cluster with its channel. -/
def Dev.streamOf (d : Dev) (c op : Nat) : Option (StreamOp × Nat) :=
  match (d.clu c).streams.find? (fun o => o.id == op), (d.clu c).chan with
  | some o, some k => some (o, k)
  | _, _ => none

/-- Stream data that failed their check: masked when the reissue checks; else the blocks of a store are poisoned and the
descriptor ends with POISON (R254). -/
def Dev.parityStream (d : Dev) (c op : Nat) (write masked : Bool) : Dev :=
  match d.streamOf c op with
  | none => d
  | some (o, k) =>
    if (o.kind != 0) != write then d
    else
      let d0 := d.parity masked { paritySig masked with unitType := 4, unit := c, part := ctxPart k, channel := d.chHandle k }
      if masked then d0
      else
        let d1 := if write && o.space == 0 then d0.poisonRun (ctxPart k) o.mem o.len else d0
        (d1.streamFail c k o 0x20 0x000B).settle

/-- Data read for the recipe at work on a channel that failed their check: its running descriptor ends with POISON (R254). -/
def Dev.parityRecipe (d : Dev) (h : Nat) (masked : Bool) : Dev :=
  match d.workChan h with
  | some (k, c) =>
    (match c.fetched.find? (fun x => x.ph == .running) with
      | some x =>
        let d0 := d.parity masked { paritySig masked with part := ctxPart k, channel := d.chHandle k }
        if masked then d0 else (d0.failHalt k x.seq 0x20 0x000B).settle
      | none => d)
  | none => d

/-- DATAPATH_PARITY_ERROR (R373, Table 12.2). -/
def Dev.parityError (d : Dev) : Beat → Dev
  | .hostRead q masked => d.parityHostRead q masked
  | .streamRead c op masked => d.parityStream c op false masked
  | .streamWrite c op masked => d.parityStream c op true masked
  | .hostWrite q _ => d.parityHostWrite q
  | .bar2Write f off len => d.parityBar2 f off len
  | .header q np => d.parityHeader q np
  | .bar2Read f tag off len masked => d.parityBar2Read f tag off len masked
  | .recipeRead h masked => d.parityRecipe h masked
  | .bar2Header f tag np => d.parityBar2Header f tag np
  | .issued tag =>
    (match d.tagOf tag with
      | some t => ((d.parity false { paritySig false with unitType := 5, unit := t.port }).dropTag tag).useFailed t.use
      | none => d)
  | .lockBeat lock =>
    (match d.bw.locks.find? (fun l => l.id == lock) with
      | some l => (d.parity false { paritySig false with part := l.part }).lockFails l .fail
      | none => d)
  | .ring port =>
    if 22 ≤ port && d.linkUp port then
      (d.parity true { paritySig true with unitType := 5, unit := port }).ringSend 0x42
        (leBytes 4 (if port == 22 then d.pr.rxEast else d.pr.rxWest))
    else d

/-- DATAPATH_PARITY_ERROR (R373). -/
def execDatapathParityError (beat : Beat) (s : State) : Res := ok s (s.dev.parityError beat)

/-! ## Loss of a stack or DDR channel (R395, R396) -/

/-- UNIT_TYPE and UNIT of a memory unit (Table 12.11). -/
def unitCode : MemUnit → Nat × Nat
  | .stack s => (1, s)
  | .ddr c => (2, c)

/-- Whether a home lies on a unit: frames rotate over the 8 stacks and the 16 DDR channels. -/
def unitHas (u : MemUnit) (h : Home) : Bool := frameUnit h == unitCode u

/-- A yes or no that the manual leaves open, drawn. -/
def Dev.toss (d : Dev) : Bool × Dev := (Config.roundUp d.fresh, d.drawn)

/-- Whether a page's lost copy is fetched from the partner: its object is mirrored and the partner is reachable. -/
def Dev.refetchable (d : Dev) (p : Nat) (o : Obj) (k : Nat) : Bool := d.objMirrored p o && d.reachable && !d.dirtyPage k

/-- Every valid block of a page asked for from the partner, into a new frame; the page is lost when none is found. -/
def Dev.refetch (d : Dev) (p : Nat) (o : Obj) (k : Nat) : Dev :=
  let x := d.page k
  let d1 := (d.abortMig k).setPage k { x with home := none, fl := false, ovf := false, st := .resident }
  match d1.firstFrame p o with
  | none => d.losePage k
  | some (h, fl) =>
    let d2 := (d1.tookFrame h.tier h.frame).setPage k { x with home := some h, fl := fl, st := .resident }
    ((List.range 256).filter (fun i => bit x.valid i)).foldl (fun d i =>
      d.repairAsk p (k % 2 ^ 32 * 256 + i)) d2

/-- One page whose frame is lost. -/
def Dev.loseFrameOf (d : Dev) (k : Nat) : Dev :=
  match d.pageObj k with
  | some (_, o) => if d.refetchable (pagePart k) o k then d.refetch (pagePart k) o k else d.losePage k
  | none => d.losePage k

/-- A partition fenced by containment (R308, R384). -/
def Dev.contain (d : Dev) (p : Nat) : Dev := if d.enabled p then (d.fenceAdd p 2).settle else d

/-- The record of a metadata error. -/
def metaSig (resp : Nat) : Sig := { Sig.base 0x0C 1 resp with status := 0x20 }

/-- A page whose map entry, valid vector or logical map entry is lost: NONE with POISON, its partition told (R384). -/
def Dev.losePageEntry (d : Dev) (k : Nat) : Dev :=
  let x := d.page k
  let t := (x.home.map (fun h => h.tier.code)).getD 0
  let p := pagePart k
  ((d.losePage k).sign { metaSig 4 with part := p, offset := k % 2 ^ 32 * 65536 }).post p ⟨0x10, 0x20, 0, t, k % 2 ^ 32 * 65536⟩

/-- The extents, as (partition, extent), through which a line can be reached: its own and those of aliases. -/
def Dev.reachedAs (d : Dev) (k : Nat) : List (Nat × Nat) :=
  let p := k / 2 ^ 42
  let e := k % 2 ^ 42 / 2 ^ 24
  (p, e) :: (match d.objAt p (e * 2 ^ 30) with
    | some (n, o) => (d.mm.objs.filter (fun x => x.2.aliasOf == some (p, n))).map (fun x => (x.1 / 2 ^ 16, x.2.ext + (e - o.ext)))
    | none => [])

/-- A directory entry that is lost: RECALL_INV to every ACTIVE slot that may hold the line (R384). -/
def Dev.loseDirEntry (d : Dev) (k : Nat) : Dev :=
  match d.dirGet k with
  | none => d
  | some e =>
      let slots := (d.slots.filter (fun s => slState s.2 == 1 && (d.reachedAs k).any (fun x => d.granted s.1 x.1 x.2 false))).map (·.1)
      let asked := (d.coh.recalls.filter (fun r => r.line == k)).map (·.slot)
      let owner := if e.st == .o || e.st == .ro then e.vec else ones 2
      let d1 := d.sign { metaSig 0 with part := k / 2 ^ 42, offset := k % 2 ^ 42 * 64 }
      (d1.recallLine k { e with st := .o, vec := owner, window := 0, coarse := false, bad := true }
        (slots.filter (fun s => !asked.contains s)) false).settle

/-- A channel context that is lost (R384). -/
def Dev.loseChanCtx (d : Dev) (k : Nat) : Dev :=
  ((d.sign { metaSig 5 with part := ctxPart k, channel := d.chHandle k }).haltChan k none 0x30 0).settle

/-- A synchronisation object that is lost: freed; the channels of descriptors that wait on it halt (R384). -/
def Dev.loseSync (d : Dev) (k : Nat) : Dev :=
  let p := ctxPart k
  let h := d.syHandle k
  let sp := d.sySp p
  let hit := (d.chs.chans.filter (fun e => e.2.fetched.any (fun x => x.wait && x.ph == .held && x.waitH == h))).map (·.1)
  let d1 := { d.sign { metaSig 5 with part := p } with chs := { d.chs with
      syncs := kdel k d.chs.syncs
      syncSpace := kput p { sp with freed := sp.freed ++ [k % 2 ^ 14] } d.chs.syncSpace } }
  (hit.foldl (fun d c => d.haltChan c none 0x30 0) d1).settle

/-- An item of metadata that falls on the lost unit or not, by a toss. -/
def Dev.tossed (f : Dev → Nat → Dev) (d : Dev) (k : Nat) : Dev :=
  let t := d.toss
  if t.1 then f t.2 k else t.2

/-- The metadata on a lost unit: directory entries on a stack; everything else on a DDR channel. Which items lie there the
manual does not say (log entry 43). -/
def Dev.loseMetadata (d : Dev) (u : MemUnit) : Dev :=
  match u with
  | .stack _ => (d.coh.dir.map (·.1)).foldl (Dev.tossed Dev.loseDirEntry) d
  | .ddr _ =>
    let d1 := ((d.mm.pages.filter (fun e => e.2.home.isSome)).map (·.1)).foldl (Dev.tossed Dev.losePageEntry) d
    let d2 := (d1.chs.chans.map (·.1)).foldl (Dev.tossed Dev.loseChanCtx) d1
    let d3 := (d2.chs.syncs.map (·.1)).foldl (Dev.tossed Dev.loseSync) d2
    ((List.range 64).filter d3.enabled).foldl (Dev.tossed (fun d p => (d.sign { metaSig 6 with part := p }).contain p)) d3

/-- Whether a unit is lost already. -/
def Dev.unitLost (d : Dev) : MemUnit → Bool
  | .stack s => bit d.er.stacksLost s
  | .ddr c => bit d.er.ddrLost c

/-- A unit marked lost. -/
def Dev.markLost (d : Dev) : MemUnit → Dev
  | .stack s => { d with er := { d.er with stacksLost := setBit d.er.stacksLost s } }
  | .ddr c => { d with er := { d.er with ddrLost := setBit d.er.ddrLost c } }

/-- The share of the metadata reserve on a DDR channel that is lost moved to frames of the channels left (R37, R396): as many as the
reserve and its moved shares had on it, and among them as many staging frames. The device chooses a run of frames: the first from a
free start, each next one behind the last (log entry 130). -/
def Dev.moveShare (d : Dev) (c : Nat) : Dev :=
  let on := fun (s : Share) (lo : Nat) =>
    if bit s.lost c then 0
    else
      let w := 16 - popcount 16 s.lost
      let r := c - popcount c s.lost
      let upTo := fun n => (n + w - 1 - r) / w
      upTo s.len - upTo lo
  let len := 65536 + sumBy (fun s => on s 0) d.mm.shares
  let stag := 12288 + sumBy (fun s : Share => on s (s.len - s.stag)) d.mm.shares
  let w := 16 - popcount 16 d.er.ddrLost
  if w == 0 then d
  else
    let start := match d.mm.shares.getLast? with
      | some s => s.start + 16 * ceilDiv s.len (16 - popcount 16 s.lost)
      | none => d.free % (metaReserveBase / 32) * 16
    { d.drawn with mm := { d.mm with shares := d.mm.shares ++ [Share.mk d.er.ddrLost start len stag] } }

/-- A migration whose new frame lies on a lost unit aborted, and counted in MIGRATIONS_ABORTED: Table 02.11 has no row for it
(DESIGN CHOICE, log entry 131). -/
def Dev.abortOnto (u : MemUnit) (d : Dev) (e : Nat × Mig) : Dev :=
  if unitHas u e.2.dst || (match e.2.hop with
      | some f => unitHas u ⟨.t1, f, false⟩
      | none => false) then d.abortMig e.1 else d

/-- A stack or DDR channel declared lost (R395). -/
def Dev.loseUnit (d : Dev) (u : MemUnit) : Dev :=
  if d.unitLost u then d
  else
    let d1 := (d.markLost u).sign { Sig.base 0x0F 2 7 with status := 0x20, unitType := (unitCode u).1, unit := (unitCode u).2 }
    let d2 := d1.mm.migs.foldl (Dev.abortOnto u) d1
    let ks := (d2.mm.pages.filter (fun e => match e.2.home with
      | some h => unitHas u h || (h.tier == .t3 && d2.mm.staged.contains e.1 && unitCode u == (2, stagingChan h.frame))
      | none => false)).map (·.1)
    let d3 := ks.foldl Dev.loseFrameOf d2
    let d4 := match u with
      | .ddr c => (d3.loseMetadata u).moveShare c
      | .stack _ => d3.loseMetadata u
    let count := fun p => countBy (fun k => pagePart k == p && (d4.page k).lost) ks
    let d5 := (List.range 64).foldl (fun d p =>
      if d.enabled p then d.post p ⟨0x13, 0x20, 0, (unitCode u).1 * 256 + (unitCode u).2, count p⟩ else d) d4
    d5.restartShares.afterMoves.settle

/-- REFRESH_FAILURE (R395). -/
def execRefreshFailure (u : MemUnit) (s : State) : Res := ok s (if s.dev.operational then s.dev.loseUnit u else s.dev)

/-! ## Lockstep (R375) -/

/-- The record of a mismatch. -/
def mismatchSig (resp ty unit : Nat) : Sig := { Sig.base 6 1 resp with unitType := ty, unit := unit }

/-- A cluster whose sequencers disagree: out of service, its channel reset, its number handed on, and tested at once. -/
def Dev.cluMismatch (d : Dev) (c : Nat) : Dev :=
  let u := d.clu c
  if u.st == .retired then d
  else
    let d0 := d.sign (d.cluSig c 6 1 5 (d.cluStatus c))
    let d1 := match u.dupOf with
      | some a => d0.modClu a (fun v => { v with window := none })
      | none => d0
    let d2 := d1.endWindow c
    let d3 := match u.chan with
      | some k => d2.haltChan k none 0x30 0
      | none => d2
    let d4 := (d3.modClu c (fun v => { v.cleared with st := .testing, dupOf := none, tookFrom := none })).replaceClu c
    ((d4.keepNumber c).modClu c (fun v => { v with st := .testing, iftDue := false, iftForce := false, inPlace := false })).settle

/-- The key of a memory unit in the list of units that mismatched. -/
def unitKey (u : MemUnit) : Nat := (unitCode u).1 * 256 + (unitCode u).2

/-- A memory controller or codec engine that mismatched: blocks of writes partly applied are poisoned; a second mismatch, when
it falls within 24 h of the first, which the device's draw decides, loses the unit. -/
def Dev.memMismatch (d : Dev) (u : MemUnit) (partly : List (Nat × Nat)) : Dev :=
  let d1 := d.sign { mismatchSig 3 (unitCode u).1 (unitCode u).2 with status := if partly.isEmpty then 0 else 0x20 }
  let d2 := partly.foldl (fun d x => if d.blkValid x.1 x.2 then d.poisonBlks x.1 [x.2] else d) d1
  let t := d2.toss
  if d2.er.suspects.contains (unitKey u) && t.1 then t.2.loseUnit u
  else { t.2 with er := { t.2.er with suspects := if t.2.er.suspects.contains (unitKey u) then t.2.er.suspects else t.2.er.suspects ++ [unitKey u] } }

/-- What a mismatch of each unit does (Table 12.3). -/
def Dev.mismatch (d : Dev) : LockUnit → Dev
  | .cluster c => d.cluMismatch c
  | .memory u partly => d.memMismatch u partly
  | .control => d.sign (mismatchSig 3 7 (ones 1))
  | .placement part obj =>
    let d1 := d.sign (mismatchSig 3 8 (ones 1))
    if (d.obj part obj).isSome then d1.placeStopped part obj else d1
  | .flash bay returns =>
    let d1 := d.sign (mismatchSig 3 8 bay)
    if returns || !(d.bay bay).powered then d1 else d1.loseCartridge bay

/-- LOCKSTEP_MISMATCH (R375). -/
def execLockstepMismatch (u : LockUnit) (s : State) : Res :=
  ok s (if s.dev.operational then (s.dev.inc K.seqMismatches).mismatch u else s.dev)

/-- LARKSPUR_WATCHDOG_EXPIRY (R376, R441): Larkspur restarts, its sessions end, the crosspoint closes. -/
def execLarkspurWatchdogExpiry (s : State) : Res :=
  ok s (let d := s.dev
    if !d.su.standby then d
    else ({ d with mg := { d.mg with sessions := [], restarting := true, spdm := 0 } }).updBypass)

/-- LARKSPUR_RESTART_DONE (R376): management is served again, the crosspoint may open. -/
def execLarkspurRestartDone (s : State) : Res :=
  ok s (if s.dev.mg.restarting then ({ s.dev with mg := { s.dev.mg with restarting := false } }).updBypass else s.dev)

/-! ## Patrol scrub (R385) -/

/-- The read of a stored block charged (R385, R386): its stored sectors, in flash its codeword; to Q15, or to Q0 while the pass is behind
its schedule, which is a matter of time and drawn (log entry 11). -/
def Dev.scrubCharge (d : Dev) (p blk : Nat) : Dev :=
  let k := pageKey p (blk / 256)
  let t := d.medium k
  let late := d.toss
  late.2.chargeTier t false (if late.1 then 0 else 15) (if t == .t3 then 4096 else 32 * (d.meta (blkKey p blk)).sectors)

/-- A stored block read by scrub. Invalid and poisoned blocks are not read; an uncorrectable one that the partner cannot
repair is reported to its partition (R382). -/
def Dev.scrubBlock (d : Dev) (p blk : Nat) (med : Med) : Dev :=
  if !d.blkValid p blk || d.blkPoison p blk || (d.page (pageKey p (blk / 256))).home.any (fun h => h.tier == .th) then d
  else
    let d1 := (d.scrubCharge p blk).medRead p blk med
    let t := ((d.page (pageKey p (blk / 256))).home.map (fun h => h.tier.code)).getD 0
    if d1.blkPoison p blk then d1.post p ⟨0x10, 0x20, 0, t, ((d.errorBlks p blk).head?.getD blk) * 256⟩
    else d1

/-- The place of an item of device metadata among the corrected words: no frame is known for it, so its item stands for one,
above every frame number. -/
def scrubPlace : ScrubT → Nat
  | .block _ _ => 0
  | .pageEntry p pg => 2 ^ 64 + pageKey p pg * 8
  | .objTable p => 2 ^ 64 + p * 8 + 1
  | .dirEntry p line => 2 ^ 64 + lineKey p line * 8 + 2
  | .chanCtx h => 2 ^ 64 + h * 8 + 3
  | .syncCtx h => 2 ^ 64 + h * 8 + 4
  | .dataKey p => 2 ^ 64 + p * 8 + 5

/-- An error of a word of device metadata: a correction is counted and recorded. -/
def Dev.scrubMeta (d : Dev) (t p : Nat) (x : ScrubT) (med : Med) (lost : Dev → Dev) : Dev :=
  match (if t == 1 then d.dramMed med else med) with
  | .good => d
  | .corrected word dram =>
    let d1 := { d with er := { d.er with ce := kput t (kget 0 t d.er.ce + 1) d.er.ce } }
    let d2 := (d1.sign { Sig.base 0x01 0 1 with part := p, tier := t }).dramRow { Sig.base 0x04 0 8 with part := p, tier := t }
      (if t == 1 then dram else none)
    let (d3, hard) := d2.noteWord t (scrubPlace x) word
    if hard then (d3.inc K.hardWords).sign { Sig.base 0x03 0 8 with part := p, tier := t } else d3
  | .uncorrectable => lost { d with er := { d.er with ue := kput t (kget 0 t d.er.ue + 1) d.er.ue } }

/-- One read of patrol scrub (Table 12.6). -/
def Dev.scrub (d : Dev) (t : ScrubT) (med : Med) : Dev :=
  match t with
  | .block p blk => (d.scrubBlock p blk med).settle
  | .pageEntry p pg =>
    if (d.page (pageKey p pg)).home.isSome then d.scrubMeta 1 p t med (fun d => (d.losePageEntry (pageKey p pg)).settle) else d
  | .objTable p => if d.enabled p then d.scrubMeta 1 p t med (fun d => (d.sign { metaSig 6 with part := p }).contain p) else d
  | .dirEntry p line =>
    if (d.dirGet (lineKey p line)).isSome then d.scrubMeta 0 p t med (fun d => d.loseDirEntry (lineKey p line)) else d
  | .chanCtx h =>
    (match d.chanOf (hPart h) h with
      | some k => d.scrubMeta 1 (hPart h) t med (fun d => d.loseChanCtx k)
      | none => d)
  | .syncCtx h =>
    (match d.syncOf (hPart h) h with
      | some k => d.scrubMeta 1 (hPart h) t med (fun d => d.loseSync k)
      | none => d)
  | .dataKey p => if d.enabled p then d.scrubMeta 1 p t med (fun d => (d.sign { metaSig 6 with part := p }).contain p) else d

/-- SCRUB_READ (R385). -/
def execScrubRead (t : ScrubT) (med : Med) (s : State) : Res :=
  ok s (if s.dev.operational && s.dev.flag K.scrubEnable then s.dev.scrub t med else s.dev)

/-! ## Retirement lists (R379, R387, R388) -/

/-- The frames of a tier, by the TIER code of an entry (Table 02.16). -/
def tierFrames : Nat → Nat
  | 0 => 12582912
  | 1 => 67108864
  | _ => 1610612736

/-- Whether two entries name the same frame. -/
def sameFrame (a b : Nat) : Bool := fld a 62 2 == fld b 62 2 && fld a 0 52 == fld b 0 52

/-- DEADHEAD_RESULT of an entry (R388). -/
def Dev.deadheadResult (d : Dev) (e : Nat) : Nat :=
  let t := fld e 62 2
  if t == 3 || fld e 52 10 != 0 then 4
  else if tierFrames t ≤ fld e 0 52 then 2
  else if d.er.deadhead.any (sameFrame e) then 1
  else if t == 1 && 65536 ≤ countBy (fun x => fld x 62 2 == 1) d.er.deadhead then 3
  else if 131072 ≤ d.er.deadhead.length then 5
  else 0

/-- A frame put on the Deadhead list: withheld, its page set moving, the entry done once no page holds it. -/
def Dev.deadheadPut (d : Dev) (e : Nat) : Dev :=
  let d1 := { d with
    er := { d.er with deadhead := d.er.deadhead ++ [e] }
    mm := { d.mm with deadhead := d.mm.deadhead ++ [frameKey (tierOf (fld e 62 2)) (fld e 0 52)] } }
  d1.restartRetires.finishDeadhead

/-- The effect of a write of DEADHEAD_ADD. -/
def Dev.wDeadheadAdd (d : Dev) (e : Nat) : Dev × Nat :=
  let r := d.deadheadResult e
  let d1 := d.wr K.deadheadResult r
  if r == 0 then (d1.deadheadPut e, 0) else (d1, if r == 1 then 0 else 0x08)

/-- DEADHEAD_ADD (R388). -/
def execDeadheadAdd (role : Role) (entry : Nat) (s : State) : Res :=
  ok s (s.dev.entryWrite role 0x2010 0x01 8 entry (fun d => d.wDeadheadAdd entry))

/-- The effect of a write of RECOMMEND_DISMISS. -/
def Dev.wRecommendDismiss (d : Dev) (e : Nat) : Dev × Nat :=
  ({ d with er := { d.er with recommend := d.er.recommend.filter (fun x => !sameFrame e x) } }, 0)

/-- RECOMMEND_DISMISS (R379). -/
def execRecommendDismiss (role : Role) (entry : Nat) (s : State) : Res :=
  ok s (s.dev.entryWrite role 0x2011 0x04 8 entry (fun d => d.wRecommendDismiss entry))

end Sys2Proof.Machine
end

