-- ==== Sys2Proof/Machine/Pair.lean ====
section
/-! DEFINITION. The mirrored pair (R402 to R425): its settings, the ring frames, heartbeats, the lease, the application of the
partner's log, takeover, resynchronisation, handover and the log format. -/

namespace Sys2Proof.Machine

/-! ## States and events -/

/-- The partitions of the module that have a pair role (R424). -/
def Dev.pairParts (d : Dev) : List Nat := (List.range 64).filter (fun p => d.pairRole p != 0)

/-- An event to every PRIMARY or SECONDARY partition (R424). -/
def Dev.pairPost (d : Dev) (e : Ev) : Dev := d.pairParts.foldl (fun d p => d.post p e) d

/-- A change of PAIR_STATE, with its notification (Table 14.8). -/
def Dev.pairTo (d : Dev) (st : PairSt) : Dev :=
  if d.pr.st == st then d
  else ({ d with pr := { d.pr with st := st } }).notify 4 0x2100 4 st.code

/-- The events of Table 13.9 that carry PAIR_STATE and PARTNER_ID. -/
def Dev.pairEvent (d : Dev) (typ : Nat) : Dev := d.pairPost ⟨typ, 0, 0, d.pr.st.code, d.rd K.partnerId⟩

/-! ## Dirty pages -/

/-- The runs of pages of every mirrored object of a PRIMARY partition. -/
def Dev.mirroredRuns (d : Dev) : List (Nat × Nat) :=
  d.mm.objs.filterMap (fun e =>
    let p := e.1 / 2 ^ 16
    if d.pairRole p == 1 && e.2.ordinary && d.objMirrored p e.2 then some (pageKey p (e.2.ext * 16384), e.2.n * 16384) else none)

/-- Every mirrored page dirty (R407, R419, R420). -/
def Dev.allDirty (d : Dev) : Dev := { d with pr := { d.pr with dirty := d.mirroredRuns, copied := 0 } }

/-- A pair that has yet to form: every mirrored page is to be copied (R407, R420). -/
def Dev.unformed (d : Dev) : Dev := { d.allDirty with pr := { d.allDirty.pr with joined := false } }

/-- The pages that a log record changes. -/
def recPages (r : LogRec) : List Nat :=
  match r.body with
  | .block b _ _ => [pageKey r.part (b / 256)]
  | .line off _ _ => [pageKey r.part (off / 65536)]
  | .poison pg _ => [pageKey r.part pg]
  | .discard first count =>
    if count == 0 then [] else (List.range ((first + count - 1) / 256 + 1 - first / 256)).map (fun i => pageKey r.part (first / 256 + i))
  | _ => []

/-- The pages of the unacknowledged records dirty. -/
def Dev.unackedDirty (d : Dev) : Dev := (d.unacked.flatMap (fun x => x.recs.flatMap recPages)).foldl Dev.markDirty d

/-! ## Held writes and commands -/

/-- A held write that completes: answered, or failed with PARTITION_FENCED (R408, R418). -/
def Dev.endHold (ok : Bool) (d : Dev) (h : MirHold) : Dev :=
  let d1 := match h.answer with
    | some r => if ok then d.answerWrite r 0 else d.refuse r 0x32 true
    | none => d
  let d2 := match h.chan with
    | some (k, _) => if ok then d1 else d1.haltChan k none 0x32 0
    | none => d1
  match h.adm with
  | some a => if ok then d2.adminOk a 0 else d2.adminFenced a
  | none => d2

/-- The held writes whose frames satisfy a test completed. -/
def Dev.endHolds (d : Dev) (ok : Bool) (p : Nat → Bool) : Dev :=
  (d.pr.holds.filter (fun h => p h.seq)).foldl (Dev.endHold ok)
    { d with pr := { d.pr with holds := d.pr.holds.filter (fun h => !p h.seq) } }

/-- A command that waited for the partner carried out: its checks apply to the state as it is now (R411). -/
def Dev.runCmd (d : Dev) (c : MirCmd) : Dev := d.admTry c.h (d.cmdCheck c.h.fn.num c.cmd) (fun d => d.cmdDo c.h c.h.fn.num c.cmd)

/-- The commands whose frames satisfy a test ended by `f`. -/
def Dev.endCmds (d : Dev) (p : Nat → Bool) (f : Dev → MirCmd → Dev) : Dev :=
  (d.pr.cmds.filter (fun c => p c.seq)).foldl f { d with pr := { d.pr with cmds := d.pr.cmds.filter (fun c => !p c.seq) } }

/-- The unacknowledged LOG frames given up. -/
def Dev.dropLog (d : Dev) : Dev := { d with pr := { d.pr with tx := d.pr.tx.filter (fun x => !x.isLog) } }

/-- What waits for the partner goes on without it: held writes are acknowledged, their pages dirty, commands run (R418). -/
def Dev.goAlone (d : Dev) : Dev :=
  ((d.unackedDirty.dropLog).endHolds true (fun _ => true)).endCmds (fun _ => true) Dev.runCmd

/-- Whether a held request is a write held for the lost partner. -/
def heldWrite (x : Held) : Bool := x.why == .mirror && !x.r.kind.reads

/-- The page of a held write dirty. -/
def Dev.heldDirty (d : Dev) (x : Held) : Dev :=
  match d.reqPart x.r with
  | some p => (match d.resolve p x.r.q.off with
    | some t => d.markDirty (pageKey t.part (t.off / 65536))
    | none => d)
  | none => d

/-- Whether what waits for the partner is a write: of a requester or of a channel. -/
def MirHold.isWrite (h : MirHold) : Bool := h.answer.isSome || h.chan.isSome

/-- Every held write fails with PARTITION_FENCED, its pages dirty (R418); how many they are. -/
def Dev.failHeld (d : Dev) : Dev × Nat :=
  let ws := d.mm.held.filter heldWrite
  let n := ws.length + countBy MirHold.isWrite d.pr.holds
  let d1 := ws.foldl (fun d x => (d.heldDirty x).refuse x.r 0x32 true)
    ((d.unackedDirty.dropLog).endHolds false (fun _ => true))
  (({ d1 with mm := { d1.mm with held := d1.mm.held.filter (fun x => !heldWrite x) } }).endCmds (fun _ => true)
    (fun d c => d.adminFenced c.h), n)

/-! ## Settings (R402, R404, R405) -/

/-- The effect of a write of MODULE_ID or PARTNER_ID: only while PAIR_ENABLE is 0 (R425). -/
def Dev.wModuleId (d : Dev) (partner : Bool) (v : Nat) : Dev × Nat :=
  if 2 ^ 20 ≤ v then d.outOfRange
  else d.unless (d.flag K.pairEnable) (fun d => d.wr (if partner then K.partnerId else K.moduleId) v)

/-- MODULE_ID (R402). -/
def execModuleId (role : Role) (partner : Bool) (v : Nat) (s : State) : Res :=
  ok s (s.dev.scalarWrite role 0x2100 (if partner then 2 else 1) v (fun d => d.wModuleId partner v))

/-- The effect of a write of PAIR_ROLE or PARTNER_PARTITION: only while PAIR_ENABLE is 0 or PAIR_STATE is FENCED (R404). -/
def Dev.wPairRole (d : Dev) (p : Nat) (partner : Bool) (v : Nat) : Dev × Nat :=
  if (if partner then 64 ≤ v && v != 0xFF else 2 < v) then d.outOfRange
  else d.unless (d.flag K.pairEnable && d.pr.st != .fenced) (fun d =>
    (d.wr ((if partner then K.partnerPartition else K.pairRole) + p) v).settle)

/-- PAIR_ROLE (R404). -/
def execPairRole (role : Role) (part : Nat) (partner : Bool) (v : Nat) (s : State) : Res :=
  ok s (s.dev.scalarWrite role (if partner then 0x2102 else 0x2101) (part + 1) v (fun d => d.wPairRole part partner v))

/-- The effect of a write of a mirror range entry: only while PAIR_ENABLE is 0, in the ranges of Table 13.1 (R405); its reserved bits are
not kept (R12). -/
def Dev.wMirrorRange (d : Dev) (i v : Nat) : Dev × Nat :=
  if 262144 < fld v 96 32 || 262143 < fld v 64 32 then d.outOfRange
  else d.unless (d.flag K.pairEnable) (fun d => d.wr (K.mirrorRange + i / 128 * 256 + i % 128) (v / 2 ^ 58 * 2 ^ 58))

/-- MIRROR_RANGE (R405). -/
def execMirrorRange (role : Role) (i v : Nat) (s : State) : Res :=
  ok s (s.dev.entryWrite role (0x2103 + i / 128) (i % 128 + 1) 16 v (fun d => d.wMirrorRange i v))

/-! ## PAIR_ENABLE (R407) -/

/-- A pair that forms: FENCED without a lease (R416), every mirrored page to be copied. -/
def Dev.pairStart (d : Dev) : Dev :=
  ((d.wr K.pairEnable 1).wr K.logFormat 1).unformed.pairTo (if d.pr.lease then .forming else .fenced)

/-- A pair that ends: what waits for the partner goes on without it. -/
def Dev.pairStop (d : Dev) : Dev :=
  let d1 := (((d.wr K.pairEnable 0).wr K.logFormat 0).wr K.configMismatch 0).goAlone
  (({ d1 with pr := { d1.pr with joined := false, dirty := [], copied := 0, handing := none, switching := false, chans := [], dirs := [],
                                 grants := [], slots := [] } }).pairTo .unpaired).settle

/-- The effect of a write of PAIR_ENABLE: 1 is refused while MODULE_ID or PAIR_KEY_STATE is 0 (R402, R472). -/
def Dev.wPairEnable (d : Dev) (v : Nat) : Dev × Nat :=
  if v == 1 then
    d.unless (d.rd K.moduleId == 0 || d.rd K.pairKeyState == 0) (fun d => if d.flag K.pairEnable then d else d.pairStart)
  else (if d.flag K.pairEnable then d.pairStop else d, 0)

/-- PAIR_ENABLE (R407). -/
def execPairEnable (role : Role) (v : Nat) (s : State) : Res :=
  ok s (s.dev.scalarWrite role 0x2100 3 v (fun d => d.wPairEnable v))

/-! ## Taking over the state that the log brought (steps K3 to K5 of Table 13.7) -/

/-- A logged host slot installed where this module's slot of that number is FREE (log entry 45). -/
def Dev.installSlot (q : Nat) (d : Dev) (e : Nat × Nat) : Dev :=
  if slState (d.slot e.1) == 0 then d.wr (slotKey e.1) (setFld e.2 102 6 q) else d

/-- Whether a slot stands for a host of a partition. -/
def Dev.slotOf (d : Dev) (q i : Nat) : Bool := slState (d.slot i) == 1 && slPartition (d.slot i) == q

/-- A logged directory entry installed; a line in RS or RO, or owned by a slot that is not installed, is orphaned (K3). -/
def Dev.installDir (q : Nat) (d : Dev) (e : Nat × DirE) : Dev :=
  let x := { e.2 with ord := d.coh.ord }
  let d1 := d.nextOrd.dirPut e.1 x
  match x.st with
  | .rs => d1.orphan e.1 { x with vec := 0 }
  | .ro => d1.orphan e.1 x
  | .o => if d.slotOf q x.vec then d1 else d1.orphan e.1 x
  | _ => d1

/-- The index space of a partition with one index in use at a generation: it leaves the free list, whose order is kept. -/
def IdxSpace.claim (s : IdxSpace) (i gen : Nat) : IdxSpace :=
  { s with
    skip := if s.fresh ≤ i then s.skip ++ [i] else s.skip
    freed := s.freed.filter (· != i)
    gens := kput i gen s.gens }

/-- The descriptor that stands for a TAG fetched by the partner and not completed. -/
def lostDsc (seq tag : Nat) : Dsc where
  seq := seq
  op := 0
  flags := 0
  tag := tag
  waitH := 0
  waitV := 0
  sigH := 0
  deadline := 0
  sigAdd := 0
  args := []
  cls := 0
  policy := 0
  ph := .done
  status := 0x30
  detail := 0
  result := 0
  failed := 0
  overrun := false
  fallback := 0
  late := false
  missed := false
  step := 0
  passed := []
  dones := []

/-- A mirrored channel instantiated under its own handle in state HALTED, every number of its pipeline vacant; the
descriptors fetched and not completed complete with CHANNEL_RESET (K4). Numbers from 256 on stand for vacant ones. -/
def Dev.installChan (q : Nat) (d : Dev) (e : Nat × ChanCtx) : Dev :=
  let x := e.2
  let k := ctxKey q x.idx
  if (d.chan k).isSome then d
  else
    let counts := if x.a.recipe == 0 then [] else allot (d.clusterCount x.a.recipe x.a.clusters) (d.stageDefaults x.a.recipe)
    let stages := counts.map (fun n => (List.range n).map (256 + ·))
    let c := { newChan x.a x.port stages with
      st := .halted, sqHead := x.sqHead, sqTail := x.sqHead, cqTail := x.cqTail, cqHead := x.cqHead, phase := x.phase,
      lastHalt := 0x30, nextSeq := x.tags.length }
    let d1 := { d with chs := { d.chs with
        chSpace := kput q ((d.chSp q).claim x.idx x.gen) d.chs.chSpace
        chans := kput k c d.chs.chans } }
    (x.tags.zipIdx.foldl (fun d t => d.completeDsc k (lostDsc t.2 t.1)) d1).cqPump k

/-- Steps K3 to K5, but for TAKEOVERS, for a partition that becomes PRIMARY; `former` is the partition of the lost module. -/
def Dev.installPart (q former : Nat) (d : Dev) : Dev :=
  let mine := fun (e : Nat × DirE) => e.1 / 2 ^ 42 == q
  let d1 := (d.pr.slots.filter (fun e => slPartition e.2 == former)).foldl (Dev.installSlot q) d
  let gs := d.pr.grants.filter (fun g => g.part == q && g.drain.isNone && d1.slotOf q g.slot)
  let d2 := { d1 with coh := { d1.coh with grants := d1.coh.grants ++ gs } }
  let d3 := (d.pr.dirs.filter mine).foldl (Dev.installDir q) d2
  let cs := d.pr.chans.filter (fun e => ctxPart e.1 == q)
  let d4 := cs.foldl (Dev.installChan q) d3
  let made := countBy (fun (e : Nat × ChanCtx) => (d3.chan (ctxKey q e.2.idx)).isNone) cs
  let d5 := { d4 with pr := { d4.pr with
      slots := d4.pr.slots.filter (fun e => slPartition e.2 != former)
      grants := d4.pr.grants.filter (fun g => g.part != q)
      dirs := d4.pr.dirs.filter (fun e => !mine e)
      chans := d4.pr.chans.filter (fun e => ctxPart e.1 != q) } }
  d5.post q ⟨0x23, 0, 0, former, made⟩

/-- A takeover (Table 13.7): every SECONDARY partition whose partner lies on the lost module. The logged records were applied
as they came, so K1 leaves nothing to do. TAKEOVERS counts the takeover once (K5; log entry 153). -/
def Dev.takeover (d : Dev) : Dev :=
  let qs := (List.range 64).filter (fun q => d.pairRole q == 2)
  let d1 := qs.foldl (fun d q => d.wr (K.pairRole + q) 1) d
  let runs := d1.mirroredRuns.filter (fun r => qs.contains (pagePart r.1))
  let d2 := { d1 with pr := { d1.pr with dirty := d1.pr.dirty ++ runs } }
  (qs.foldl (fun d q => Dev.installPart q (d.partnerPart q) d) d2).inc K.pairTakeovers

/-! ## Heartbeats: digest and formats (R407, R422) -/

/-- The configuration digest (R407). -/
def Dev.digest (d : Dev) : Nat :=
  Config.digest ([d.rd K.moduleId, d.rd K.partnerId] ++ (List.range 64).map (fun p => d.rd (K.pairRole + p)) ++
    (List.range 64).map (fun p => d.rd (K.partnerPartition + p)) ++
    (List.range 256).map (fun i => d.rd (K.mirrorRange + i / 128 * 256 + i % 128)))

/-- The commit of this module's image (R422, R423). -/
def Dev.commit (d : Dev) : Nat := d.rd K.mirrorFormatCommit

/-- The log format that both modules take (R422). -/
def Dev.pairFormat (d : Dev) (hb : HbBody) : Nat := if d.commit == 2 && hb.commit == 2 && bit hb.formats 1 then 2 else 1

/-- Whether the formats of the pair meet (R422). -/
def Dev.formatsMeet (d : Dev) (hb : HbBody) : Bool :=
  if bit hb.formats 1 then d.pairFormat hb == 2 || bit hb.formats 0 else d.commit != 2 && bit hb.formats 0

/-- CONFIG_MISMATCH against a heartbeat (R407). -/
def Dev.pairMismatch (d : Dev) (hb : HbBody) : Bool := hb.digest != d.digest || !d.formatsMeet hb

/-! ## The lease (R414 to R417) -/

/-- The state that a renewal gives a FENCED module (R416): with the partner in reach MIRRORED, or the way to a rejoin when the pair has not
formed yet, the configurations differ or pages are dirty on either side. -/
def Dev.unfence (d : Dev) : Dev :=
  if !d.reachable then d.pairTo (if d.pr.solo then .solo else .partnerLost)
  else
    let clean := d.pr.joined && d.pr.dirty.isEmpty && (match d.pr.hb with
      | some hb => (hb.state == 3 || hb.state == 4 || hb.state == 6) && !d.pairMismatch hb
      | none => false)
    d.pairTo (if clean then .mirrored else .forming)

/-- What a renewal does to the state of the pair (Table 13.6). -/
def Dev.leaseState (d : Dev) : Dev :=
  match d.pr.st with
  | .fenced => d.unfence
  | .partnerLost => if d.pr.solo then d.goAlone.pairTo .solo else d
  | .solo => if d.pr.solo || d.reachable then d else d.pairTo .partnerLost
  | _ => d

/-- The effect of a write of LEASE_RENEW: EPOCH in bytes 0 to 3, FLAGS in byte 4 (R414, R417). -/
def Dev.wLeaseRenew (d : Dev) (v : Nat) : Dev × Nat :=
  let epoch := fld v 0 32
  d.unless (epoch ≤ d.rd K.leaseEpoch) (fun d =>
    let d1 := ({ d with pr := { d.pr with lease := true, solo := bit v 32 } }).wr K.leaseEpoch epoch
    if !bit v 33 then d1.leaseState.settle
    else if d1.reachable then ((d1.inc K.takeoverRefused).leaseState).settle
    else if d1.pr.st == .unpaired then d1
    else d1.takeover.leaseState.settle)

/-- LEASE_RENEW (R414). -/
def execLeaseRenew (role : Role) (v : Nat) (s : State) : Res :=
  ok s (s.dev.entryWrite role 0x2100 9 8 v (fun d => d.wLeaseRenew v))

/-- A pair without a lease: held writes fail where the partner is lost, the mirrored objects are fenced (R416, R418). -/
def Dev.pairFence (d : Dev) : Dev :=
  let r := if d.pr.st == .partnerLost || d.pr.st == .solo then d.failHeld else (d, 0)
  ((r.1.pairTo .fenced).pairPost ⟨0x22, 0x32, 0, 0, r.2⟩).settle

/-- LEASE_EXPIRY (R418). -/
def execLeaseExpiry (s : State) : Res :=
  ok s (let d := s.dev
    if !d.pr.lease then d
    else
      let d1 := { d with pr := { d.pr with lease := false, solo := false } }
      if d1.pr.st == .unpaired || d1.pr.st == .fenced then d1 else d1.pairFence)

/-! ## Ring frames (R403, R412, R413) -/

/-- A module heard on the ring. -/
def Dev.hear (d : Dev) (src : Nat) : Dev :=
  if src == 0 || d.pr.heard.contains src then d
  else ({ d with pr := { d.pr with heard := d.pr.heard ++ [src] } }).wr K.ringModules (d.pr.heard.length + 1)

/-- Whether a module identity is this module's own. -/
def Dev.isMe (d : Dev) (id : Nat) : Bool := id != 0 && id == d.rd K.moduleId

/-- A frame sent on out of the other ring port unchanged; one that comes back to its sender is dropped (R403). A link without
the feature takes none (R329). -/
def Dev.forward (d : Dev) (port : Nat) (f : RingHdr) : Dev :=
  let out := 45 - port
  if d.isMe f.src || !d.linkUp out || !bit (d.port out).feats 11 then d
  else (d.inc K.forwardedFrames).emit (.forward out f)

/-- The SEQ expected next on a ring port. -/
def Dev.rxNext (d : Dev) (port : Nat) : Nat := if port == 22 then d.pr.rxEast else d.pr.rxWest

/-- A SEQ taken. -/
def Dev.rxTake (d : Dev) (port : Nat) : Dev :=
  if port == 22 then { d with pr := { d.pr with rxEast := (d.pr.rxEast + 1) % 2 ^ 32 } }
  else { d with pr := { d.pr with rxWest := (d.pr.rxWest + 1) % 2 ^ 32 } }

/-- Whether a frame passes its checks: those of R413, and for a coded frame the tokens of its payload (R108). -/
def ringPasses (f : RingHdr) : Bool :=
  f.good && (match f.coded with
    | some (len, bs) => (linkDecode len bs).isSome
    | none => true)

/-- A ring frame that arrives: forwarded when it is for another module; discarded when its feature is not negotiated or it
does not come from the partner; answered with NACK when a check fails; else its SEQ is taken and it is run. -/
def Dev.ringIn (d : Dev) (port : Nat) (f : RingHdr) (run : Dev → Dev) : Dev :=
  if !(port == 22 || port == 23) || !d.linkUp port then d
  else
    let d1 := if ringPasses f then d.hear f.src else d
    if !d.isMe f.dst then d1.forward port f
    else if !bit (d.port port).feats 8 then d1.inc K.ublMalformed
    else if f.src != d.rd K.partnerId then d1
    else if !ringPasses f || f.seq != d.rxNext port then d1.ringSend 0x42 (leBytes 4 (d.rxNext port))
    else run (d1.rxTake port)

/-- RING_FRAME_FORWARD (R403); a frame for this module itself that no other row carries has an OPCODE not used, and is
counted (Table 13.4). -/
def execRingFrameForward (port : Nat) (f : RingHdr) (s : State) : Res :=
  ok s (let d := s.dev
    if !(port == 22 || port == 23) || !d.linkUp port then d
    else
      let d1 := if ringPasses f then d.hear f.src else d
      if d.isMe f.dst then d1.inc K.ublMalformed else d1.forward port f)

/-- Whether a number is at or before another in the 32-bit order of SEQ. -/
def seqLe (a b : Nat) : Bool := (b + 2 ^ 32 - a) % 2 ^ 32 < 2 ^ 31

/-- The frames of a port from a SEQ on sent again (R413). -/
def Dev.resend (d : Dev) (port : Nat) (p : TxFrame → Bool) : Dev :=
  (d.pr.tx.filter (fun x => x.port == port && p x)).foldl (fun d x =>
    (d.inc K.ringRetries).emit (.ring x.port x.op (d.rd K.partnerId) (d.rd K.moduleId) x.seq x.recs x.payload x.raw)) d

/-- NACK (R413). -/
def execNack (port : Nat) (f : RingHdr) (seq : Nat) (s : State) : Res :=
  ok s (s.dev.ringIn port f (fun d => d.resend d.partnerPort (fun x => seqLe seq x.seq)))

/-- The log kept on the direction that leads to the partner (R403). -/
def Dev.fixWay (d : Dev) : Dev := if d.unacked.any (fun x => x.port != d.partnerPort) then d.relog else d

/-- RUNNING_VERSION (R474): VERSION of the image of this start. -/
def Dev.runningVersion (d : Dev) : Nat := (if d.su.runSlot == 0 then d.su.slotA else d.su.slotB).version

/-- HEARTBEAT_TIMER (R403, R413): one direction falls silent after RING_DEAD_MS while the other still delivers (both is
PARTNER_SILENT); then a HEARTBEAT on each ring port. -/
def Dev.heartbeatTick (d : Dev) : Dev :=
  let ae := d.pr.ageEast + 1
  let aw := d.pr.ageWest + 1
  let dead := d.rd K.ringDeadMs
  let e := d.pr.seenEast && !(d.pr.seenWest && dead ≤ ae && aw < dead)
  let w := d.pr.seenWest && !(d.pr.seenEast && dead ≤ aw && ae < dead)
  let d1 := ({ d with pr := { d.pr with ageEast := ae, ageWest := aw, seenEast := e, seenWest := w } }).fixWay
  let body := leBytes 4 (d.rd K.moduleId) ++ leBytes 1 d.pr.st.code ++ leBytes 1 3 ++ leBytes 1 d.commit ++
    leBytes 1 (b2n d.pr.lease) ++ leBytes 4 d.runningVersion ++ leBytes 8 d.digest ++ zeros 12
  [22, 23].foldl (fun d p => if d.linkUp p && bit (d.port p).feats 8 then d.ringOut p 0x43 0 [] body else d) d1

/-- HEARTBEAT_TIMER (R413). -/
def execHeartbeatTimer (s : State) : Res := ok s s.dev.heartbeatTick

/-- PARTNER_SILENT (R418): what is held on entry is counted. -/
def execPartnerSilent (s : State) : Res :=
  ok s (let d := { s.dev with pr := { s.dev.pr with seenEast := false, seenWest := false } }
    if d.pr.st == .mirrored || d.pr.st == .syncing then
      (((d.add K.heldWrites (countBy MirHold.isWrite d.pr.holds)).pairTo
        .partnerLost).pairEvent 0x20).settle
    else d)

/-- A heartbeat noted: its direction delivers, and what it says. -/
def Dev.noteHb (d : Dev) (port : Nat) (hb : HbBody) : Dev :=
  let pr := { d.pr with hb := some hb }
  let d1 := { d with pr := if port == 22 then { pr with seenEast := true, ageEast := 0 } else { pr with seenWest := true, ageWest := 0 } }
  (if d.pr.st == .unpaired then d1 else d1.wr K.configMismatch (b2n (d1.pairMismatch hb))).fixWay

/-- The data keys of the PRIMARY partitions sent when the copies begin to be made, so that ciphertext copies agree (R470;
DEDUCED, log entry 149). -/
def Dev.sendKeys (d : Dev) : Dev := d.su.keys.foldl (fun d e => d.logState e.1 (.key e.2)) d

/-- A rejoin begun, once the partner is reachable, both hold leases and the digests agree (R420). -/
def Dev.join (d : Dev) (hb : HbBody) : Dev :=
  if d.pr.lease && hb.lease && hb.state != 0 && !d.pairMismatch hb then
    ((({ d with pr := { d.pr with joined := true, copied := 0 } }).wr K.logFormat (d.pairFormat hb)).pairTo .syncing).sendKeys
  else d

/-- A partner that has started afresh holds no data (R420): every mirrored page is dirty, and the pair forms again. -/
def Dev.partnerFresh (d : Dev) : Dev := (d.goAlone.unformed).pairTo .forming

/-- The commit that the partner's heartbeat carries taken over while the pair is MIRRORED (R423); the format then changes at
the next LOG_ACK. -/
def Dev.takeCommit (d : Dev) (hb : HbBody) : Dev :=
  if hb.commit == 2 && d.rd K.logFormat == 1 then
    { d.wr K.mirrorFormatCommit 2 with pr := { d.pr with switching := true } }
  else d

/-- What a heartbeat does in the state of the pair (Table 13.6, R420, R423). -/
def Dev.hbState (d : Dev) (hb : HbBody) : Dev :=
  match d.pr.st with
  | .unpaired => d
  | .fenced => if hb.state == 0 then d.unformed else d
  | .forming => d.join hb
  | .solo => if hb.state == 0 then d.unformed else d.join hb
  | .partnerLost =>
    if hb.state == 0 then d.partnerFresh
    else
      let d1 := d.resend d.partnerPort TxFrame.isLog
      if d.pr.dirty.isEmpty then (d1.pairTo .mirrored).pairEvent 0x21 else (d1.pairTo .forming).join hb
  | .syncing => if hb.state == 0 then d.partnerFresh else d
  | .mirrored => if hb.state == 0 then d.partnerFresh else d.takeCommit hb

/-- HEARTBEAT (R412). -/
def execHeartbeat (port : Nat) (f : RingHdr) (hb : HbBody) (s : State) : Res :=
  ok s (s.dev.ringIn port f (fun d => ((d.noteHb port hb).hbState hb).settle))

/-! ## The log at the secondary (R410, R411) -/

/-- This module's partition whose partner is a partition of the other module, in a role. -/
def Dev.partFor (d : Dev) (role part : Nat) : Option Nat :=
  (List.range 64).find? (fun q => d.pairRole q == role && d.partnerPart q == part)

/-- The outcome of applying a record: applied, refused as a command, or to wait. -/
inductive LogOut where
  | done (d : Dev)
  | refused (d : Dev) (st dt : Nat)
  | wait
deriving DecidableEq, Repr

/-- A log write in Q0; one that the secondary cannot carry out leaves its blocks as they are. -/
def Dev.logWrite (d : Dev) (q off : Nat) (m : List (Option Byte)) : LogOut :=
  match d.chWrite q off m 0 none with
  | .done d1 _ _ => .done d1
  | .wait _ => .wait
  | .fail d1 _ _ => .done d1

/-- A command with the partitions that it names turned into this module's. -/
def Dev.cmdHere (d : Dev) : ObjCmd → ObjCmd
  | .imp al owner acc oobj off => .imp al ((d.partFor 2 owner).getD owner) acc oobj off
  | c => c

/-- A COMMAND record (R411): checked, then carried out; it waits for an earlier command on the same number. -/
def Dev.logCommand (d : Dev) (q : Nat) (c : ObjCmd) : LogOut :=
  if (cmdNames q c).any (d.numberBusy false) then .wait
  else match d.cmdCheck q c with
    | some (st, dt) => .refused d st dt
    | none => .done (d.cmdDo (ringAdm q) q c)

/-- The state of a directory entry by its code (Table 04.5). -/
def dirStOf : Nat → Option DirSt
  | 1 => some .s
  | 2 => some .o
  | 3 => some .rs
  | 4 => some .ro
  | 5 => some .orph
  | _ => none

/-- Logged grant records with one run of a slot cleared out of them. -/
def cutGrants (q slot first count : Nat) (l : List Grant) : List Grant :=
  l.flatMap (fun g =>
    if g.slot == slot && g.part == q && g.first < first + count && first < g.first + g.count then
      (if g.first < first then [{ g with count := first - g.first }] else []) ++
      (if first + count < g.first + g.count then
        [{ g with first := first + count, count := g.first + g.count - (first + count) }] else [])
    else [g])

/-- A GRANT record noted: granted, draining, or freed when its count is 0. -/
def Dev.logGrant (d : Dev) (q slot first count : Nat) (rw draining : Bool) : Dev :=
  let l := if count == 0 then d.pr.grants.filter (fun g => !(g.slot == slot && g.part == q && g.first == first))
    else cutGrants q slot first count d.pr.grants ++ [Grant.mk slot q first count rw (if draining then some 0 else none)]
  { d with pr := { d.pr with grants := l } }

/-- The records of state noted for a takeover: directory entries, channel contexts, grants, slots (R411). -/
def Dev.logDir (d : Dev) (q line st vec window : Nat) (coarse : Bool) : Dev :=
  let k := lineKey q line
  match dirStOf st with
  | some x => { d with pr := { d.pr with dirs := kput k ⟨x, vec, window, coarse, 0, false, false⟩ d.pr.dirs } }
  | none => { d with pr := { d.pr with dirs := kdel k d.pr.dirs } }

/-- A CHANNEL record noted. -/
def Dev.logCtx (d : Dev) (q : Nat) (x : ChanCtx) : Dev :=
  let k := ctxKey q x.idx
  { d with pr := { d.pr with chans := if x.gone then kdel k d.pr.chans else kput k x d.pr.chans } }

/-- One record applied to the partition whose partner it names (R411). -/
def Dev.logApply (d : Dev) (r : LogRec) : LogOut :=
  match d.partFor 2 r.part with
  | none => .done d
  | some q =>
    match r.body with
    | .block b data _ => d.logWrite q (b * 256) ((d.fromStored q b data).map some)
    | .line off mask data => d.logWrite q off (data.zipIdx.map (fun e => if bit mask e.2 then some e.1 else none))
    | .poison pg mask => .done (d.poisonBlks q (((List.range 256).filter (bit mask)).map (fun i => pg * 256 + i)))
    | .discard first count => if d.moving (pageKey q (first / 256)) then .wait else .done (d.discardBlocks q first count)
    | .command c => d.logCommand q (d.cmdHere c)
    | .dir line st vec window coarse => .done (d.logDir q line st vec window coarse)
    | .channel x => .done (d.logCtx q x)
    | .grant slot first count rw draining => .done (d.logGrant q slot first count rw draining)
    | .slot i v => .done { d with pr := { d.pr with slots := kput i v d.pr.slots } }
    | .key id => .done { d with su := { d.su with keys := kput q id d.su.keys } }
    | .handed => .done ((Dev.installPart q r.part (d.wr (K.pairRole + q) 1)).inc K.pairTakeovers)

/-- Records applied in order, with the refusal of the last command refused; none when one must wait. -/
def Dev.logAll : List LogRec → Option (Nat × Nat) → Dev → Option (Dev × Option (Nat × Nat))
  | [], no, d => some (d, no)
  | r :: rs, no, d =>
    match d.logApply r with
    | .done d1 => Dev.logAll rs no d1
    | .refused d1 st dt => Dev.logAll rs (some (st, dt)) d1
    | .wait => none

/-- The pages of records, in this module's partitions. -/
def Dev.logPages (d : Dev) (recs : List LogRec) : List Nat :=
  recs.flatMap (fun r => match d.partFor 2 r.part with
    | some q => recPages { r with part := q }
    | none => [])

/-- A LOG frame that passed its checks: applied and acknowledged with the highest SEQ applied, a refusal of a command after it
(log entry 46). A frame that must wait for a page promotes it and is not taken yet (R408). -/
def Dev.logIn (d0 : Dev) (f : RingHdr) (recs : List LogRec) (d : Dev) : Dev :=
  if d.pr.st == .unpaired then d
  else match Dev.logAll recs none d with
    | some (d1, no) =>
      (d1.ringSend 0x41 (leBytes 4 f.seq ++ (match no with
        | some (st, dt) => leBytes 1 st ++ leBytes 2 dt
        | none => []))).settle
    | none => d0.promoteAll 0 (d0.logPages recs)

/-- LOG (R411). -/
def execLog (port : Nat) (f : RingHdr) (recs : List LogRec) (s : State) : Res :=
  ok s (s.dev.ringIn port f (s.dev.logIn f recs))

/-! ## LOG_ACK (R408, R411), and what waits for the log to drain -/

/-- A mirrored channel of a partition that was handed over ends here: the partner goes on with it. -/
def Dev.dropMirrored (d : Dev) (p : Nat) : Dev :=
  ((d.chs.chans.filter (fun e => ctxPart e.1 == p && d.chanMirrored e.1 e.2)).map (·.1)).foldl Dev.killChan d

/-- A handover completed once the log is drained (R421): the old primary becomes SECONDARY, the partner takes steps K3 to K5
(log entry 46). The lines of its mirrored objects and its mirrored channels are the partner's from now on. -/
def Dev.finishHand (d : Dev) : Dev :=
  match d.pr.handing with
  | none => d
  | some p =>
    if !d.unacked.isEmpty || !d.pr.cmds.isEmpty then d
    else
      let d1 := (d.dropMirrored p).logSend [⟨p, .handed⟩]
      let gone := fun (k : Nat) => k / 2 ^ 42 == p && (d.objAt p (k % 2 ^ 42 * 64)).any (fun e => d.objMirrored p e.2)
      (({ d1 with
          coh := { d1.coh with dir := d1.coh.dir.filter (fun e => !gone e.1), recalls := d1.coh.recalls.filter (fun r => !gone r.line) }
          pr := { d1.pr with handing := none, dirty := d1.pr.dirty.filter (fun r => pagePart r.1 != p) } }).wr (K.pairRole + p) 2).settle

/-- LOG_ACK: every frame up to the SEQ is acknowledged; the held writes and commands of its LOG frames complete. A command
refused by the partner completes with the partner's status and DETAIL (R411). -/
def Dev.logAck (d : Dev) (upTo status detail : Nat) : Dev :=
  let port := d.partnerPort
  let covered := fun (x : TxFrame) => x.port == port && seqLe x.seq upTo
  let ids := ((d.pr.tx.filter covered).filter TxFrame.isLog).map (·.id)
  let last := ((d.pr.tx.filter (fun x => covered x && x.seq == upTo)).map (·.id)).head?
  let d1 := { d with pr := { d.pr with tx := d.pr.tx.filter (fun x => !covered x) } }
  let d2 := d1.endHolds true (fun i => ids.contains i)
  let d3 := d2.endCmds (fun i => ids.contains i) (fun d c =>
    if status != 0 && last == some c.seq then d.adminDone c.h status detail 0 else d.runCmd c)
  let d4 := if d3.pr.switching then { d3.wr K.logFormat 2 with pr := { d3.pr with switching := false } } else d3
  d4.finishHand.settle

/-- LOG_ACK (R408). -/
def execLogAck (port : Nat) (f : RingHdr) (upTo status detail : Nat) (s : State) : Res :=
  ok s (s.dev.ringIn port f (fun d => d.logAck upTo status detail))

/-- The effect of a write of HANDOVER: refused unless the pair is MIRRORED and the partition is PRIMARY (R421). -/
def Dev.wHandover (d : Dev) (p : Nat) : Dev × Nat :=
  if 64 ≤ p then d.outOfRange
  else d.unless (d.pr.st != .mirrored || d.pairRole p != 1 || d.pr.handing.isSome) (fun d =>
    ({ d with pr := { d.pr with handing := some p } }).finishHand)

/-- HANDOVER (R421). -/
def execHandover (role : Role) (part : Nat) (s : State) : Res :=
  ok s (s.dev.scalarWrite role 0x2100 0x18 part (fun d => d.wHandover part))

/-- The effect of a write of MIRROR_FORMAT_COMMIT (R423). -/
def Dev.wMirrorFormatCommit (d : Dev) (v : Nat) : Dev × Nat :=
  if v == 2 then
    d.unless (d.pr.st != .mirrored || !d.pr.hb.any (fun hb => bit hb.formats 1)) (fun d =>
      { d.wr K.mirrorFormatCommit 2 with pr := { d.pr with
          switching := d.rd K.logFormat == 1 && d.pr.hb.any (fun hb => hb.commit == 2) } })
  else if v == 1 then d.unless (d.flag K.pairEnable) (fun d => d.wr K.mirrorFormatCommit 1)
  else d.outOfRange

/-- MIRROR_FORMAT_COMMIT (R423). -/
def execMirrorFormatCommit (role : Role) (v : Nat) (s : State) : Res :=
  ok s (s.dev.scalarWrite role 0x2100 0x10 v (fun d => d.wMirrorFormatCommit v))

/-! ## Repair (R382, R413) -/

/-- The answer to a repair read: the block, its metadata word and STATUS; POISON for a poisoned block, and during SYNCING for
a page not yet copied (R413, R420). -/
def Dev.repairAnswer (d : Dev) (part blk : Nat) : Dev :=
  match d.partFor 2 part, d.partFor 1 part with
  | some q, _ | none, some q =>
    let bad := d.blkPoison q blk || d.dirtyPage (pageKey q (blk / 256))
    (d.readCharge q (blk * 256) 256 0).ringSend 0x45
      (d.toStored q blk ++ leBytes 2 (d.meta (blkKey q blk)).word ++ leBytes 1 (if bad then 0x20 else 0)) (d.isCipher q blk)
  | none, none => d.ringSend 0x45 (zeros 256 ++ leBytes 2 Meta.zero.word ++ leBytes 1 0x20)

/-- REPAIR_READ (R413). -/
def execRepairRead (port : Nat) (f : RingHdr) (part blk : Nat) (s : State) : Res :=
  ok s (s.dev.ringIn port f (fun d => d.repairAnswer part blk))

/-- A repair that comes: the block is written back and counted, or poisoned as in a region that is not mirrored (R382). -/
def Dev.repaired (d : Dev) (p blk : Nat) (r : Resp) : Dev :=
  if !d.pr.repairs.contains (p, blk) then d
  else
    let d1 := { d with pr := { d.pr with repairs := d.pr.repairs.filter (· != (p, blk)) } }
    match r with
    | .data bs =>
      let t := d1.medium (pageKey p (blk / 256))
      let d2 := ((d1.setBytes p (blk * 256) (d1.fromStored p blk bs)).chargeTier t true 0 256).inc K.mirrorRepairs
      ((d2.sign (d2.blkSig 0x0E 0 2 p blk)).post p ⟨0x11, 0, 0, t.code, blk * 256⟩).settle
    | _ => (d1.uncorrected p blk).settle

/-- REPAIR_DATA (R413). -/
def execRepairData (port : Nat) (f : RingHdr) (part blk : Nat) (r : Resp) (s : State) : Res :=
  ok s (s.dev.ringIn port f (fun d => d.repaired part blk r))

/-! ## Resynchronisation (R420) -/

/-- The valid blocks of a page written one after another in Q0; none when a block must wait. -/
def Dev.resyncBlocks (q page : Nat) : List Nat → List Byte → Dev → Option Dev
  | [], _, d => some d
  | i :: r, data, d =>
    match d.logWrite q ((page * 256 + i) * 256) ((d.fromStored q (page * 256 + i) data).map some) with
    | .wait => none
    | .done d1 => Dev.resyncBlocks q page r (data.drop 256) d1
    | .refused d1 _ _ => Dev.resyncBlocks q page r (data.drop 256) d1

/-- A page of the partner's copy taken: its valid blocks, its valid vector, its poison marks. -/
def Dev.resyncIn (d0 : Dev) (part page valid poison : Nat) (data : List Byte) (d : Dev) : Dev :=
  match d.partFor 2 part with
  | none => d
  | some q =>
    let k := pageKey q page
    if d.pr.st == .unpaired || (d.pageObj k).isNone then d
    else if d.moving k then d0
    else match Dev.resyncBlocks q page ((List.range 256).filter (bit valid)) data d with
      | none => d0.promoteAll 0 [k]
      | some d1 =>
        let d2 := if (d1.page k).home.isSome then d1.setValid k valid else d1
        (d2.poisonBlks q (((List.range 256).filter (bit poison)).map (fun i => page * 256 + i))).settle

/-- RESYNC (R420). -/
def execResync (port : Nat) (f : RingHdr) (part page valid poison : Nat) (data : List Byte) (s : State) : Res :=
  ok s (s.dev.ringIn port f (s.dev.resyncIn part page valid poison data))

/-- A page sent to the partner: partition and offset, its valid vector, its valid blocks with their metadata. -/
def Dev.sendPage (d : Dev) (k : Nat) : Dev :=
  let p := pagePart k
  let b := k % 2 ^ 32 * 256
  let x := d.page k
  let idx := (List.range 256).filter (bit x.valid)
  (d.chargeTier (d.medium k) false 0 (sumBy (fun i => 32 * (d.meta (blkKey p (b + i))).sectors) idx)).ringSend 0x46
    (leBytes 1 p ++ zeros 7 ++ leBytes 8 (b * 256) ++ leBytes 32 x.valid ++
      idx.flatMap (fun i => d.toStored p (b + i) ++ leBytes 2 (d.meta (blkKey p (b + i))).word)) (d.isCipher p b)

/-- The pair MIRRORED again once the last bit is cleared (R420). -/
def Dev.resyncDone (d : Dev) : Dev :=
  (((d.pairTo .mirrored).pairEvent 0x21).pairPost ⟨0x24, 0, 0, 0, d.pr.copied⟩).settle

/-- The next page to copy taken out of the runs. -/
def dirtyTake : List (Nat × Nat) → Option (Nat × List (Nat × Nat))
  | [] => none
  | (_, 0) :: r => dirtyTake r
  | (k, n + 1) :: r => some (k, if n == 0 then r else (k + 1, n) :: r)

/-- The next dirty page copied under its lock and its bit cleared (R420); a page that migrates is waited for. -/
def Dev.resyncStep (d : Dev) : Dev :=
  match dirtyTake d.pr.dirty with
  | none => ({ d with pr := { d.pr with dirty := [] } }).resyncDone
  | some (k, r) =>
    if d.moving k then d
    else
      let d1 := { d with pr := { d.pr with dirty := r, copied := d.pr.copied + 1 } }
      let d2 := if d.pairRole (pagePart k) == 1 then d1.sendPage k else d1
      if (dirtyTake r).isNone then d2.resyncDone else d2

/-- RESYNC_SEND (R420). -/
def execResyncSend (s : State) : Res := ok s (if s.dev.pr.st == .syncing && s.dev.reachable then s.dev.resyncStep else s.dev)

end Sys2Proof.Machine
end

