-- ==== Sys2Proof/Machine/Startup.lean ====
section
/-! DEFINITION. Resets of the module, the start sequence and failed starts (R30, R435, R453 to R459), and the power events that
bring the main rails down (R482, R483, R485). -/

namespace Sys2Proof.Machine

/-! ## What a fundamental reset leaves (R30, R435) -/

/-- The entries of Table 14.5 that are dictionary values, with those of the standby domain's signature log, THERMAL_TRIPPED,
which the next start clears, MEM_DERATE, which that start takes, and the throttle level as last counted, since the sensors that
demand it go on (R397, R479, R480, R485). -/
def persistentKeys : List Nat :=
  [K.ipv4Mode, K.ipv4Static, K.ipv6Enable, K.udpPort, K.enwaryEnable, K.sessionIdleS,
   K.startFailCount, K.startFailLimit, K.lastStartCause, K.lastFailReason, K.activeSlot, K.autoConfirm, K.snowdropForce,
   K.starts, K.minSvn, K.t3BytesWritten, K.mirrorFormatCommit, K.thermalTripped, K.memDerate, K.mclkDiv, K.throttleLevel]

/-- Whether an entry keeps its value across a fundamental reset. The transports' counters belong to Larkspur's standby domain
(log entry 47). -/
def persists (k : Nat) : Bool :=
  persistentKeys.contains k || k / 256 == 0x2020 || k / 256 == 0x1006 ||
  [K.authFailures, K.macFailures, K.discarded, K.notifyDropped, K.mailboxIgnored, K.mctpEid].contains k ||
  (List.range 8).any (fun b => k == K.ofBay K.insertions b || k == K.ofBay K.surpriseRemovals b)

/-- A cluster across a reset: retirement stays (R170). -/
def resetClus (l : List (Nat × Clu)) : List (Nat × Clu) :=
  (l.filter (fun e => e.2.st == .retired)).map (fun e => (e.1, { Clu.reset with st := .retired }))

/-- A bay across a reset: its cartridge stays seated, without power; its registers return to their reset values. -/
def Bay.across (x : Bay) : Bay :=
  { x with cart := if x.present then 5 else 0, ctrl := 0x01CF, status := if x.present then 0x40 else 0,
           pressed := false, missing := !x.present, blinking := false, settling := false, media := none }

/-- Who waits for the result of an enable answered (R434, R470). -/
def Dev.askerAnswer (d : Dev) (p code : Nat) : Asker → Dev
  | .row => d.result code
  | .mbox f =>
    let x := d.fn f
    (d.setFn f { x with mb := { x.mb with status := code * 256 } }).emit (.mbox f code)
  | .sess n seq =>
    let a := Answer.mk code (leBytes 2 (0x800 + p) ++ leBytes 1 1 ++ zeros 1 ++ leBytes 4 0 ++ leBytes 4 1)
    ({ d with mg := { d.mg with sessions := d.mg.sessions.map (fun (x : Session) =>
        if x.num == n && x.lastSeq == seq then { x with lastAns := a } else x) } }).emit (.enwary n seq code a.payload)

/-- The writes of ENABLE that wait for a key refused (R470). -/
def Dev.dropKeyWaits (d : Dev) (p : Nat → Bool) : Dev :=
  (d.su.keyWaits.filter (fun e => p e.1)).foldl (fun d e => d.askerAnswer e.1 0x08 e.2)
    { d with su := { d.su with keyWaits := d.su.keyWaits.filter (fun e => !p e.1) } }

/-- MODULE_STATE given a value, with its notification (Table 14.8). -/
def Dev.setModule (d : Dev) (v : Nat) : Dev :=
  if d.su.modState == v then d else ({ d with su := { d.su with modState := v } }).notify 3 0x100 0x0F v

/-- The module back in standby: the crosspoint closes, memory, functions, channels and every entry that does not persist
return to their reset values (Table 10.3's fundamental row, R30, R435). -/
def Dev.moduleReset (d : Dev) : Dev :=
  let d0 := ((d.setModule 0).dropKeyWaits (fun _ => true))
  let d1 := ({ d0 with su := { d0.su with stage := 0 } }).updBypass
  { d1 with
    od := d1.od.filter (fun e => persists e.1)
    mm := { Mm.reset with flashRetired := d1.mm.flashRetired }
    coh := Coh.reset
    chs := Chs.reset
    cl := resetClus d1.cl
    lmap := []
    progs := []
    pipes := []
    fns := []
    ports := []
    tags := []
    bays := d1.bays.map (fun e => (e.1, e.2.across))
    bw := Bw.reset
    er := { Er.reset with log := d1.er.log, nor := d1.er.nor, nextSeq := d1.er.nextSeq, deadhead := d1.er.deadhead, wears := d1.er.wears }
    pr := Pr.reset
    pw := { d1.pw with sens := kdel 9 d1.pw.sens, demand := 0, lowWins := 0 }
    su := { d1.su with
      upd := none, rcmd := 0, rarg0 := 0, rarg1 := 0, rresult := 0, rbuf := [], romOpen := false,
      pairPeer := [], keys := [], entropyBad := false, recRestart := false } }

/-! ## Thermal state (R485) -/

/-- The throttle, critical and shutdown thresholds of a sensor in °C (Table 16.4). -/
def thresholds (i : Nat) : Option (Int × Int × Int) :=
  match i with
  | 1 => some (95, 105, 110)
  | 2 => some (85, 95, 100)
  | 3 => some (85, 90, 95)
  | 4 => some (70, 80, 85)
  | 5 => some (45, 50, 55)
  | 10 => some (80, 90, 95)
  | _ => none

/-- Whether a sensor is at its critical threshold. -/
def sensorCritical (i : Nat) (v : SensorVal) : Bool :=
  match thresholds i, v with
  | some _, .silent => true
  | some (_, c, _), .reads z => c * 1000 ≤ z
  | none, _ => false

/-- THERMAL_ALARM: a sensor is at its critical threshold (R485). -/
def Dev.thermalAlarm (d : Dev) : Bool := d.pw.sens.any (fun e => sensorCritical e.1 e.2)

/-! ## The course of a start (R456) -/

/-- The slot of a number: 0 A, 1 B. -/
def Dev.imgSlot (d : Dev) (n : Nat) : Slot := if n == 0 then d.su.slotA else d.su.slotB

/-- A slot changed. -/
def Dev.setImgSlot (d : Dev) (n : Nat) (x : Slot) : Dev :=
  { d with su := if n == 0 then { d.su with slotA := x } else { d.su with slotB := x } }

/-- A slot in a state. -/
def Dev.slotTo (d : Dev) (n : Nat) (st : SlotSt) : Dev := d.setImgSlot n { d.imgSlot n with st := st }

/-- Whether a slot is in a state. -/
def Dev.slotIs (d : Dev) (n : Nat) (st : SlotSt) : Bool := (d.imgSlot n).st == st

/-- The slot in a state, when there is one. -/
def Dev.slotWith (d : Dev) (st : SlotSt) : Option Nat := [0, 1].find? (fun n => d.slotIs n st)

/-- The slot that is active. -/
def Dev.active (d : Dev) : Nat := d.rd K.activeSlot

/-- The slot and cause that a start chooses before the check of the slot, with the slots as the choice leaves them. -/
def Dev.chooseSlot (d : Dev) : Dev × Nat × Nat :=
  if (d.slotWith .trial).isSome || d.su.priorTrial then
    ((match d.slotWith .trial with
      | some n => d.slotTo n .failedTrial
      | none => d), d.active, 3)
  else match d.slotWith .pending with
    | some n => (d.slotTo n .trial, n, 2)
    | none => (d, d.active, if d.su.priorFailed then 4 else if d.su.ranBefore then 1 else 0)

/-- The course of a start: the device, the slot unless it is a Snowdrop start, and the cause (R456). -/
def Dev.course (d : Dev) : Dev × Option Nat × Nat :=
  if d.flag K.snowdropForce then (d, none, 0x41)
  else if d.rd K.startFailLimit ≤ d.rd K.startFailCount then (d, none, 0x40)
  else
    let c := d.chooseSlot
    let n := c.2.1
    if c.1.slotIs n .valid || c.1.slotIs n .trial then (c.1, some n, c.2.2)
    else if c.1.slotIs (1 - n) .valid then (c.1.wr K.activeSlot (1 - n), some (1 - n), c.2.2)
    else (c.1, none, 0x42)

/-- Larkspur restarted into another image ends every session (R441, R455). -/
def Dev.runImage (d : Dev) (img : Option (Nat × Nat)) : Dev :=
  if d.su.lark == img then d
  else { d with su := { d.su with lark := img }, mg := { d.mg with sessions := [], spdm := 0 } }

/-- Measurement 6 of a start (Table 15.8): slot run, VERSION, SVN, MIN_SVN, AUTO_CONFIRM, LAST_START_CAUSE. -/
def Dev.configMeasure (d : Dev) : List Byte :=
  let x := if d.su.snow then Slot.reset else d.imgSlot d.su.runSlot
  Config.sha384 (leBytes 1 d.su.runSlot ++ leBytes 4 x.version ++ leBytes 2 x.svn ++ leBytes 2 (d.rd K.minSvn) ++
    leBytes 1 (d.rd K.autoConfirm) ++ leBytes 1 (d.rd K.lastStartCause))

/-- A start begins (R453, R456, R459): the module is reset, an update under way leaves its slot EMPTY (R462), MEM_DERATE is
taken (R479), the thermal trip is over (R485), and a point for the pair session is drawn (R472). -/
def Dev.beginStart (d : Dev) : Dev :=
  let d0 := match d.su.upd with
    | some u => d.setImgSlot u.slot Slot.reset
    | none => d
  let d1 := d0.moduleReset
  let derate := d1.flag K.memDerate
  let c := (((d1.wr K.memDerate 0).wr K.mclkDiv (if derate then 10 else 8)).wr K.thermalTripped 0).course
  let d2 := (c.1.wr K.lastStartCause c.2.2).inc K.starts
  let d3 := match c.2.1 with
    | some n => (d2.inc K.startFailCount).runImage (some (n, (d2.imgSlot n).version))
    | none => d2.runImage none
  let d4 := { d3.drawn with su := { d3.su with
      snow := c.2.1.isNone, runSlot := c.2.1.getD d3.su.runSlot, stage := 1, retry := false, ranBefore := true,
      priorFailed := false, priorTrial := false, pairPoint := d3.free } }
  let d5 := ({ d4 with su := { d4.su with meas6 := d4.configMeasure } }).setModule 1
  if d.flag K.thermalTripped && !d.thermalAlarm then d5.emit (.pin 1 false) else d5

/-- Whether a start is in progress. -/
def Dev.starting (d : Dev) : Bool := d.su.modState == 1

/-- A start that fails (R456): the reason is recorded, a trial is a failed trial, an active image that fails verification is
INVALID and gives way to a VALID other one; every port is idle, and the next start follows 1 s later. -/
def Dev.startFail (d : Dev) (reason : Nat) : Dev :=
  let n := d.su.runSlot
  let d1 := d.wr K.lastFailReason reason
  let trial := !d.su.snow && d1.slotIs n .trial
  let d2 := if d.su.snow then d1
    else if trial then d1.slotTo n .failedTrial
    else if reason == 3 || reason == 4 then
      (let d2 := d1.slotTo n .invalid
       if d2.slotIs (1 - n) .valid then d2.wr K.activeSlot (1 - n) else d2)
    else d1
  let d3 := d2.moduleReset
  { d3 with su := { d3.su with retry := true, priorFailed := true, priorTrial := trial } }

/-! ## PERST#, restarts and timers -/

/-- PERST# asserted (R455): a start in progress ends without counting as failed, its trial is pending again; the module is
reset. -/
def Dev.perstOn (d : Dev) : Dev :=
  let d1 := if d.starting && !d.su.snow then
      (let d1 := d.dec K.startFailCount
       if d1.slotIs d.su.runSlot .trial then d1.slotTo d.su.runSlot .pending else d1)
    else d
  let d2 := ({ d1 with su := { d1.su with perst := true, retry := false } }).moduleReset
  d2

/-- PERST_ASSERT (R455). -/
def execPerstAssert (s : State) : Res := ok s (if s.dev.su.perst then s.dev else s.dev.perstOn)

/-- PERST_DEASSERT (R453): with power good a start begins. -/
def execPerstDeassert (s : State) : Res :=
  ok s (let d := s.dev
    if !d.su.perst then d
    else
      let d1 := { d with su := { d.su with perst := false } }
      if d1.su.standby then d1.beginStart else d1)

/-- START_TIMEOUT (R456). -/
def execStartTimeout (s : State) : Res := ok s (if s.dev.starting then s.dev.startFail 1 else s.dev)

/-- STAGE_WATCHDOG (R456). -/
def execStageWatchdog (s : State) : Res := ok s (if s.dev.starting then s.dev.startFail 2 else s.dev)

/-- START_RETRY_TIMER (R456). -/
def execStartRetryTimer (s : State) : Res :=
  ok s (if s.dev.su.retry && !s.dev.su.perst && s.dev.su.standby then s.dev.beginStart else s.dev)

/-- The effect of a write of RESTART: 1 begins a start, refused during one and while PERST# holds the module (R453, R455; log
entry 48). -/
def Dev.wRestart (d : Dev) (v : Nat) : Dev × Nat :=
  if v == 1 then d.unless (d.starting || d.su.perst) Dev.beginStart else (d, 0)

/-- RESTART (R453). -/
def execRestart (role : Role) (v : Nat) (s : State) : Res :=
  ok s (s.dev.scalarWrite role 0x300 0x0F v (fun d => d.wRestart v))

/-- START_FAIL_COUNT (R458): only 0 may be written. -/
def Dev.wStartFailCount (d : Dev) (v : Nat) : Dev × Nat := if v == 0 then d.store K.startFailCount 0 else d.outOfRange

/-- START_FAIL_COUNT (R458). -/
def execStartFailCount (role : Role) (v : Nat) (s : State) : Res :=
  ok s (s.dev.scalarWrite role 0x300 0x01 v (fun d => d.wStartFailCount v))

/-! ## The stages (Table 15.1) -/

/-- The physical clusters of a tile that are not retired, in ascending order. -/
def Dev.goodClus (d : Dev) (t : Nat) : List Nat :=
  ((List.range 32).map (fun i => 32 * t + i)).filter (fun c => (d.clu c).st != .retired)

/-- The logical map of R150: 30 numbers a tile to its lowest clusters; the numbers left over to free clusters of other tiles,
lowest tile first, while more than BUD_RESERVE are free. -/
def Dev.startMap (d : Dev) : List (Nat × Nat) :=
  let own := (List.range 8).flatMap (fun t => ((d.goodClus t).take 30).zipIdx.map (fun e => (30 * t + e.2, e.1)))
  let spare := (List.range 8).flatMap (fun t => (d.goodClus t).drop 30)
  let left := (List.range 240).filter (fun l => !own.any (fun e => e.1 == l))
  own ++ left.zip (spare.take (spare.length - d.rd K.budReserve))

/-- Stage PACKAGE: the clusters that fail their test retire, the map is built, the others are Buds. -/
def Dev.stagePackage (d : Dev) (bad : List Nat) : Dev :=
  let d1 := (bad.filter (fun c => c < 256)).foldl (fun d c => d.setClu c { Clu.reset with st := .retired }) d
  let m := d1.startMap
  m.foldl (fun d e => d.setClu e.2 { Clu.reset with st := .active, logical := some e.1 })
    { d1 with lmap := m.foldl (fun l e => kput e.1 e.2 l) [] }

/-- A bay in stage MEMORY: its cartridge has power, is checked, gets a media key and is ready (R366, R471). -/
def Dev.stageBay (d : Dev) (b : Nat) : Dev :=
  if !(d.bay b).present then d
  else ((d.drawn.modBay b (fun x => (({ x with cart := 2, media := some d.free }.setPowerOff false).setPowerInd indOn).setAttnInd indOff)).setReady b true)

/-- Stage SERVICES: the frames of the Deadhead list are withheld, its pending entries are done (R387). -/
def Dev.stageServices (d : Dev) : Dev :=
  ({ d with mm := { d.mm with
      deadhead := d.er.deadhead.map (fun e => frameKey (tierOf (fld e 62 2)) (fld e 0 52)) } }).finishDeadhead

/-- The bytes of a section type of an image (Table 15.3): the first table entry of that type. -/
def imgSection (img : List Byte) (typ : Nat) : List Byte :=
  match (List.range (Min.min 16 (leAt img 0x0A 2))).find? (fun i => leAt img (0x10 + 64 * i) 2 == typ) with
  | some i => slice img (leAt img (0x14 + 64 * i) 4) (leAt img (0x18 + 64 * i) 4)
  | none => []

/-- Stage OPERATIONAL: the count is cleared, a trial is confirmed as AUTO_CONFIRM says, the device identity key is that of the
image (R453, R463, R466), every function is ready. START_MS is the time that the start took. -/
def Dev.stageOperational (d : Dev) : Dev :=
  let n := d.su.runSlot
  let d1 := ((d.wr K.startFailCount 0).wr K.startMs (d.free % 2 ^ 32)).drawn
  let d2 := if d1.slotIs n .trial && d1.flag K.autoConfirm then (d1.slotTo n .valid).wr K.activeSlot n else d1
  ({ d2 with su := { d2.su with stage := 7, romOpen := false } }).setModule 2

/-- The number of the device identity key of an image: it follows measurements 2 to 5 (R466). -/
def imgKey (img : List Byte) : Nat := leNat ((List.range 4).flatMap (fun i => Config.sha384 (imgSection img (i + 1))))

/-- A stage that ends, and the next that begins. A Snowdrop start opens its service after POWER: port 0 trains alone and the
expansion ROM window opens (R457). -/
def Dev.stageDone (d : Dev) (bad : List Nat) : Dev :=
  let up := fun (d : Dev) => { d with su := { d.su with stage := d.su.stage + 1 } }
  match d.su.stage with
  | 1 =>
    let d1 := ({ d with su := { d.su with mains := true } }).emit (.pin 0 true)
    if d.su.snow then
      (({ d1 with su := { d1.su with stage := 0, romOpen := true, idKey := 0 } }).setModule 3).startTraining 0
    else up d1
  | 2 =>
    let d1 := up { d with su := { d.su with romOpen := true, idKey := imgKey (d.imgSlot d.su.runSlot).bytes } }
    (List.range 22).foldl (fun d p => d.startTraining p) d1
  | 3 => up (d.stagePackage bad)
  | 4 => up ((List.range 8).foldl Dev.stageBay d)
  | 5 => (up d.stageServices).updBypass
  | 6 => d.stageOperational
  | _ => d

/-- START_STAGE_DONE (R453): a stage that fails fails the start with its reason of Table 15.2. -/
def execStartStageDone (r : StageResult) (s : State) : Res :=
  ok s (if !s.dev.starting then s.dev
    else match r with
      | .done bad => s.dev.stageDone bad
      | .failed code => s.dev.startFail code)

/-! ## Loss of power (R482, R483, R485) -/

/-- The main rails go down as in a loss of module power: a start in progress counts as failed (R456), power-good deasserts,
the module stays in standby. -/
def Dev.railsDown (d : Dev) : Dev :=
  if !d.su.mains && !d.starting then d
  else
    let cut := d.starting && !d.su.snow
    let trial := cut && d.slotIs d.su.runSlot .trial
    let d1 := { d with su := { d.su with mains := false } }
    let d2 := if d.su.mains then d1.emit (.pin 0 false) else d1
    let d3 := d2.moduleReset
    { d3 with su := { d3.su with
        retry := false, priorFailed := cut, priorTrial := trial && !d3.slotIs d3.su.runSlot .trial } }

/-- INPUT_UNDERVOLTAGE (R483). -/
def execInputUndervoltage (s : State) : Res := ok s s.dev.railsDown

/-- PLL_LOCK_LOSS (R483). -/
def execPllLockLoss (s : State) : Res := ok s s.dev.railsDown

/-- STANDBY_POWER_LOSS (R483): Larkspur and the standby domain lose their state; what SPI NOR holds stays (R435, R397). -/
def execStandbyPowerLoss (s : State) : Res :=
  ok s (let d := s.dev.railsDown
    if !d.su.standby then d
    else
      let d1 := d.moduleReset
      { d1 with
        od := d1.od.filter (fun e => persists e.1 && e.1 / 256 != 0x2020 &&
          !([K.authFailures, K.macFailures, K.discarded, K.notifyDropped, K.mailboxIgnored, K.mctpEid, K.thermalTripped, K.memDerate, K.mclkDiv, K.throttleLevel].contains e.1))
        er := { d1.er with log := d1.er.nor }
        mg := Mg.reset
        pw := Pw.reset
        su := { d1.su with standby := false, retry := false, ranBefore := false } })

/-- The network entries in force taken from the dictionary (R451). -/
def Dev.netApply (d : Dev) : Dev :=
  { d with mg := { d.mg with
      netPending := false, netMode := d.rd K.ipv4Mode, netStatic := d.rd K.ipv4Static, netIpv6 := d.flag K.ipv6Enable,
      netPort := d.rd K.udpPort, netEnable := d.flag K.enwaryEnable } }

/-- STANDBY_POWER_RESTORED (R482): Larkspur runs from the active slot and serves the standby set. -/
def execStandbyPowerRestored (s : State) : Res :=
  ok s (let d := s.dev
    if d.su.standby then d
    else
      let x := d.imgSlot d.active
      ({ d with su := { d.su with
          standby := true, lark := if x.st == SlotSt.valid then some (d.active, x.version) else none } }).netApply)

end Sys2Proof.Machine
end

