-- ==== Sys2Proof/Machine/Images.lean ====
section
/-! DEFINITION. Images and their verification, updates and recovery (R460 to R465), credentials, the pair session and the entropy
source (R469, R470, R472). -/

namespace Sys2Proof.Machine

/-! ## Verification (R460, R461) -/

/-- MAGIC of Table 15.3. -/
def imgMagic : Nat := 0x56494D47

/-- Whether the manifest of an image is well formed and its length fits (Table 15.3). -/
def manifestOk (img : List Byte) (len : Nat) : Bool :=
  let n := leAt img 0x0A 2
  5248 ≤ img.length && leAt img 0 4 == imgMagic && 1 ≤ n && n ≤ 16 && leAt img 0x0C 4 == img.length && img.length == len &&
  leAt img 0x410 4 ≤ 4096 && allZero (slice img 0x414 12) &&
  (List.range n).all (fun i =>
    allZero (slice img (0x12 + 64 * i) 2) && allZero (slice img (0x1C + 64 * i) 4) &&
    let t := leAt img (0x10 + 64 * i) 2
    1 ≤ t && t ≤ 5 && leAt img (0x14 + 64 * i) 4 + leAt img (0x18 + 64 * i) 4 ≤ img.length)

/-- Whether every section's digest matches its stored form. -/
def sectionsOk (img : List Byte) : Bool :=
  (List.range (leAt img 0x0A 2)).all (fun i =>
    Config.sha384 (slice img (leAt img (0x14 + 64 * i) 4) (leAt img (0x18 + 64 * i) 4)) == slice img (0x20 + 64 * i) 48)

/-- The code of Table 15.4 that the verification of an image gives. -/
def verifyImage (img : List Byte) (len minSvn : Nat) : Nat :=
  if !manifestOk img len then 1
  else if !Config.imageSigned img then 2
  else if !sectionsOk img then 3
  else if leAt img 8 2 < minSvn then 4
  else 0

/-! ## Updates (R462) -/

/-- A refusal that leaves its code in UPDATE_RESULT (R462). -/
def Dev.updRefuse (d : Dev) (code : Nat) : Dev × Nat := (d.wr K.updateResult code, 0x08)

/-- An erase of a slot begun for an image of a length. -/
def Dev.eraseSlot (d : Dev) (n len : Nat) : Dev :=
  { d.setImgSlot n Slot.reset with su := { (d.setImgSlot n Slot.reset).su with upd := some ⟨n, len, false, 0⟩ } }

/-- The effect of a write of UPDATE_BEGIN: the slot that is not active is erased (R462). -/
def Dev.wUpdateBegin (d : Dev) (len : Nat) : Dev × Nat :=
  let n := 1 - d.active
  if len < 5248 || 58720256 < len then d.outOfRange
  else if d.slotIs n .trial then d.updRefuse 0x08
  else ((d.eraseSlot n len).wr K.updateState 1, 0)

/-- UPDATE_BEGIN (R462). -/
def execUpdateBegin (role : Role) (len : Nat) (s : State) : Res :=
  ok s (s.dev.scalarWrite role 0x300 0x12 len (fun d => d.wUpdateBegin len))

/-- UPDATE_ERASE_DONE (R462, R465): the slot can receive data. -/
def execUpdateEraseDone (s : State) : Res :=
  ok s (match s.dev.su.upd with
    | some u =>
      if u.erased then s.dev
      else { s.dev.wr K.updateState 2 with su := { s.dev.su with
          upd := some { u with erased := true }, rresult := s.dev.su.rresult / 2 * 2 } }
    | none => s.dev)

/-- Data written to the slot of an update at an offset: code of Table 15.4. The data follow one another without gaps within
the declared length. -/
def Dev.imgWrite (d : Dev) (off : Nat) (bs : List Byte) : Dev × Nat :=
  match d.su.upd with
  | none => (d, 6)
  | some u =>
    if !u.erased then (d, 6)
    else if off != u.off || u.len < off + bs.length then (d, 5)
    else
      let x := d.imgSlot u.slot
      let d1 := d.setImgSlot u.slot { x with bytes := x.bytes ++ bs }
      ({ d1 with su := { d1.su with upd := some { u with off := off + bs.length } } }, 0)

/-- The effect of a write of UPDATE_DATA: it lands at UPDATE_OFFSET, which advances (R462). -/
def Dev.wUpdateData (d : Dev) (bs : List Byte) : Dev × Nat :=
  let off := d.rd K.updateOffset
  let r := d.imgWrite off bs
  if r.2 == 0 then (r.1.wr K.updateOffset (off + bs.length), 0) else d.updRefuse r.2

/-- UPDATE_DATA (R462). -/
def execUpdateData (role : Role) (data : List Byte) (s : State) : Res :=
  ok s (s.dev.entryWrite role 0x300 0x14 data.length 0 (fun d => d.wUpdateData data))

/-- A commit: the slot is verified, and becomes PENDING with the count of failed starts cleared; code of Table 15.4. -/
def Dev.imgCommit (d : Dev) : Dev × Nat :=
  match d.su.upd with
  | none => (d, 6)
  | some u =>
    if !u.erased then (d, 6)
    else
      let x := d.imgSlot u.slot
      let code := verifyImage x.bytes u.len (d.rd K.minSvn)
      if code != 0 then (d, code)
      else
        let v := leAt x.bytes 4 4
        let d1 := (d.setImgSlot u.slot ⟨.pending, v, leAt x.bytes 8 2, x.bytes, u.len⟩).wr K.startFailCount 0
        (({ d1 with su := { d1.su with upd := none } }).postAll ⟨0x30, 0, 0, u.slot, v⟩, 0)

/-- The effect of a write of UPDATE_COMMIT (R462). -/
def Dev.wUpdateCommit (d : Dev) (v : Nat) : Dev × Nat :=
  if v != 1 then (d, 0)
  else
    let r := d.imgCommit
    if r.2 == 0 then ((r.1.wr K.updateState 4).wr K.updateResult 0, 0) else d.updRefuse r.2

/-- UPDATE_COMMIT (R462). -/
def execUpdateCommit (role : Role) (v : Nat) (s : State) : Res :=
  ok s (s.dev.scalarWrite role 0x300 0x15 v (fun d => d.wUpdateCommit v))

/-- The effect of a write of IMAGE_CONFIRM: 1 confirms a running trial; refused otherwise (R463). -/
def Dev.wImageConfirm (d : Dev) (v : Nat) : Dev × Nat :=
  let n := d.su.runSlot
  d.unless (v != 1 || !d.operational || !d.slotIs n .trial) (fun d => (d.slotTo n .valid).wr K.activeSlot n)

/-- IMAGE_CONFIRM (R463). -/
def execImageConfirm (role : Role) (v : Nat) (s : State) : Res :=
  ok s (s.dev.scalarWrite role 0x300 0x0D v (fun d => d.wImageConfirm v))

/-- IMAGE_SVN (R474): SVN of the running image; 0 where the mask ROM runs. -/
def Dev.runningSvn (d : Dev) : Nat := if d.su.snow then 0 else (d.imgSlot d.su.runSlot).svn

/-- A slot whose SVN a new MIN_SVN shuts out becomes INVALID (R461). -/
def Slot.shutOut (x : Slot) (v : Nat) : Slot := if x.st != .empty && x.svn < v then { x with st := .invalid } else x

/-- The effect of a write of MIN_SVN: it only rises, and not above the running image's SVN (R461). -/
def Dev.wMinSvn (d : Dev) (v : Nat) : Dev × Nat :=
  d.unless (v < d.rd K.minSvn || (d.rd K.minSvn < v && d.runningSvn < v)) (fun d =>
    { d.wr K.minSvn v with su := { d.su with slotA := d.su.slotA.shutOut v, slotB := d.su.slotB.shutOut v } })

/-- MIN_SVN (R461). -/
def execMinSvn (role : Role) (v : Nat) (s : State) : Res := ok s (s.dev.scalarWrite role 0x300 0x18 v (fun d => d.wMinSvn v))

/-! ## Recovery (R464, R465) -/

/-- A recovery command: taken in Snowdrop only, and ignored while BUSY is 1. RRESULT then carries its code of Table 15.4. -/
def Dev.recovery (d : Dev) (cmd : Nat) (f : Dev → Dev × Nat) : Dev :=
  if d.su.modState != 3 || bit d.su.rresult 0 then d
  else
    let r := f { d with su := { d.su with rcmd := cmd } }
    { r.1 with su := { r.1.su with rresult := r.1.su.rresult % 2 + r.2 * 256 } }

/-- BEGIN: slot RARG1 erased for an image of RARG0 bytes; BUSY until the erase ends. -/
def Dev.recBegin (d : Dev) : Dev × Nat :=
  if 1 < d.su.rarg1 then (d, 5)
  else if d.su.rarg0 < 5248 || 58720256 < d.su.rarg0 then (d, 1)
  else
    let d1 := d.eraseSlot d.su.rarg1 d.su.rarg0
    ({ d1 with su := { d1.su with rresult := 1 } }, 0)

/-- Bytes of RBUF. -/
def Dev.rbufBytes (d : Dev) (n : Nat) : List Byte := (List.range n).map (fun i => kget 0 i d.su.rbuf)

/-- WRITE: RARG1 bytes of RBUF to the slot at offset RARG0. -/
def Dev.recWrite (d : Dev) : Dev × Nat :=
  if 983040 < d.su.rarg1 then (d, 5) else d.imgWrite d.su.rarg0 (d.rbufBytes d.su.rarg1)

/-- RECOVERY_BEGIN (R465). -/
def execRecoveryBegin (s : State) : Res := ok s (s.dev.recovery 1 Dev.recBegin)

/-- RECOVERY_WRITE (R465). -/
def execRecoveryWrite (s : State) : Res := ok s (s.dev.recovery 2 Dev.recWrite)

/-- RECOVERY_COMMIT (R465). -/
def execRecoveryCommit (s : State) : Res := ok s (s.dev.recovery 3 Dev.imgCommit)

/-- RECOVERY_RESTART (R465): a new start follows after 100 ms. -/
def execRecoveryRestart (s : State) : Res :=
  ok s (s.dev.recovery 4 (fun d => ({ d with su := { d.su with recRestart := true } }, 0)))

/-- RECOVERY_RESTART_TIMER (R465). -/
def execRecoveryRestartTimer (s : State) : Res := ok s (if s.dev.su.recRestart then s.dev.beginStart else s.dev)

/-- CLEAR_FAILS (R465). -/
def execClearFails (s : State) : Res := ok s (s.dev.recovery 5 (fun d => (d.wr K.startFailCount 0, 0)))

/-! ## Credentials, the pair session and the entropy source -/

/-- The sessions that satisfy a test ended; their transfers and snapshots go with them (R441). -/
def Dev.endSessions (d : Dev) (p : Session → Bool) : Dev :=
  { d with mg := { d.mg with sessions := d.mg.sessions.filter (fun x => !p x) } }

/-- The effect of a write of a credential slot: a role and a point, or empty; the sessions opened against it end (R469). -/
def Dev.wCredSlot (d : Dev) (n : Nat) (bs : List Byte) : Dev × Nat :=
  if !(bs.isEmpty || (bs.length == 98 && (leAt bs 0 1 == 1 || leAt bs 0 1 == 2))) then d.outOfRange
  else
    let d1 := { d with su := { d.su with creds := if bs.isEmpty then kdel n d.su.creds else kput n bs d.su.creds } }
    (d1.endSessions (fun x => x.slot == n), 0)

/-- CRED_SLOT (R469). -/
def execCredSlot (role : Role) (n : Nat) (data : List Byte) (s : State) : Res :=
  ok s (s.dev.entryWrite role 0x400 (n + 4) data.length 0 (fun d => d.wCredSlot n data))

/-- The effect of a write of PAIR_PEER: accepted only when its chain and signature verify (R472). -/
def Dev.wPairPeer (d : Dev) (bs : List Byte) : Dev × Nat :=
  d.unless (!Config.peerOk bs) (fun d => { d.wr K.pairKeyState 1 with su := { d.su with pairPeer := bs } })

/-- PAIR_PEER (R472). -/
def execPairPeer (role : Role) (data : List Byte) (s : State) : Res :=
  ok s (s.dev.entryWrite role 0x400 0x0D data.length 0 (fun d => d.wPairPeer data))

/-- ENTROPY_HEALTH_FAILURE (R470): key draws stop. -/
def execEntropyHealthFailure (s : State) : Res :=
  ok s (if s.dev.su.mains then
      { s.dev.inc K.entropyFailures with su := { s.dev.su with entropyBad := true } }
    else s.dev)

/-- KEY_DRAW_TIMEOUT (R470): the enable that waited is refused. -/
def execKeyDrawTimeout (part : Nat) (s : State) : Res := ok s (s.dev.dropKeyWaits (· == part))

end Sys2Proof.Machine
end

