-- ==== Sys2Proof/Machine/Power.lean ====
section
/-! DEFINITION. Throttling, power capping and sensors (R480, R481, R485, R490, R450). -/

namespace Sys2Proof.Machine

/-! ## Readings -/

/-- The reading of a sensor (Table 14.13). -/
def Dev.sensor (d : Dev) (i : Nat) : Option SensorVal := kfind i d.pw.sens

/-- A value of thousandths as binary32, rounded to nearest. -/
def milliF32 (z : Int) : Nat :=
  let n := z.natAbs * 2 ^ 60
  (w32 (.num (decide (z < 0)) (2 * (n / 1000) + (if n % 1000 == 0 then 0 else 1)) (-61))).toNat

/-- The bit of THROTTLE_CAUSE of a sensor (Table 16.9). -/
def causeBit (i : Nat) : Nat := if i == 10 then 6 else i

/-- The level that a sensor demands: 1 at its throttle threshold, one more per degree above it; one that does not report
stands at its critical threshold (R480, R485). -/
def sensorLevel (i : Nat) (v : SensorVal) : Nat :=
  match thresholds i, v with
  | some (t, c, _), .silent => Min.min 3 (1 + (c - t)).toNat
  | some (t, _, _), .reads z => if z < t * 1000 then 0 else Min.min 3 (1 + ((z - t * 1000) / 1000).toNat)
  | none, _ => 0

/-- Whether a sensor is at its shutdown threshold. -/
def sensorShutdown (i : Nat) (v : SensorVal) : Bool :=
  match thresholds i, v with
  | some (_, _, s), .reads z => s * 1000 ≤ z
  | _, _ => false

/-- The state of a sensor as its events carry it (PRESUMED, PLDM: 1 normal, 5 and 8 warning below and above, 9 critical,
10 fatal). INPUT_VOLTAGE has the ratings of R490 as its thresholds. -/
def sensorState (i : Nat) (v : SensorVal) : Nat :=
  if sensorShutdown i v then 10
  else if sensorCritical i v then 9
  else if sensorLevel i v != 0 then 8
  else match i, v with
    | 7, .reads z => if z < 44000 then 5 else if 56000 < z then 8 else 1
    | _, _ => 1

/-- RATINGS_OK (R490): no sensor critical, the input within 44 to 56 V, the coolant inlet within 15 to 45 °C, as far as they
are reported. -/
def Dev.ratingsOk (d : Dev) : Bool :=
  !d.thermalAlarm &&
  (match d.sensor 7 with
    | some (.reads z) => 44000 ≤ z && z ≤ 56000
    | _ => true) &&
  (match d.sensor 5 with
    | some (.reads z) => 15000 ≤ z && z ≤ 45000
    | _ => true)

/-! ## The throttle level (R480) -/

/-- The throttle level: the highest that any cause demands. -/
def Dev.throttleLevel (d : Dev) : Nat :=
  Min.min 3 (d.pw.sens.foldl (fun n e => Max.max n (sensorLevel e.1 e.2)) (Max.max d.pw.demand (d.rd K.throttleForce)))

/-- THROTTLE_CAUSE: the causes that demand a level. -/
def Dev.throttleCause (d : Dev) : Nat :=
  b2n (d.pw.demand != 0) + b2n (d.rd K.throttleForce != 0) * 128 +
  sumBy (fun e : Nat × SensorVal => if sensorLevel e.1 e.2 != 0 then 2 ^ causeBit e.1 else 0) d.pw.sens

/-- ACLK_DIV of a level (Table 16.1). -/
def aclkDiv (level : Nat) : Nat := if level == 0 then 4 else if level == 1 then 5 else if level == 2 then 6 else 8

/-- The level brought in line with its causes; an increase is counted (R480). -/
def Dev.updThrottle (d : Dev) : Dev :=
  let n := d.throttleLevel
  let old := d.rd K.throttleLevel
  let d1 := d.wr K.throttleLevel n
  if old < n then d1.inc K.throttleEvents else d1

/-- The effect of a write of THROTTLE_FORCE. -/
def Dev.wThrottleForce (d : Dev) (v : Nat) : Dev × Nat :=
  if 3 < v then d.outOfRange else ((d.wr K.throttleForce v).updThrottle, 0)

/-- THROTTLE_FORCE (R480). -/
def execThrottleForce (role : Role) (v : Nat) (s : State) : Res :=
  ok s (s.dev.scalarWrite role 0x3000 0x0A v (fun d => d.wThrottleForce v))

/-- POWER_WINDOW (R481): the end of a 1 ms window with its average power. The demand rises by one level above POWER_CAP, and
falls by one after ten windows in a row below 95 % of it. -/
def Dev.powerWindow (d : Dev) (watts : Nat) : Dev :=
  let cap := d.rd K.powerCap
  let low := watts * 100 < cap * 95
  let pw : Pw := { d.pw with sens := kput 9 (.reads (1000 * watts)) d.pw.sens }
  let pw1 : Pw :=
    if cap < watts then { pw with demand := Min.min 3 (pw.demand + 1), lowWins := 0 }
    else if !low then { pw with lowWins := 0 }
    else if pw.lowWins < 9 then { pw with lowWins := pw.lowWins + 1 }
    else { pw with demand := pw.demand - 1, lowWins := 0 }
  ({ d with pw := pw1 }).updThrottle

/-- POWER_WINDOW (R481). -/
def execPowerWindow (watts : Nat) (s : State) : Res := ok s (if s.dev.su.mains then s.dev.powerWindow watts else s.dev)

/-! ## Sensor events (R450, R485) -/

/-- The subindex of 0x3000 that a sensor reads. -/
def sensorSub (i : Nat) : Nat :=
  match i with
  | 1 => 0x0F | 2 => 0x10 | 3 => 0x11 | 4 => 0x12 | 5 => 0x13 | 6 => 0x14 | 7 => 0x0D | 8 => 0x0E | 9 => 0x0C | _ => 0x15

/-- The value of a reading; a sensor that does not report has none, and the entry keeps a free value. -/
def Dev.readingF32 (d : Dev) (v : SensorVal) : Nat :=
  match v with
  | .reads z => milliF32 z
  | .silent => d.free % 2 ^ 32

/-- A crossing reported: to the event receiver, and to the sessions subscribed (R450, Table 14.8). -/
def Dev.sensorEvent (d : Dev) (i st reading : Nat) : Dev :=
  let d1 := match d.mg.receiver with
    | some eid => d.emit (.pldmEvent eid i st reading)
    | none => d
  d1.notify 2 0x3000 (sensorSub i) (i + st * 2 ^ 16 + reading * 2 ^ 24)

/-- THERM_ALARM# follows THERMAL_ALARM, and stays asserted after a thermal shutdown (R485). -/
def Dev.thermPin (d : Dev) (before : Bool) : Dev :=
  let now := d.thermalAlarm || d.flag K.thermalTripped
  if now == before then d else d.emit (.pin 1 now)

/-- A new reading of a sensor: crossings are reported, the throttle level follows, and at a shutdown threshold the main rails
go down. -/
def Dev.sensorReads (d : Dev) (i : Nat) (v : SensorVal) : Dev :=
  let before := d.thermalAlarm || d.flag K.thermalTripped
  let old := match d.sensor i with
    | some x => sensorState i x
    | none => 1
  let st := sensorState i v
  let d1 := { d with pw := { d.pw with sens := kput i v d.pw.sens } }
  let d2 := (if st == old then d1 else (d1.sensorEvent i st (d1.readingF32 v)).drawn).updThrottle
  let d3 := if sensorShutdown i v && d2.su.mains then d2.railsDown.wr K.thermalTripped 1 else d2
  d3.thermPin before

/-- SENSOR_THRESHOLD (R485). -/
def execSensorThreshold (sensor : Nat) (v : SensorVal) (s : State) : Res :=
  ok s (if s.dev.su.standby && 1 ≤ sensor && sensor ≤ 10 then s.dev.sensorReads sensor v else s.dev)

end Sys2Proof.Machine
end

