-- ==== Sys2Proof/Machine/Dict.lean ====
section
/-! DEFINITION. What an entry of the object dictionary reads, and what a write that has passed the checks does (the object
tables of every chapter; R426 to R435). -/

namespace Sys2Proof.Machine

/-! ## Computed entries -/

/-- The version of the image that Larkspur runs; 0 for the mask ROM. -/
def Dev.larkVersion (d : Dev) : Nat := (d.su.lark.map (·.2)).getD 0

/-- Text as the bytes of a VSTR entry (R427). -/
def textBytes (s : String) : List Byte := s.toList.map (fun c => BitVec.ofNat 8 c.toNat)

/-- The number of a slot state (Table 15.7). -/
def SlotSt.code : SlotSt → Nat
  | .empty => 0 | .valid => 1 | .pending => 2 | .failedTrial => 3 | .invalid => 4 | .trial => 5

/-- VERSION_A and VERSION_B: 0 where the slot is EMPTY. -/
def Slot.shown (x : Slot) : Nat := if x.st == .empty then 0 else x.version

/-- The number of a cluster state (Table 05.8). -/
def ClSt.code : ClSt → Nat
  | .active => 0 | .bud => 1 | .takeover => 2 | .testing => 3 | .duplicating => 4 | .retired => 5

/-- The status word of physical cluster `c` (Table 05.9). A halt has removed the stages of its channel, which keeps only the logical
numbers (R174, R189). -/
def Dev.clusterWord (d : Dev) (c : Nat) : Nat :=
  let x := d.clu c
  let l := if x.st == ClSt.active || x.st == ClSt.takeover then x.logical.getD 0xFF else 0xFF
  (match x.chan with
    | some k => if (d.chan k).any (fun y => y.st == .active) then 2 ^ 31 + ctxPart k * 2 ^ 24 else 0
    | none => 0) + l * 2 ^ 16 + x.st.code * 2 ^ 8 + c / 32

/-- The physical clusters in a state. -/
def Dev.clustersIn (d : Dev) (st : ClSt) : Nat := countBy (fun c => (d.clu c).st == st) (List.range 256)

/-- The directory entries in ORPH, of one partition or of all. -/
def Dev.orphans (d : Dev) (p : Option Nat) : Nat :=
  countBy (fun e : Nat × DirE => e.2.st == DirSt.orph && p.all (fun q => e.1 / 2 ^ 42 == q)) d.coh.dir

/-- The tags of a partition's functions in quarantine (R315). -/
def Dev.quarantined (d : Dev) (p : Nat) : Nat :=
  countBy (fun t : OutTag => t.quarantined && t.fn.any (fun f => f.num == p)) d.tags

/-- SHORTFALL of a tier (R396). -/
def Dev.shortfall (d : Dev) (t : Tier) : Nat := d.resvSum t - d.reservable t

/-- T3_DEGRADED: a cartridge is missing or failed (R74). -/
def Dev.t3Degraded (d : Dev) : Bool := (List.range 8).any (fun b => (d.bay b).missing)

/-- GUARANTEE_GAPS (R371): scrub, in-field test, duplication, ratings, Snowdrop. -/
def Dev.guaranteeGaps (d : Dev) : Nat :=
  b2n (!d.flag K.scrubEnable || 24 < d.rd K.scrubPeriodDramH || 7 < d.rd K.scrubPeriodFlashD) +
  2 * b2n (!d.flag K.iftEnable) + 4 * b2n (!d.flag K.dupEnable) + 8 * b2n (!d.ratingsOk) + 16 * b2n (d.su.modState == 3)

/-- RESYNC_PCT: the pages copied, of those to copy, while the pair synchronises. -/
def Dev.resyncPct (d : Dev) : Nat :=
  if d.pr.st == PairSt.syncing && d.pr.copied + d.dirtyCount != 0 then d.pr.copied * 100 / (d.pr.copied + d.dirtyCount) else 0

/-- PORT_STATE (Table 11.20). -/
def Dev.portWord (d : Dev) (p : Nat) : Nat :=
  let x := d.port p
  x.mode.code * 2 ^ 24 + x.speed * 2 ^ 16 + x.width * 2 ^ 8 + x.link.code

/-- BAY_CAP (Table 11.17.A). -/
def bayCapWord (b : Nat) : Nat := b * 2 ^ 19 + 2 ^ 18 + 35 * 2 ^ 7 + 0x7B

/-- The sensor that a subindex of 0x3000 reads (R450). -/
def sensorOfSub (sub : Nat) : Option Nat := ((List.range 11).drop 1).find? (fun i => sensorSub i == sub)

/-- The binary32 of a sensor; before its first report the value is free, but for MODULE_POWER, whose default is 0. -/
def Dev.sensorWord (d : Dev) (i : Nat) : Nat :=
  match d.sensor i with
  | some v => d.readingF32 v
  | none => if i == 9 then 0 else d.free % 2 ^ 32

/-- Scalars of 0x0100 to 0x0400 that are computed. -/
def Dev.rdStart (d : Dev) (k : Nat) : Option Nat :=
  if k = K.stepping then some (Config.stepping % 256)
  else if k = K.dictVersion then some (Config.dictVersion d.larkVersion % 65536)
  else if k = K.moduleState then some d.su.modState
  else if k = K.sessionsOpen then some (countBy (fun x : Session => x.isOpen) d.mg.sessions)
  else if k = K.startStage then some d.su.stage
  else if k = K.versionA then some d.su.slotA.shown
  else if k = K.versionB then some d.su.slotB.shown
  else if k = K.runningVersion then some d.larkVersion
  else if k = K.imageSvn then some d.runningSvn
  else if k = K.credEmpty then some (b2n d.su.creds.isEmpty)
  else if k = K.partitionKeys then some d.su.keys.length
  else none

/-- Scalars of 0x0800 to 0x1307 that are computed. -/
def Dev.rdMemory (d : Dev) (k idx sub : Nat) : Option Nat :=
  if 0x800 ≤ idx ∧ idx < 0x840 ∧ sub = 0x13 then some (d.quarantined (idx - 0x800))
  else if k = K.t1Reservable then some d.t1Reservable
  else if k = K.t2Reservable then some d.t2Reservable
  else if k = K.stagingFree then some d.stagingFree
  else if k = K.t1Shortfall then some (d.shortfall .t1)
  else if k = K.t2Shortfall then some (d.shortfall .t2)
  else if idx = 0x1006 then some (d.wearPct (sub - 1))
  else if k = K.t3Degraded then some (b2n d.t3Degraded)
  else if k = K.rebuildPct then some (if d.bays.any (fun e => e.2.cart == 3) then d.free % 101 else 0)
  else if k = K.sealsActive then some (countBy (fun e : Nat × Obj => e.2.sealing.any (fun x => x.started)) d.mm.objs)
  else if idx = 0x1202 then some (d.viewsOf (sub - 1))
  else if k = K.sharedEnable then some (b2n d.mm.shareOn)
  else if k = K.dirUsed then some d.coh.dir.length
  else if k = K.coarseEntries then some (countBy (fun e : Nat × DirE => e.2.coarse) d.coh.dir)
  else if k = K.orphanedLines then some (d.orphans none)
  else if idx = 0x1303 then some (d.grantsUsed (sub - 1))
  else if idx = 0x1305 then some (countBy (fun e : Nat × Obj => e.2.exported.isSome) (d.objsOf (sub - 1)))
  else if idx = 0x1306 then some (d.orphans (some (sub - 1)))
  else none

/-- Scalars of 0x1800 to 0x1A07 that are computed. -/
def Dev.rdCompute (d : Dev) (k idx sub : Nat) : Option Nat :=
  let p := sub - 1
  if k = K.clustersActive then some d.lmap.length
  else if k = K.budFree then some (d.clustersIn .bud)
  else if k = K.clustersRetired then some (d.clustersIn .retired)
  else if idx = 0x1801 then some (kget 0xFFFF p d.lmap)
  else if idx = 0x1802 then some (d.clusterWord p)
  else if idx = 0x1803 then some (d.clusterWord (128 + p))
  else if k = K.recipeSetVersion then some (2 ^ 24 + Config.recipeSetVersion d.larkVersion % 2 ^ 24)
  else if k = K.programsLoaded then some d.progs.length
  else if k = K.pipelinesLoaded then some d.pipes.length
  else if k = K.channelsLive then some d.chs.chans.length
  else if k = K.syncLive then some d.chs.syncs.length
  else if idx = 0x1A03 then some (d.chansOf p).length
  else if idx = 0x1A04 then some (d.syncsOf p).length
  else if idx = 0x1A06 then some (sumBy (fun e : Nat × Chan => e.2.logical.length) (d.chansOf p))
  else if idx = 0x1A07 then some (sumBy (fun e : Nat × Chan => e.2.fetched.length) (d.chansOf p))
  else none

/-- Scalars of 0x2000 to 0x2104 that are computed. -/
def Dev.rdErrors (d : Dev) (k : Nat) : Option Nat :=
  if k = K.guaranteeActive then some (b2n (d.guaranteeGaps == 0))
  else if k = K.guaranteeGaps then some d.guaranteeGaps
  else if k = K.dramDevicesFailed then some (Min.min 255 d.er.devFailed.length)
  else if k = K.stacksLost then some d.er.stacksLost
  else if k = K.ddrLost then some d.er.ddrLost
  else if k = K.deadheadCount then some d.er.deadhead.length
  else if k = K.deadheadEntry then some (d.er.deadhead.getD (d.rd K.deadheadIndex) 0)
  else if k = K.recommendCount then some d.er.recommend.length
  else if k = K.recommendEntry then some (d.er.recommend.getD (d.rd K.recommendIndex) 0)
  else if k = K.logCount then some d.er.log.length
  else if k = K.logOldest then some ((d.er.log.head?.map (·.seq)).getD 0)
  else if k = K.pairState then some d.pr.st.code
  else if k = K.leaseRemaining then some (if d.pr.lease then d.free % (d.rd K.leaseMs * (100 - d.rd K.leaseMarginPct) / 100 + 1) else 0)
  else if k = K.resyncPct then some d.resyncPct
  else if k = K.dirtyPages then some d.dirtyCount
  else none

/-- Scalars of 0x2800 to 0x3000 that are computed. -/
def Dev.rdModule (d : Dev) (k idx sub : Nat) : Option Nat :=
  if idx = 0x2802 then some (d.portWord (sub - 1))
  else if idx = 0x2805 then some (d.port (sub - 1)).feats
  else if 0x2900 ≤ idx ∧ idx < 0x2908 ∧ sub = 1 then some (bayCapWord (idx - 0x2900))
  else if 0x2900 ≤ idx ∧ idx < 0x2908 ∧ sub = 2 then some (d.bay (idx - 0x2900)).ctrl
  else if 0x2900 ≤ idx ∧ idx < 0x2908 ∧ sub = 3 then some (d.bay (idx - 0x2900)).status
  else if 0x2900 ≤ idx ∧ idx < 0x2908 ∧ sub = 5 then some (d.bay (idx - 0x2900)).cart
  else if k = K.throttleLevel then some d.throttleLevel
  else if k = K.throttleCause then some d.throttleCause
  else if k = K.aclkDiv then some (aclkDiv d.throttleLevel)
  else if k = K.thermalAlarm then some (b2n d.thermalAlarm)
  else if k = K.ratingsOk then some (b2n d.ratingsOk)
  else if idx = 0x3000 then (sensorOfSub sub).map d.sensorWord
  else none

/-- The value of an entry that is a number, or is kept as one: as computed, or as stored (R428). -/
def Dev.odNat (d : Dev) (idx sub : Nat) : Nat :=
  let k := idx * 256 + sub
  let r :=
    if idx < 0x800 then d.rdStart k
    else if idx < 0x1800 then d.rdMemory k idx sub
    else if idx < 0x2000 then d.rdCompute k idx sub
    else if idx < 0x2800 then d.rdErrors k
    else d.rdModule k idx sub
  r.getD (d.rd k)

/-! ## Entries longer than a number -/

/-- RECIPE_INFO of built-in recipe `i`, from Table 07.1: identifier, stages, default and minimum clusters. -/
def recipeInfoBytes (i : Nat) : List Byte :=
  let r : Nat × Nat × Nat :=
    match i with
    | 1 => (1, 2, 1)
    | 2 => (4, 72, 4)
    | 3 => (3, 240, 3)
    | 4 => (1, 2, 1)
    | 5 => (1, 8, 1)
    | _ => (1, 2, 1)
  leBytes 2 i ++ leBytes 1 r.1 ++ leBytes 1 r.2.1 ++ leBytes 1 r.2.2 ++ zeros 3

/-- A GUID as UEFI stores it (PRESUMED): its first three fields little-endian. -/
def guid (a b c e : Nat) : List Byte := leBytes 4 a ++ leBytes 2 b ++ leBytes 2 c ++ (leBytes 8 e).reverse

/-- Error Severity as UEFI numbers it (PRESUMED): 2 corrected, 0 recoverable, 1 fatal. -/
def cperSeverity (s : Nat) : Nat := if s == 0 then 2 else s - 1

/-- The Tvedxon section of a record (Table 12.11). -/
def Sig.section (x : Sig) : List Byte :=
  leBytes 4 0x10000 ++ leBytes 2 x.cls ++ leBytes 1 x.response ++ leBytes 1 x.status ++ leBytes 8 x.detect ++ leBytes 8 x.seq ++
  leBytes 1 x.unitType ++ leBytes 1 x.unit ++ leBytes 1 x.part ++ leBytes 1 x.tier ++ leBytes 4 x.channel ++ leBytes 8 x.offset ++
  leBytes 8 x.frame ++ leBytes 8 x.syndrome ++ leBytes 4 x.count ++ zeros 4 ++ leBytes 8 x.stepFirst ++ leBytes 8 x.stepLast ++
  zeros 16

/-- The 296 bytes of a record (R398): record header, section descriptor, section. The layout around the fields that R398 sets
is that of the UEFI specification (PRESUMED, log entry 50). -/
def Sig.record (x : Sig) : List Byte :=
  let sev := cperSeverity x.severity
  let note := if x.severity == 0 then guid 0x4E292F96 0xD843 0x4A55 0xA8C2D481F27EBEEE
    else guid 0xE8F56FFE 0x919C 0x4CC5 0xBA8865ABE14913BB
  textBytes "CPER" ++ leBytes 2 0x0101 ++ leBytes 4 0xFFFFFFFF ++ leBytes 2 1 ++ leBytes 4 sev ++ leBytes 4 1 ++
  leBytes 4 296 ++ zeros 8 ++ slice Config.uuid 0 16 ++ zeros 16 ++ guid 0x1D84E0A7 0x3C62 0x4F19 0xB5E892A0D76C13F4 ++ note ++
  leBytes 8 x.seq ++ zeros 24 ++
  (leBytes 4 200 ++ leBytes 4 96 ++ leBytes 2 0x0100 ++ zeros 6 ++ guid 0x6E2B9C41 0x57D0 0x4A8E 0x9F130C4B7E2D5A86 ++ zeros 16 ++
    leBytes 4 sev ++ zeros 20) ++ x.section

/-- The record that LOG_RECORD shows. -/
def Dev.logShown (d : Dev) : Option Sig := d.er.log.find? (fun x => x.seq == d.rd K.logReadSeq)

/-- A measurement of Table 15.8, by its index 1 to 7 (R468). -/
def Dev.measurement (d : Dev) (i : Nat) : List Byte :=
  let sec := fun t =>
    match d.su.lark with
    | some (n, _) => Config.sha384 (imgSection (d.imgSlot n).bytes t)
    | none => zeros 48
  slice
    (match i with
    | 1 => Config.sha384 Config.maskRom
    | 6 => d.su.meas6
    | 7 =>
      if d.su.modState == 3 then zeros 48
      else Config.sha384 ((d.mm.progs ++ d.progs ++ d.pipes).flatMap (fun (e : Nat × List Byte) => leBytes 2 e.1 ++ leBytes 4 e.2.length ++ e.2))
    | n => sec (n - 1)) 0 48

/-- CERT_CHAIN: the chain of the device identity key (R466). -/
def Dev.certChain (d : Dev) : List Byte := (Config.certChain d.su.idKey).take 8192

/-- Three counts by tier. -/
def tierCounts (l : List (Nat × Nat)) : List Byte := (List.range 3).flatMap (fun t => leBytes 8 (kget 0 t l))

/-- The entries of 0x0100 to 0x0400 that are bytes. -/
def Dev.bytesStart (d : Dev) (k : Nat) : Option (List Byte) :=
  if k = K.vendor then some (textBytes "Tvedxon")
  else if k = K.product then some (textBytes "Vrelsil")
  else if k = K.partNumber then some (textBytes "VSL-4096-LC")
  else if k = K.serial then some (slice Config.serial 0 12)
  else if k = K.moduleUuid then some (slice Config.uuid 0 16)
  else if k = K.macAddress then some (slice Config.macAddress 0 6)
  else if k = K.ipv4Address then
    some (leBytes 4 (if d.mg.netMode == 0 then 0 else if d.mg.netMode == 2 then d.mg.netStatic else Config.ipAddress d.fresh))
  else if k = K.i3cPid then some (slice Config.i3cPid 0 6)
  else if k = K.slotState then some (leBytes 1 d.su.slotA.st.code ++ leBytes 1 d.su.slotB.st.code)
  else if k = K.certChain then some d.certChain
  else if k = K.measurements then some (((List.range 8).drop 1).flatMap d.measurement)
  else if k = K.pairLocal then some (slice (Config.pairLocal d.su.pairPoint) 0 193)
  else if k = K.pairPeer then some d.su.pairPeer
  else if K.credSlot ≤ k ∧ k < K.credSlot + 8 then some (kget [] (k - K.credSlot) d.su.creds)
  else none

/-- The other entries that are bytes. -/
def Dev.bytesRest (d : Dev) (k idx sub : Nat) : Option (List Byte) :=
  if idx = 0x911 then some ((List.range 4).flatMap (fun r => leBytes 4 (d.shareOf (sub - 1) r)))
  else if idx = 0x1101 then some (if sub = 1 then Config.builtinProgram else kget [] (sub - 1) d.mm.progs)
  else if idx = 0x1901 then some (recipeInfoBytes sub)
  else if 0x1940 ≤ idx ∧ idx < 0x1980 then some (kget [] ((idx - 0x1940) * 16 + sub - 1) d.progs)
  else if 0x1980 ≤ idx ∧ idx < 0x19A0 then some (kget [] ((idx - 0x1980) * 8 + sub - 1) d.pipes)
  else if k = K.scrubPct then some ((List.range 3).flatMap (fun i => leBytes 1 (Config.free (d.fresh + i) % 101)))
  else if k = K.ceCount then some (tierCounts d.er.ce)
  else if k = K.ueCount then some (tierCounts d.er.ue)
  else if k = K.logRecord then some ((d.logShown.map Sig.record).getD [])
  else if 0x2900 ≤ idx ∧ idx < 0x2908 ∧ sub = 6 then some ((d.bay (idx - 0x2900)).serial.take 64)
  else if 0x2900 ≤ idx ∧ idx < 0x2908 ∧ sub = 7 then some ((d.bay (idx - 0x2900)).fw.take 64)
  else none

/-- What an entry reads (R426 to R429). -/
def Dev.odRead (d : Dev) (idx sub : Nat) : List Byte :=
  if sub = 0 then leBytes 1 (dictTop idx)
  else
    match (if idx < 0x800 then d.bytesStart (idx * 256 + sub) else d.bytesRest (idx * 256 + sub) idx sub) with
    | some l => l
    | none => leBytes (entryTy idx sub).len (d.odNat idx sub)

/-- The device as a read of an entry finds it: an arbiter object meets a commit that is still pending or has ended. -/
def Dev.readMeets (d : Dev) (idx : Nat) : Dev :=
  if idx == 0xA00 || (0xA10 ≤ idx && idx ≤ 0xA25) then d.commitMeets else d

/-- The device after a read: values that the manual leaves open are drawn anew. -/
def Dev.readDone (d : Dev) : Dev := d.drawn.drawn.drawn

/-! ## Who may read (R432) -/

/-- Whether the PARTITION role of `p` may read an entry of a row (the owning chapters). -/
def Dev.rowReads (d : Dev) (p idx sub : Nat) (r : DRow) : Bool :=
  match r.prd with
  | .all => true
  | .none => false
  | .own => sub == p + 1
  | .ownIdx => idx == 0x800 + p
  | .cls => d.bound (sub - 1) p
  | .port => d.presented (sub - 1) p
  | .cluster =>
    let c := if idx == 0x1801 then kget 256 (sub - 1) d.lmap else if idx == 0x1802 then sub - 1 else 127 + sub
    (d.clu c).chan.any (fun k => ctxPart k == p)
  | .slot =>
    let e := d.slot ((idx - 0x1310) * 128 + sub - 1)
    slState e != 0 && slPartition e == p
  | .manifest => bit (leAt (kget [] ((idx - 0x1980) * 8 + sub - 1) d.pipes) 8 8) p
  | .logrec => d.logShown.any (fun x => x.part == p)

/-- Whether the PARTITION role of `p` may read an entry. Subindex 0 is read where an entry of its index may be (DEDUCED, log
entry 51). -/
def Dev.partReads (d : Dev) (p idx sub : Nat) : Bool :=
  if sub == 0 then
    dictRows.any (fun r => r.il ≤ idx && idx ≤ r.ih && r.prd != .none && (r.prd != .ownIdx || idx == 0x800 + p))
  else match dictRow idx sub with
    | some r => d.rowReads p idx sub r
    | none => false

/-- Whether an entry is secret (Table 15.10). -/
def secretEntry (idx sub : Nat) : Bool := idx == 0x400 && 4 ≤ sub && sub ≤ 0x0B

/-- Whether a role may read an entry (R432). -/
def Dev.roleReads (d : Dev) (r : Role) (idx sub : Nat) : Bool :=
  match r with
  | .fabric => true
  | .observer => !secretEntry idx sub
  | .partition p => d.partReads p idx sub

/-- The first check of Table 14.4 that a read fails. -/
def Dev.readRefuse (d : Dev) (r : Role) (idx sub : Nat) : Option Nat :=
  if !idxExists idx then some 0x01
  else if !subExists idx sub then some 0x02
  else if d.unavailable idx then some 0x03
  else if !d.roleReads r idx sub then some 0x04
  else if entryAcc idx sub == .wo then some 0x05
  else none

/-- The first check that a READ_CLEAR fails: it reads, and writes all that it returns. -/
def Dev.clearRefuse (d : Dev) (r : Role) (me : Option Nat) (idx sub : Nat) : Option Nat :=
  if !idxExists idx then some 0x01
  else if !subExists idx sub then some 0x02
  else if d.unavailable idx then some 0x03
  else if !roleMayWrite r idx sub then some 0x04
  else if entryAcc idx sub != .rwc then some 0x05
  else if d.segBusy me idx sub then some 0x09
  else none

/-! ## DESCRIBE (Table 14.7) -/

/-- The type code (Table 14.1). -/
def Ty.code : Ty → Nat
  | .bool => 1 | .u8 => 2 | .u16 => 3 | .u32 => 4 | .u64 => 5 | .f32 => 8 | .vstr _ => 9 | .fixed _ => 0x0A | .octets _ => 0x0A

/-- The access code (Table 14.2). -/
def Acc.code : Acc → Nat
  | .const => 1 | .ro => 2 | .rw => 3 | .wo => 4 | .rwc => 5

/-- Whether an entry keeps its value across a fundamental reset (Table 14.5). -/
def entryPersists (idx sub : Nat) : Bool :=
  let k := idx * 256 + sub
  [K.ipv4Mode, K.ipv4Static, K.ipv6Enable, K.udpPort, K.enwaryEnable, K.sessionIdleS, K.startFailCount, K.startFailLimit,
    K.lastStartCause, K.lastFailReason, K.activeSlot, K.slotState, K.autoConfirm, K.snowdropForce, K.starts, K.minSvn,
    K.t3BytesWritten, K.mirrorFormatCommit, K.clustersRetired].contains k ||
  secretEntry idx sub || idx == 0x1802 || idx == 0x1803 || idx == 0x1006 || idx == 0x2010 || idx == 0x2020 ||
  (0x2900 ≤ idx && idx ≤ 0x2907 && (sub == 8 || sub == 9))

/-- The rights byte of DESCRIBE. -/
def Dev.rights (d : Dev) (r : Role) (idx sub : Nat) : Nat :=
  let a := entryAcc idx sub
  b2n (d.roleReads r idx sub && a != .wo) + 2 * b2n (roleMayWrite r idx sub && a != .const && a != .ro)

/-- The default of a scalar entry. -/
def entryDefault (idx sub : Nat) : Nat :=
  if sub == 0 then dictTop idx
  else if (entryTy idx sub).scalar && !secretEntry idx sub then dictDefault (idx * 256 + sub) else 0

/-- The 16 bytes of DESCRIBE. -/
def Dev.describeBytes (d : Dev) (r : Role) (idx sub : Nat) : List Byte :=
  leBytes 1 (entryTy idx sub).code ++ leBytes 1 (entryAcc idx sub).code ++ leBytes 1 (d.rights r idx sub) ++
  leBytes 1 (b2n (entryPersists idx sub)) ++ leBytes 4 (entryTy idx sub).len ++ leBytes 8 (entryDefault idx sub)

/-- The first check that a DESCRIBE fails (R434). -/
def describeRefuse (idx sub : Nat) : Option Nat :=
  if !idxExists idx then some 0x01 else if !subExists idx sub then some 0x02 else none

/-! ## Writes -/

/-- The bits of a value cleared (R428). -/
def Dev.rwcWrite (d : Dev) (idx sub v : Nat) : Dev :=
  if 0x2900 ≤ idx ∧ idx < 0x2908 ∧ sub = 3 then
    let b := idx - 0x2900
    let x := d.bay b
    d.setBay b { x with status := x.status - (x.status &&& v &&& 0x10B) }
  else
    let k := idx * 256 + sub
    d.wr k (d.rd k - (d.rd k &&& v))

/-- A write of BAR2_LOG2 or BAR2_OFFSET: the offset is a multiple of the size as written and of the sizes in effect, and the
window ends below 2^48 at each (Table 10.12). -/
def Dev.bar2Bad (d : Dev) (p log2 off : Nat) : Bool :=
  (log2 :: (d.fns.filter (fun e => e.1 % 64 == p && d.presented (e.1 / 64) p && e.2.bar2On)).map (fun e => e.2.bar2Log2)).any
    (fun n => off % 2 ^ n != 0 || 2 ^ 48 < off + 2 ^ n)

/-- Writes of a partition descriptor (Table 10.12). -/
def Dev.writePart (d : Dev) (role : Role) (p sub v : Nat) : Dev × Nat :=
  let k := (0x800 + p) * 256 + sub
  match sub with
  | 0x01 => d.wEnable p v
  | 0x02 => d.unless (d.enabled p) (fun d => d.wr k v)
  | 0x07 => d.unless (d.bar2Bad p v (d.rd (K.ofPart K.bar2Offset p))) (fun d => d.wr k v)
  | 0x08 => if d.bar2Bad p (d.rd (K.ofPart K.bar2Log2 p)) v then d.outOfRange else (d.wr k v, 0)
  | 0x0A => d.wFence p v
  | 0x0B => d.wReset p
  | 0x0D => d.wClusterReset role v
  | _ => d.store k v

/-- Writes of 0x0200 to 0x0400. -/
def Dev.writeStart (d : Dev) (k idx sub v : Nat) (bs : List Byte) : Dev × Nat :=
  if idx = 0x200 then
    (if [2, 3, 5, 6, 7].contains sub then { d.wr k v with mg := { d.mg with netPending := true } } else d.wr k v, 0)
  else if k = K.startFailCount then d.wStartFailCount v
  else if k = K.imageConfirm then d.wImageConfirm v
  else if k = K.restart then d.wRestart v
  else if k = K.updateBegin then d.wUpdateBegin v
  else if k = K.updateData then d.wUpdateData bs
  else if k = K.updateCommit then d.wUpdateCommit v
  else if k = K.minSvn then d.wMinSvn v
  else if idx = 0x400 ∧ sub = 0x0D then d.wPairPeer bs
  else if idx = 0x400 then d.wCredSlot (sub - 4) bs
  else d.store k v

/-- A write of GRANT_QUOTA: the sum over partitions stays within the records (Table 04.10). -/
def Dev.wGrantQuota (d : Dev) (p v : Nat) : Dev × Nat :=
  d.unless (65536 < sumBy (fun q => if q == p then v else d.rd (K.grantQuota + q)) (List.range 64)) (fun d => d.wr (K.grantQuota + p) v)

/-- A write of a route entry (Table 04.2): its bits between the fields are zero, and LAST is not below FIRST where it names
ports. Hosts that lose their route are lost, lenders too. -/
def Dev.wRoute (d : Dev) (k v : Nat) : Dev × Nat :=
  if fld v 22 2 != 0 || (fld v 0 22 != 0 && fld v 24 20 < fld v 44 20) then d.outOfRange
  else ((d.wr k v).afterRoutes, 0)

/-- Writes of 0x0900 to 0x132F. -/
def Dev.writeMemory (d : Dev) (k idx sub v : Nat) (bs : List Byte) : Dev × Nat :=
  let n := sub - 1
  if k = K.q0ReservePct then d.wQ0Reserve v
  else if idx = 0x901 then d.wClassPartitions n v
  else if 0x902 ≤ idx ∧ idx < 0x906 then d.wBudget (idx - 0x902) n v
  else if 0x906 ≤ idx ∧ idx < 0x90A then d.wCap (idx - 0x906) n v
  else if idx = 0x910 then d.wLsClass n false v
  else if k = K.arbCommit then d.wArbCommit v
  else if 0xA10 ≤ idx ∧ idx < 0xA16 then d.wShadow (idx - 0xA10) n v
  else if 0x1001 ≤ idx ∧ idx < 0x1005 then d.wReservation (tierOf (idx - 0x1001)) n v
  else if idx = 0x1005 then d.wLend n v
  else if idx = 0x1101 then d.wProgramImage n bs
  else if idx = 0x1102 then d.wLsClass n true v
  else if k = K.srSeed then (d.drawn, 0)
  else if k = K.sharedEnable then d.wSharedEnable v
  else if idx = 0x1302 then d.wGrantQuota n v
  else if idx = 0x1304 then d.wRoute k v
  else if 0x1310 ≤ idx ∧ idx < 0x1330 then d.wHostSlot ((idx - 0x1310) * 128 + n) v
  else d.store k v

/-- Writes of 0x1800 to 0x2104. -/
def Dev.writeCompute (d : Dev) (k idx sub v : Nat) (bs : List Byte) : Dev × Nat :=
  let n := sub - 1
  if k = K.clusterRetire then d.wClusterRetire v
  else if 0x1940 ≤ idx ∧ idx < 0x1980 then d.wProgram ((idx - 0x1940) * 16 + n) bs
  else if 0x1980 ≤ idx ∧ idx < 0x19A0 then d.wPipeline ((idx - 0x1980) * 8 + n) bs
  else if idx = 0x1A01 then d.wQuota false n v
  else if idx = 0x1A02 then d.wQuota true n v
  else if k = K.deadheadAdd then d.wDeadheadAdd v
  else if k = K.deadheadIndex then (if v < d.er.deadhead.length then d.store k v else d.outOfRange)
  else if k = K.recommendDismiss then d.wRecommendDismiss v
  else if k = K.moduleId then d.wModuleId false v
  else if k = K.partnerId then d.wModuleId true v
  else if k = K.pairEnable then d.wPairEnable v
  else if k = K.leaseRenew then d.wLeaseRenew v
  else if k = K.mirrorFormatCommit then d.wMirrorFormatCommit v
  else if k = K.handover then d.wHandover v
  else if idx = 0x2101 then d.wPairRole n false v
  else if idx = 0x2102 then d.wPairRole n true v
  else if idx = 0x2103 ∨ idx = 0x2104 then d.wMirrorRange ((idx - 0x2103) * 128 + n) v
  else d.store k v

/-- Writes of 0x2800 to 0x3000. -/
def Dev.writeModule (d : Dev) (k idx sub v : Nat) : Dev × Nat :=
  let n := sub - 1
  if k = K.bypassForce then d.wBypassForce v
  else if k = K.bayCtrlPort then (if v < 22 || v == 255 then d.store k v else d.outOfRange)
  else if idx = 0x2801 then (if 22 ≤ n && v != 1 && v != 4 then d.outOfRange else d.store k v)
  else if idx = 0x2804 then (if v < 64 || v == 255 then d.store k v else d.outOfRange)
  else if idx = 0x2806 then d.wRetrain n v
  else if 0x2900 ≤ idx ∧ idx < 0x2908 ∧ sub = 2 then d.wBayCtrl (idx - 0x2900) v
  else if k = K.throttleForce then d.wThrottleForce v
  else d.store k v

/-- The effect of a write that has passed the checks up to RANGE, and its result (R431). -/
def Dev.odWrite (d : Dev) (role : Role) (idx sub : Nat) (bs : List Byte) : Dev × Nat :=
  let k := idx * 256 + sub
  let v := leNat bs
  if entryAcc idx sub == .rwc then (d.rwcWrite idx sub v, 0)
  else if idx < 0x800 then d.writeStart k idx sub v bs
  else if idx < 0x840 then d.writePart role (idx - 0x800) sub v
  else if idx < 0x1800 then d.writeMemory k idx sub v bs
  else if idx < 0x2800 then d.writeCompute k idx sub v bs
  else d.writeModule k idx sub v

/-- A whole-entry write with its checks (R434): the device after it, and the result. -/
def Dev.odTry (d : Dev) (role : Role) (me : Option Nat) (idx sub : Nat) (bs : List Byte) : Dev × Nat :=
  match d.odRefuse role me idx sub bs.length (leNat bs) with
  | some c => (d, c)
  | none => d.odWrite role idx sub bs

end Sys2Proof.Machine
end

