-- ==== Sys2Proof/Machine/Enwary.lean ====
section
/-! DEFINITION. Enwary sessions and operations over Ethernet and MCTP (R436 to R446). -/

namespace Sys2Proof.Machine

/-! ## Sessions (R439 to R441) -/

/-- The session of a number. -/
def Dev.session (d : Dev) (n : Nat) : Option Session := d.mg.sessions.find? (fun x => x.num == n)

/-- A session changed. -/
def Dev.setSession (d : Dev) (n : Nat) (f : Session → Session) : Dev :=
  { d with mg := { d.mg with sessions := d.mg.sessions.map (fun (x : Session) => if x.num == n then f x else x) } }

/-- Whether a transport is Ethernet. -/
def onEthernet (t : Transport) : Bool := t == .ethernet

/-- Whether messages of a transport reach Larkspur: Enwary over UDP is on and an address family is in use (R451). -/
def Dev.transportUp (d : Dev) (t : Transport) : Bool :=
  d.served && (!onEthernet t || (d.mg.netEnable && (d.mg.netMode != 0 || d.mg.netIpv6)))

/-- Whether a session of a transport is free: 8 over Ethernet and 4 over MCTP (R441). -/
def Dev.sessionFree (d : Dev) (t : Transport) : Bool :=
  countBy (fun x : Session => onEthernet x.tr == onEthernet t) d.mg.sessions < (if onEthernet t then 8 else 4)

/-- A session that awaits its AUTH. -/
def Session.opening (n : Nat) (t : Transport) (fabric : Bool) (slot : Nat) : Session :=
  ⟨n, t, fabric, slot, false, 0, ⟨0, []⟩, none, none, 0, [], 1, false⟩

/-- OPEN answered with CHALLENGE and a new session number, or with SESSION when none is free; a role that does not exist is a
bad payload. -/
def Dev.openSession (d : Dev) (t : Transport) (roleReq slot : Nat) : Dev :=
  if roleReq != 1 && roleReq != 2 then d.emit (.challenge 0 0x0D 0)
  else if !d.sessionFree t then d.emit (.challenge 0 0x0B 0)
  else
    let n := d.mg.nextSess
    ({ d.drawn with mg := { d.mg with
        sessions := d.mg.sessions ++ [Session.opening n t (roleReq == 1) slot], nextSess := n + 1 } }).emit (.challenge n 0 d.free)

/-- ENWARY_OPEN (R439). -/
def execEnwaryOpen (t : Transport) (roleReq slot : Nat) (s : State) : Res :=
  ok s (if s.dev.transportUp t then s.dev.openSession t roleReq slot else s.dev)

/-- Whether an AUTH is accepted: the slot holds the role asked for and its key verifies the proof; the service slot and the
provisioning slot act as R469 says. -/
def Dev.authGood (d : Dev) (x : Session) (proof : Nat) : Bool :=
  if x.slot == 0xFE then x.fabric && Config.authOk Config.serviceKey x.num proof
  else if x.slot == 0xFF then !onEthernet x.tr && x.fabric && d.su.creds.isEmpty && proof == 0
  else match kfind x.slot d.su.creds with
    | some c => leAt c 0 1 == (if x.fabric then 1 else 2) && Config.authOk c x.num proof
    | none => false

/-- A failed opening: the number is freed and the failure counted. -/
def Dev.authFail (d : Dev) (n : Nat) : Dev := (d.endSessions (fun x => x.num == n)).inc K.authFailures

/-- AUTH of a session. -/
def Dev.authSession (d : Dev) (x : Session) (proof : Nat) : Dev :=
  if d.authGood x proof then (d.setSession x.num (fun y => { y with isOpen := true })).emit (.enwary x.num 0 0 [])
  else (d.authFail x.num).emit (.enwary x.num 0 0x0C [])

/-- AUTH (R439). -/
def execAuth (sess proof : Nat) (s : State) : Res :=
  ok s (let d := s.dev
    match d.session sess with
    | some x => if !d.transportUp x.tr then d else if x.isOpen then d.emit (.enwary sess 0 0x0B []) else d.authSession x proof
    | none => if d.served then d.emit (.enwary sess 0 0x0B []) else d)

/-- AUTH_TIMEOUT (R439). -/
def execAuthTimeout (sess : Nat) (s : State) : Res :=
  ok s (match s.dev.session sess with
    | some x => if x.isOpen then s.dev else s.dev.authFail sess
    | none => s.dev)

/-! ## Requests (R440) -/

/-- Whether a request of a session still executes: a write of ENABLE that waits for a key (R470). -/
def Dev.sessBusy (d : Dev) (n : Nat) : Bool :=
  d.su.keyWaits.any (fun e => match e.2 with
    | .sess m _ => m == n
    | _ => false)

/-- An answer kept and sent. -/
def Dev.answer (d : Dev) (m : MsgHdr) (a : Answer) : Dev :=
  (d.setSession m.sess (fun x => { x with lastSeq := m.seq, lastAns := a })).emit (.enwary m.sess m.seq a.code a.payload)

/-- The message of a session that a request may run in: known, its transport up, its MAC good (R439). -/
def Dev.withSession (d : Dev) (m : MsgHdr) (f : Session → Dev) : Dev :=
  match d.session m.sess with
  | none => if d.served then d.emit (.enwary m.sess m.seq 0x0B []) else d
  | some x =>
    if !d.transportUp x.tr then d
    else if !x.isOpen then d.emit (.enwary m.sess m.seq 0x0B [])
    else if !m.macOk then d.inc K.macFailures
    else f x

/-- A request acts by its SEQ: the next one runs, the last one is answered again, any other is discarded (R440). -/
def Dev.asked (d : Dev) (m : MsgHdr) (run : Session → Dev) : Dev :=
  d.withSession m (fun x =>
    if d.sessBusy m.sess then d.inc K.discarded
    else if m.seq == x.lastSeq + 1 then run x
    else if m.seq == x.lastSeq && x.lastSeq != 0 then d.emit (.enwary m.sess m.seq x.lastAns.code x.lastAns.payload)
    else d.inc K.discarded)

/-- The role of a session. -/
def Session.role (x : Session) : Role := if x.fabric then .fabric else .observer

/-- The address block of an entry operation (R437). -/
def addrBlock (idx sub off count : Nat) : List Byte := leBytes 2 idx ++ leBytes 1 sub ++ zeros 1 ++ leBytes 4 off ++ leBytes 4 count

/-- Whether a provisioning session asks for something else than a write of a credential slot while every slot is empty: the
first act of such a session must be that write (R469; answered with ROLE, log entry 52). -/
def Dev.provisioning (d : Dev) (x : Session) : Bool := x.slot == 0xFF && d.su.creds.isEmpty

/-- CLOSE (R441). -/
def execClose (m : MsgHdr) (s : State) : Res :=
  ok s (s.dev.asked m (fun _ => (s.dev.answer m ⟨0, []⟩).endSessions (fun x => x.num == m.sess)))

/-- KEEPALIVE (R438). -/
def execKeepalive (m : MsgHdr) (s : State) : Res := ok s (s.dev.asked m (fun _ => s.dev.answer m ⟨0, []⟩))

/-! ## Reads -/

/-- A refusal of an entry operation: its result and address block. -/
def Dev.refuseOp (d : Dev) (m : MsgHdr) (code idx sub : Nat) : Dev := d.answer m ⟨code, addrBlock idx sub 0 0⟩

/-- Bytes `off` on of a value, at most `len`, as READ returns them. -/
def readAnswer (idx sub off len : Nat) (v : List Byte) : Answer :=
  let r := (v.drop off).take len
  ⟨0, addrBlock idx sub off r.length ++ r⟩

/-- READ at offset 0 takes a snapshot; elsewhere it is served from the snapshot of that entry (R442). -/
def Dev.readEntry (d : Dev) (m : MsgHdr) (x : Session) (idx sub off len : Nat) : Dev :=
  if off == 0 then
    let d := d.readMeets idx
    let v := d.odRead idx sub
    (d.readDone.setSession m.sess (fun y => { y with snap := some (idx, sub, v) })).answer m (readAnswer idx sub 0 len v)
  else match x.snap with
    | some (i, b, v) => if i == idx && b == sub then d.answer m (readAnswer idx sub off len v) else d.refuseOp m 0x0A idx sub
    | none => d.refuseOp m 0x0A idx sub

/-- ENWARY_READ (R442). -/
def execEnwaryRead (m : MsgHdr) (idx sub off len : Nat) (s : State) : Res :=
  ok s (let d := s.dev
    d.asked m (fun x =>
      if len == 0 || 1024 < len then d.refuseOp m 0x0D idx sub
      else match d.readRefuse x.role idx sub with
        | some c => d.refuseOp m c idx sub
        | none => if d.provisioning x then d.refuseOp m 0x04 idx sub else d.readEntry m x idx sub off len))

/-- READ_CLEAR (R428): the bits returned are cleared in the same step. -/
def execReadClear (m : MsgHdr) (idx sub : Nat) (s : State) : Res :=
  ok s (let d := s.dev
    d.asked m (fun x =>
      match d.clearRefuse x.role (some x.num) idx sub with
      | some c => d.refuseOp m c idx sub
      | none =>
        if d.provisioning x then d.refuseOp m 0x04 idx sub
        else
          let v := d.odRead idx sub
          (d.rwcWrite idx sub (leNat v)).answer m (readAnswer idx sub 0 v.length v)))

/-- DESCRIBE (R434). -/
def execDescribe (m : MsgHdr) (idx sub : Nat) (s : State) : Res :=
  ok s (let d := s.dev
    d.asked m (fun x =>
      match describeRefuse idx sub with
      | some c => d.refuseOp m c idx sub
      | none => d.answer m ⟨0, d.describeBytes x.role idx sub⟩))

/-- The indexes that exist from `first` on, in ascending order, at most 256 (Table 14.7). -/
def indexesFrom (first : Nat) : List Nat :=
  (((dictRows.flatMap (fun r => (List.range (r.ih + 1 - r.il)).map (fun i => r.il + i))).eraseDups).filter
    (fun i => first ≤ i)).take 256

/-- ENUMERATE (R438). -/
def execEnumerate (m : MsgHdr) (first : Nat) (s : State) : Res :=
  ok s (s.dev.asked m (fun _ =>
    s.dev.answer m ⟨0, (indexesFrom first).flatMap (fun i => leBytes 2 i ++ leBytes 1 (dictTop i) ++ zeros 1)⟩))

/-! ## Writes -/

/-- The newest enable that waits for a key given its asker. -/
def Dev.askedBy (d : Dev) (a : Asker) : Dev :=
  { d with su := { d.su with keyWaits := match d.su.keyWaits.getLast? with
      | some e => d.su.keyWaits.dropLast ++ [(e.1, a)]
      | none => [] } }

/-- A whole-entry write in a session, and its answer, now or when its result comes. -/
def Dev.writeEntry (d : Dev) (m : MsgHdr) (x : Session) (idx sub : Nat) (bs : List Byte) (a : List Byte) : Dev :=
  let r := d.odTry x.role (some x.num) idx sub bs
  if r.2 == resultWaits then
    (r.1.askedBy (.sess m.sess m.seq)).setSession m.sess (fun y => { y with lastSeq := m.seq, lastAns := Answer.mk 0 [] })
  else r.1.answer m ⟨r.2, a⟩

/-- ENWARY_WRITE (R430). -/
def execEnwaryWrite (m : MsgHdr) (idx sub : Nat) (data : List Byte) (s : State) : Res :=
  ok s (let d := s.dev
    d.asked m (fun x =>
      if 1024 < data.length then d.refuseOp m 0x0D idx sub
      else if d.provisioning x && !secretEntry idx sub then d.refuseOp m 0x04 idx sub
      else d.writeEntry m x idx sub data (addrBlock idx sub 0 data.length)))

/-! ## Segmented writes (R443) -/

/-- The transfer of a session discarded. -/
def Dev.dropSeg (d : Dev) (n : Nat) : Dev := d.setSession n (fun x => { x with seg := none })

/-- The first check that a SEG_BEGIN fails: those of the write itself but for its value. -/
def Dev.segRefuse (d : Dev) (x : Session) (idx sub total : Nat) : Option Nat :=
  if total == 0 || 65536 < total then some 0x0D
  else if !idxExists idx then some 0x01
  else if !subExists idx sub then some 0x02
  else if d.unavailable idx then some 0x03
  else if !roleMayWrite x.role idx sub || (d.provisioning x && !secretEntry idx sub) then some 0x04
  else if entryAcc idx sub == .const || entryAcc idx sub == .ro then some 0x05
  else if !(entryTy idx sub).fits total then some 0x06
  else if d.segBusy (some x.num) idx sub then some 0x09
  else none

/-- SEG_BEGIN (R443): a transfer already open in the session gives way. -/
def execSegBegin (m : MsgHdr) (idx sub total : Nat) (s : State) : Res :=
  ok s (let d := s.dev
    d.asked m (fun x =>
      match d.segRefuse x idx sub total with
      | some c => d.refuseOp m c idx sub
      | none =>
        (d.setSession m.sess (fun y => { y with seg := some (SegXfer.mk idx sub total []) })).answer m ⟨0, addrBlock idx sub 0 total⟩))

/-- SEG_DATA (R443): the next segment in order, or the transfer is discarded. -/
def execSegData (m : MsgHdr) (off : Nat) (data : List Byte) (s : State) : Res :=
  ok s (let d := s.dev
    d.asked m (fun x =>
      match x.seg with
      | none => d.refuseOp m 0x0A 0 0
      | some g =>
        if data.length == 0 || 1024 < data.length then d.refuseOp m 0x0D g.idx g.sub
        else if off != g.got.length || g.total < off + data.length then (d.dropSeg m.sess).refuseOp m 0x0A g.idx g.sub
        else
          (d.setSession m.sess (fun y => { y with seg := some { g with got := g.got ++ data } })).answer m
            ⟨0, addrBlock g.idx g.sub off data.length⟩))

/-- SEG_END (R443): the whole value checked and applied as one write; one that is not complete is out of order. -/
def execSegEnd (m : MsgHdr) (_crc : Nat) (s : State) : Res :=
  ok s (let d := s.dev
    d.asked m (fun x =>
      match x.seg with
      | none => d.refuseOp m 0x0A 0 0
      | some g =>
        if g.got.length != g.total then (d.dropSeg m.sess).refuseOp m 0x0A g.idx g.sub
        else (d.dropSeg m.sess).writeEntry m x g.idx g.sub g.got (addrBlock g.idx g.sub 0 g.total)))

/-- SEGMENT_TIMEOUT (R442, R443): a transfer that stood still for 2 s is discarded; with none open, the read snapshot is (log
entry 53). -/
def execSegmentTimeout (sess : Nat) (s : State) : Res :=
  ok s (s.dev.setSession sess (fun x => if x.seg.isSome then { x with seg := none } else { x with snap := none }))

/-! ## Notifications (R444) -/

/-- SUBSCRIBE (R444): the classes of Table 14.8 in force. -/
def execSubscribe (m : MsgHdr) (mask : Nat) (s : State) : Res :=
  ok s (s.dev.asked m (fun _ =>
    (s.dev.setSession m.sess (fun y => { y with mask := mask % 64 })).answer m ⟨0, leBytes 4 (mask % 64)⟩))

/-- NOTIFY_ACK (R444): it has no response and stands outside the client's SEQ series (log entry 54). -/
def execNotifyAck (m : MsgHdr) (seq : Nat) (s : State) : Res :=
  ok s (s.dev.withSession m (fun _ =>
    s.dev.setSession m.sess (fun y => { y with queue := y.queue.filter (fun n => n.seq != seq) })))

/-- NOTIFY_RESEND (R444): the notifications of a session that no acknowledgement has met are sent again, each five times at
most. -/
def execNotifyResend (sess : Nat) (s : State) : Res :=
  ok s (match s.dev.session sess with
    | some x =>
      if !s.dev.transportUp x.tr then s.dev
      else
        let due := x.queue.filter (fun n => n.sends ≤ 5)
        (s.dev.setSession sess (fun y => { y with queue := y.queue.map (fun n => if n.sends ≤ 5 then { n with sends := n.sends + 1 } else n) })).emits
          (due.map (fun n => Out.notify sess n))
    | none => s.dev)

/-! ## Ends of sessions (R441, R451) -/

/-- SESSION_IDLE_EXPIRY (R441). -/
def execSessionIdleExpiry (sess : Nat) (s : State) : Res :=
  ok s (s.dev.endSessions (fun x => x.num == sess && x.isOpen))

/-- NETWORK_CONFIG_APPLY (R451): a pending change of the network entries takes effect; Ethernet sessions end. -/
def execNetworkConfigApply (s : State) : Res :=
  ok s (if s.dev.mg.netPending && s.dev.served then s.dev.netApply.endSessions (fun x => onEthernet x.tr) else s.dev)

/-! ## Datagrams (R436 to R438, Tables 14.6 and 14.7) -/

/-- What an operation of Table 14.7 does, by its opcode and payload; none where no such operation exists or the payload has a bad
length. AUTH names its signature; the rest of what opens a session is beyond the model's keys (log entry 52). -/
def enwaryOp (t : Transport) (m : MsgHdr) (op : Nat) (pay : List Byte) (s : State) : Option Res :=
  let idx := leAt pay 0 2
  let sub := leAt pay 2 1
  let off := leAt pay 4 4
  let count := leAt pay 8 4
  let msg := fun n r => if pay.length == n then some r else none
  match op with
  | 0x01 => if m.sess == 0 then msg 36 (execEnwaryOpen t (leAt pay 0 1) (leAt pay 1 1) s) else none
  | 0x03 => msg 193 (execAuth m.sess (leAt pay 97 96) s)
  | 0x04 => msg 0 (execClose m s)
  | 0x05 => msg 0 (execKeepalive m s)
  | 0x10 => msg 12 (execEnwaryRead m idx sub off count s)
  | 0x11 => if 12 ≤ pay.length && off == 0 && count == pay.length - 12 then some (execEnwaryWrite m idx sub (pay.drop 12) s) else none
  | 0x12 => msg 12 (execReadClear m idx sub s)
  | 0x13 => msg 12 (execDescribe m idx sub s)
  | 0x14 => msg 4 (execEnumerate m idx s)
  | 0x20 => msg 12 (execSegBegin m idx sub count s)
  | 0x21 => if 12 ≤ pay.length && count == pay.length - 12 then some (execSegData m off (pay.drop 12) s) else none
  | 0x22 => msg 12 (execSegEnd m 0 s)
  | 0x30 => msg 4 (execSubscribe m (leAt pay 0 4) s)
  | 0x32 => msg 4 (execNotifyAck m (leAt pay 0 4) s)
  | _ => none

/-- A datagram from a client; `macOk` says whether its MAC verifies. One that does not carry one message of its own length is discarded
and counted (R436); a bad header, an unknown operation or a bad payload length is MALFORMED (R434). -/
def enwaryDatagram (t : Transport) (macOk : Bool) (bs : List Byte) (s : State) : Res :=
  let op := leAt bs 1 1
  let len := leAt bs 0x0C 2
  let mac := op != 0x01 && op != 0x03
  let m : MsgHdr := ⟨leAt bs 4 4, leAt bs 8 4, macOk⟩
  let d := s.dev
  if !d.transportUp t then ok s d
  else if 1040 < len || bs.length != 16 + len + (if mac then 16 else 0) then ok s (d.inc K.discarded)
  else if leAt bs 0 1 != 1 || leAt bs 2 2 != (if mac then 2 else 0) || leAt bs 0x0E 2 != 0 then ok s (d.emit (.enwary m.sess m.seq 0x0D []))
  else (enwaryOp t m op (slice bs 16 len) s).getD (ok s (d.emit (.enwary m.sess m.seq 0x0D [])))

end Sys2Proof.Machine
end

