-- ==== Sys2Proof/Machine/Mailbox.lean ====
section
/-! DEFINITION. The BAR0 mailbox of a function (R447 to R449). Each operation is one command and is over when it has been
carried out, so BUSY is never seen set (log entry 11). -/

namespace Sys2Proof.Machine

/-- The role of a mailbox: PARTITION, or in Snowdrop OBSERVER (R448, R449). -/
def Dev.mbRole (d : Dev) (f : FnId) : Role := if d.su.modState == 3 then .observer else .partition f.num

/-- The refusal of a mailbox operation before the checks of Table 14.4: outside Snowdrop, a placeholder serves reads of 0x0100
only, and a disabled partition nothing (R448, R449). -/
def Dev.mbBarred (d : Dev) (f : FnId) (read : Bool) (idx : Nat) : Option Nat :=
  if d.su.modState == 3 then none
  else if d.placeholder f then (if read && idx == 0x100 then none else some 0x01)
  else if !d.enabled f.num then some 0x04
  else none

/-- The end of a mailbox operation: MB_INDEX and MB_SUB as the operation named them, RESULT in MB_STATUS. -/
def Dev.mbEnd (d : Dev) (f : FnId) (op idx sub code : Nat) (g : Mbox → Mbox) : Dev :=
  let x := d.fn f
  (d.setFn f { x with mb := { g x.mb with cmd := op, index := idx, sub := sub, status := code * 256 } }).emit (.mbox f code)

/-- The registers after an operation that returns bytes. -/
def Mbox.returns (len : Nat) (r : List Byte) (x : Mbox) : Mbox :=
  { x with data := overlay (if x.data.isEmpty then zeros 3840 else x.data) 0 r, count := r.length, entryLen := len }

/-- A mailbox operation that reaches Larkspur. -/
def Dev.mbOp (d : Dev) (f : FnId) (run : Dev → Dev) : Dev := d.barPut f 0x3000 (fun d => if d.served then run d else d)

/-- READ: MB_COUNT bytes of the entry as it stands, from MB_OFFSET on. -/
def Dev.mbReadRun (d : Dev) (f : FnId) (idx sub : Nat) : Dev :=
  let mb := (d.fn f).mb
  if mb.count == 0 || 3840 < mb.count then d.mbEnd f 0x10 idx sub 0x0D id
  else match d.mbBarred f true idx with
    | some c => d.mbEnd f 0x10 idx sub c id
    | none => match d.readRefuse (d.mbRole f) idx sub with
      | some c => d.mbEnd f 0x10 idx sub c id
      | none =>
        let d := d.readMeets idx
        let v := d.odRead idx sub
        d.readDone.mbEnd f 0x10 idx sub 0 (Mbox.returns v.length ((v.drop mb.offset).take mb.count))

/-- MB_READ (R448). -/
def execMbRead (fn : FnId) (idx sub : Nat) (s : State) : Res := ok s (s.dev.mbOp fn (fun d => d.mbReadRun fn idx sub))

/-- WRITE: the whole value, up to 3,840 bytes. A write whose result waits answers when it comes (R470). -/
def Dev.mbWriteRun (d : Dev) (f : FnId) (idx sub : Nat) (bs : List Byte) : Dev :=
  let put := fun (x : Mbox) => { x with data := overlay (if x.data.isEmpty then zeros 3840 else x.data) 0 bs, count := bs.length }
  if 3840 < bs.length then d.mbEnd f 0x11 idx sub 0x0D id
  else match d.mbBarred f false idx with
    | some c => d.mbEnd f 0x11 idx sub c put
    | none =>
      let r := d.odTry (d.mbRole f) none idx sub bs
      if r.2 == resultWaits then r.1.askedBy (.mbox f)
      else if r.2 == 0 then r.1.mbEnd f 0x11 idx sub 0 (fun x => { put x with entryLen := bs.length })
      else r.1.mbEnd f 0x11 idx sub r.2 put

/-- MB_WRITE (R448). -/
def execMbWrite (fn : FnId) (idx sub : Nat) (data : List Byte) (s : State) : Res :=
  ok s (s.dev.mbOp fn (fun d => d.mbWriteRun fn idx sub data))

/-- READ_CLEAR. -/
def Dev.mbClearRun (d : Dev) (f : FnId) (idx sub : Nat) : Dev :=
  match d.mbBarred f false idx with
  | some c => d.mbEnd f 0x12 idx sub c id
  | none => match d.clearRefuse (d.mbRole f) none idx sub with
    | some c => d.mbEnd f 0x12 idx sub c id
    | none =>
      let v := d.odRead idx sub
      (d.rwcWrite idx sub (leNat v)).mbEnd f 0x12 idx sub 0 (Mbox.returns v.length v)

/-- MB_READ_CLEAR (R448). -/
def execMbReadClear (fn : FnId) (idx sub : Nat) (s : State) : Res := ok s (s.dev.mbOp fn (fun d => d.mbClearRun fn idx sub))

/-- DESCRIBE. -/
def Dev.mbDescribeRun (d : Dev) (f : FnId) (idx sub : Nat) : Dev :=
  match d.mbBarred f false idx with
  | some c => d.mbEnd f 0x13 idx sub c id
  | none => match describeRefuse idx sub with
    | some c => d.mbEnd f 0x13 idx sub c id
    | none => d.mbEnd f 0x13 idx sub 0 (Mbox.returns (entryTy idx sub).len (d.describeBytes (d.mbRole f) idx sub))

/-- MB_DESCRIBE (R448). -/
def execMbDescribe (fn : FnId) (idx sub : Nat) (s : State) : Res := ok s (s.dev.mbOp fn (fun d => d.mbDescribeRun fn idx sub))

end Sys2Proof.Machine
end

