-- ==== Sys2Proof/Machine/Mctp.lean ====
section
/-! DEFINITION. MCTP control, PLDM and SPDM as Larkspur answers them (R445, R446, R450, R467, R468). Codes and layouts that the
manual takes from the DMTF specifications are PRESUMED (log entry 55). -/

namespace Sys2Proof.Machine

/-! ## MCTP control -/

/-- An answer of a message type to a command: completion code and payload. -/
def Dev.mctp (d : Dev) (typ cmd code : Nat) (payload : List Byte) : Dev := d.emit (.mctp typ cmd code payload)

/-- A command served by Larkspur. -/
def Dev.whenServed (d : Dev) (f : Dev → Dev) : Dev := if d.served then f d else d

/-- Whether an endpoint ID may be assigned: not null, not broadcast. -/
def eidGood (e : Nat) : Bool := e != 0 && e < 255

/-- ENTDAA (R445): the dynamic address is taken. -/
def execEntdaa (addr : Nat) (s : State) : Res :=
  ok s (s.dev.whenServed (fun d => { d with mg := { d.mg with i3cAddr := addr } }))

/-- Whether a session is one over MCTP. -/
def mctpSession (x : Session) : Bool := !onEthernet x.tr

/-- The endpoint ID set; a change ends every MCTP session (R446). -/
def Dev.setEid (d : Dev) (eid : Nat) : Dev :=
  let d1 := d.wr K.mctpEid eid
  if d.rd K.mctpEid == eid then d1 else d1.endSessions mctpSession

/-- SET_ENDPOINT_ID (R445, R446): operations set and force. -/
def execSetEndpointId (op eid : Nat) (s : State) : Res :=
  ok s (s.dev.whenServed (fun d =>
    if op ≤ 1 && eidGood eid then (d.setEid eid).mctp 0 1 0 (zeros 1 ++ leBytes 1 eid ++ zeros 1) else d.mctp 0 1 2 []))

/-- GET_ENDPOINT_ID (R445). -/
def execGetEndpointId (s : State) : Res :=
  ok s (s.dev.whenServed (fun d => d.mctp 0 2 0 (leBytes 1 (d.rd K.mctpEid) ++ zeros 2)))

/-- GET_ENDPOINT_UUID (R445): MODULE_UUID. -/
def execGetEndpointUuid (s : State) : Res := ok s (s.dev.whenServed (fun d => d.mctp 0 3 0 (slice Config.uuid 0 16)))

/-- The message types of Table 11 of the chapter: control, PLDM, SPDM, vendor defined. -/
def mctpTypes : List Nat := [0x00, 0x01, 0x05, 0x7E]

/-- GET_MCTP_VERSION_SUPPORT (R445): version 1.3 for the base and control; a type that is not supported is refused. -/
def execGetMctpVersionSupport (msgType : Nat) (s : State) : Res :=
  ok s (s.dev.whenServed (fun d =>
    if msgType == 0xFF || msgType == 0 then d.mctp 0 4 0 (leBytes 1 1 ++ leBytes 4 0x00FFF3F1)
    else if mctpTypes.contains msgType then d.mctp 0 4 0 (leBytes 1 1 ++ leBytes 4 (Config.mctpVersion msgType))
    else d.mctp 0 4 0x80 []))

/-- GET_MESSAGE_TYPE_SUPPORT (R445, Table 14.11). -/
def execGetMessageTypeSupport (s : State) : Res :=
  ok s (s.dev.whenServed (fun d => d.mctp 0 5 0 (leBytes 1 3 ++ leBytes 1 0x01 ++ leBytes 1 0x05 ++ leBytes 1 0x7E)))

/-- GET_VENDOR_DEFINED_MESSAGE_SUPPORT (R445): PCI vendor 0x1F3C, the only one. -/
def execGetVendorDefinedMessageSupport (sel : Nat) (s : State) : Res :=
  ok s (s.dev.whenServed (fun d =>
    if sel == 0 then d.mctp 0 6 0 (leBytes 1 0xFF ++ leBytes 1 0 ++ leBytes 1 0x1F ++ leBytes 1 0x3C ++ leBytes 2 (Config.mctpVersion 0x7E))
    else d.mctp 0 6 2 []))

/-! ## PLDM (R450) -/

/-- GETTID (R450). -/
def execGetTid (s : State) : Res := ok s (s.dev.whenServed (fun d => d.mctp 1 0x02 0 (leBytes 1 d.mg.tid)))

/-- SETTID (R450). -/
def execSetTid (tid : Nat) (s : State) : Res :=
  ok s (s.dev.whenServed (fun d =>
    if eidGood tid then ({ d with mg := { d.mg with tid := tid } }).mctp 1 0x01 0 [] else d.mctp 1 0x01 2 []))

/-- GETPLDMVERSION (R450): of Base and of Platform Monitoring and Control. -/
def execGetPldmVersion (typ : Nat) (s : State) : Res :=
  ok s (s.dev.whenServed (fun d =>
    if typ == 0 || typ == 2 then d.mctp 1 0x03 0 (zeros 4 ++ leBytes 1 5 ++ leBytes 8 (Config.pldmVersion typ)) else d.mctp 1 0x03 0x83 []))

/-- GETPLDMTYPES (R450). -/
def execGetPldmTypes (s : State) : Res := ok s (s.dev.whenServed (fun d => d.mctp 1 0x04 0 (leBytes 8 0x05)))

/-- The commands of a PLDM type as a bit mask: Base 1 to 5; Platform 0x04, 0x0A, 0x11, 0x12, 0x50, 0x51. -/
def pldmCommands (typ : Nat) : Option Nat :=
  if typ == 0 then some 0x3E
  else if typ == 2 then some (2 ^ 0x04 + 2 ^ 0x0A + 2 ^ 0x11 + 2 ^ 0x12 + 2 ^ 0x50 + 2 ^ 0x51)
  else none

/-- GETPLDMCOMMANDS (R450). -/
def execGetPldmCommands (typ : Nat) (s : State) : Res :=
  ok s (s.dev.whenServed (fun d => match pldmCommands typ with
    | some m => d.mctp 1 0x05 0 (leBytes 32 m)
    | none => d.mctp 1 0x05 0x83 []))

/-- The record handles of the repository: one terminus locator and ten numeric sensors. -/
def pdrHandles : List Nat := (List.range 12).drop 1

/-- GETPDRREPOSITORYINFO (R450): eleven records. -/
def execGetPdrRepositoryInfo (s : State) : Res :=
  ok s (s.dev.whenServed (fun d =>
    d.mctp 1 0x50 0 (zeros 1 ++ slice Config.pdrTimes 0 26 ++ leBytes 4 11 ++
      leBytes 4 (sumBy (fun h => (Config.pdr h).length) pdrHandles) ++
      leBytes 4 (pdrHandles.foldl (fun n h => Max.max n (Config.pdr h).length) 0) ++ slice Config.pdrTimes 26 1)))

/-- GETPDR (R450): handle 0 names the first record. -/
def execGetPdr (record : Nat) (s : State) : Res :=
  ok s (s.dev.whenServed (fun d =>
    let h := if record == 0 then 1 else record
    if h ≤ 11 then
      d.mctp 1 0x51 0 (leBytes 4 (if h == 11 then 0 else h + 1) ++ zeros 4 ++ leBytes 1 5 ++ leBytes 2 (Config.pdr h).length ++ Config.pdr h)
    else d.mctp 1 0x51 0x82 []))

/-- GETSENSORREADING (R450): the 0x3000 entry of the sensor's name, and the state of the sensor. -/
def execGetSensorReading (sensor : Nat) (s : State) : Res :=
  ok s (s.dev.whenServed (fun d =>
    if sensor == 0 || 10 < sensor then d.mctp 1 0x11 0x80 []
    else
      let st := match d.sensor sensor with
        | some v => sensorState sensor v
        | none => 1
      let up := if d.sensor sensor == some SensorVal.silent then 2 else 0
      d.drawn.mctp 1 0x11 0 (leBytes 1 4 ++ leBytes 1 up ++ zeros 1 ++ leBytes 1 st ++ leBytes 1 st ++ leBytes 1 st ++ leBytes 4 (d.sensorWord sensor))))

/-- Threshold `i` of a sensor, in thousandths: upper warning, critical and fatal, then lower warning; none where no rating is
given (Table 16.4, R490). -/
def sensorRating (sensor i : Nat) : Option Int :=
  if sensor == 7 then (if i == 0 then some 56000 else if i == 3 then some 44000 else none)
  else match thresholds sensor, i with
    | some (t, _, _), 0 => some (t * 1000)
    | some (_, c, _), 1 => some (c * 1000)
    | some (_, _, f), 2 => some (f * 1000)
    | _, _ => none

/-- GETSENSORTHRESHOLDS (R450): the ratings. -/
def execGetSensorThresholds (sensor : Nat) (s : State) : Res :=
  ok s (s.dev.whenServed (fun d =>
    if sensor == 0 || 10 < sensor then d.mctp 1 0x12 0x80 []
    else d.mctp 1 0x12 0 (leBytes 1 4 ++ (List.range 6).flatMap (fun i => leBytes 4 (match sensorRating sensor i with
      | some z => milliF32 z
      | none => Config.pldmFill sensor i)))))

/-- SETEVENTRECEIVER (R450): events go to the endpoint given, or to none. -/
def execSetEventReceiver (enableMode eid : Nat) (s : State) : Res :=
  ok s (s.dev.whenServed (fun d =>
    if enableMode == 0 then ({ d with mg := { d.mg with receiver := none } }).mctp 1 0x04 0 []
    else if enableMode != 1 then d.mctp 1 0x04 0x81 []
    else if !eidGood eid then d.mctp 1 0x04 2 []
    else ({ d with mg := { d.mg with receiver := some eid } }).mctp 1 0x04 0 []))

/-! ## SPDM (R467, R468) -/

/-- An SPDM answer that needs the exchange to have come to `need`: 1 version, 2 capabilities, 3 algorithms; else
UnexpectedRequest. -/
def Dev.spdmAt (d : Dev) (need cmd : Nat) (f : Dev → Dev) : Dev :=
  d.whenServed (fun d => if need ≤ d.mg.spdm then f d else d.mctp 5 cmd 4 [])

/-- The exchange at a step. -/
def Dev.spdmTo (d : Dev) (n : Nat) : Dev := { d with mg := { d.mg with spdm := n } }

/-- GET_VERSION (R467): version 1.3; the exchange starts over. -/
def execGetVersion (s : State) : Res :=
  ok s (s.dev.spdmAt 0 0x84 (fun d => (d.spdmTo 1).mctp 5 0x84 0 (zeros 1 ++ leBytes 1 1 ++ leBytes 2 0x1300)))

/-- GET_CAPABILITIES (R467): CERT_CAP, CHAL_CAP, MEAS_CAP with signature. -/
def execGetCapabilities (s : State) : Res :=
  ok s (s.dev.spdmAt 1 0xE1 (fun d => (d.spdmTo 2).mctp 5 0xE1 0 (leBytes 4 0x16)))

/-- NEGOTIATE_ALGORITHMS (R467): ECDSA P-384 and SHA-384; a requester without them is refused. -/
def execNegotiateAlgorithms (asym hash : Nat) (s : State) : Res :=
  ok s (s.dev.spdmAt 2 0xE3 (fun d =>
    if bit asym 7 && bit hash 1 then (d.spdmTo 3).mctp 5 0xE3 0 (leBytes 1 1 ++ leBytes 4 0x80 ++ leBytes 4 0x02) else d.mctp 5 0xE3 1 []))

/-- GET_DIGESTS (R467): slot 0 alone is filled. -/
def execGetDigests (s : State) : Res :=
  ok s (s.dev.spdmAt 3 0x81 (fun d => d.mctp 5 0x81 0 (leBytes 1 1 ++ slice (Config.sha384 d.certChain) 0 48)))

/-- GET_CERTIFICATE (R467): bytes of the chain of slot 0. -/
def execGetCertificate (slot off len : Nat) (s : State) : Res :=
  ok s (s.dev.spdmAt 3 0x82 (fun d =>
    let l := d.certChain
    if slot != 0 || l.length ≤ off then d.mctp 5 0x82 1 []
    else
      let r := (l.drop off).take len
      d.mctp 5 0x82 0 (leBytes 2 r.length ++ leBytes 2 (l.length - off - r.length) ++ r)))

/-- SPDM_CHALLENGE (R467): signed with the device identity key over both nonces and the chain. -/
def execSpdmChallenge (slot nonce : Nat) (s : State) : Res :=
  ok s (s.dev.spdmAt 3 0x83 (fun d =>
    if slot != 0 then d.mctp 5 0x83 1 []
    else
      let b := slice (Config.sha384 d.certChain) 0 48 ++ leBytes 32 d.free
      d.drawn.mctp 5 0x83 0 (b ++ slice (Config.sign d.su.idKey (leBytes 32 nonce ++ b)) 0 96)))

/-- The DMTF value type of a measurement: ROM, firmware, configuration. -/
def measType (i : Nat) : Nat := if i == 1 then 0 else if i == 6 then 3 else 1

/-- A measurement block. -/
def Dev.measBlock (d : Dev) (i : Nat) : List Byte :=
  leBytes 1 i ++ leBytes 1 1 ++ leBytes 2 51 ++ leBytes 1 (measType i) ++ leBytes 2 48 ++ d.measurement i

/-- GET_MEASUREMENTS (R467, R468): the count, one measurement, or all seven; signed when asked. -/
def execGetMeasurements (op : Nat) (sign : Bool) (nonce : Nat) (s : State) : Res :=
  ok s (s.dev.spdmAt 3 0xE0 (fun d =>
    let l := if op == 0xFF then (List.range 8).drop 1 else if 1 ≤ op && op ≤ 7 then [op] else []
    if op != 0 && l.isEmpty then d.mctp 5 0xE0 1 []
    else
      let b := leBytes 1 (if op == 0 then 7 else 0) ++ leBytes 1 l.length ++ l.flatMap d.measBlock ++ leBytes 32 d.free
      d.drawn.mctp 5 0xE0 0 (b ++ (if sign then slice (Config.sign d.su.idKey (leBytes 32 nonce ++ b)) 0 96 else []))))

end Sys2Proof.Machine
end

