-- ==== Sys2Proof/Machine/Registers.lean ====
section
/-! DEFINITION. Writes of registers and entries that have no row of their own: dictionary entries, BAR0 registers, configuration
registers and the expansion ROM window (R430, R332 to R341, R464), and the function status word (R307). -/

namespace Sys2Proof.Machine

/-! ## Registers as bytes -/

/-- The register of `size` bytes at `reg` after a write of `bs` at `off`; none when the write does not touch it. Bytes that the
write leaves out keep those of `old`. -/
def patch (old size reg off : Nat) (bs : List Byte) : Option Nat :=
  if reg < off + bs.length && off < reg + size then
    some (leNat ((List.range size).map (fun i =>
      if off ≤ reg + i ∧ reg + i < off + bs.length then bs.getD (reg + i - off) 0 else (leBytes size old).getD i 0)))
  else none

/-- A register of a record changed by a write that touches it. -/
def patchWith {α : Type} (old size reg off : Nat) (bs : List Byte) (f : Nat → α → α) (x : α) : α :=
  match patch old size reg off bs with
  | some v => f v x
  | none => x

/-- Whether a write has a natural form: 1, 2, 4 or 8 bytes, aligned. -/
def naturalWrite (off : Nat) (bs : List Byte) : Bool :=
  (bs.length == 1 || bs.length == 2 || bs.length == 4 || bs.length == 8) && off % bs.length == 0

/-! ## FSTAT (R307) -/

/-- The function status word (Table 10.2). -/
def Dev.fstat (d : Dev) (f : FnId) : Nat :=
  let ph := d.placeholder f
  let x := d.fn f
  let c := if ph then 0 else d.fenceCauses f.num
  d.rd K.lastStartCause * 2 ^ 56 + x.eq.held.length * 2 ^ 40 + c * 2 ^ 32 + (if ph then 0 else f.num) * 2 ^ 24 + f.port * 2 ^ 16 +
  (if x.recovering then 2 else if !ph && d.resetting f.num then 1 else 0) * 2 ^ 8 + b2n (x.eq.pending != 0) * 16 + b2n (c != 0) * 8 +
  b2n (!ph) * 4 + b2n (d.su.modState == 3) * 2 + b2n (d.operational && !x.recovering)

/-! ## BAR0 -/

/-- Admin queue bases and sizes (Table 06.1), which may be written only while AQ_ENABLE is 0 (R180). -/
def AdmQ.regs (off : Nat) (bs : List Byte) (q : AdmQ) : AdmQ :=
  if q.enable then q else
  let q1 := patchWith q.asqBase 8 0x1000 off bs (fun v q => { q with asqBase := v }) q
  let q2 := patchWith q.acqBase 8 0x1008 off bs (fun v q => { q with acqBase := v }) q1
  let q3 := patchWith q.asqLog2 1 0x1010 off bs (fun v q => { q with asqLog2 := v }) q2
  patchWith q.acqLog2 1 0x1011 off bs (fun v q => { q with acqLog2 := v }) q3

/-- Event queue base and size (Table 10.8), which may be written only while EQ_ENABLE is 0 (R318). -/
def EvQ.regs (off : Nat) (bs : List Byte) (q : EvQ) : EvQ :=
  if q.enable then q else
  let q1 := patchWith q.base 8 0x2000 off bs (fun v q => { q with base := v }) q
  patchWith q.log2 1 0x2008 off bs (fun v q => { q with log2 := v }) q1

/-- Mailbox registers but for MB_CMD (Table 14.12); aligned 4-byte and 8-byte requests alone (R447). -/
def Mbox.regs (off : Nat) (bs : List Byte) (x : Mbox) : Mbox :=
  if !((bs.length == 4 || bs.length == 8) && off % bs.length == 0) then x
  else
    let x1 := patchWith x.index 2 0x3008 off bs (fun v x => { x with index := v }) x
    let x2 := patchWith x.sub 1 0x300A off bs (fun v x => { x with sub := v }) x1
    let x3 := patchWith x.offset 4 0x300C off bs (fun v x => { x with offset := v }) x2
    let x4 := patchWith x.count 4 0x3010 off bs (fun v x => { x with count := v }) x3
    if 0x3100 ≤ off ∧ off < 0x4000 then { x4 with data := overlay (if x.data.isEmpty then zeros 3840 else x.data) (off - 0x3100) bs }
    else x4

/-- A write of BAR0 registers (R339): offsets that no row covers ignore it. -/
def Dev.bar0Regs (d : Dev) (f : FnId) (off : Nat) (bs : List Byte) : Dev :=
  if !naturalWrite off bs then d
  else if 0x1000 ≤ off ∧ off < 0x2000 then d.setFn f { d.fn f with aq := (d.fn f).aq.regs off bs }
  else if 0x2000 ≤ off ∧ off < 0x3000 then (if d.evThere f then d.setFn f { d.fn f with eq := (d.fn f).eq.regs off bs } else d)
  else if 0x3000 ≤ off ∧ off < 0x4000 then d.setFn f { d.fn f with mb := (d.fn f).mb.regs off bs }
  else d

/-! ## Configuration space -/

/-- The bits of a register that a write may change, taken from the value written. -/
def masked (old v mask : Nat) : Nat := old - (old &&& mask) + (v &&& mask)

/-- Whether the Expansion ROM Base Address register stands in a function (R341). -/
def Dev.romThere (d : Dev) (f : FnId) : Bool :=
  d.su.romOpen && (d.su.modState == 1 || (d.su.modState == 3 && f.port == 0 && f.num == 0))

/-- Registers of the header (Table 11.4). -/
def Dev.cfgHeader (d : Dev) (f : FnId) (off : Nat) (bs : List Byte) (x : Fn) : Fn :=
  let x1 := patchWith x.command 2 0x04 off bs (fun v y => { y with command := masked x.command v 0x546 }) x
  let x2 := patchWith 0 2 0x06 off bs (fun v y => { y with status := y.status - (y.status &&& v &&& 0xE900) }) x1
  let x3 := patchWith x.cacheLine 1 0x0C off bs (fun v y => { y with cacheLine := v }) x2
  let x4 := patchWith x.bar0 8 0x10 off bs (fun v y => { y with bar0 := masked 4 v (2 ^ 64 - 2 ^ 24) }) x3
  let x5 := if x.bar2On then patchWith x.bar2 8 0x18 off bs (fun v y => { y with bar2 := masked 0xC v (2 ^ 64 - 2 ^ x.bar2Log2) }) x4 else x4
  let x6 := if d.romThere f then patchWith x.rom 4 0x30 off bs (fun v y => { y with rom := masked 0 v 0xFFF00001 }) x5 else x5
  patchWith x.intLine 1 0x3C off bs (fun v y => { y with intLine := v }) x6

/-- Registers of the PCI Express and power management capabilities: Device Control but for Initiate Function Level Reset, which
has its own row, Device Status, Device Control 2 (offsets PRESUMED from the PCI Express specification, log entry 56). -/
def cfgPcie (off : Nat) (bs : List Byte) (x : Fn) : Fn :=
  let x1 := patchWith x.devCtl 2 0x58 off bs (fun v y => { y with devCtl := masked x.devCtl v 0x7FFF }) x
  let x2 := patchWith 0 2 0x5A off bs (fun v y => { y with devStat := y.devStat - (y.devStat &&& v &&& 0x0F) }) x1
  patchWith x.devCtl2 2 0x78 off bs (fun v y => { y with devCtl2 := v }) x2

/-- Registers of AER (R357). -/
def cfgAer (off : Nat) (bs : List Byte) (x : Fn) : Fn :=
  let x1 := patchWith 0 4 0x304 off bs (fun v y => { y with aerUnc := y.aerUnc - (y.aerUnc &&& v) }) x
  let x2 := patchWith x.aerUncMask 4 0x308 off bs (fun v y => { y with aerUncMask := v }) x1
  let x3 := patchWith x.aerUncSev 4 0x30C off bs (fun v y => { y with aerUncSev := v }) x2
  let x4 := patchWith 0 4 0x310 off bs (fun v y => { y with aerCor := y.aerCor - (y.aerCor &&& v) }) x3
  patchWith x.aerCorMask 4 0x314 off bs (fun v y => { y with aerCorMask := v }) x4

/-- UBL_CTRL, in function 0 (R336). -/
def cfgUbl (f : FnId) (off : Nat) (bs : List Byte) (x : Fn) : Fn :=
  if f.num == 0 then patchWith (b2n x.ublOffer) 2 0x190 off bs (fun v y => { y with ublOffer := bit v 0 }) x else x

/-- A PMCSR write (R335). -/
def cfgPower (off : Nat) (bs : List Byte) (x : Fn) : Fn :=
  patchWith (if x.d3 then 3 else 0) 2 0x44 off bs (fun v y => Fn.power (v % 4) y) x

/-- BAY_STATUS of a bay through the DVSEC of function 0 of BAY_CTRL_PORT, as a write of its object; BAY_CTRL has its own row
(R362). -/
def Dev.cfgBays (d : Dev) (f : FnId) (off : Nat) (bs : List Byte) : Dev :=
  if f.num == 0 && f.port == d.rd K.bayCtrlPort then
    (List.range 8).foldl (fun d b => match patch 0 2 (0x390 + 8 * b + 6) off bs with
      | some v => d.rwcWrite (0x2900 + b) 3 v
      | none => d) d
  else d

/-- A write of configuration registers: read-only ones ignore it. -/
def Dev.cfgRegs (d : Dev) (f : FnId) (off : Nat) (bs : List Byte) : Dev :=
  if !naturalWrite off bs then d
  else ((d.cfgChange f (fun x => cfgUbl f off bs (cfgAer off bs (cfgPcie off bs (cfgPower off bs (d.cfgHeader f off bs x)))))).pumpEv f).cfgBays f off bs

/-! ## The expansion ROM window (Table 15.5) -/

/-- Whether a write reaches the window: Snowdrop, with the window of function 0 of port 0 mapped. -/
def Dev.romMapped (d : Dev) : Bool :=
  d.su.modState == 3 && d.barUp ⟨0, 0⟩ && d.mse ⟨0, 0⟩ && bit (d.fn ⟨0, 0⟩).rom 0

/-- A write of RARG0, RARG1 or RBUF. -/
def Su.romWrite (off : Nat) (bs : List Byte) (x : Su) : Su :=
  let x1 := patchWith x.rarg0 4 0x1014 off bs (fun v (y : Su) => { y with rarg0 := v }) x
  let x2 := patchWith x.rarg1 4 0x1018 off bs (fun v (y : Su) => { y with rarg1 := v }) x1
  if 0x10000 ≤ off ∧ off + bs.length ≤ 0x100000 then
    { x2 with rbuf := (bs.zipIdx).foldl (fun m e => kput (off - 0x10000 + e.2) e.1 m) x2.rbuf }
  else x2

/-- A write into the window. -/
def Dev.romRegs (d : Dev) (off : Nat) (bs : List Byte) : Dev := if d.romMapped then { d with su := d.su.romWrite off bs } else d

/-! ## The row -/

/-- A write of a register that has no row of its own. -/
def Dev.registerWrite (d : Dev) (t : RegTarget) (bs : List Byte) : Dev :=
  match t with
  | .dict r idx sub => d.entryWrite r idx sub bs.length (leNat bs) (fun d => d.odWrite r idx sub bs)
  | .bar0 f off => d.barPut f off (fun d => d.bar0Regs f off bs)
  | .config f off => if d.cfgOpen f then d.cfgRegs f off bs else d
  | .rom off => d.romRegs off bs

/-- REGISTER_WRITE (R430). -/
def execRegisterWrite (t : RegTarget) (data : List Byte) (s : State) : Res := ok s (s.dev.registerWrite t data)

end Sys2Proof.Machine
end

