-- ==== Sys2Proof/Machine/StageScalar.lean ====
section
/-! DEFINITION. The scalar, branch and immediate operations of stage programs (R256, Table 08.3). -/

namespace Sys2Proof.Machine

/-! ## Forms -/

/-- RD := RS1 op RS2. -/
def scReg (f : W64 → W64 → W64) (rd rs1 rs2 : Fin 32) (u : Clu) : SRes := .go (u.setX rd (f (u.xr rs1) (u.xr rs2)))

/-- IMM14 sign-extended. -/
def imm64 (imm : BitVec 14) : W64 := imm.signExtend 64

/-- RD := RS1 op IMM14. -/
def scImm (f : W64 → W64 → W64) (rd rs1 : Fin 32) (imm : BitVec 14) (u : Clu) : SRes :=
  .go (u.setX rd (f (u.xr rs1) (imm64 imm)))

/-- The truth of a comparison as a register value. -/
def truth (b : Bool) : W64 := if b then 1 else 0

/-- A shift amount: the low 6 bits. -/
def shAmt (b : W64) : Nat := b.toNat % 64

/-- The operations, Table 08.3. -/
def sSll (a b : W64) : W64 := a <<< shAmt b
def sSrl (a b : W64) : W64 := a >>> shAmt b
def sSra (a b : W64) : W64 := a.sshiftRight (shAmt b)
def sSlt (a b : W64) : W64 := truth (a.slt b)
def sSltu (a b : W64) : W64 := truth (a.ult b)
def sMulhu (a b : W64) : W64 := BitVec.ofNat 64 (a.toNat * b.toNat / 2 ^ 64)
def sMin (a b : W64) : W64 := if a.slt b then a else b
def sMax (a b : W64) : W64 := if a.slt b then b else a

/-- The address of a scalar load or store. -/
def Clu.scAddr (u : Clu) (rs1 : Fin 32) (imm : BitVec 14) : Nat := (u.xr rs1 + imm64 imm).toNat

/-- RD := `n` bytes of SRAM, zero-extended. -/
def scLoad (n : Nat) (rd rs1 : Fin 32) (imm : BitVec 14) (u : Clu) : SRes :=
  orStop [u.rdStop (u.scAddr rs1 imm) n n] (.go (u.setX rd (BitVec.ofNat 64 (leNat (u.rdSram (u.scAddr rs1 imm) n)))))

/-- `n` bytes of SRAM := RD. -/
def scStore (n : Nat) (rd rs1 : Fin 32) (imm : BitVec 14) (u : Clu) : SRes :=
  orStop [u.wrStop (u.scAddr rs1 imm) n n] (.go (u.wrSram (u.scAddr rs1 imm) (leBytes n (u.xr rd).toNat)))

/-- The target of a branch: OFF15 instructions from it, as a 13-bit counter. -/
def Clu.target (u : Clu) (off : BitVec 15) : Nat := (((u.pc : Int) + off.toInt) % 8192).toNat

/-- PC := PC + OFF15 when the comparison holds. -/
def branch (p : W64 → W64 → Bool) (rs1 rs2 : Fin 32) (off : BitVec 15) (u : Clu) : SRes :=
  if p (u.xr rs1) (u.xr rs2) then .jump u (u.target off) else .go u

/-- Link := PC + 1, PC := PC + OFF15. -/
def scJ (link : Fin 32) (off : BitVec 15) (u : Clu) : SRes :=
  .jump (u.setX link (BitVec.ofNat 64 (u.pc + 1))) (u.target off)

/-- Link := PC + 1, PC := RS1; PC_RANGE outside the program. -/
def scJr (rs1 link : Fin 32) (u : Clu) : SRes :=
  if u.progLen ≤ (u.xr rs1).toNat then .fault 0x01 0
  else .jump (u.setX link (BitVec.ofNat 64 (u.pc + 1))) (u.xr rs1).toNat

/-- A 16-bit quarter of a register; quarter 0 clears the others. -/
def liqVal (old : W64) (q : Fin 4) (imm : BitVec 16) : W64 :=
  if q = 0 then imm.zeroExtend 64 else BitVec.ofNat 64 (setFld old.toNat (16 * q.val) 16 imm.toNat)

/-- RD quarter Q := IMM16. -/
def scLiq (rd : Fin 32) (q : Fin 4) (imm : BitVec 16) (u : Clu) : SRes := .go (u.setX rd (liqVal (u.xr rd) q imm))

/-! ## The instructions -/

/-- ADD (R256). -/
def execAdd (c : Nat) (rd rs1 rs2 : Fin 32) (s : State) : Res := ok s (s.dev.stage c (scReg (· + ·) rd rs1 rs2))

/-- SUB (R256). -/
def execSub (c : Nat) (rd rs1 rs2 : Fin 32) (s : State) : Res := ok s (s.dev.stage c (scReg (· - ·) rd rs1 rs2))

/-- AND (R256). -/
def execAnd (c : Nat) (rd rs1 rs2 : Fin 32) (s : State) : Res := ok s (s.dev.stage c (scReg (· &&& ·) rd rs1 rs2))

/-- OR (R256). -/
def execOr (c : Nat) (rd rs1 rs2 : Fin 32) (s : State) : Res := ok s (s.dev.stage c (scReg (· ||| ·) rd rs1 rs2))

/-- XOR (R256). -/
def execXor (c : Nat) (rd rs1 rs2 : Fin 32) (s : State) : Res := ok s (s.dev.stage c (scReg (· ^^^ ·) rd rs1 rs2))

/-- SLL (R256). -/
def execSll (c : Nat) (rd rs1 rs2 : Fin 32) (s : State) : Res := ok s (s.dev.stage c (scReg sSll rd rs1 rs2))

/-- SRL (R256). -/
def execSrl (c : Nat) (rd rs1 rs2 : Fin 32) (s : State) : Res := ok s (s.dev.stage c (scReg sSrl rd rs1 rs2))

/-- SRA (R256). -/
def execSra (c : Nat) (rd rs1 rs2 : Fin 32) (s : State) : Res := ok s (s.dev.stage c (scReg sSra rd rs1 rs2))

/-- SLT (R256). -/
def execSlt (c : Nat) (rd rs1 rs2 : Fin 32) (s : State) : Res := ok s (s.dev.stage c (scReg sSlt rd rs1 rs2))

/-- SLTU (R256). -/
def execSltu (c : Nat) (rd rs1 rs2 : Fin 32) (s : State) : Res := ok s (s.dev.stage c (scReg sSltu rd rs1 rs2))

/-- MUL (R256). -/
def execMul (c : Nat) (rd rs1 rs2 : Fin 32) (s : State) : Res := ok s (s.dev.stage c (scReg (· * ·) rd rs1 rs2))

/-- MULHU (R256). -/
def execMulhu (c : Nat) (rd rs1 rs2 : Fin 32) (s : State) : Res := ok s (s.dev.stage c (scReg sMulhu rd rs1 rs2))

/-- MIN (R256). -/
def execMin (c : Nat) (rd rs1 rs2 : Fin 32) (s : State) : Res := ok s (s.dev.stage c (scReg sMin rd rs1 rs2))

/-- MAX (R256). -/
def execMax (c : Nat) (rd rs1 rs2 : Fin 32) (s : State) : Res := ok s (s.dev.stage c (scReg sMax rd rs1 rs2))

/-- ADDI (R256). -/
def execAddi (c : Nat) (rd rs1 : Fin 32) (imm : BitVec 14) (s : State) : Res :=
  ok s (s.dev.stage c (scImm (· + ·) rd rs1 imm))

/-- ANDI (R256). -/
def execAndi (c : Nat) (rd rs1 : Fin 32) (imm : BitVec 14) (s : State) : Res :=
  ok s (s.dev.stage c (scImm (· &&& ·) rd rs1 imm))

/-- ORI (R256). -/
def execOri (c : Nat) (rd rs1 : Fin 32) (imm : BitVec 14) (s : State) : Res :=
  ok s (s.dev.stage c (scImm (· ||| ·) rd rs1 imm))

/-- XORI (R256). -/
def execXori (c : Nat) (rd rs1 : Fin 32) (imm : BitVec 14) (s : State) : Res :=
  ok s (s.dev.stage c (scImm (· ^^^ ·) rd rs1 imm))

/-- SLLI (R256). -/
def execSlli (c : Nat) (rd rs1 : Fin 32) (imm : BitVec 14) (s : State) : Res :=
  ok s (s.dev.stage c (scImm sSll rd rs1 imm))

/-- SRLI (R256). -/
def execSrli (c : Nat) (rd rs1 : Fin 32) (imm : BitVec 14) (s : State) : Res :=
  ok s (s.dev.stage c (scImm sSrl rd rs1 imm))

/-- SRAI (R256). -/
def execSrai (c : Nat) (rd rs1 : Fin 32) (imm : BitVec 14) (s : State) : Res :=
  ok s (s.dev.stage c (scImm sSra rd rs1 imm))

/-- SLTI (R256). -/
def execSlti (c : Nat) (rd rs1 : Fin 32) (imm : BitVec 14) (s : State) : Res :=
  ok s (s.dev.stage c (scImm sSlt rd rs1 imm))

/-- LW32 (R256). -/
def execLw32 (c : Nat) (rd rs1 : Fin 32) (imm : BitVec 14) (ecc : Ecc) (s : State) : Res :=
  ok s (s.dev.stageRd c ecc (fun u => u.scAddr rs1 imm) (scLoad 4 rd rs1 imm))

/-- LD64 (R256). -/
def execLd64 (c : Nat) (rd rs1 : Fin 32) (imm : BitVec 14) (ecc : Ecc) (s : State) : Res :=
  ok s (s.dev.stageRd c ecc (fun u => u.scAddr rs1 imm) (scLoad 8 rd rs1 imm))

/-- SW32 (R256): the RD field names the source. -/
def execSw32 (c : Nat) (rd rs1 : Fin 32) (imm : BitVec 14) (s : State) : Res :=
  ok s (s.dev.stage c (scStore 4 rd rs1 imm))

/-- SD64 (R256): the RD field names the source. -/
def execSd64 (c : Nat) (rd rs1 : Fin 32) (imm : BitVec 14) (s : State) : Res :=
  ok s (s.dev.stage c (scStore 8 rd rs1 imm))

/-- BEQ (R256). -/
def execBeq (c : Nat) (rs1 rs2 : Fin 32) (off : BitVec 15) (s : State) : Res :=
  ok s (s.dev.stage c (branch (fun a b => a == b) rs1 rs2 off))

/-- BNE (R256). -/
def execBne (c : Nat) (rs1 rs2 : Fin 32) (off : BitVec 15) (s : State) : Res :=
  ok s (s.dev.stage c (branch (fun a b => a != b) rs1 rs2 off))

/-- BLT (R256). -/
def execBlt (c : Nat) (rs1 rs2 : Fin 32) (off : BitVec 15) (s : State) : Res :=
  ok s (s.dev.stage c (branch (fun a b => a.slt b) rs1 rs2 off))

/-- BGE (R256). -/
def execBge (c : Nat) (rs1 rs2 : Fin 32) (off : BitVec 15) (s : State) : Res :=
  ok s (s.dev.stage c (branch (fun a b => !a.slt b) rs1 rs2 off))

/-- BLTU (R256). -/
def execBltu (c : Nat) (rs1 rs2 : Fin 32) (off : BitVec 15) (s : State) : Res :=
  ok s (s.dev.stage c (branch (fun a b => a.ult b) rs1 rs2 off))

/-- BGEU (R256). -/
def execBgeu (c : Nat) (rs1 rs2 : Fin 32) (off : BitVec 15) (s : State) : Res :=
  ok s (s.dev.stage c (branch (fun a b => !a.ult b) rs1 rs2 off))

/-- J (R256). -/
def execJ (c : Nat) (link : Fin 32) (off : BitVec 15) (s : State) : Res := ok s (s.dev.stage c (scJ link off))

/-- JR (R256). -/
def execJr (c : Nat) (rs1 link : Fin 32) (s : State) : Res := ok s (s.dev.stage c (scJr rs1 link))

/-- LIQ (R256). -/
def execLiq (c : Nat) (rd : Fin 32) (q : Fin 4) (imm : BitVec 16) (s : State) : Res := ok s (s.dev.stage c (scLiq rd q imm))

end Sys2Proof.Machine
end

