-- ==== Sys2Proof/Machine/Dispatch.lean ====
section
/-! DEFINITION. The dispatch of the commands: one arm for each row of the operation table, each one direct call of the
command's meaning. -/

namespace Sys2Proof.Machine

/-- The effect of a command on the device; the queue it was taken from is not touched. -/
def exec (i : Instr) (s : State) : Host.Outcome State Fault Refusal :=
  match i with
  | .chCreate h a => Sys2Proof.Machine.execChCreate h a s
  | .chDestroy h handle => Sys2Proof.Machine.execChDestroy h handle s
  | .chReset h handle => Sys2Proof.Machine.execChReset h handle s
  | .chRestart h handle flags => Sys2Proof.Machine.execChRestart h handle flags s
  | .chModify h handle cls policy mask port => Sys2Proof.Machine.execChModify h handle cls policy mask port s
  | .chModifyPortBind handle => Sys2Proof.Machine.execChModifyPortBind handle s
  | .chQuery h handle => Sys2Proof.Machine.execChQuery h handle s
  | .syncAlloc h loc init addr ep => Sys2Proof.Machine.execSyncAlloc h loc init addr ep s
  | .syncFree h handle => Sys2Proof.Machine.execSyncFree h handle s
  | .syncSignal h handle addend => Sys2Proof.Machine.execSyncSignal h handle addend s
  | .syncQuery h handle => Sys2Proof.Machine.execSyncQuery h handle s
  | .syncArm h handle threshold => Sys2Proof.Machine.execSyncArm h handle threshold s
  | .objCreate h obj n off k desc => Sys2Proof.Machine.execObjCreate h obj n off k desc s
  | .objPlace h obj desc => Sys2Proof.Machine.execObjPlace h obj desc s
  | .objDiscard h obj first count => Sys2Proof.Machine.execObjDiscard h obj first count s
  | .objQuery h obj loc count first ep addr => Sys2Proof.Machine.execObjQuery h obj loc count first ep addr s
  | .objDestroy h obj => Sys2Proof.Machine.execObjDestroy h obj s
  | .viewSet h obj kind fmt => Sys2Proof.Machine.execViewSet h obj kind fmt s
  | .viewSetThDrained part obj => Sys2Proof.Machine.execViewSetThDrained part obj s
  | .viewCreate h win kind fmt v off backing stoch => Sys2Proof.Machine.execViewCreate h win kind fmt v off backing stoch s
  | .deltaSeal h obj base fmt mode sectors => Sys2Proof.Machine.execDeltaSeal h obj base fmt mode sectors s
  | .sealDone part obj => Sys2Proof.Machine.execSealDone part obj s
  | .shareExport h obj acc => Sys2Proof.Machine.execShareExport h obj acc s
  | .shareWithdraw h obj => Sys2Proof.Machine.execShareWithdraw h obj s
  | .shareImport h al owner acc oobj off => Sys2Proof.Machine.execShareImport h al owner acc oobj off s
  | .grant h slot acc count first => Sys2Proof.Machine.execGrant h slot acc count first s
  | .revoke h slot count first => Sys2Proof.Machine.execRevoke h slot count first s
  | .revokeDrained op => Sys2Proof.Machine.execRevokeDrained op s
  | .releaseTimeoutExpiry op => Sys2Proof.Machine.execReleaseTimeoutExpiry op s
  | .acceptStale h count off => Sys2Proof.Machine.execAcceptStale h count off s
  | .unknownAdminOpcode h opcode => Sys2Proof.Machine.execUnknownAdminOpcode h opcode s
  | .aqEnable fn v => Sys2Proof.Machine.execAqEnable fn v s
  | .asqTail fn v => Sys2Proof.Machine.execAsqTail fn v s
  | .acqHead fn v => Sys2Proof.Machine.execAcqHead fn v s
  | .channelDoorbell fn idx part word => Sys2Proof.Machine.execChannelDoorbell fn idx part word s
  | .doorbell port dst handle word => Sys2Proof.Machine.execDoorbell port dst handle word s
  | .descriptorFetch handle r => Sys2Proof.Machine.execDescriptorFetch handle r s
  | .descriptorComplete handle ok => Sys2Proof.Machine.execDescriptorComplete handle ok s
  | .nopDescriptor handle => Sys2Proof.Machine.execNopDescriptor handle s
  | .append handle r => Sys2Proof.Machine.execAppend handle r s
  | .decode handle r => Sys2Proof.Machine.execDecode handle r s
  | .prefill handle r => Sys2Proof.Machine.execPrefill handle r s
  | .merge handle r => Sys2Proof.Machine.execMerge handle r s
  | .push handle r => Sys2Proof.Machine.execPush handle r s
  | .pushDecision handle late => Sys2Proof.Machine.execPushDecision handle late s
  | .prefetch handle => Sys2Proof.Machine.execPrefetch handle s
  | .accumulate handle r => Sys2Proof.Machine.execAccumulate handle r s
  | .readout handle r => Sys2Proof.Machine.execReadout handle r s
  | .gather handle r => Sys2Proof.Machine.execGather handle r s
  | .add c rd rs1 rs2 => Sys2Proof.Machine.execAdd c rd rs1 rs2 s
  | .sub c rd rs1 rs2 => Sys2Proof.Machine.execSub c rd rs1 rs2 s
  | .and c rd rs1 rs2 => Sys2Proof.Machine.execAnd c rd rs1 rs2 s
  | .or c rd rs1 rs2 => Sys2Proof.Machine.execOr c rd rs1 rs2 s
  | .xor c rd rs1 rs2 => Sys2Proof.Machine.execXor c rd rs1 rs2 s
  | .sll c rd rs1 rs2 => Sys2Proof.Machine.execSll c rd rs1 rs2 s
  | .srl c rd rs1 rs2 => Sys2Proof.Machine.execSrl c rd rs1 rs2 s
  | .sra c rd rs1 rs2 => Sys2Proof.Machine.execSra c rd rs1 rs2 s
  | .slt c rd rs1 rs2 => Sys2Proof.Machine.execSlt c rd rs1 rs2 s
  | .sltu c rd rs1 rs2 => Sys2Proof.Machine.execSltu c rd rs1 rs2 s
  | .mul c rd rs1 rs2 => Sys2Proof.Machine.execMul c rd rs1 rs2 s
  | .mulhu c rd rs1 rs2 => Sys2Proof.Machine.execMulhu c rd rs1 rs2 s
  | .min c rd rs1 rs2 => Sys2Proof.Machine.execMin c rd rs1 rs2 s
  | .max c rd rs1 rs2 => Sys2Proof.Machine.execMax c rd rs1 rs2 s
  | .addi c rd rs1 imm => Sys2Proof.Machine.execAddi c rd rs1 imm s
  | .andi c rd rs1 imm => Sys2Proof.Machine.execAndi c rd rs1 imm s
  | .ori c rd rs1 imm => Sys2Proof.Machine.execOri c rd rs1 imm s
  | .xori c rd rs1 imm => Sys2Proof.Machine.execXori c rd rs1 imm s
  | .slli c rd rs1 imm => Sys2Proof.Machine.execSlli c rd rs1 imm s
  | .srli c rd rs1 imm => Sys2Proof.Machine.execSrli c rd rs1 imm s
  | .srai c rd rs1 imm => Sys2Proof.Machine.execSrai c rd rs1 imm s
  | .slti c rd rs1 imm => Sys2Proof.Machine.execSlti c rd rs1 imm s
  | .lw32 c rd rs1 imm ecc => Sys2Proof.Machine.execLw32 c rd rs1 imm ecc s
  | .ld64 c rd rs1 imm ecc => Sys2Proof.Machine.execLd64 c rd rs1 imm ecc s
  | .sw32 c rd rs1 imm => Sys2Proof.Machine.execSw32 c rd rs1 imm s
  | .sd64 c rd rs1 imm => Sys2Proof.Machine.execSd64 c rd rs1 imm s
  | .beq c rs1 rs2 off => Sys2Proof.Machine.execBeq c rs1 rs2 off s
  | .bne c rs1 rs2 off => Sys2Proof.Machine.execBne c rs1 rs2 off s
  | .blt c rs1 rs2 off => Sys2Proof.Machine.execBlt c rs1 rs2 off s
  | .bge c rs1 rs2 off => Sys2Proof.Machine.execBge c rs1 rs2 off s
  | .bltu c rs1 rs2 off => Sys2Proof.Machine.execBltu c rs1 rs2 off s
  | .bgeu c rs1 rs2 off => Sys2Proof.Machine.execBgeu c rs1 rs2 off s
  | .j c link off => Sys2Proof.Machine.execJ c link off s
  | .jr c rs1 link => Sys2Proof.Machine.execJr c rs1 link s
  | .liq c rd q imm => Sys2Proof.Machine.execLiq c rd q imm s
  | .tlds c fmtB rs1 rs2 ecc => Sys2Proof.Machine.execTlds c fmtB rs1 rs2 ecc s
  | .tmma c fmtA fmtB rs1 rs2 n t0 res ecc => Sys2Proof.Machine.execTmma c fmtA fmtB rs1 rs2 n t0 res ecc s
  | .tdrain c fmtA rs1 rs2 n t0 => Sys2Proof.Machine.execTdrain c fmtA rs1 rs2 n t0 s
  | .tzero c n t0 => Sys2Proof.Machine.execTzero c n t0 s
  | .tlda c rs1 rs2 n t0 ecc => Sys2Proof.Machine.execTlda c rs1 rs2 n t0 ecc s
  | .vadd c vd va vb => Sys2Proof.Machine.execVadd c vd va vb s
  | .vsub c vd va vb => Sys2Proof.Machine.execVsub c vd va vb s
  | .vmul c vd va vb => Sys2Proof.Machine.execVmul c vd va vb s
  | .vfma c vd va vb vc => Sys2Proof.Machine.execVfma c vd va vb vc s
  | .vmin c vd va vb => Sys2Proof.Machine.execVmin c vd va vb s
  | .vmax c vd va vb => Sys2Proof.Machine.execVmax c vd va vb s
  | .vabs c vd va => Sys2Proof.Machine.execVabs c vd va s
  | .vneg c vd va => Sys2Proof.Machine.execVneg c vd va s
  | .vcmpeq c vd va vb => Sys2Proof.Machine.execVcmpeq c vd va vb s
  | .vcmplt c vd va vb => Sys2Proof.Machine.execVcmplt c vd va vb s
  | .vcmple c vd va vb => Sys2Proof.Machine.execVcmple c vd va vb s
  | .vsel c vd va vb vc => Sys2Proof.Machine.execVsel c vd va vb vc s
  | .vand c vd va vb => Sys2Proof.Machine.execVand c vd va vb s
  | .vor c vd va vb => Sys2Proof.Machine.execVor c vd va vb s
  | .vxor c vd va vb => Sys2Proof.Machine.execVxor c vd va vb s
  | .viadd c vd va vb => Sys2Proof.Machine.execViadd c vd va vb s
  | .vishl c vd va vb => Sys2Proof.Machine.execVishl c vd va vb s
  | .visra c vd va vb => Sys2Proof.Machine.execVisra c vd va vb s
  | .vrcp c vd va => Sys2Proof.Machine.execVrcp c vd va s
  | .vrsqrt c vd va => Sys2Proof.Machine.execVrsqrt c vd va s
  | .vsqrt c vd va => Sys2Proof.Machine.execVsqrt c vd va s
  | .vexp2 c vd va => Sys2Proof.Machine.execVexp2 c vd va s
  | .vlog2 c vd va => Sys2Proof.Machine.execVlog2 c vd va s
  | .vexp c vd va => Sys2Proof.Machine.execVexp c vd va s
  | .vlog c vd va => Sys2Proof.Machine.execVlog c vd va s
  | .vtanh c vd va => Sys2Proof.Machine.execVtanh c vd va s
  | .vredadd c vd va => Sys2Proof.Machine.execVredadd c vd va s
  | .vredmax c vd va => Sys2Proof.Machine.execVredmax c vd va s
  | .vcvtin c vd va code => Sys2Proof.Machine.execVcvtin c vd va code s
  | .vcvtout c vd va code => Sys2Proof.Machine.execVcvtout c vd va code s
  | .vmxenc c vd va code => Sys2Proof.Machine.execVmxenc c vd va code s
  | .vmxdec c vd va code => Sys2Proof.Machine.execVmxdec c vd va code s
  | .vld c v rs1 ecc => Sys2Proof.Machine.execVld c v rs1 ecc s
  | .vst c v rs1 => Sys2Proof.Machine.execVst c v rs1 s
  | .vldn c v rs1 rs2 ecc => Sys2Proof.Machine.execVldn c v rs1 rs2 ecc s
  | .vstn c v rs1 rs2 => Sys2Proof.Machine.execVstn c v rs1 rs2 s
  | .vbcast c v rs1 => Sys2Proof.Machine.execVbcast c v rs1 s
  | .vext c rd va rs2 => Sys2Proof.Machine.execVext c rd va rs2 s
  | .sld c space rs1 rs2 rs3 => Sys2Proof.Machine.execSld c space rs1 rs2 rs3 s
  | .sst c space rs1 rs2 rs3 ecc => Sys2Proof.Machine.execSst c space rs1 rs2 rs3 ecc s
  | .sacc c space rs1 rs2 rs3 ecc => Sys2Proof.Machine.execSacc c space rs1 rs2 rs3 ecc s
  | .streamComplete c op r => Sys2Proof.Machine.execStreamComplete c op r s
  | .qpop c stage r1 => Sys2Proof.Machine.execQpop c stage r1 s
  | .qrel c stage => Sys2Proof.Machine.execQrel c stage s
  | .qsend c stage r1 r2 r3 ecc => Sys2Proof.Machine.execQsend c stage r1 r2 r3 ecc s
  | .qcnt c stage r1 => Sys2Proof.Machine.execQcnt c stage r1 s
  | .dnext c r1 => Sys2Proof.Machine.execDnext c r1 s
  | .dpass c => Sys2Proof.Machine.execDpass c s
  | .ddone c r1 r2 => Sys2Proof.Machine.execDdone c r1 r2 s
  | .dstat c r1 => Sys2Proof.Machine.execDstat c r1 s
  | .ssig c r1 r2 => Sys2Proof.Machine.execSsig c r1 r2 s
  | .swait c r1 r2 => Sys2Proof.Machine.execSwait c r1 r2 s
  | .cargs c r1 => Sys2Proof.Machine.execCargs c r1 s
  | .idRead c r1 imm => Sys2Proof.Machine.execIdRead c r1 imm s
  | .nop c => Sys2Proof.Machine.execNop c s
  | .step c dup => Sys2Proof.Machine.execStep c dup s
  | .bnd c r1 r2 => Sys2Proof.Machine.execBnd c r1 r2 s
  | .sfence c imm => Sys2Proof.Machine.execSfence c imm s
  | .fault c imm => Sys2Proof.Machine.execFault c imm s
  | .rdShared q med => Sys2Proof.Machine.execRdShared q med s
  | .rdOwn q med => Sys2Proof.Machine.execRdOwn q med s
  | .rdUncached q med => Sys2Proof.Machine.execRdUncached q med s
  | .wrUncached q mask data med => Sys2Proof.Machine.execWrUncached q mask data med s
  | .wrBack q data => Sys2Proof.Machine.execWrBack q data s
  | .evict q => Sys2Proof.Machine.execEvict q s
  | .recallAck port tag => Sys2Proof.Machine.execRecallAck port tag s
  | .recallData port tag data => Sys2Proof.Machine.execRecallData port tag data s
  | .recallTimeoutExpiry tag => Sys2Proof.Machine.execRecallTimeoutExpiry tag s
  | .biconflict port tag reqFirst => Sys2Proof.Machine.execBiconflict port tag reqFirst s
  | .respData port tag status data => Sys2Proof.Machine.execRespData port tag status data s
  | .resp port tag status => Sys2Proof.Machine.execResp port tag status s
  | .ublUnknownOpcode port src dst tag opcode nonPosted => Sys2Proof.Machine.execUblUnknownOpcode port src dst tag opcode nonPosted s
  | .bar2Read fn off len tag med => Sys2Proof.Machine.execBar2Read fn off len tag med s
  | .bar2Write fn off data poisoned med => Sys2Proof.Machine.execBar2Write fn off data poisoned med s
  | .datapathParityError beat => Sys2Proof.Machine.execDatapathParityError beat s
  | .lockTimeoutExpiry lock => Sys2Proof.Machine.execLockTimeoutExpiry lock s
  | .completionTimeout tag => Sys2Proof.Machine.execCompletionTimeout tag s
  | .lateCompletion tag => Sys2Proof.Machine.execLateCompletion tag s
  | .tagQuarantineExpiry tag => Sys2Proof.Machine.execTagQuarantineExpiry tag s
  | .refill => Sys2Proof.Machine.execRefill s
  | .arbCommit role mask => Sys2Proof.Machine.execArbCommit role mask s
  | .shadow role group cls rank => Sys2Proof.Machine.execShadow role group cls rank s
  | .budgetWrite role res cls v => Sys2Proof.Machine.execBudgetWrite role res cls v s
  | .capWrite role res cls v => Sys2Proof.Machine.execCapWrite role res cls v s
  | .q0ReservePct role v => Sys2Proof.Machine.execQ0ReservePct role v s
  | .classPartitions role cls mask => Sys2Proof.Machine.execClassPartitions role cls mask s
  | .lsClass role part migration v => Sys2Proof.Machine.execLsClass role part migration v s
  | .epochEnd => Sys2Proof.Machine.execEpochEnd s
  | .placementInvocation part obj out => Sys2Proof.Machine.execPlacementInvocation part obj out s
  | .migrationCopyDone part page med => Sys2Proof.Machine.execMigrationCopyDone part page med s
  | .t3ProgramDone => Sys2Proof.Machine.execT3ProgramDone s
  | .readDisturbRelocate bay blk => Sys2Proof.Machine.execReadDisturbRelocate bay blk s
  | .retentionRefresh bay blk => Sys2Proof.Machine.execRetentionRefresh bay blk s
  | .wearLevel bay => Sys2Proof.Machine.execWearLevel bay s
  | .flashBlockRetire bay blk wear => Sys2Proof.Machine.execFlashBlockRetire bay blk wear s
  | .tierReservationWrite role tier part v => Sys2Proof.Machine.execTierReservationWrite role tier part v s
  | .lend role ix v => Sys2Proof.Machine.execLend role ix v s
  | .sharedEnable role v => Sys2Proof.Machine.execSharedEnable role v s
  | .hostSlot role ix v => Sys2Proof.Machine.execHostSlot role ix v s
  | .chQuota role sync part v => Sys2Proof.Machine.execChQuota role sync part v s
  | .programImage role slot img => Sys2Proof.Machine.execProgramImage role slot img s
  | .program role slot img => Sys2Proof.Machine.execProgram role slot img s
  | .pipeline role slot img => Sys2Proof.Machine.execPipeline role slot img s
  | .clusterRetire role c => Sys2Proof.Machine.execClusterRetire role c s
  | .clusterReset role part l => Sys2Proof.Machine.execClusterReset role part l s
  | .enable role part v => Sys2Proof.Machine.execEnable role part v s
  | .fence role part v => Sys2Proof.Machine.execFence role part v s
  | .reset role part v => Sys2Proof.Machine.execReset role part v s
  | .eqEnable fn v => Sys2Proof.Machine.execEqEnable fn v s
  | .eqAck fn v => Sys2Proof.Machine.execEqAck fn v s
  | .eventHeldWrite fn => Sys2Proof.Machine.execEventHeldWrite fn s
  | .memorySpaceEnable fn b => Sys2Proof.Machine.execMemorySpaceEnable fn b s
  | .busMasterEnable fn b => Sys2Proof.Machine.execBusMasterEnable fn b s
  | .interruptDisable fn b => Sys2Proof.Machine.execInterruptDisable fn b s
  | .powerState fn v => Sys2Proof.Machine.execPowerState fn v s
  | .initiateFlr fn => Sys2Proof.Machine.execInitiateFlr fn s
  | .functionResetDone fn => Sys2Proof.Machine.execFunctionResetDone fn s
  | .hotReset port => Sys2Proof.Machine.execHotReset port s
  | .dlDown port => Sys2Proof.Machine.execDlDown port s
  | .linkTrainingDone port t => Sys2Proof.Machine.execLinkTrainingDone port t s
  | .retrain role port v => Sys2Proof.Machine.execRetrain role port v s
  | .bypassForce role v => Sys2Proof.Machine.execBypassForce role v s
  | .ringRetryExpiry => Sys2Proof.Machine.execRingRetryExpiry s
  | .cxlReleaseDynamicCapacity port ext count => Sys2Proof.Machine.execCxlReleaseDynamicCapacity port ext count s
  | .cxlAddDynamicCapacityResponse port accepted => Sys2Proof.Machine.execCxlAddDynamicCapacityResponse port accepted s
  | .identifyMemoryDevice port => Sys2Proof.Machine.execIdentifyMemoryDevice port s
  | .getSupportedLogs port => Sys2Proof.Machine.execGetSupportedLogs port s
  | .getLog port off len => Sys2Proof.Machine.execGetLog port off len s
  | .getEventRecords port log => Sys2Proof.Machine.execGetEventRecords port log s
  | .clearEventRecords port log all handles => Sys2Proof.Machine.execClearEventRecords port log all handles s
  | .getEventInterruptPolicy port => Sys2Proof.Machine.execGetEventInterruptPolicy port s
  | .setEventInterruptPolicy port policy => Sys2Proof.Machine.execSetEventInterruptPolicy port policy s
  | .getPoisonList port addr len => Sys2Proof.Machine.execGetPoisonList port addr len s
  | .getDynamicCapacityConfiguration port => Sys2Proof.Machine.execGetDynamicCapacityConfiguration port s
  | .getDynamicCapacityExtentList port first count => Sys2Proof.Machine.execGetDynamicCapacityExtentList port first count s
  | .globalPersistentFlush port phase => Sys2Proof.Machine.execGlobalPersistentFlush port phase s
  | .attnButtonPress bay => Sys2Proof.Machine.execAttnButtonPress bay s
  | .bayQuiesceTimer bay => Sys2Proof.Machine.execBayQuiesceTimer bay s
  | .bayCtrl w bay v => Sys2Proof.Machine.execBayCtrl w bay v s
  | .cartridgeRemoved bay => Sys2Proof.Machine.execCartridgeRemoved bay s
  | .cartridgeSurpriseRemoval bay present => Sys2Proof.Machine.execCartridgeSurpriseRemoval bay present s
  | .powerFault bay => Sys2Proof.Machine.execPowerFault bay s
  | .cartridgeInserted bay serial fw => Sys2Proof.Machine.execCartridgeInserted bay serial fw s
  | .cartridgeSettleTimer bay => Sys2Proof.Machine.execCartridgeSettleTimer bay s
  | .cartridgeCheckDone bay qualified => Sys2Proof.Machine.execCartridgeCheckDone bay qualified s
  | .rebuildDone bay => Sys2Proof.Machine.execRebuildDone bay s
  | .lockstepMismatch u => Sys2Proof.Machine.execLockstepMismatch u s
  | .larkspurWatchdogExpiry => Sys2Proof.Machine.execLarkspurWatchdogExpiry s
  | .scrubRead t med => Sys2Proof.Machine.execScrubRead t med s
  | .deadheadAdd role entry => Sys2Proof.Machine.execDeadheadAdd role entry s
  | .recommendDismiss role entry => Sys2Proof.Machine.execRecommendDismiss role entry s
  | .dupWindowStart c => Sys2Proof.Machine.execDupWindowStart c s
  | .iftDue c => Sys2Proof.Machine.execIftDue c s
  | .iftDeferExpiry c => Sys2Proof.Machine.execIftDeferExpiry c s
  | .iftDone c pass => Sys2Proof.Machine.execIftDone c pass s
  | .moduleId role partner v => Sys2Proof.Machine.execModuleId role partner v s
  | .pairRole role part partner v => Sys2Proof.Machine.execPairRole role part partner v s
  | .mirrorRange role ix v => Sys2Proof.Machine.execMirrorRange role ix v s
  | .pairEnable role v => Sys2Proof.Machine.execPairEnable role v s
  | .leaseRenew role v => Sys2Proof.Machine.execLeaseRenew role v s
  | .leaseExpiry => Sys2Proof.Machine.execLeaseExpiry s
  | .partnerSilent => Sys2Proof.Machine.execPartnerSilent s
  | .heartbeatTimer => Sys2Proof.Machine.execHeartbeatTimer s
  | .heartbeat port f hb => Sys2Proof.Machine.execHeartbeat port f hb s
  | .log port f recs => Sys2Proof.Machine.execLog port f recs s
  | .logAck port f upTo status detail => Sys2Proof.Machine.execLogAck port f upTo status detail s
  | .nack port f seq => Sys2Proof.Machine.execNack port f seq s
  | .repairRead port f part blk => Sys2Proof.Machine.execRepairRead port f part blk s
  | .repairData port f part blk r => Sys2Proof.Machine.execRepairData port f part blk r s
  | .resync port f part page valid poison data => Sys2Proof.Machine.execResync port f part page valid poison data s
  | .resyncSend => Sys2Proof.Machine.execResyncSend s
  | .ringFrameForward port f => Sys2Proof.Machine.execRingFrameForward port f s
  | .handover role part => Sys2Proof.Machine.execHandover role part s
  | .mirrorFormatCommit role v => Sys2Proof.Machine.execMirrorFormatCommit role v s
  | .enwaryOpen t roleReq slot => Sys2Proof.Machine.execEnwaryOpen t roleReq slot s
  | .auth sess proof => Sys2Proof.Machine.execAuth sess proof s
  | .authTimeout sess => Sys2Proof.Machine.execAuthTimeout sess s
  | .close m => Sys2Proof.Machine.execClose m s
  | .keepalive m => Sys2Proof.Machine.execKeepalive m s
  | .enwaryRead m idx sub off len => Sys2Proof.Machine.execEnwaryRead m idx sub off len s
  | .enwaryWrite m idx sub data => Sys2Proof.Machine.execEnwaryWrite m idx sub data s
  | .readClear m idx sub => Sys2Proof.Machine.execReadClear m idx sub s
  | .describe m idx sub => Sys2Proof.Machine.execDescribe m idx sub s
  | .enumerate m first => Sys2Proof.Machine.execEnumerate m first s
  | .segBegin m idx sub total => Sys2Proof.Machine.execSegBegin m idx sub total s
  | .segData m off data => Sys2Proof.Machine.execSegData m off data s
  | .segEnd m crc => Sys2Proof.Machine.execSegEnd m crc s
  | .segmentTimeout sess => Sys2Proof.Machine.execSegmentTimeout sess s
  | .subscribe m mask => Sys2Proof.Machine.execSubscribe m mask s
  | .notifyAck m seq => Sys2Proof.Machine.execNotifyAck m seq s
  | .notifyResend sess => Sys2Proof.Machine.execNotifyResend sess s
  | .sessionIdleExpiry sess => Sys2Proof.Machine.execSessionIdleExpiry sess s
  | .networkConfigApply => Sys2Proof.Machine.execNetworkConfigApply s
  | .mbRead fn idx sub => Sys2Proof.Machine.execMbRead fn idx sub s
  | .mbWrite fn idx sub data => Sys2Proof.Machine.execMbWrite fn idx sub data s
  | .mbReadClear fn idx sub => Sys2Proof.Machine.execMbReadClear fn idx sub s
  | .mbDescribe fn idx sub => Sys2Proof.Machine.execMbDescribe fn idx sub s
  | .entdaa addr => Sys2Proof.Machine.execEntdaa addr s
  | .setEndpointId op eid => Sys2Proof.Machine.execSetEndpointId op eid s
  | .getEndpointId => Sys2Proof.Machine.execGetEndpointId s
  | .getEndpointUuid => Sys2Proof.Machine.execGetEndpointUuid s
  | .getMctpVersionSupport msgType => Sys2Proof.Machine.execGetMctpVersionSupport msgType s
  | .getMessageTypeSupport => Sys2Proof.Machine.execGetMessageTypeSupport s
  | .getVendorDefinedMessageSupport sel => Sys2Proof.Machine.execGetVendorDefinedMessageSupport sel s
  | .getTid => Sys2Proof.Machine.execGetTid s
  | .setTid tid => Sys2Proof.Machine.execSetTid tid s
  | .getPldmVersion typ => Sys2Proof.Machine.execGetPldmVersion typ s
  | .getPldmTypes => Sys2Proof.Machine.execGetPldmTypes s
  | .getPldmCommands typ => Sys2Proof.Machine.execGetPldmCommands typ s
  | .getPdrRepositoryInfo => Sys2Proof.Machine.execGetPdrRepositoryInfo s
  | .getPdr record => Sys2Proof.Machine.execGetPdr record s
  | .getSensorReading sensor => Sys2Proof.Machine.execGetSensorReading sensor s
  | .getSensorThresholds sensor => Sys2Proof.Machine.execGetSensorThresholds sensor s
  | .setEventReceiver enableMode eid => Sys2Proof.Machine.execSetEventReceiver enableMode eid s
  | .getVersion => Sys2Proof.Machine.execGetVersion s
  | .getCapabilities => Sys2Proof.Machine.execGetCapabilities s
  | .negotiateAlgorithms asym hash => Sys2Proof.Machine.execNegotiateAlgorithms asym hash s
  | .getDigests => Sys2Proof.Machine.execGetDigests s
  | .getCertificate slot off len => Sys2Proof.Machine.execGetCertificate slot off len s
  | .spdmChallenge slot nonce => Sys2Proof.Machine.execSpdmChallenge slot nonce s
  | .getMeasurements op sign nonce => Sys2Proof.Machine.execGetMeasurements op sign nonce s
  | .perstAssert => Sys2Proof.Machine.execPerstAssert s
  | .perstDeassert => Sys2Proof.Machine.execPerstDeassert s
  | .startStageDone r => Sys2Proof.Machine.execStartStageDone r s
  | .startTimeout => Sys2Proof.Machine.execStartTimeout s
  | .stageWatchdog => Sys2Proof.Machine.execStageWatchdog s
  | .startRetryTimer => Sys2Proof.Machine.execStartRetryTimer s
  | .restart role v => Sys2Proof.Machine.execRestart role v s
  | .startFailCount role v => Sys2Proof.Machine.execStartFailCount role v s
  | .updateBegin role len => Sys2Proof.Machine.execUpdateBegin role len s
  | .updateEraseDone => Sys2Proof.Machine.execUpdateEraseDone s
  | .updateData role data => Sys2Proof.Machine.execUpdateData role data s
  | .updateCommit role v => Sys2Proof.Machine.execUpdateCommit role v s
  | .imageConfirm role v => Sys2Proof.Machine.execImageConfirm role v s
  | .minSvn role v => Sys2Proof.Machine.execMinSvn role v s
  | .recoveryBegin => Sys2Proof.Machine.execRecoveryBegin s
  | .recoveryWrite => Sys2Proof.Machine.execRecoveryWrite s
  | .recoveryCommit => Sys2Proof.Machine.execRecoveryCommit s
  | .recoveryRestart => Sys2Proof.Machine.execRecoveryRestart s
  | .recoveryRestartTimer => Sys2Proof.Machine.execRecoveryRestartTimer s
  | .clearFails => Sys2Proof.Machine.execClearFails s
  | .credSlot role n data => Sys2Proof.Machine.execCredSlot role n data s
  | .pairPeer role data => Sys2Proof.Machine.execPairPeer role data s
  | .inputUndervoltage => Sys2Proof.Machine.execInputUndervoltage s
  | .pllLockLoss => Sys2Proof.Machine.execPllLockLoss s
  | .standbyPowerLoss => Sys2Proof.Machine.execStandbyPowerLoss s
  | .powerWindow watts => Sys2Proof.Machine.execPowerWindow watts s
  | .throttleForce role v => Sys2Proof.Machine.execThrottleForce role v s
  | .sensorThreshold sensor v => Sys2Proof.Machine.execSensorThreshold sensor v s
  | .registerWrite t data => Sys2Proof.Machine.execRegisterWrite t data s
  | .flitCrcError port => Sys2Proof.Machine.execFlitCrcError port s
  | .standbyPowerRestored => Sys2Proof.Machine.execStandbyPowerRestored s
  | .larkspurRestartDone => Sys2Proof.Machine.execLarkspurRestartDone s
  | .refreshFailure u => Sys2Proof.Machine.execRefreshFailure u s
  | .extentClearDone part => Sys2Proof.Machine.execExtentClearDone part s
  | .entropyHealthFailure => Sys2Proof.Machine.execEntropyHealthFailure s
  | .keyDrawTimeout part => Sys2Proof.Machine.execKeyDrawTimeout part s

end Sys2Proof.Machine
end

