-- ==== Sys2Proof/Machine/Step.lean ====
section
/-! DEFINITION. One step of the block: the command at the front of the queue is taken and executed; with no command
waiting the block idles, and a pending arbiter commit ends (log entry 2). -/

namespace Sys2Proof.Machine

/-- One step: take the oldest waiting command and carry it out on the rest of the queue. When none waits the block idles: a
pending arbiter commit ends (Table 09.7), nothing else changes. -/
def step (s : State) : Host.Outcome State Fault Refusal :=
  match s.pending with
  | [] => .next ⟨s.dev.commitDone, []⟩
  | c :: rest => exec c ⟨s.dev, rest⟩

/-- The state with the command that a word spells put at the front of its queue; unchanged where it spells none. -/
def State.withFetchWord (s : State) (nbits w : Nat) : State :=
  match decodeTableWord nbits w with
  | some c => ⟨s.dev, c :: s.pending⟩
  | none => s

end Sys2Proof.Machine
end

