-- ==== Sys2Proof/Safety.lean ====
section
/-! DEFINITION. What counts as a safe run, and the conditions under which commands complete, in the terms that claims
use. -/

namespace Sys2Proof

/-- A run of `k` steps is safe when it ends in a state: no command stopped the block. -/
def SafeRun (k : Nat) (s : Machine.State) : Prop := ∃ t, core.run k s = .next t

namespace Machine

/-! ## The device at rest -/

/-- Nothing waits for an event: no request is held, no object is on its way out, no revoke is in progress, no copy to or from a
lender can go on, no write of the device itself has just ended, no CH_RESTART waits. What an event releases (R62, R130, R138) is then nothing. -/
def Dev.quiet (d : Dev) : Prop :=
  d.mm.held = [] ∧ d.mm.clearing = [] ∧ d.coh.revokes = [] ∧ (∀ e ∈ d.mm.migs, d.thCopyStep e.1 = d) ∧ d.chs.wrote = [] ∧
  ∀ e ∈ d.chs.chans, e.2.restart = none

/-! ## Admin commands -/

/-- An admin command reaches its own checks: the function's queue has one to fetch, and neither the state of the function and
its partition nor a reserved bit turns the command away (R180, R183, R302, R304, R309, R404). `served` marks the commands that
a fenced partition still serves. -/
def Dev.admTurn (d : Dev) (h : Adm) (served : Bool) : Prop :=
  d.admReady h.fn = true ∧ (d.admFetch h).admBar h served = none

/-! ## Objects and host accesses -/

/-- An admin command on an object reaches its effect: no earlier command on its numbers is outstanding, the queue's turn has
come, its object is not mirrored by a PRIMARY partition, and none of its own checks refuses it. -/
def Dev.objTurn (d : Dev) (h : Adm) (served : Bool) (c : ObjCmd) : Prop :=
  d.cmdWaits h.fn.num c = false ∧ d.admTurn h served ∧ (d.admFetch h).cmdMirrored h.fn.num c = false ∧
  (d.admFetch h).cmdCheck h.fn.num c = none

/-- The bytes of a target as one piece. -/
def Tgt.piece (t : Tgt) (len : Nat) : Piece := ⟨t.part, t.off, len⟩

/-- Nothing holds back an access of `len` bytes, charged to `cls`, to a target in an object of its own: its pages have frames
in T1 or T2 and do not move, no locked sequence, cap, seal, handover, repair or unacknowledged mirrored write stands in the
way. -/
def Dev.unheld (d : Dev) (t : Tgt) (len cls : Nat) (w : Bool) : Prop :=
  t.obj.window = false ∧ t.obj.sealStarted = false ∧ d.handHeld t.part t.obj = false ∧
  (∀ b ∈ (t.piece len).blks, d.blkHeld t.part b = false ∧ d.repairing t.part b = false) ∧
  (∀ k ∈ pieceKeys [t.piece len], (d.page k).home.isSome = true ∧ d.inT3 k = false ∧ d.inTh k = false ∧ d.moving k = false) ∧
  d.bw.locks = [] ∧ d.capBars [t.piece len] w cls = false

/-- A native line request of a host reaches a target: the link and the message are in order, the partition that its DST names
is neither fenced nor SECONDARY, an object lies at its offset, and the host holds an ACTIVE slot of the partition. -/
def Dev.lineReaches (d : Dev) (q : HReq) (feat p slot : Nat) (t : Tgt) : Prop :=
  d.hostPort q.port = true ∧ d.native q.port = true ∧ bit (d.port q.port).feats feat = true ∧ q.off % 64 = 0 ∧
  d.endpointPart q.port q.dst = some p ∧ d.fenced p = false ∧ d.pairRole p ≠ 2 ∧ d.resolve p q.off = some t ∧
  d.leaseFenced t.part t.obj = false ∧ t.holds 64 = true ∧ d.nativeSlot q.src p = some slot

/-- The request that a line message stands for. -/
def lineReq (q : HReq) (kind : HKind) (mask : Nat) (data : List Byte) (cls : Nat) : HostReq :=
  ⟨kind, q, ⟨q.port, 0⟩, 64, mask, data, .good, cls⟩

/-! ## Channel work -/

/-- A recipe's descriptor stands at the head of an ACTIVE channel's pipeline with its opcode (R213, R216). -/
def Dev.recipeOn (d : Dev) (handle recipe op k : Nat) (c : Chan) (x : Dsc) : Prop :=
  d.workChan handle = some (k, c) ∧ c.recipe = recipe ∧ c.st = .active ∧ c.head op = some x

/-- The device after it has asked the host of a function for bytes. -/
def Dev.hostAsked (d : Dev) (f : FnId) (addr len : Nat) : Dev :=
  ({ d with nextTag := d.nextTag + 1 }).emit (.hostRd f addr len d.nextTag)

/-- A mailbox operation reaches a function: it takes memory requests and Memory Space Enable is 1. -/
def Dev.mbOpen (d : Dev) (f : FnId) : Prop := d.barUp f = true ∧ d.mse f = true

/-- A write through BAR0 reaches a register: the same, and READY is 1 (R454). -/
def Dev.barOpen (d : Dev) (f : FnId) : Prop := d.barUp f = true ∧ d.mse f = true ∧ d.operational = true

/-! ## Dictionary writes by rows of their own -/

/-- A write of an entry reaches the entry's own rule: Larkspur serves it and no check of Table 14.4 refuses it. -/
def Dev.mayStore (d : Dev) (r : Role) (idx sub len v : Nat) : Prop :=
  d.served = true ∧ d.odRefuse r none idx sub len v = none

/-! ## Ring frames -/

/-- A ring frame is taken: it comes over a live ring link with the feature, from the partner, for this module, intact and with
the SEQ expected next (R412, R413). -/
def Dev.ringTakes (d : Dev) (port : Nat) (f : RingHdr) : Prop :=
  (port = 22 ∨ port = 23) ∧ d.linkUp port = true ∧ d.isMe f.dst = true ∧ bit (d.port port).feats 8 = true ∧
  f.src = d.rd K.partnerId ∧ ringPasses f = true ∧ f.seq = d.rxNext port

/-- The device that has taken a ring frame: its sender heard, its SEQ passed. -/
def Dev.ringTook (d : Dev) (port : Nat) (f : RingHdr) : Dev := (d.hear f.src).rxTake port

/-! ## Sessions -/

/-- A request of a session runs: the session is open over a transport in service, the message authenticates, no earlier request
of it waits, and its SEQ is the next one (R440). -/
def Dev.sessTurn (d : Dev) (m : MsgHdr) (x : Session) : Prop :=
  d.session m.sess = some x ∧ d.transportUp x.tr = true ∧ x.isOpen = true ∧ m.macOk = true ∧ d.sessBusy m.sess = false ∧
  m.seq = x.lastSeq + 1

/-! ## Stage programs -/

/-- Cluster `c` can carry out the next instruction of its program: it serves a stage of an ACTIVE channel, its stage is not
paused at a STEP, its program counter lies in the program and the step has room for the instruction (R250, R267). -/
def Dev.stageReady (d : Dev) (c : Nat) : Prop :=
  d.stageOn c = true ∧ (d.clu c).paused = false ∧ (d.clu c).limit = none

/-- The device after an instruction that changed the state of cluster `c` to `u` and goes on at `pc`. -/
def Dev.ranTo (d : Dev) (c : Nat) (u : Clu) (pc : Nat) : Dev :=
  d.setClu c { u with pc := pc, insns := (d.clu c).insns + 1 }

/-- The same, going on at the next instruction. -/
def Dev.ranOn (d : Dev) (c : Nat) (u : Clu) : Dev := d.ranTo c u ((d.clu c).pc + 1)

/-- A range of SRAM that an instruction may read now: readable, and no outstanding stream operation uses it (R251, R264). -/
def Clu.mayRead (u : Clu) (a n : Nat) : Prop := u.readOk a n = true ∧ u.busy a n = false

/-- A range of SRAM that an instruction may write now: below SRAM_LIMIT, and no outstanding stream operation uses it. -/
def Clu.mayWrite (u : Clu) (a n : Nat) : Prop := a + n ≤ u.sramLimit ∧ u.busy a n = false

end Machine

end Sys2Proof
end

