-- ==== Sys2Proof/WellFormed.lean ====
section
/-! DEFINITION. Which commands are well formed: every port, partition, cluster, bay, number and handle that a command
names lies in the range that the manual gives its field (R13, R14, R27, R118, R255), and data has the length of its
field. The device answers the commands of its environment; it never sends one, so a command that is not well formed
stands for nothing that can arrive. -/

namespace Sys2Proof

/-- A function exists on a fabric port for every partition number (R303). -/
def FnId.wf (f : FnId) : Bool := decide (f.port < 22) && decide (f.num < 64)

/-- An admin command comes from a function and carries a 16-bit identifier (R182). -/
def Adm.wf (h : Adm) : Bool := h.fn.wf && decide (h.cid < 65536) && h.run == 0

/-- A host request arrives at a fabric port with fields of the widths of Table 11.11. -/
def HReq.wf (q : HReq) : Bool :=
  decide (q.port < 22) && decide (q.src < 2 ^ 20) && decide (q.dst < 2 ^ 20) && decide (q.off < 2 ^ 48) &&
  decide (q.tag < 2 ^ 16) && decide (q.pool < 16) && decide (q.lockId < 16)

/-- A dictionary role names a partition that exists. -/
def Role.wf : Role → Bool
  | .fabric => true
  | .observer => true
  | .partition p => decide (p < 64)

/-- The parameters of CH_CREATE have the widths of Table 06.4. -/
def ChArgs.wf (a : ChArgs) : Bool :=
  decide (a.recipe < 2 ^ 16) && decide (a.cls < 256) && decide (a.policy < 256) && decide (a.sqLog2 < 256) &&
  decide (a.cqLog2 < 256) && decide (a.loc < 256) && decide (a.clusters < 256) && decide (a.sqAddr < 2 ^ 64) &&
  decide (a.cqAddr < 2 ^ 64) && decide (a.sqEp < 2 ^ 32) && decide (a.cqEp < 2 ^ 32) && decide (a.inflight < 2 ^ 16) &&
  decide (a.flags < 2 ^ 16) && decide (a.args < 2 ^ 128)

/-- A stack or a DDR channel that exists (R3). -/
def MemUnit.wf : MemUnit → Bool
  | .stack s => decide (s < 8)
  | .ddr c => decide (c < 16)

/-- A writer of the bay registers: a role, or a function (R362). -/
def Writer.wf : Writer → Bool
  | .role r => r.wf
  | .dvsec f => f.wf

/-- A beat found wrong in the paths of Table 12.2. -/
def Beat.wf : Beat → Bool
  | .hostRead q _ => q.wf
  | .streamRead c _ _ => decide (c < 256)
  | .streamWrite c _ _ => decide (c < 256)
  | .hostWrite q _ => q.wf
  | .bar2Write f _ _ => f.wf
  | .bar2Read f _ _ len _ => f.wf && decide (0 < len)
  | .recipeRead _ _ => true
  | .bar2Header f _ _ => f.wf
  | .header q _ => q.wf
  | .issued _ => true
  | .lockBeat _ => true
  | .ring p => decide (p < 24)

/-- A unit of Table 12.3. -/
def LockUnit.wf : LockUnit → Bool
  | .cluster c => decide (c < 256)
  | .memory u _ => u.wf
  | .control => true
  | .placement p n => decide (p < 64) && decide (n < 65536)
  | .flash b _ => decide (b < 8)

/-- A register target: an entry of the dictionary's address space, or a register of a function (R447). -/
def RegTarget.wf : RegTarget → Bool
  | .dict r idx sub => r.wf && decide (idx < 65536) && decide (sub < 256)
  | .bar0 f _ => f.wf
  | .config f _ => f.wf
  | .rom _ => true

/-- Whether a command is well formed. -/
def wellFormed : Instr → Bool
  | .chCreate h a => h.wf && a.wf
  | .chDestroy h handle => h.wf && decide (handle < 2 ^ 32)
  | .chReset h handle => h.wf && decide (handle < 2 ^ 32)
  | .chRestart h handle _ => h.wf && decide (handle < 2 ^ 32)
  | .chModify h handle _ _ _ port => h.wf && decide (handle < 2 ^ 32) && decide (port < 256)
  | .chModifyPortBind handle => decide (handle < 2 ^ 32)
  | .chQuery h handle => h.wf && decide (handle < 2 ^ 32)
  | .syncAlloc h _ _ _ _ => h.wf
  | .syncFree h handle => h.wf && decide (handle < 2 ^ 32)
  | .syncSignal h handle _ => h.wf && decide (handle < 2 ^ 32)
  | .syncQuery h handle => h.wf && decide (handle < 2 ^ 32)
  | .syncArm h handle _ => h.wf && decide (handle < 2 ^ 32)
  | .objCreate h obj _ _ _ desc => h.wf && decide (obj < 65536) && decide (desc < 2 ^ 128)
  | .objPlace h obj desc => h.wf && decide (obj < 65536) && decide (desc < 2 ^ 128)
  | .objDiscard h obj _ _ => h.wf && decide (obj < 65536)
  | .objQuery h obj _ _ _ _ _ => h.wf && decide (obj < 65536)
  | .objDestroy h obj => h.wf && decide (obj < 65536)
  | .viewSet h obj _ _ => h.wf && decide (obj < 65536)
  | .viewSetThDrained part obj => decide (part < 64) && decide (obj < 65536)
  | .viewCreate h win _ _ _ _ backing _ => h.wf && decide (win < 65536) && decide (backing < 65536)
  | .deltaSeal h obj base _ _ _ => h.wf && decide (obj < 65536) && decide (base < 65536)
  | .sealDone part obj => decide (part < 64) && decide (obj < 65536)
  | .shareExport h obj _ => h.wf && decide (obj < 65536)
  | .shareWithdraw h obj => h.wf && decide (obj < 65536)
  | .shareImport h al _ _ _ _ => h.wf && decide (al < 65536)
  | .grant h slot _ _ _ => h.wf && decide (slot < 65536)
  | .revoke h slot _ _ => h.wf && decide (slot < 65536)
  | .revokeDrained _ => true
  | .releaseTimeoutExpiry _ => true
  | .acceptStale h _ _ => h.wf
  | .unknownAdminOpcode h _ => h.wf
  | .aqEnable fn _ => fn.wf
  | .asqTail fn _ => fn.wf
  | .acqHead fn _ => fn.wf
  | .channelDoorbell fn idx part word => fn.wf && decide (idx < 65536) && decide (part < 64) && decide (word < 2 ^ 64)
  | .doorbell port dst handle word => decide (port < 24) && decide (dst < 2 ^ 20) && decide (handle < 2 ^ 32) && decide (word < 2 ^ 64)
  | .descriptorFetch handle _ => decide (handle < 2 ^ 32)
  | .descriptorComplete handle _ => decide (handle < 2 ^ 32)
  | .nopDescriptor handle => decide (handle < 2 ^ 32)
  | .append handle _ => decide (handle < 2 ^ 32)
  | .decode handle _ => decide (handle < 2 ^ 32)
  | .prefill handle _ => decide (handle < 2 ^ 32)
  | .merge handle _ => decide (handle < 2 ^ 32)
  | .push handle _ => decide (handle < 2 ^ 32)
  | .pushDecision handle _ => decide (handle < 2 ^ 32)
  | .prefetch handle => decide (handle < 2 ^ 32)
  | .accumulate handle _ => decide (handle < 2 ^ 32)
  | .readout handle _ => decide (handle < 2 ^ 32)
  | .gather handle _ => decide (handle < 2 ^ 32)
  | .add c _ _ _ => decide (c < 256)
  | .sub c _ _ _ => decide (c < 256)
  | .and c _ _ _ => decide (c < 256)
  | .or c _ _ _ => decide (c < 256)
  | .xor c _ _ _ => decide (c < 256)
  | .sll c _ _ _ => decide (c < 256)
  | .srl c _ _ _ => decide (c < 256)
  | .sra c _ _ _ => decide (c < 256)
  | .slt c _ _ _ => decide (c < 256)
  | .sltu c _ _ _ => decide (c < 256)
  | .mul c _ _ _ => decide (c < 256)
  | .mulhu c _ _ _ => decide (c < 256)
  | .min c _ _ _ => decide (c < 256)
  | .max c _ _ _ => decide (c < 256)
  | .addi c _ _ _ => decide (c < 256)
  | .andi c _ _ _ => decide (c < 256)
  | .ori c _ _ _ => decide (c < 256)
  | .xori c _ _ _ => decide (c < 256)
  | .slli c _ _ _ => decide (c < 256)
  | .srli c _ _ _ => decide (c < 256)
  | .srai c _ _ _ => decide (c < 256)
  | .slti c _ _ _ => decide (c < 256)
  | .lw32 c _ _ _ _ => decide (c < 256)
  | .ld64 c _ _ _ _ => decide (c < 256)
  | .sw32 c _ _ _ => decide (c < 256)
  | .sd64 c _ _ _ => decide (c < 256)
  | .beq c _ _ _ => decide (c < 256)
  | .bne c _ _ _ => decide (c < 256)
  | .blt c _ _ _ => decide (c < 256)
  | .bge c _ _ _ => decide (c < 256)
  | .bltu c _ _ _ => decide (c < 256)
  | .bgeu c _ _ _ => decide (c < 256)
  | .j c _ _ => decide (c < 256)
  | .jr c _ _ => decide (c < 256)
  | .liq c _ _ _ => decide (c < 256)
  | .tlds c fmtB _ _ _ => decide (c < 256) && decide (fmtB < 16)
  | .tmma c fmtA fmtB _ _ n t0 _ _ => decide (c < 256) && decide (fmtA < 16) && decide (fmtB < 16) && decide (1 ≤ n ∧ n ≤ 8) && decide (t0 < 8)
  | .tdrain c fmtA _ _ n t0 => decide (c < 256) && decide (fmtA < 16) && decide (1 ≤ n ∧ n ≤ 8) && decide (t0 < 8)
  | .tzero c n t0 => decide (c < 256) && decide (1 ≤ n ∧ n ≤ 8) && decide (t0 < 8)
  | .tlda c _ _ n t0 _ => decide (c < 256) && decide (1 ≤ n ∧ n ≤ 8) && decide (t0 < 8)
  | .vadd c _ _ _ => decide (c < 256)
  | .vsub c _ _ _ => decide (c < 256)
  | .vmul c _ _ _ => decide (c < 256)
  | .vfma c _ _ _ _ => decide (c < 256)
  | .vmin c _ _ _ => decide (c < 256)
  | .vmax c _ _ _ => decide (c < 256)
  | .vabs c _ _ => decide (c < 256)
  | .vneg c _ _ => decide (c < 256)
  | .vcmpeq c _ _ _ => decide (c < 256)
  | .vcmplt c _ _ _ => decide (c < 256)
  | .vcmple c _ _ _ => decide (c < 256)
  | .vsel c _ _ _ _ => decide (c < 256)
  | .vand c _ _ _ => decide (c < 256)
  | .vor c _ _ _ => decide (c < 256)
  | .vxor c _ _ _ => decide (c < 256)
  | .viadd c _ _ _ => decide (c < 256)
  | .vishl c _ _ _ => decide (c < 256)
  | .visra c _ _ _ => decide (c < 256)
  | .vrcp c _ _ => decide (c < 256)
  | .vrsqrt c _ _ => decide (c < 256)
  | .vsqrt c _ _ => decide (c < 256)
  | .vexp2 c _ _ => decide (c < 256)
  | .vlog2 c _ _ => decide (c < 256)
  | .vexp c _ _ => decide (c < 256)
  | .vlog c _ _ => decide (c < 256)
  | .vtanh c _ _ => decide (c < 256)
  | .vredadd c _ _ => decide (c < 256)
  | .vredmax c _ _ => decide (c < 256)
  | .vcvtin c _ _ code => decide (c < 256) && decide (code < 16)
  | .vcvtout c _ _ code => decide (c < 256) && decide (code < 16)
  | .vmxenc c _ _ code => decide (c < 256) && decide (code < 16)
  | .vmxdec c _ _ code => decide (c < 256) && decide (code < 16)
  | .vld c _ _ _ => decide (c < 256)
  | .vst c _ _ => decide (c < 256)
  | .vldn c _ _ _ _ => decide (c < 256)
  | .vstn c _ _ _ => decide (c < 256)
  | .vbcast c _ _ => decide (c < 256)
  | .vext c _ _ _ => decide (c < 256)
  | .sld c space _ _ _ => decide (c < 256) && decide (space < 4)
  | .sst c space _ _ _ _ => decide (c < 256) && decide (space < 4)
  | .sacc c space _ _ _ _ => decide (c < 256) && decide (space < 4)
  | .streamComplete c _ _ => decide (c < 256)
  | .qpop c stage _ => decide (c < 256) && decide (stage < 16)
  | .qrel c stage => decide (c < 256) && decide (stage < 16)
  | .qsend c stage _ _ _ _ => decide (c < 256) && decide (stage < 16)
  | .qcnt c stage _ => decide (c < 256) && decide (stage < 16)
  | .dnext c _ => decide (c < 256)
  | .dpass c => decide (c < 256)
  | .ddone c _ _ => decide (c < 256)
  | .dstat c _ => decide (c < 256)
  | .ssig c _ _ => decide (c < 256)
  | .swait c _ _ => decide (c < 256)
  | .cargs c _ => decide (c < 256)
  | .idRead c _ _ => decide (c < 256)
  | .nop c => decide (c < 256)
  | .step c _ => decide (c < 256)
  | .bnd c _ _ => decide (c < 256)
  | .sfence c _ => decide (c < 256)
  | .fault c _ => decide (c < 256)
  | .rdShared q _ => q.wf
  | .rdOwn q _ => q.wf
  | .rdUncached q _ => q.wf
  | .wrUncached q _ data _ => q.wf && decide (data.length = 64)
  | .wrBack q data => q.wf && decide (data.length = 64)
  | .evict q => q.wf
  | .recallAck port _ => decide (port < 24)
  | .recallData port _ data => decide (port < 24) && decide (data.length = 64)
  | .recallTimeoutExpiry _ => true
  | .biconflict port _ _ => decide (port < 24)
  | .respData port _ _ _ => decide (port < 24)
  | .resp port _ _ => decide (port < 24)
  | .ublUnknownOpcode port src dst _ _ _ => decide (port < 24) && decide (src < 2 ^ 20) && decide (dst < 2 ^ 20)
  | .bar2Read fn _ _ _ _ => fn.wf
  | .bar2Write fn _ _ _ _ => fn.wf
  | .datapathParityError b => b.wf
  | .lockTimeoutExpiry _ => true
  | .completionTimeout _ => true
  | .lateCompletion _ => true
  | .tagQuarantineExpiry _ => true
  | .refill => true
  | .arbCommit role mask => role.wf && decide (mask < 256)
  | .shadow role group cls rank => role.wf && decide (group < 6) && decide (cls < 16) && decide (rank < 256)
  | .budgetWrite role res cls v => role.wf && decide (res < 4) && decide (cls < 16) && decide (v < 2 ^ 32)
  | .capWrite role res cls v => role.wf && decide (res < 4) && decide (cls < 16) && decide (v < 2 ^ 32)
  | .q0ReservePct role v => role.wf && decide (v < 256)
  | .classPartitions role cls mask => role.wf && decide (cls < 16) && decide (mask < 2 ^ 64)
  | .lsClass role part _ v => role.wf && decide (part < 64) && decide (v < 256)
  | .epochEnd => true
  | .placementInvocation part obj out => decide (part < 64) && decide (obj < 65536) && out.length == 1024
  | .migrationCopyDone part page _ => decide (part < 64) && decide (page < 2 ^ 32)
  | .t3ProgramDone => true
  | .readDisturbRelocate bay _ => decide (bay < 8)
  | .retentionRefresh bay _ => decide (bay < 8)
  | .wearLevel bay => decide (bay < 8)
  | .flashBlockRetire bay _ _ => decide (bay < 8)
  | .tierReservationWrite role tier part v => role.wf && decide (tier < 4) && decide (part < 64) && decide (v < 2 ^ 32)
  | .lend role i v => role.wf && decide (i < 64) && decide (v < 2 ^ 128)
  | .sharedEnable role v => role.wf && decide (v < 256)
  | .hostSlot role i v => role.wf && decide (i < 4096) && decide (v < 2 ^ 128)
  | .chQuota role _ part v => role.wf && decide (part < 64) && decide (v < 65536)
  | .programImage role slot _ => role.wf && decide (slot < 16)
  | .program role slot _ => role.wf && decide (slot < 1024)
  | .pipeline role slot _ => role.wf && decide (slot < 256)
  | .clusterRetire role c => role.wf && decide (c < 65536)
  | .clusterReset role part l => role.wf && decide (part < 64) && decide (l < 256)
  | .enable role part v => role.wf && decide (part < 64) && decide (v < 256)
  | .fence role part v => role.wf && decide (part < 64) && decide (v < 256)
  | .reset role part v => role.wf && decide (part < 64) && decide (v < 256)
  | .eqEnable fn _ => fn.wf
  | .eqAck fn _ => fn.wf
  | .eventHeldWrite fn => fn.wf
  | .memorySpaceEnable fn _ => fn.wf
  | .busMasterEnable fn _ => fn.wf
  | .interruptDisable fn _ => fn.wf
  | .powerState fn _ => fn.wf
  | .initiateFlr fn => fn.wf
  | .functionResetDone fn => fn.wf
  | .hotReset port => decide (port < 24)
  | .dlDown port => decide (port < 24)
  | .linkTrainingDone port _ => decide (port < 24)
  | .retrain role port v => role.wf && decide (port < 24) && decide (v < 256)
  | .bypassForce role v => role.wf && decide (v < 256)
  | .ringRetryExpiry => true
  | .cxlReleaseDynamicCapacity port _ _ => decide (port < 24)
  | .cxlAddDynamicCapacityResponse port _ => decide (port < 24)
  | .identifyMemoryDevice port => decide (port < 24)
  | .getSupportedLogs port => decide (port < 24)
  | .getLog port _ _ => decide (port < 24)
  | .getEventRecords port _ => decide (port < 24)
  | .clearEventRecords port _ _ _ => decide (port < 24)
  | .getEventInterruptPolicy port => decide (port < 24)
  | .setEventInterruptPolicy port _ => decide (port < 24)
  | .getPoisonList port _ _ => decide (port < 24)
  | .getDynamicCapacityConfiguration port => decide (port < 24)
  | .getDynamicCapacityExtentList port _ _ => decide (port < 24)
  | .globalPersistentFlush port _ => decide (port < 24)
  | .attnButtonPress bay => decide (bay < 8)
  | .bayQuiesceTimer bay => decide (bay < 8)
  | .bayCtrl w bay _ => w.wf && decide (bay < 8)
  | .cartridgeRemoved bay => decide (bay < 8)
  | .cartridgeSurpriseRemoval bay _ => decide (bay < 8)
  | .powerFault bay => decide (bay < 8)
  | .cartridgeInserted bay _ _ => decide (bay < 8)
  | .cartridgeSettleTimer bay => decide (bay < 8)
  | .cartridgeCheckDone bay _ => decide (bay < 8)
  | .rebuildDone bay => decide (bay < 8)
  | .lockstepMismatch u => u.wf
  | .larkspurWatchdogExpiry => true
  | .scrubRead (.block part _) _ | .scrubRead (.pageEntry part _) _ | .scrubRead (.objTable part) _
  | .scrubRead (.dirEntry part _) _ | .scrubRead (.dataKey part) _ => decide (part < 64)
  | .scrubRead (.chanCtx handle) _ | .scrubRead (.syncCtx handle) _ => decide (handle < 2 ^ 32)
  | .deadheadAdd role entry => role.wf && decide (entry < 2 ^ 64)
  | .recommendDismiss role entry => role.wf && decide (entry < 2 ^ 64)
  | .dupWindowStart c => decide (c < 256)
  | .iftDue c => decide (c < 256)
  | .iftDeferExpiry c => decide (c < 256)
  | .iftDone c _ => decide (c < 256)
  | .moduleId role _ v => role.wf && decide (v < 2 ^ 32)
  | .pairRole role part _ v => role.wf && decide (part < 64) && decide (v < 256)
  | .mirrorRange role i v => role.wf && decide (i < 256) && decide (v < 2 ^ 128)
  | .pairEnable role v => role.wf && decide (v < 256)
  | .leaseRenew role v => role.wf && decide (v < 2 ^ 64)
  | .leaseExpiry => true
  | .partnerSilent => true
  | .heartbeatTimer => true
  | .heartbeat port _ _ => decide (port < 24)
  | .log port _ _ => decide (port < 24)
  | .logAck port _ _ _ _ => decide (port < 24)
  | .nack port _ _ => decide (port < 24)
  | .repairRead port _ part _ => decide (port < 24) && decide (part < 64)
  | .repairData port _ part _ _ => decide (port < 24) && decide (part < 64)
  | .resync port _ part _ _ _ _ => decide (port < 24) && decide (part < 64)
  | .resyncSend => true
  | .ringFrameForward port _ => decide (port < 24)
  | .handover role part => role.wf && decide (part < 256)
  | .mirrorFormatCommit role v => role.wf && decide (v < 256)
  | .enwaryOpen _ _ slot => decide (slot < 256)
  | .auth _ _ => true
  | .authTimeout _ => true
  | .close _ => true
  | .keepalive _ => true
  | .enwaryRead _ idx sub _ _ => decide (idx < 65536) && decide (sub < 256)
  | .enwaryWrite _ idx sub _ => decide (idx < 65536) && decide (sub < 256)
  | .readClear _ idx sub => decide (idx < 65536) && decide (sub < 256)
  | .describe _ idx sub => decide (idx < 65536) && decide (sub < 256)
  | .enumerate _ _ => true
  | .segBegin _ idx sub _ => decide (idx < 65536) && decide (sub < 256)
  | .segData _ _ _ => true
  | .segEnd _ _ => true
  | .segmentTimeout _ => true
  | .subscribe _ _ => true
  | .notifyAck _ _ => true
  | .notifyResend _ => true
  | .sessionIdleExpiry _ => true
  | .networkConfigApply => true
  | .mbRead fn idx sub => fn.wf && decide (idx < 65536) && decide (sub < 256)
  | .mbWrite fn idx sub _ => fn.wf && decide (idx < 65536) && decide (sub < 256)
  | .mbReadClear fn idx sub => fn.wf && decide (idx < 65536) && decide (sub < 256)
  | .mbDescribe fn idx sub => fn.wf && decide (idx < 65536) && decide (sub < 256)
  | .entdaa _ => true
  | .setEndpointId _ e => decide (e < 256)
  | .getEndpointId => true
  | .getEndpointUuid => true
  | .getMctpVersionSupport _ => true
  | .getMessageTypeSupport => true
  | .getVendorDefinedMessageSupport _ => true
  | .getTid => true
  | .setTid t => decide (t < 256)
  | .getPldmVersion _ => true
  | .getPldmTypes => true
  | .getPldmCommands _ => true
  | .getPdrRepositoryInfo => true
  | .getPdr n => decide (n < 2 ^ 32)
  | .getSensorReading _ => true
  | .getSensorThresholds _ => true
  | .setEventReceiver _ e => decide (e < 256)
  | .getVersion => true
  | .getCapabilities => true
  | .negotiateAlgorithms _ _ => true
  | .getDigests => true
  | .getCertificate _ _ _ => true
  | .spdmChallenge _ _ => true
  | .getMeasurements op _ _ => decide (op < 256)
  | .perstAssert => true
  | .perstDeassert => true
  | .startStageDone _ => true
  | .startTimeout => true
  | .stageWatchdog => true
  | .startRetryTimer => true
  | .restart role v => role.wf && decide (v < 256)
  | .startFailCount role v => role.wf && decide (v < 256)
  | .updateBegin role len => role.wf && decide (len < 2 ^ 32)
  | .updateEraseDone => true
  | .updateData role _ => role.wf
  | .updateCommit role v => role.wf && decide (v < 256)
  | .imageConfirm role v => role.wf && decide (v < 256)
  | .minSvn role v => role.wf && decide (v < 65536)
  | .recoveryBegin => true
  | .recoveryWrite => true
  | .recoveryCommit => true
  | .recoveryRestart => true
  | .recoveryRestartTimer => true
  | .clearFails => true
  | .credSlot role n _ => role.wf && decide (n < 8)
  | .pairPeer role _ => role.wf
  | .inputUndervoltage => true
  | .pllLockLoss => true
  | .standbyPowerLoss => true
  | .powerWindow _ => true
  | .throttleForce role v => role.wf && decide (v < 256)
  | .sensorThreshold i _ => decide (1 ≤ i ∧ i ≤ 10)
  | .registerWrite t _ => t.wf
  | .flitCrcError port => decide (port < 24)
  | .standbyPowerRestored => true
  | .larkspurRestartDone => true
  | .refreshFailure u => u.wf
  | .extentClearDone part => decide (part < 64)
  | .entropyHealthFailure => true
  | .keyDrawTimeout part => decide (part < 64)

end Sys2Proof
end

