-- ==== Sys2Proof/Certificates/Slice0/Obligations.lean ====
section
/-! DEFINITION. The statements for the provers. Each says for commands of one family under which conditions they complete and
what the next state is; a next state written as the device with named parts changed leaves every other part as it was. -/

open Sys2Proof Sys2Proof.Machine

/-! ## Stage programs -/

/-- R256 (Table 08.3): the effect of every scalar, branch and immediate operation on a cluster that can go on; nothing but
that cluster changes. -/
def Obligations.ScalarOperations : Prop :=
  ∀ (s : State) (c : Nat), s.dev.stageReady c →
    let u := s.dev.clu c
    let rd3 := fun (rd : Fin 32) (v : W64) => (Host.Outcome.next ⟨s.dev.ranOn c (u.setX rd v), s.pending⟩ : Res)
    let go := fun (v : Clu) (pc : Nat) => (Host.Outcome.next ⟨s.dev.ranTo c v pc, s.pending⟩ : Res)
    let goes := fun (p : Prop) [Decidable p] (off : BitVec 15) =>
      go u (if p then (((u.pc : Int) + off.toInt) % 8192).toNat else u.pc + 1)
    let addr := fun (rs1 : Fin 32) (imm : BitVec 14) => (u.xr rs1 + imm.signExtend 64).toNat
    (∀ rd rs1 rs2 : Fin 32,
      exec (.add c rd rs1 rs2) s = rd3 rd (u.xr rs1 + u.xr rs2) ∧
      exec (.sub c rd rs1 rs2) s = rd3 rd (u.xr rs1 - u.xr rs2) ∧
      exec (.and c rd rs1 rs2) s = rd3 rd (u.xr rs1 &&& u.xr rs2) ∧
      exec (.or c rd rs1 rs2) s = rd3 rd (u.xr rs1 ||| u.xr rs2) ∧
      exec (.xor c rd rs1 rs2) s = rd3 rd (u.xr rs1 ^^^ u.xr rs2) ∧
      exec (.sll c rd rs1 rs2) s = rd3 rd (u.xr rs1 <<< ((u.xr rs2).toNat % 64)) ∧
      exec (.srl c rd rs1 rs2) s = rd3 rd (u.xr rs1 >>> ((u.xr rs2).toNat % 64)) ∧
      exec (.sra c rd rs1 rs2) s = rd3 rd ((u.xr rs1).sshiftRight ((u.xr rs2).toNat % 64)) ∧
      exec (.slt c rd rs1 rs2) s = rd3 rd (if (u.xr rs1).toInt < (u.xr rs2).toInt then 1 else 0) ∧
      exec (.sltu c rd rs1 rs2) s = rd3 rd (if (u.xr rs1).toNat < (u.xr rs2).toNat then 1 else 0) ∧
      exec (.mul c rd rs1 rs2) s = rd3 rd (BitVec.ofNat 64 ((u.xr rs1).toNat * (u.xr rs2).toNat)) ∧
      exec (.mulhu c rd rs1 rs2) s = rd3 rd (BitVec.ofNat 64 ((u.xr rs1).toNat * (u.xr rs2).toNat / 2 ^ 64)) ∧
      exec (.min c rd rs1 rs2) s = rd3 rd (if (u.xr rs1).toInt < (u.xr rs2).toInt then u.xr rs1 else u.xr rs2) ∧
      exec (.max c rd rs1 rs2) s = rd3 rd (if (u.xr rs1).toInt < (u.xr rs2).toInt then u.xr rs2 else u.xr rs1)) ∧
    (∀ (rd rs1 : Fin 32) (imm : BitVec 14),
      let k : W64 := imm.signExtend 64
      exec (.addi c rd rs1 imm) s = rd3 rd (u.xr rs1 + k) ∧
      exec (.andi c rd rs1 imm) s = rd3 rd (u.xr rs1 &&& k) ∧
      exec (.ori c rd rs1 imm) s = rd3 rd (u.xr rs1 ||| k) ∧
      exec (.xori c rd rs1 imm) s = rd3 rd (u.xr rs1 ^^^ k) ∧
      exec (.slli c rd rs1 imm) s = rd3 rd (u.xr rs1 <<< (k.toNat % 64)) ∧
      exec (.srli c rd rs1 imm) s = rd3 rd (u.xr rs1 >>> (k.toNat % 64)) ∧
      exec (.srai c rd rs1 imm) s = rd3 rd ((u.xr rs1).sshiftRight (k.toNat % 64)) ∧
      exec (.slti c rd rs1 imm) s = rd3 rd (if (u.xr rs1).toInt < k.toInt then 1 else 0)) ∧
    (∀ (rd rs1 : Fin 32) (imm : BitVec 14),
      (addr rs1 imm % 4 = 0 → u.mayRead (addr rs1 imm) 4 →
        exec (.lw32 c rd rs1 imm .ok) s = rd3 rd (BitVec.ofNat 64 (leNat (u.rdSram (addr rs1 imm) 4)))) ∧
      (addr rs1 imm % 8 = 0 → u.mayRead (addr rs1 imm) 8 →
        exec (.ld64 c rd rs1 imm .ok) s = rd3 rd (BitVec.ofNat 64 (leNat (u.rdSram (addr rs1 imm) 8)))) ∧
      (addr rs1 imm % 4 = 0 → u.mayWrite (addr rs1 imm) 4 →
        exec (.sw32 c rd rs1 imm) s = go (u.wrSram (addr rs1 imm) (leBytes 4 ((u.xr rd).toNat % 2 ^ 32))) (u.pc + 1)) ∧
      (addr rs1 imm % 8 = 0 → u.mayWrite (addr rs1 imm) 8 →
        exec (.sd64 c rd rs1 imm) s = go (u.wrSram (addr rs1 imm) (leBytes 8 (u.xr rd).toNat)) (u.pc + 1)) ∧
      (addr rs1 imm % 4 ≠ 0 →
        exec (.lw32 c rd rs1 imm .ok) s = .next ⟨s.dev.stageFault c 0x02 0, s.pending⟩ ∧
        exec (.sw32 c rd rs1 imm) s = .next ⟨s.dev.stageFault c 0x02 0, s.pending⟩) ∧
      (addr rs1 imm % 8 ≠ 0 →
        exec (.ld64 c rd rs1 imm .ok) s = .next ⟨s.dev.stageFault c 0x02 0, s.pending⟩ ∧
        exec (.sd64 c rd rs1 imm) s = .next ⟨s.dev.stageFault c 0x02 0, s.pending⟩)) ∧
    (∀ (rs1 rs2 : Fin 32) (off : BitVec 15),
      exec (.beq c rs1 rs2 off) s = goes (u.xr rs1 = u.xr rs2) off ∧
      exec (.bne c rs1 rs2 off) s = goes (u.xr rs1 ≠ u.xr rs2) off ∧
      exec (.blt c rs1 rs2 off) s = goes ((u.xr rs1).toInt < (u.xr rs2).toInt) off ∧
      exec (.bge c rs1 rs2 off) s = goes ((u.xr rs2).toInt ≤ (u.xr rs1).toInt) off ∧
      exec (.bltu c rs1 rs2 off) s = goes ((u.xr rs1).toNat < (u.xr rs2).toNat) off ∧
      exec (.bgeu c rs1 rs2 off) s = goes ((u.xr rs2).toNat ≤ (u.xr rs1).toNat) off) ∧
    (∀ (link rs1 : Fin 32) (off : BitVec 15),
      exec (.j c link off) s =
        go (u.setX link (BitVec.ofNat 64 (u.pc + 1))) (((u.pc : Int) + off.toInt) % 8192).toNat ∧
      ((u.xr rs1).toNat < u.progLen →
        exec (.jr c rs1 link) s = go (u.setX link (BitVec.ofNat 64 (u.pc + 1))) (u.xr rs1).toNat)) ∧
    (∀ (rd : Fin 32) (q : Fin 4) (imm : BitVec 16),
      ∃ v : W64, exec (.liq c rd q imm) s = rd3 rd v ∧
        (q = 0 → v = imm.zeroExtend 64) ∧
        (q ≠ 0 → ∀ j : Fin 4, v.toNat / 2 ^ (16 * j.val) % 2 ^ 16 =
          if j = q then imm.toNat else (u.xr rd).toNat / 2 ^ (16 * j.val) % 2 ^ 16))

/-- R258: the array operations on a cluster that can go on. TLDS replaces every slab and tag, TMMA adds the products of N quads
to N accumulator tiles, TDRAIN and TLDA move tiles to and from SRAM, TZERO clears tiles; a tag that differs from FMTB is
FORMAT_MISMATCH.
R160, R161, R166: one block of 32 positions in an array. For MX and INT8 operands the exact sum of the products, scaled, is
added to the accumulator with one rounding; for BF16 and FP16 the products are added one after another, each with one
rounding; an MX scale of 0xFF gives NaN. -/
def Obligations.ArrayOperations : Prop :=
  (∀ (s : State) (c : Nat), s.dev.stageReady c →
    let u := s.dev.clu c
    let runs := fun (v : Clu) => (Host.Outcome.next ⟨s.dev.ranOn c v, s.pending⟩ : Res)
    let base := fun (rs1 rs2 : Fin 32) (g : Nat) => (u.xr rs1 + BitVec.ofNat 64 g * u.xr rs2).toNat
    (∀ (f : Nat) (rs1 rs2 : Fin 32),
      let at' := fun g => (u.xr rs1 + BitVec.ofNat 64 g * (if u.xr rs2 = 0 then 4096 else u.xr rs2)).toNat
      f ≤ 7 → (∀ g < 16, u.mayRead (at' g) 4096) →
      ∃ v : Clu, exec (.tlds c f rs1 rs2 .ok) s = runs v ∧ v = { u with stat := v.stat, tags := v.tags } ∧
        ∀ a < 256, kget slabZero a v.stat = u.rdSram (at' (a / 16) + a % 16 * 256) 256 ∧ kget 0 a v.tags = f) ∧
    (∀ (fa fb : Nat) (rs1 rs2 : Fin 32) (n t0 : Nat), pairOk fa fb = true → 1 ≤ n → t0 + n ≤ 8 →
      ((∀ a < 256, kget 0 a u.tags = fb) → (∀ g < 16, u.mayRead (base rs1 rs2 g) (quadBytes fa n)) →
        ∃ v : Clu, exec (.tmma c fa fb rs1 rs2 n t0 .pass .ok) s = runs v ∧ v = { u with acc := v.acc } ∧
          ∀ a < 256, ∀ t < 8, v.tile a t =
            if t0 ≤ t ∧ t < t0 + n then u.mmaTile fa fb (base rs1 rs2 (a / 16)) n a (t - t0) t0 else u.tile a t) ∧
      ((∃ a < 256, kget 0 a u.tags ≠ fb) →
        exec (.tmma c fa fb rs1 rs2 n t0 .pass .ok) s = .next ⟨s.dev.stageFault c 0x03 0, s.pending⟩)) ∧
    (∀ (f size : Nat) (rs1 rs2 : Fin 32) (n t0 : Nat), drainSize f = some size → 1 ≤ n → t0 + n ≤ 8 →
      (∀ g < 16, u.mayWrite (base rs1 rs2 g) (n * 256 * size)) →
      exec (.tdrain c f rs1 rs2 n t0) s =
        runs ((List.range 16).foldl (fun v g => v.wrSram (base rs1 rs2 g) (u.drainGroup f size n t0 g)) u)) ∧
    (∀ n t0 : Nat, 1 ≤ n → t0 + n ≤ 8 →
      ∃ v : Clu, exec (.tzero c n t0) s = runs v ∧ v = { u with acc := v.acc } ∧
        ∀ a < 256, ∀ t < 8, v.tile a t = if t0 ≤ t ∧ t < t0 + n then List.replicate 16 0 else u.tile a t) ∧
    (∀ (rs1 rs2 : Fin 32) (n t0 : Nat), 1 ≤ n → t0 + n ≤ 8 → (∀ g < 16, u.mayRead (base rs1 rs2 g) (n * 1024)) →
      ∃ v : Clu, exec (.tlda c rs1 rs2 n t0 .ok) s = runs v ∧ v = { u with acc := v.acc } ∧
        ∀ a < 256, ∀ t < 8, v.tile a t =
          if t0 ≤ t ∧ t < t0 + n then (List.range 16).map (fun i => BitVec.ofNat 32 (leNat (u.rdSram
            (base rs1 rs2 (a / 16) + 4 * ((t - t0) * 256 + i / 4 * 64 + a % 16 * 4 + i % 4)) 4)))
          else u.tile a t)) ∧
  (∀ (fa fb sa sb : Nat) (a b : List Byte) (acc : W32),
    (fa ≤ 4 → (sa = 0xFF ∨ sb = 0xFF) → accBlock fa a sa fb b sb acc = w32 .nan) ∧
    (fa ≤ 4 → sa ≠ 0xFF → sb ≠ 0xFF → accBlock fa a sa fb b sb acc =
      w32 ((f32 acc).add (((products fa a fb b).foldl FV.add .zero).scale ((sa : Int) + sb - 254)))) ∧
    (fa = 5 → accBlock fa a sa fb b sb acc = w32 ((f32 acc).add ((products fa a fb b).foldl FV.add .zero))) ∧
    (6 ≤ fa → accBlock fa a sa fb b sb acc = (products fa a fb b).foldl (fun w p => w32 ((f32 w).add p)) acc))

/-- R163, R260 (Table 05.7, Table 08.6): the functions that the vector unit applies lane by lane.
R163 (Table 05.7): the special cases of the vector functions follow IEEE 754-2019, and a NaN input gives NaN. -/
def Obligations.VectorFunctions : Prop :=
  (∀ (s : State) (c : Nat), s.dev.stageReady c →
    let u := s.dev.clu c
    let vd3 := fun (vd : Fin 32) (v : List W32) => (Host.Outcome.next ⟨s.dev.ranOn c (u.setV vd v), s.pending⟩ : Res)
    (∀ vd va vb : Fin 32,
      let two := fun (f : W32 → W32 → W32) => vd3 vd (List.zipWith f (u.vr va) (u.vr vb))
      exec (.vadd c vd va vb) s = two (fun a b => w32 ((f32 a).add (f32 b))) ∧
      exec (.vsub c vd va vb) s = two (fun a b => w32 ((f32 a).add (f32 b).neg)) ∧
      exec (.vmul c vd va vb) s = two (fun a b => w32 ((f32 a).mul (f32 b))) ∧
      exec (.vmin c vd va vb) s = two (fun a b => w32 ((f32 a).min (f32 b))) ∧
      exec (.vmax c vd va vb) s = two (fun a b => w32 ((f32 a).max (f32 b))) ∧
      exec (.vcmpeq c vd va vb) s = two (fun a b => if (f32 a).eq (f32 b) then 0xFFFFFFFF else 0) ∧
      exec (.vcmplt c vd va vb) s = two (fun a b => if (f32 a).lt (f32 b) then 0xFFFFFFFF else 0) ∧
      exec (.vcmple c vd va vb) s = two (fun a b => if (f32 a).lt (f32 b) || (f32 a).eq (f32 b) then 0xFFFFFFFF else 0) ∧
      exec (.vand c vd va vb) s = two (· &&& ·) ∧
      exec (.vor c vd va vb) s = two (· ||| ·) ∧
      exec (.vxor c vd va vb) s = two (· ^^^ ·) ∧
      exec (.viadd c vd va vb) s = two (· + ·) ∧
      exec (.vishl c vd va vb) s = two (fun a b => if b.toNat < 32 then a <<< b.toNat else Config.shiftOver 0 a b) ∧
      exec (.visra c vd va vb) s = two (fun a b => if b.toNat < 32 then a.sshiftRight b.toNat else Config.shiftOver 1 a b)) ∧
    (∀ vd va vb vc : Fin 32,
      let three := fun (f : W32 → W32 → W32 → W32) =>
        vd3 vd (List.zipWith (fun ab c => f ab.1 ab.2 c) ((u.vr va).zip (u.vr vb)) (u.vr vc))
      exec (.vfma c vd va vb vc) s = three (fun a b c => w32 (((f32 a).mul (f32 b)).add (f32 c))) ∧
      exec (.vsel c vd va vb vc) s = three (fun a b c => if c = 0 then b else a)) ∧
    (∀ vd va : Fin 32,
      let one := fun (f : W32 → W32) => vd3 vd ((u.vr va).map f)
      exec (.vabs c vd va) s = one (fun a => w32 (f32 a).abs) ∧
      exec (.vneg c vd va) s = one (fun a => w32 (f32 a).neg) ∧
      exec (.vrcp c vd va) s = one vRcp ∧
      exec (.vrsqrt c vd va) s = one vRsqrt ∧
      exec (.vsqrt c vd va) s = one vSqrt ∧
      exec (.vexp2 c vd va) s = one vExp2 ∧
      exec (.vlog2 c vd va) s = one vLog2 ∧
      exec (.vexp c vd va) s = one vExp ∧
      exec (.vlog c vd va) s = one vLog ∧
      exec (.vtanh c vd va) s = one vTanh)) ∧
  ((∀ x : W32, f32 x = .nan →
    vRcp x = 0x7FC00000 ∧ vRsqrt x = 0x7FC00000 ∧ vSqrt x = 0x7FC00000 ∧ vExp2 x = 0x7FC00000 ∧ vLog2 x = 0x7FC00000 ∧
    vExp x = 0x7FC00000 ∧ vLog x = 0x7FC00000 ∧ vTanh x = 0x7FC00000) ∧
  (∀ x y : W32, (f32 x = .nan ∨ f32 y = .nan) →
    w32 ((f32 x).min (f32 y)) = 0x7FC00000 ∧ w32 ((f32 x).max (f32 y)) = 0x7FC00000 ∧ w32 ((f32 x).add (f32 y)) = 0x7FC00000) ∧
  vExp 0xFF800000 = 0 ∧ vExp2 0xFF800000 = 0 ∧ vLog 0 = 0xFF800000 ∧ vLog2 0 = 0xFF800000 ∧
  vRcp 0 = 0x7F800000 ∧ vRcp 0x80000000 = 0xFF800000 ∧ vRsqrt 0xBF800000 = 0x7FC00000 ∧
  w32 ((f32 0x80000000).min (f32 0)) = 0x80000000 ∧ w32 ((f32 0x80000000).max (f32 0)) = 0)

/-- R260, R261 (Table 08.6, Table 08.7): reductions, conversions and moves of the vector unit on a cluster that can go on. A
count that is no multiple of 64 from 64 to 2,048, or an address that is no multiple of 64, is SRAM_RANGE. -/
def Obligations.VectorMovesAndConversions : Prop :=
  ∀ (s : State) (c : Nat), s.dev.stageReady c →
    let u := s.dev.clu c
    let runs := fun (v : Clu) => (Host.Outcome.next ⟨s.dev.ranOn c v, s.pending⟩ : Res)
    let faults := (Host.Outcome.next ⟨s.dev.stageFault c 0x02 0, s.pending⟩ : Res)
    (∀ vd va : Fin 32,
      exec (.vredadd c vd va) s = runs (u.setV vd ((redTree f32add 9 (u.vr va)).take 1 ++ List.replicate 511 0)) ∧
      exec (.vredmax c vd va) s =
        runs (u.setV vd ((redTree (fun a b => w32 ((f32 a).max (f32 b))) 9 (u.vr va)).take 1 ++ List.replicate 511 0))) ∧
    (∀ (vd va : Fin 32) (code : Nat), 5 ≤ code → code ≤ 9 →
      exec (.vcvtin c vd va code) s = runs (u.setV vd ((List.range 512).map (cvtIn code (laneBytes (u.vr va))))) ∧
      exec (.vcvtout c vd va code) s = runs (u.setV vd (bytesLanes ((u.vr va).flatMap (cvtOut code))))) ∧
    (∀ (vd va : Fin 32) (code : Nat), code ≤ 4 →
      exec (.vmxenc c vd va code) s = runs (u.setV vd (bytesLanes (mxEnc code (u.vr va)))) ∧
      exec (.vmxdec c vd va code) s = runs (u.setV vd (mxDec code (laneBytes (u.vr va))))) ∧
    (∀ (v rs1 rs2 : Fin 32),
      let a := (u.xr rs1).toNat
      let n := (u.xr rs2).toNat
      (a % 64 = 0 → u.mayRead a 2048 → exec (.vld c v rs1 .ok) s = runs (u.setV v (bytesLanes (u.rdSram a 2048)))) ∧
      (a % 64 = 0 → u.mayWrite a 2048 → exec (.vst c v rs1) s = runs (u.wrSram a ((laneBytes (u.vr v)).take 2048))) ∧
      (a % 64 = 0 → n % 64 = 0 → 64 ≤ n → n ≤ 2048 →
        (u.mayRead a n → exec (.vldn c v rs1 rs2 .ok) s = runs (u.setV v (bytesLanes (u.rdSram a n)))) ∧
        (u.mayWrite a n → exec (.vstn c v rs1 rs2) s = runs (u.wrSram a ((laneBytes (u.vr v)).take n)))) ∧
      (a % 64 ≠ 0 ∨ n % 64 ≠ 0 ∨ n < 64 ∨ 2048 < n →
        exec (.vldn c v rs1 rs2 .ok) s = faults ∧ exec (.vstn c v rs1 rs2) s = faults)) ∧
    (∀ (v rd va rs1 rs2 : Fin 32),
      exec (.vbcast c v rs1) s = runs (u.setV v (List.replicate 512 ((u.xr rs1).truncate 32))) ∧
      exec (.vext c rd va rs2) s =
        runs (u.setX rd (BitVec.ofNat 64 ((u.vr va).getD ((u.xr rs2).toNat % 512) 0).toNat)))

/-- R262, R263 (Table 08.8): issue of a stream operation: it stands behind those outstanding, under the cluster's next number,
with the data of a store. In the channel's partition nothing but the cluster changes for a load and for a store of one beat; a
longer store or accumulate takes its first beat (R296). Outside the partition it sends its requests, and waits while Bus Master
Enable is 0 (R314). A parameter out of order is STREAM_PARAM.
R254, R263: the end of a load that a host answered (SPACE 1 or 2): its data stand in its SRAM range, the operation is no
longer outstanding and its tags are free. -/
def Obligations.StreamOperations : Prop :=
  (∀ (s : State) (c k : Nat) (ch : Chan) (rs1 rs2 rs3 : Fin 32), s.dev.stageReady c → (s.dev.clu c).chan = some k →
    s.dev.chan k = some ch → ch.dscFailed (s.dev.clu c).cur = false →
    let u := s.dev.clu c
    let mem := (u.xr rs1).toNat
    let sram := (u.xr rs2).toNat
    let len := (u.xr rs3).toNat
    let op := fun (kind space : Nat) (data : List Byte) => StreamOp.mk u.nextOp kind space mem sram len data u.cur ch.streamEp 0
    let stands := fun (o : StreamOp) => { u with streams := u.streams ++ [o], nextOp := u.nextOp + 1 }
    let issued := fun (o : StreamOp) => (Host.Outcome.next ⟨s.dev.ranOn c (stands o), s.pending⟩ : Res)
    let goes := fun (t : Dev) => (Host.Outcome.next ⟨t.modClu c (fun v => v.past (v.pc + 1)), s.pending⟩ : Res)
    let data := u.rdSram sram len
    (len % 64 = 0 → 64 ≤ len → len ≤ 1048576 → mem % 64 = 0 → sram % 64 = 0 → u.streams.length < 16 →
      (u.mayWrite sram len → exec (.sld c 0 rs1 rs2 rs3) s = issued (op 0 0 [])) ∧
      (u.mayRead sram len →
        (min len (4096 - mem % 4096) ≤ 64 → exec (.sst c 0 rs1 rs2 rs3 .ok) s = issued (op 1 0 data) ∧
          exec (.sacc c 0 rs1 rs2 rs3 .ok) s = issued (op 2 0 data)) ∧
        exec (.sst c 0 rs1 rs2 rs3 .ok) s = goes ((s.dev.setClu c (stands (op 1 0 data))).streamFirst c k ch (op 1 0 data)) ∧
        exec (.sacc c 0 rs1 rs2 rs3 .ok) s = goes ((s.dev.setClu c (stands (op 2 0 data))).streamFirst c k ch (op 2 0 data))) ∧
      (∀ space : Nat, space = 1 ∨ (space = 2 ∧ mem < 2 ^ 48) →
        (s.dev.bme (ch.fn k) = true →
          (u.mayWrite sram len → exec (.sld c space rs1 rs2 rs3) s =
            goes ((s.dev.setClu c (stands (op 0 space []))).streamSend c k ch (op 0 space []))) ∧
          (u.mayRead sram len → exec (.sst c space rs1 rs2 rs3 .ok) s =
            goes ((s.dev.setClu c (stands (op 1 space data))).streamSend c k ch (op 1 space data)))) ∧
        (s.dev.bme (ch.fn k) = false →
          (u.mayWrite sram len → exec (.sld c space rs1 rs2 rs3) s = .next s) ∧
          (u.mayRead sram len → exec (.sst c space rs1 rs2 rs3 .ok) s = .next s)))) ∧
    (len % 64 ≠ 0 ∨ len < 64 ∨ 1048576 < len ∨ mem % 64 ≠ 0 ∨ sram % 64 ≠ 0 →
      exec (.sld c 0 rs1 rs2 rs3) s = .next ⟨s.dev.stageFault c 0x0B 0, s.pending⟩ ∧
      exec (.sst c 0 rs1 rs2 rs3 .ok) s = .next ⟨s.dev.stageFault c 0x0B 0, s.pending⟩ ∧
      exec (.sacc c 0 rs1 rs2 rs3 .ok) s = .next ⟨s.dev.stageFault c 0x0B 0, s.pending⟩)) ∧
  (∀ (s : State) (c k : Nat) (ch : Chan) (o : StreamOp) (bs : List Byte),
    (s.dev.clu c).streams.find? (fun x => x.id == o.id) = some o → (s.dev.clu c).chan = some k → s.dev.chan k = some ch →
    ch.st = .active → (s.dev.clu c).earlier o = false → ch.dscFailed o.desc = false → o.space ≠ 0 → o.kind = 0 →
    bs.length = o.len → (∀ l ∈ s.dev.bw.locks, streamLock c o l = false) →
    let t : Dev := { (s.dev.setClu c
        ({ s.dev.clu c with streams := (s.dev.clu c).streams.filter (fun x => x.id != o.id) }.wrSram o.sram (slice bs 0 o.len)))
      with tags := s.dev.tags.filter (fun t => !(t.use == .stream c o.id && !t.quarantined)) }
    t.quiet → exec (.streamComplete c o.id (.data bs)) s = .next ⟨t, s.pending⟩)

/-- R264 (Table 08.9): the queue operations. QPOP hands out the oldest buffer of a feeding stage that is not popped, QREL gives
back the oldest popped one, QCNT counts those not popped, QSEND puts a buffer into the queue of each of its receivers. -/
def Obligations.QueueOperations : Prop :=
  ∀ (s : State) (c : Nat), s.dev.stageReady c →
    let u := s.dev.clu c
    let runs := fun (v : Clu) => (Host.Outcome.next ⟨s.dev.ranOn c v, s.pending⟩ : Res)
    (∀ (stage : Nat) (r1 : Fin 32) (b : QBuf), r1 ≠ 0 → r1 ≠ 31 → u.feeders.contains stage = true →
      (u.from stage).find? (fun x => !x.popped) = some b →
      ∃ v : Clu, exec (.qpop c stage r1) s = runs v ∧
        v = { u with queue := v.queue, x := v.x } ∧
        v.xr r1 = BitVec.ofNat 64 (u.bufAddr b) ∧ v.xr (r1 + 1) = BitVec.ofNat 64 (b.len + b.tag * 2 ^ 32) ∧
        (∀ r : Fin 32, r ≠ r1 → r ≠ r1 + 1 → v.xr r = u.xr r) ∧
        countBy (fun x => x.popped) v.queue = countBy (fun x => x.popped) u.queue + 1 ∧ v.queue.length = u.queue.length) ∧
    (∀ (stage : Nat) (b : QBuf), (u.from stage).find? (fun x => x.popped) = some b → u.busy (u.bufAddr b) 4096 = false →
      ∃ v : Clu, exec (.qrel c stage) s = runs v ∧ v = { u with queue := v.queue } ∧
        v.queue.length + 1 = u.queue.length ∧
        countBy (fun x => x.popped) v.queue + 1 = countBy (fun x => x.popped) u.queue) ∧
    (∀ stage : Nat, (u.from stage).find? (fun x => x.popped) = none →
      exec (.qrel c stage) s = .next ⟨s.dev.stageFault c 0x09 0, s.pending⟩) ∧
    (∀ (stage : Nat) (r1 : Fin 32),
      exec (.qcnt c stage r1) s = runs (u.setX r1 (BitVec.ofNat 64 (countBy (fun b => !b.popped) (u.from stage))))) ∧
    (∀ (dst r k : Nat) (r1 r2 r3 : Fin 32) (ch : Chan), u.chan = some k → s.dev.chan k = some ch →
      let a := (u.xr r1).toNat
      let n := (u.xr r2).toNat
      bit (s.dev.outMask ch.recipe u.stage) dst = true → n % 64 = 0 → 64 ≤ n → n ≤ 4096 → u.mayRead a n → u.storesOut = false →
      (u.xr r3).toNat % 2 ^ 16 ≠ 0xFFFF → s.dev.receivers ch u dst ((u.xr r3).toNat % 2 ^ 16) = [r] → r ≠ c →
      ((s.dev.clu r).from u.stage).length < 8 →
      exec (.qsend c dst r1 r2 r3 .ok) s =
        .next ⟨(s.dev.setClu r ((s.dev.clu r).receive u.stage ((u.xr r3).toNat / 2 ^ 32) (u.rdSram a n))).ranOn c u, s.pending⟩) ∧
    (∀ (dst k : Nat) (r1 r2 r3 : Fin 32) (ch : Chan), u.chan = some k → s.dev.chan k = some ch →
      let a := (u.xr r1).toNat
      let n := (u.xr r2).toNat
      let key := (u.xr r3).toNat % 2 ^ 16
      let rs := s.dev.receivers ch u dst key
      let turns := key = 0xFFFF ∧ bit (s.dev.bcastMask ch.recipe u.stage) dst = false
      let rot := if turns then kput dst (kget 0 dst u.rot + 1) u.rot else u.rot
      bit (s.dev.outMask ch.recipe u.stage) dst = true → n % 64 = 0 → 64 ≤ n → n ≤ 4096 → u.mayRead a n → u.storesOut = false →
      rs ≠ [] → (∀ r ∈ rs, ((s.dev.clu r).from u.stage).length < 8) →
      exec (.qsend c dst r1 r2 r3 .ok) s =
        .next ⟨(rs.foldl (fun d r => d.modClu r (fun v => v.receive u.stage ((u.xr r3).toNat / 2 ^ 32) (u.rdSram a n)))
          (s.dev.setClu c { u with rot := rot })).modClu c (fun v => v.past (v.pc + 1)), s.pending⟩)

/-- R252, R253, R265 (Table 08.10): the descriptor operations. DNEXT writes the next descriptor that has reached the stage to
SRAM and holds it, DPASS and DDONE give it up, DSTAT reads its first failure; a second DNEXT, and DPASS or DDONE without a
descriptor, are DESCRIPTOR_ORDER.
R253: the outcome of a descriptor whose last stage is done: the first failure recorded against it; else the status and
DETAIL of the lowest rank that gave a nonzero status; else OK, or OK_OVERRUN when overrun chunks were read. RESULT is that of
rank 0. -/
def Obligations.DescriptorOperations : Prop :=
  (∀ (s : State) (c k : Nat) (ch : Chan), s.dev.stageReady c → (s.dev.clu c).chan = some k → s.dev.chan k = some ch →
    let u := s.dev.clu c
    let faults := fun (code : Nat) => (Host.Outcome.next ⟨s.dev.stageFault c code 0, s.pending⟩ : Res)
    (∀ (r1 : Fin 32) (x : Dsc), u.cur = none → (u.xr r1).toNat % 64 = 0 → u.mayWrite (u.xr r1).toNat 64 →
      ch.nextFor u.stage u.rank = some x → ch.reached x u.stage = true →
      exec (.dnext c r1) s =
        .next ⟨s.dev.ranOn c { u.wrSram (u.xr r1).toNat x.bytes with cur := some x.seq }, s.pending⟩) ∧
    (∀ seq : Nat, u.cur = some seq → u.storesOut = false → u.stage + 1 ≠ ch.stages.length →
      exec (.dpass c) s = .next ⟨(s.dev.modDsc k seq (fun x => { x with passed := x.passed ++ [(u.stage, u.rank)] })).ranOn c
        { u with cur := none }, s.pending⟩) ∧
    (∀ (r1 r2 : Fin 32) (seq : Nat), u.cur = some seq → u.storesOut = false → u.stage + 1 = ch.stages.length →
      doneBad (u.xr r1).toNat = false →
      exec (.ddone c r1 r2) s = .next ⟨(((s.dev.modDsc k seq (fun x =>
          { x with dones := x.dones ++ [(u.rank, (u.xr r1).toNat, (u.xr r2).toNat)] })).setClu c { u with cur := none }).dscFinish
        k seq (ch.stages.getD u.stage []).length).modClu c (fun v => v.past (v.pc + 1)), s.pending⟩) ∧
    (∀ (r1 : Fin 32) (seq : Nat) (x : Dsc), u.cur = some seq → ch.fetched.find? (fun y => y.seq == seq) = some x →
      exec (.dstat c r1) s = .next ⟨s.dev.ranOn c (u.setX r1 (BitVec.ofNat 64 (x.failed % 256))), s.pending⟩) ∧
    (∀ (r1 r2 : Fin 32) (seq : Nat), u.cur = some seq →
      (u.stage + 1 = ch.stages.length → exec (.dpass c) s = faults 0x07) ∧
      (u.stage + 1 ≠ ch.stages.length → exec (.ddone c r1 r2) s = faults 0x07) ∧
      (u.stage + 1 = ch.stages.length → doneBad (u.xr r1).toNat = true → exec (.ddone c r1 r2) s = faults 0x08)) ∧
    (∀ r1 r2 : Fin 32,
      (u.cur = none → exec (.dstat c r1) s = .next ⟨s.dev.ranOn c (u.setX r1 0), s.pending⟩) ∧
      (u.cur ≠ none → exec (.dnext c r1) s = faults 0x07) ∧
      (u.cur = none → exec (.dpass c) s = faults 0x07 ∧ exec (.ddone c r1 r2) s = faults 0x07))) ∧
  (∀ (x : Dsc) (r0 : Nat),
    (x.dones.find? (fun e => e.1 == 0)).map (fun e => e.2.2) = some r0 →
    (∀ a ∈ x.dones, ∀ b ∈ x.dones, a.1 = b.1 → a = b) →
    x.outcome.2.2 = r0 ∧
    (x.failed ≠ 0 → x.outcome.1 = x.failed % 256 ∧ x.outcome.2.1 = x.failed / 256) ∧
    (x.failed = 0 → (∀ e ∈ x.dones, e.2.1 = 0) → x.outcome.1 = (if x.overrun then 2 else 0) ∧ x.outcome.2.1 = 0) ∧
    (x.failed = 0 → ∀ e ∈ x.dones, e.2.1 ≠ 0 → (∀ f ∈ x.dones, f.2.1 ≠ 0 → e.1 ≤ f.1) →
      x.outcome.1 = e.2.1 % 256 ∧ x.outcome.2.1 = e.2.1 / 256))

/-- R265 (Table 08.10): synchronisation and identity. SSIG adds to an object of the channel's partition, SWAIT goes on once the
object has reached the value and changes nothing before, CARGS writes RECIPE_ARGS to SRAM, ID reads the identity values; the
count of cycles is a free value, and everything else that ID 7 does is stated. A handle that is not live is BAD_SYNC. -/
def Obligations.SynchronisationAndIdentity : Prop :=
  ∀ (s : State) (c k : Nat) (ch : Chan), s.dev.stageReady c → (s.dev.clu c).chan = some k → s.dev.chan k = some ch →
    let u := s.dev.clu c
    let runs := fun (v : Clu) => (Host.Outcome.next ⟨s.dev.ranOn c v, s.pending⟩ : Res)
    (∀ (r1 r2 : Fin 32) (y : Nat), s.dev.stageSync k (u.xr r1) = some y → u.storesOut = false →
      exec (.ssig c r1 r2) s =
        .next ⟨(s.dev.signalObj y (u.xr r2).toNat).modClu c (fun v => v.past (v.pc + 1)), s.pending⟩) ∧
    (∀ (r1 r2 : Fin 32) (y : Nat) (o : SyncObj), s.dev.stageSync k (u.xr r1) = some y → kfind y s.dev.chs.syncs = some o →
      exec (.swait c r1 r2) s = if (u.xr r2).toNat ≤ o.value then runs u else .next s) ∧
    (∀ r1 r2 : Fin 32, s.dev.stageSync k (u.xr r1) = none →
      exec (.ssig c r1 r2) s = .next ⟨s.dev.stageFault c 0x06 0, s.pending⟩ ∧
      exec (.swait c r1 r2) s = .next ⟨s.dev.stageFault c 0x06 0, s.pending⟩) ∧
    (∀ r1 : Fin 32, (u.xr r1).toNat % 16 = 0 → u.mayWrite (u.xr r1).toNat 16 →
      exec (.cargs c r1) s = runs (u.wrSram (u.xr r1).toNat (leBytes 16 ch.args))) ∧
    (∀ r1 : Fin 32,
      let reads := fun (n : Nat) => runs (u.setX r1 (BitVec.ofNat 64 n))
      exec (.idRead c r1 0) s = reads u.stage ∧
      exec (.idRead c r1 1) s = reads u.rank ∧
      exec (.idRead c r1 2) s = reads (ch.stages.getD u.stage []).length ∧
      exec (.idRead c r1 3) s = reads (u.logical.getD 0) ∧
      exec (.idRead c r1 4) s = reads (ctxPart k) ∧
      exec (.idRead c r1 5) s = reads (s.dev.chHandle k) ∧
      exec (.idRead c r1 6) s = reads u.steps ∧
      ∃ n : Nat, exec (.idRead c r1 7) s =
        .next ⟨{ s.dev.ranOn c (u.setX r1 (BitVec.ofNat 64 n)) with fresh := s.dev.fresh + 1 }, s.pending⟩)

/-- R267, R268, R270, R390, R214: steps, boundaries and fences. STEP ends a step, compares the results of a duplicate window, is
BOUNDARY_OVERDUE past 4,096 steps, and is not taken past 256 steps in a stage of a built-in recipe; BND with nothing
outstanding and no test due starts the count of steps anew; SFENCE waits until at most IMM14 stream operations are
outstanding; FAULT stops the stage with its immediate.
R250, R251, R264, R267: where an instruction of a stage program does not act. On a cluster whose channel is not ACTIVE, or
that serves no stage, nothing changes; a program counter outside the program is PC_RANGE, and an instruction past the 65,536th
of a step is STEP_OVERRUN, whatever the instruction. -/
def Obligations.StepsAndBoundaries : Prop :=
  (∀ (s : State) (c : Nat), s.dev.stageReady c →
    let u := s.dev.clu c
    let runs := fun (v : Clu) => (Host.Outcome.next ⟨s.dev.ranOn c v, s.pending⟩ : Res)
    exec (.nop c) s = runs u ∧
    (∀ dup : DupCheck, u.steps < 4096 → (u.prog = [] → u.steps < 256) → s.dev.dupStarved u = false →
      let t := s.dev.setClu c { u with
        pc := u.pc + 1, insns := 0, steps := u.steps + 1, sinceDup := u.sinceDup + 1, paused := false }
      (u.window = none → exec (.step c dup) s = .next ⟨t, s.pending⟩) ∧
      (∀ b : Nat, u.window = some b → exec (.step c dup) s = .next ⟨t.windowStep c b dup, s.pending⟩)) ∧
    (∀ dup : DupCheck, u.prog = [] → 256 ≤ u.steps → exec (.step c dup) s = .next s) ∧
    (∀ dup : DupCheck, u.prog ≠ [] → 4096 ≤ u.steps →
      exec (.step c dup) s = .next ⟨s.dev.stageFault c 0x04 0, s.pending⟩) ∧
    (∀ r1 r2 : Fin 32,
      let a := (u.xr r1).toNat
      let n := (u.xr r2).toNat
      u.streams = [] →
      ((∃ b ∈ u.queue, b.popped = true) ∨ 262144 < n →
        exec (.bnd c r1 r2) s = .next ⟨s.dev.stageFault c 0x0A 0, s.pending⟩) ∧
      ((∀ b ∈ u.queue, b.popped = false) → n ≤ 262144 → a % 64 = 0 → (n = 0 ∨ a + n ≤ u.sramLimit) → u.iftDue = false →
        exec (.bnd c r1 r2) s = runs { u with steps := 0 })) ∧
    (∀ imm : BitVec 14,
      exec (.sfence c imm) s = if u.streams.length ≤ imm.toNat then runs u else .next s) ∧
    (∀ imm : BitVec 14, exec (.fault c imm) s = .next ⟨s.dev.stageFault c 0x0C imm.toNat, s.pending⟩)) ∧
  (∀ (s : State) (c : Nat) (run : Clu → SRes),
    (s.dev.stageOn c = false → s.dev.stage c run = s.dev) ∧
    ((s.dev.clu c).paused = true → s.dev.stage c run = s.dev) ∧
    (s.dev.stageOn c = true → (s.dev.clu c).paused = false → (s.dev.clu c).progLen ≤ (s.dev.clu c).pc →
      s.dev.stage c run = s.dev.stageFault c 0x01 0) ∧
    (s.dev.stageOn c = true → (s.dev.clu c).paused = false → (s.dev.clu c).pc < (s.dev.clu c).progLen →
      65536 ≤ (s.dev.clu c).insns → s.dev.stage c run = s.dev.stageFault c 0x05 0) ∧
    (∀ (rd rs1 rs2 : Fin 32), exec (.add c rd rs1 rs2) s = .next ⟨s.dev.stage c (fun u => .go (u.setX rd (u.xr rs1 + u.xr rs2))), s.pending⟩) ∧
    (s.dev.stageReady c → ∀ (rd rs1 : Fin 32) (imm : BitVec 14),
      let a := ((s.dev.clu c).xr rs1 + imm.signExtend 64).toNat
      a % 4 = 0 → (s.dev.clu c).mayRead a 4 →
      exec (.lw32 c rd rs1 imm .uncorrectable) s = .next ⟨s.dev.sramUncorrectable c, s.pending⟩))

/-! ## The block -/

/-- One step takes the oldest waiting command and is that command's effect with the rest of the queue; with no command waiting
the block idles, and only a pending arbiter commit ends (the model's choice, log
entry 2). -/
def Obligations.StepTakesTheFront : Prop :=
  (∀ (c : Instr) (d : Dev) (rest : List Instr), step ⟨d, c :: rest⟩ = exec c ⟨d, rest⟩) ∧
  (∀ d : Dev, step ⟨d, []⟩ = .next ⟨d.commitDone, []⟩) ∧
  (∀ d : Dev, d.rd K.commitPending = 0 → d.commitDone = d)

/-- The stored bytes of the block keep their canonical form in every step, from every state that has it: addresses strictly
rising and no entry zero, so that equal memories are equal data. -/
def Obligations.MemoryCanonicalKept : Prop :=
  ∀ s t : State, Memory.wf s.dev.mm.cells = true → step s = .next t → Memory.wf t.dev.mm.cells = true

/-- The state after a fundamental reset: memory lists nothing and every byte reads zero, every partition is disabled without
fence, no function is presented, no object, channel, session or fault record exists, the module is in standby with PERST#
asserted, and every dictionary entry reads its default. Where the manual gives no value the
model's is meant (log entries 5 and 6). -/
def Obligations.ResetLeaves : Prop :=
  let d := State.reset.dev
  Memory.wf d.mm.cells = true ∧ (∀ p a : Nat, d.byte p a = 0) ∧ State.reset.pending = [] ∧
  (∀ p : Nat, p < 64 → d.enabled p = false ∧ d.fenced p = false ∧ d.objsOf p = [] ∧ d.chansOf p = []) ∧
  (∀ k : Nat, d.rd k = dictDefault k) ∧
  d.su.modState = 0 ∧ d.su.perst = true ∧ d.er.log = [] ∧ d.mg.sessions = [] ∧ d.pr.st = .unpaired ∧ d.quiet

/-- A byte of a partition's range reads as it was last written; a write leaves every other byte as it was, keeps the canonical
form, and changes nothing but the stored bytes. -/
def Obligations.MemoryReadAfterWrite : Prop :=
  ∀ (d : Dev) (p off : Nat) (bs : List Byte), Memory.wf d.mm.cells = true → off + bs.length ≤ 2 ^ 48 →
    let t := d.setBytes p off bs
    t.bytes p off bs.length = bs ∧
    (∀ q a : Nat, a < 2 ^ 48 → ¬ (q = p ∧ off ≤ a ∧ a < off + bs.length) → t.byte q a = d.byte q a) ∧
    Memory.wf t.mm.cells = true ∧
    t = { d with mm := { d.mm with cells := t.mm.cells } }

/-! ## Admin queues -/

/-- R180 to R182: the fetch of an admin command advances the submission queue's head, and its completion writes 16 bytes at the
completion queue's tail: RESULT, the head, TAG, STATUS, PHASE in bit 0 of FLAGS, DETAIL (Table 06.8.B). The tail advances and
the phase changes when it returns to 0; nothing else changes but the tags of requests. -/
def Obligations.AdminQueueTurn : Prop :=
  (∀ (d : Dev) (h : Adm),
    let q := (d.fn h.fn).aq
    let t := d.admFetch h
    (t.fn h.fn).aq.asqHead = (q.asqHead + 1) % 2 ^ q.asqLog2 ∧ (t.fn h.fn).aq.live = q.live ++ [h.cid] ∧
    t = { d with fns := t.fns, tags := t.tags, nextTag := t.nextTag, out := t.out }) ∧
  (∀ (d : Dev) (h : Adm) (status detail result : Nat), h.fn.port < 22 → h.run = (d.fn h.fn).aq.runs →
    d.bme h.fn = true → (d.fn h.fn).aq.ready = true → (d.fn h.fn).aq.accFail = false →
    let q := (d.fn h.fn).aq
    let t := d.adminDone h status detail result
    let bs := cplBytes result q.asqHead h.cid status detail q.acqPhase
    t = { d with fns := t.fns, out := d.out ++ [.hostWr h.fn (q.acqBase + 16 * q.acqTail) bs] } ∧
    (t.fn h.fn).aq.acqTail = (q.acqTail + 1) % 2 ^ q.acqLog2 ∧
    (t.fn h.fn).aq.acqPhase = (if (q.acqTail + 1) % 2 ^ q.acqLog2 = 0 then !q.acqPhase else q.acqPhase) ∧
    bs.length = 16 ∧ leAt bs 0 8 = result % 2 ^ 64 ∧ leAt bs 8 2 = q.asqHead % 2 ^ 16 ∧ leAt bs 10 2 = h.cid % 2 ^ 16 ∧
    leAt bs 12 1 = status % 256 ∧ leAt bs 13 1 = b2n q.acqPhase ∧ leAt bs 14 2 = detail % 2 ^ 16)

/-- R183, R302, R304, R309, R404, R492: what turns an admin command away before its own checks, in this order, and that an
opcode which no rule defines is refused with DETAIL 0x0001. A refusal changes nothing but the queue. -/
def Obligations.AdminRefusals : Prop :=
  ∀ (s : State) (h : Adm), s.dev.admReady h.fn = true →
    let d := s.dev.admFetch h
    let p := h.fn.num
    let a := s.dev.admRun h
    (∀ opcode : Nat, d.admBar h false = none →
      exec (.unknownAdminOpcode h opcode) s = .next ⟨d.adminDone a 0x11 0x0001 0, s.pending⟩) ∧
    (d.placeholder h.fn = true ∨ d.enabled p = false → ∀ (served : Bool) (run : Dev → Adm → Dev),
      s.dev.admin h served run = d.adminDone a 0x11 0x0009 0) ∧
    (d.placeholder h.fn = false → d.enabled p = true → d.fenced p = true → ∀ (run : Dev → Adm → Dev),
      s.dev.admin h false run = d.adminDone a 0x32 0x0008 0) ∧
    (d.placeholder h.fn = false → d.enabled p = true → d.pairRole p = 2 →
      (d.fenced p = false → ∀ (served : Bool) (run : Dev → Adm → Dev), s.dev.admin h served run = d.adminDone a 0x11 0x0008 0) ∧
      (∀ run : Dev → Adm → Dev, s.dev.admin h true run = d.adminDone a 0x11 0x0008 0)) ∧
    (d.placeholder h.fn = false → d.enabled p = true → d.pairRole p ≠ 2 → h.rsv = true →
      (d.fenced p = false → ∀ (served : Bool) (run : Dev → Adm → Dev), s.dev.admin h served run = d.adminDone a 0x11 0x0002 0))

/-! ## Channels -/

/-- R185 to R191: the admin commands of channels. On a handle that names a live channel each has its effect; on any other it
completes with BAD_HANDLE and is counted; on a channel that is ENDING only CH_DESTROY has one. CH_CREATE puts in an ACTIVE context
with empty queues and PHASE 1 and answers its handle. CH_RESET, CH_RESTART and CH_MODIFY find no earlier command of the channel
waiting (R182).
R188 to R191: what a halt, a destruction, a restart and a query of a channel say. A halt without a descriptor in flight leaves the
channel HALTED with the status as its last; on a channel that is not ACTIVE it changes nothing. A destruction with nothing in
flight frees the channel. A restart leaves it ACTIVE and with REWIND sets its queues back. CH_QUERY gives the head, the count in
flight, the state, the last status, CLASS and POLICY. -/
def Obligations.ChannelCommands : Prop :=
  (∀ (s : State) (h : Adm),
    let d := s.dev.admFetch h
    let p := h.fn.num
    let r := s.dev.admRun h
    let ends := fun (t : Dev) => (Host.Outcome.next ⟨t, s.pending⟩ : Res)
    (∀ (a : ChArgs) (i : Nat) (sp : IdxSpace), s.dev.chCreateWaits h a = false → s.dev.admTurn h false →
      d.chCreateCheck h a = none → (d.chSp p).issue = some (i, sp) →
      ∃ t : Dev, exec (.chCreate h a) s = ends (t.adminDone r 0 0 (mkHandle p (sp.gen i) i)) ∧
        t.chan (ctxKey p i) = some (newChan a h.fn.port (d.newStages a)) ∧ t.chSp p = sp ∧
        (∀ k : Nat, k ≠ ctxKey p i → t.chan k = d.chan k) ∧
        t = { d with chs := t.chs, cl := t.cl, pr := t.pr, od := t.od, out := t.out, fresh := t.fresh }) ∧
    (∀ (a : ChArgs) (st dt : Nat), s.dev.chCreateWaits h a = false → s.dev.admTurn h false →
      d.chCreateCheck h a = some (st, dt) → exec (.chCreate h a) s = ends (d.adminDone r st dt 0)) ∧
    (∀ (handle k : Nat) (c : Chan), d.chanOf p handle = some k → d.chan k = some c →
      (s.dev.admTurn h true → exec (.chDestroy h handle) s = ends ((d.destroyChan k r).settle)) ∧
      (c.st = .ending →
        (s.dev.admTurn h true → exec (.chQuery h handle) s = ends (d.adminDone r 0x11 0x0008 0)) ∧
        (s.dev.admTurn h false → exec (.chReset h handle) s = ends (d.adminDone r 0x11 0x0008 0) ∧
          (∀ flags : Nat, exec (.chRestart h handle flags) s = ends (d.adminDone r 0x11 0x0008 0)) ∧
          (∀ cls policy mask port : Nat,
            exec (.chModify h handle cls policy mask port) s = ends (d.adminDone r 0x11 0x0008 0)))) ∧
      (c.st ≠ .ending → s.dev.chanCmdWaits h handle = false →
        (s.dev.admTurn h true → exec (.chQuery h handle) s = ends (d.adminDone r 0 0 c.query)) ∧
        (s.dev.admTurn h false →
          exec (.chReset h handle) s = ends ((d.resetChan k r).settle) ∧
          (∀ flags : Nat, flags < 2 → c.st = .halted → d.fenced (ctxPart k) = false → d.bme (c.fn k) = true →
            (d.refillStages d.freeLogical c.stages).isSome = true →
            (d.restartWaits c = false → exec (.chRestart h handle flags) s = ends (d.chRestartDo r k c (bit flags 0))) ∧
            (d.restartWaits c = true → exec (.chRestart h handle flags) s =
              ends (d.setChan k { c with restart := some (r, bit flags 0) }))) ∧
          (∀ flags : Nat, flags < 2 → c.st = .active →
            exec (.chRestart h handle flags) s = ends (d.adminDone r 0x11 0x0008 0)) ∧
          (∀ cls policy mask port : Nat, d.chModifyCheck k c cls policy mask port = none →
            (bit mask 2 = false → exec (.chModify h handle cls policy mask port) s =
              ends (((d.setChan k (c.modified cls policy mask)).logChan k).adminDone r 0 0 0)) ∧
            (bit mask 2 = true → c.fetched = [] → c.cqes = [] → exec (.chModify h handle cls policy mask port) s =
              ends (((((d.setChan k (c.modified cls policy mask)).modChan k
                (fun x => { x with port := port, newPort := none })).logChan k).adminDone r 0 0 0).fetchOn k)) ∧
            (bit mask 2 = true → c.fetched ≠ [] → exec (.chModify h handle cls policy mask port) s =
              ends (d.setChan k { c.modified cls policy mask with newPort := some (port, r) })))))) ∧
    (∀ handle : Nat, d.chanOf p handle = none →
      let bad := ends ((d.wr K.badHandles (wrapN (dictBits K.badHandles) (d.rd K.badHandles + 1))).adminDone r 0x12 0x0008 0)
      (s.dev.admTurn h true → exec (.chDestroy h handle) s = bad ∧ exec (.chQuery h handle) s = bad) ∧
      (s.dev.admTurn h false → exec (.chReset h handle) s = bad ∧ (∀ flags, exec (.chRestart h handle flags) s = bad) ∧
        (∀ cls policy mask port, exec (.chModify h handle cls policy mask port) s = bad))) ∧
    (∀ (handle port : Nat) (c : Chan), s.dev.chan (ctxKey (hPart handle) (hIdx handle)) = some c →
      c.newPort = some (port, h) → c.fetched = [] → c.cqes = [] →
      exec (.chModifyPortBind handle) s = ends (s.dev.bindPort h (ctxKey (hPart handle) (hIdx handle)) port))) ∧
  ((∀ (d : Dev) (k : Nat) (c : Chan) (cause : Option Nat) (status detail : Nat), d.chan k = some c →
    (c.st ≠ .active → d.haltBody k cause status detail = d) ∧
    (c.st = .active → c.fetched = [] → c.cqes = [] → d.stageLocks k = [] →
      (d.haltChan k cause status detail).chan k =
        some { c with st := .halted, lastHalt := status, haltEv := none, ends := c.ends.filter (fun e => e.1) } ∧
      ∀ j : Nat, j ≠ k → (d.haltChan k cause status detail).chan j = d.chan j)) ∧
  (∀ (d : Dev) (k : Nat) (c : Chan) (a : Adm), d.chan k = some c → c.st ≠ .ending → c.fetched = [] → c.cqes = [] →
    d.stageLocks k = [] → (d.destroyChan k a).chan k = none) ∧
  (∀ (d : Dev) (h : Adm) (k : Nat) (c : Chan) (rewind : Bool), ∃ c' : Chan,
    (d.chRestartDo h k c rewind).chan k = some c' ∧ c'.st = .active ∧
    (rewind = true → c'.sqHead = 0 ∧ c'.sqTail = 0 ∧ c'.cqHead = 0 ∧ c'.cqTail = 0 ∧ c'.phase = true) ∧
    (rewind = false → c'.sqHead = c.sqHead ∧ c'.sqTail = c.sqTail ∧ c'.cqHead = c.cqHead ∧ c'.cqTail = c.cqTail ∧
      c'.phase = c.phase) ∧ c'.cls = c.cls ∧ c'.policy = c.policy ∧ c'.port = c.port) ∧
  (∀ c : Chan, c.sqHead < 2 ^ 16 → c.fetched.length + c.cqes.length < 2 ^ 16 → c.lastHalt < 256 → c.cls < 256 →
    fld c.query 0 16 = c.sqHead ∧ fld c.query 16 16 = c.fetched.length + c.cqes.length ∧ fld c.query 32 8 = c.st.code ∧
    fld c.query 40 8 = c.lastHalt ∧ fld c.query 48 8 = c.cls ∧ c.query / 2 ^ 56 = c.policy))

/-! ## Synchronisation objects -/

/-- R203, R206, R207: the commands of synchronisation objects. SYNC_ALLOC puts in an object at its initial value, SYNC_SIGNAL
adds, SYNC_QUERY answers the value, SYNC_ARM sets the one threshold, which posts its event at once when it is reached already,
SYNC_FREE takes the object away unless a fetched descriptor waits on it. -/
def Obligations.SynchronisationCommands : Prop :=
  ∀ (s : State) (h : Adm),
    let d := s.dev.admFetch h
    let p := h.fn.num
    let r := s.dev.admRun h
    let ends := fun (t : Dev) => (Host.Outcome.next ⟨t, s.pending⟩ : Res)
    (∀ (loc init addr ep i : Nat) (sp : IdxSpace), s.dev.admTurn h false → d.syncAllocCheck h loc addr ep = none →
      (d.sySp p).issue = some (i, sp) →
      exec (.syncAlloc h loc init addr ep) s = ends ({ d with chs := { d.chs with
          syncSpace := kput p sp d.chs.syncSpace
          syncs := kput (ctxKey p i) ⟨init, loc, addr, ep, h.fn, none⟩ d.chs.syncs } }.adminDone r 0 0
        (mkHandle p (sp.gen i) i))) ∧
    (∀ (handle k : Nat) (o : SyncObj), d.syncOf p handle = some k → kfind k d.chs.syncs = some o →
      (s.dev.admTurn h true →
        exec (.syncQuery h handle) s = ends (d.adminDone r 0 0 o.value) ∧
        (d.syncAwaited handle = true → exec (.syncFree h handle) s = ends (d.adminDone r 0x11 0x0008 0)) ∧
        (d.syncAwaited handle = false → ∃ t : Dev, exec (.syncFree h handle) s = ends (t.adminDone r 0 0 0) ∧
          kfind k t.chs.syncs = none ∧ (∀ j : Nat, j ≠ k → kfind j t.chs.syncs = kfind j d.chs.syncs) ∧
          t = { d with chs := { d.chs with syncs := t.chs.syncs, syncSpace := t.chs.syncSpace } })) ∧
      (s.dev.admTurn h false →
        (∀ n : Nat, exec (.syncSignal h handle n) s = ends (((d.signalObj k n).adminDone r 0 0 0).settle)) ∧
        (∀ n : Nat, o.value < n → exec (.syncArm h handle n) s =
          ends ({ d with chs := { d.chs with syncs := kput k { o with arm := some n } d.chs.syncs } }.adminDone r 0 0 0)) ∧
        (∀ n : Nat, n ≤ o.value → exec (.syncArm h handle n) s =
          ends (({ d with chs := { d.chs with syncs := kput k { o with arm := none } (kput k { o with arm := some n } d.chs.syncs) } }.post
            (ctxPart k) ⟨0x03, 0, 0, 0, d.syHandle k⟩).adminDone r 0 0 0)))) ∧
    (∀ handle : Nat, d.syncOf p handle = none →
      let bad := ends ((d.wr K.badHandles (wrapN (dictBits K.badHandles) (d.rd K.badHandles + 1))).adminDone r 0x12 0x0008 0)
      (s.dev.admTurn h true → exec (.syncQuery h handle) s = bad ∧ exec (.syncFree h handle) s = bad) ∧
      (s.dev.admTurn h false → (∀ n, exec (.syncSignal h handle n) s = bad) ∧ (∀ n, exec (.syncArm h handle n) s = bad)))

/-- R203: a signal adds its addend to the counter of an object; a sum beyond 2^64 - 1 leaves the counter at 2^64 - 1 and is
counted in SYNC_SATURATED; the counter never decreases. Stated for an object without notify write and without arm. -/
def Obligations.SignalSaturates : Prop :=
  ∀ (d : Dev) (k n : Nat) (o : SyncObj), kfind k d.chs.syncs = some o → o.loc = 3 → o.arm = none → o.value < 2 ^ 64 →
    let t := d.signalObj k n
    (kfind k t.chs.syncs).map (fun x => x.value) = some (if o.value + n < 2 ^ 64 then o.value + n else 2 ^ 64 - 1) ∧
    (∀ j : Nat, j ≠ k → kfind j t.chs.syncs = kfind j d.chs.syncs) ∧
    t.rd K.syncSaturated = (if o.value + n < 2 ^ 64 then d.rd K.syncSaturated else (d.rd K.syncSaturated + 1) % 2 ^ 64) ∧
    t = { d with chs := { d.chs with syncs := t.chs.syncs, chans := t.chs.chans }, od := t.od }

/-! ## Objects and views -/

/-- R45, R47, R49, R42, R86: the admin commands of objects, on objects that are not mirrored. OBJ_CREATE puts in an object of
view TRANSPARENT; OBJ_PLACE replaces the descriptor and sets the moves going; OBJ_DISCARD makes the run's blocks invalid;
OBJ_QUERY writes its buffer; OBJ_DESTROY takes away an object that nothing stands on and completes when its extents are cleared,
which EXTENT_CLEAR_DONE counts.
R27, R44, R47, R49: an OBJ_CREATE that is accepted names a run of extents within the range, free and aligned, a commitment
within the run and within the reservation of the floor tier, an unused number, and no reserved bit.
R178: a handle names the channel or object of its index exactly when its partition, its generation, which is not 0, and a
live context agree; an index is issued with its generation advanced past 4,095 to 1 (R177).
R42: the blocks of a discarded run read zero, and the stored bytes of every page that the run does not meet stay. -/
def Obligations.ObjectCommands : Prop :=
  (∀ (s : State) (h : Adm),
    let d := s.dev.admFetch h
    let p := h.fn.num
    let r := s.dev.admRun h
    let ends := fun (t : Dev) => (Host.Outcome.next ⟨t, s.pending⟩ : Res)
    (∀ obj n off k desc : Nat, obj < 2 ^ 16 → s.dev.objTurn h false (.create obj n off k desc) →
      ∃ t : Dev, exec (.objCreate h obj n off k desc) s = ends (t.adminDone r 0 0 0) ∧
        t.obj p obj = some (newObj (off / 2 ^ 30) n k desc (d.normFor p (off / 2 ^ 30) n 0 desc)) ∧
        (∀ q m : Nat, m < 2 ^ 16 → ¬ (q = p ∧ m = obj) → t.obj q m = d.obj q m) ∧
        t = { d with mm := { d.mm with objs := t.mm.objs } }) ∧
    (∀ (obj desc : Nat) (o : Obj), s.dev.objTurn h false (.place obj desc) → d.obj p obj = some o →
      let nd := d.normFor p o.ext o.n o.kind desc
      let u := d.setObj p obj { o with
        wdesc := desc, desc := nd, causes := o.causes ||| 2, stops := 0, fellBack := false, placing := some r }
      exec (.objPlace h obj desc) s =
        ends ((if pdFloor nd = pdFloor o.desc then u else u.refloor p o (pdFloor nd)).restartPlaces.finishPlaces)) ∧
    (∀ (obj first count : Nat) (o : Obj), s.dev.numberBusy false (p, obj) = false → s.dev.discardWaits p obj first count = false →
      s.dev.admTurn h false → d.obj p obj = some o → d.pairRole p = 0 →
      (o.ordinary = true → first + count ≤ o.n * 2 ^ 22 → exec (.objDiscard h obj first count) s =
        ends ((d.discardBlocks p (o.ext * 2 ^ 22 + first) count).adminDone r 0 0 0)) ∧
      (o.ordinary = false → exec (.objDiscard h obj first count) s = ends (d.adminDone r 0x11 0x0008 0)) ∧
      (o.ordinary = true → o.n * 2 ^ 22 < first + count →
        exec (.objDiscard h obj first count) s = ends (d.adminDone r 0x11 0x0003 0))) ∧
    (∀ (obj loc count first ep addr : Nat) (o : Obj), s.dev.numberBusy false (p, obj) = false → s.dev.admTurn h true →
      d.obj p obj = some o → d.objQueryCheck h obj loc count first ep addr = none →
      let bs := d.queryBytes p obj o first count
      (loc = 0 → exec (.objQuery h obj loc count first ep addr) s = ends ((d.emit (.hostWr h.fn addr bs)).adminDone r 0 0 0)) ∧
      (loc = 1 → exec (.objQuery h obj loc count first ep addr) s = ends ((d.ublWrite p ep addr (d.lsCls p) bs).adminDone r 0 0 0)) ∧
      (loc = 2 → exec (.objQuery h obj loc count first ep addr) s = ends ((d.deviceWrite (.query r) p addr (d.lsCls p) bs).settle))) ∧
    (∀ (obj : Nat) (o : Obj), obj < 2 ^ 16 → s.dev.objTurn h true (.destroy obj) → d.quiet → d.obj p obj = some o →
      o.ordinary = true → o.sealing = none → 1 ≤ o.n → d.coh.dir = [] → d.coh.recalls = [] → d.mm.migs = [] →
      (∀ e ∈ d.mm.objs, e.2.aliasOf ≠ some (p, obj) ∧ windowOver p obj (e.1 / 2 ^ 16) e.2 = false) →
      ∃ t : Dev, exec (.objDestroy h obj) s = ends t ∧ t.obj p obj = none ∧
        t.mm.clearing = [⟨.destroy, p, obj, o.ext, o.n, true, o.n, some r⟩] ∧
        (∀ q m : Nat, m < 2 ^ 16 → ¬ (q = p ∧ m = obj) → t.obj q m = d.obj q m) ∧
        (∀ e ∈ d.pagesOf p o, kfind e.1 t.mm.pages = none)) ∧
    (∀ (c : Clear) (a : Adm) (n : Nat), s.dev.mm.clearing = [c] → s.dev.coh.revokes = [] → s.dev.coh.recalls = [] →
      s.dev.mm.held = [] → s.dev.mm.migs = [] → s.dev.chs.wrote = [] → (∀ e ∈ s.dev.chs.chans, e.2.restart = none) →
      c.kind = .destroy → c.gone = true → c.h = some a → c.left = n + 1 →
      exec (.extentClearDone c.part) s =
        ends (if n = 0 then { s.dev with mm := { s.dev.mm with clearing := [] } }.adminDone a 0 0 0
          else { s.dev with mm := { s.dev.mm with clearing := [{ c with left := n }] } }))) ∧
  (∀ (d : Dev) (p obj n off k desc : Nat), d.objCreateCheck p obj n off k desc = none →
    1 ≤ n ∧ off % 2 ^ 30 = 0 ∧ off / 2 ^ 30 + n ≤ 262144 ∧ k ≤ n ∧ (k = n ∨ pdLendable desc = true) ∧
    (pdAllows desc .t1 = true ∨ pdAllows desc .t2 = true ∨ pdAllows desc .t3 = true) ∧ pdPreferred desc ≠ 3 ∧
    d.obj p obj = none ∧ d.overlaps p (off / 2 ^ 30) n = false ∧
    ∃ fl : Tier, fl ≠ .th ∧ d.committedExt p fl + k ≤ d.resv p fl) ∧
  ((∀ (d : Dev) (p h k : Nat),
    (d.chanOf p h = some k ↔ hPart h = p ∧ hGen h ≠ 0 ∧ hGen h = (d.chSp p).gen (hIdx h) ∧ k = ctxKey p (hIdx h) ∧
      (d.chan k).isSome = true) ∧
    (d.syncOf p h = some k ↔ hPart h = p ∧ hGen h ≠ 0 ∧ hGen h = (d.sySp p).gen (hIdx h) ∧ k = ctxKey p (hIdx h) ∧
      (kfind k d.chs.syncs).isSome = true)) ∧
  (∀ p gen idx : Nat, p < 64 → gen < 4096 → idx < 16384 →
    hPart (mkHandle p gen idx) = p ∧ hGen (mkHandle p gen idx) = gen ∧ hIdx (mkHandle p gen idx) = idx) ∧
  (∀ (sp t : IdxSpace) (i : Nat), sp.issue = some (i, t) →
    t.gen i = sp.gen i % 4095 + 1 ∧ (∀ j : Nat, j ≠ i → t.gen j = sp.gen j) ∧
    (sp.fresh < 16384 → i = sp.fresh ∧ t.freed = sp.freed) ∧
    (16384 ≤ sp.fresh → sp.freed = i :: t.freed))) ∧
  (∀ (d : Dev) (p first count : Nat), (first + count) * 256 ≤ 2 ^ 48 →
    let t := d.discardBlocks p first count
    (∀ a : Nat, first * 256 ≤ a → a < (first + count) * 256 → t.byte p a = 0) ∧
    (∀ a : Nat, a < 2 ^ 48 → (a / 65536 + 1) * 256 ≤ first ∨ first + count ≤ a / 65536 * 256 → t.byte p a = d.byte p a) ∧
    (∀ q a : Nat, q ≠ p → a < 2 ^ 48 → t.byte q a = d.byte q a))

/-- R83 to R86, R104: the commands of views, on objects that are not mirrored. VIEW_SET changes kind and format at once, or once
the last TH page is out; VIEW_CREATE puts in a window over its backing; DELTA_SEAL starts while fewer than 4 run, and its end
makes the object a DELTA_STORE, or completes with POISON when a block is poisoned. -/
def Obligations.ViewCommands : Prop :=
  ∀ (s : State) (h : Adm),
    let d := s.dev.admFetch h
    let p := h.fn.num
    let r := s.dev.admRun h
    let ends := fun (t : Dev) => (Host.Outcome.next ⟨t, s.pending⟩ : Res)
    (∀ (obj kind fmt : Nat) (o : Obj), s.dev.objTurn h false (.viewSet obj kind fmt) → d.obj p obj = some o →
      (kind = 1 → exec (.viewSet h obj kind fmt) s =
        ends ((d.setObj p obj { o with
          kind := kind, fmt := fmt, desc := d.normFor p o.ext o.n kind o.wdesc, viewTo := none }).adminDone r 0 0 0)) ∧
      (kind ≠ 1 →
        let u := d.stopThMoves p o
        (u.thPagesOf p o = [] → exec (.viewSet h obj kind fmt) s =
          ends ((u.setObj p obj { o with
            kind := kind, fmt := fmt, desc := u.normFor p o.ext o.n kind o.wdesc, viewTo := none }).adminDone r 0 0 0)) ∧
        (u.thPagesOf p o ≠ [] → exec (.viewSet h obj kind fmt) s =
          ends ((u.setObj p obj { o with viewTo := some (kind, fmt, r) }).viewDrain p obj { o with viewTo := some (kind, fmt, r) } r)))) ∧
    (∀ (q obj kind fmt : Nat) (a : Adm) (o : Obj), s.dev.obj q obj = some o → o.viewTo = some (kind, fmt, a) →
      (∀ e ∈ s.dev.pagesOf q o, ∀ x, e.2.home = some x ∨ s.dev.finalHome e.1 e.2 = some x → x.tier ≠ .th) →
      exec (.viewSetThDrained q obj) s = ends ((s.dev.setObj q obj { o with
        kind := kind, fmt := fmt, desc := s.dev.normFor q o.ext o.n kind o.wdesc, viewTo := none }).adminDone a 0 0 0)) ∧
    (∀ win kind fmt v off backing stoch : Nat, win < 2 ^ 16 → backing < 2 ^ 16 → win ≠ backing →
      s.dev.objTurn h false (.viewCreate win kind fmt v off backing stoch) →
      ∃ (t : Dev) (w : Obj), exec (.viewCreate h win kind fmt v off backing stoch) s = ends (t.adminDone r 0 0 0) ∧
        t.obj p win = some w ∧ w.ext = off / 2 ^ 30 ∧ w.n = v ∧ w.kind = kind ∧ w.fmt = fmt ∧ w.backing = backing ∧
        w.stoch = (stoch == 1) ∧
        (kind = 4 → w.scalePage = scalePage fmt v ∧
          (t.obj p backing).map (fun b => b.kind) = (d.obj p backing).map (fun b => if b.kind = 0 then 1 else b.kind)) ∧
        (kind = 5 → w.base = ((d.obj p backing).map (fun b => b.base)).getD 0 ∧ t.obj p backing = d.obj p backing) ∧
        t = { d with mm := { d.mm with objs := t.mm.objs } }) ∧
    (∀ (obj base fmt mode sectors : Nat) (o : Obj), obj < 2 ^ 16 → s.dev.objTurn h false (.seal obj base fmt mode sectors) →
      d.obj p obj = some o → (∀ e ∈ d.mm.objs, e.2.sealing = none) →
      ∃ t : Dev, exec (.deltaSeal h obj base fmt mode sectors) s = ends t ∧
        t.obj p obj = some { o with sealing := some ⟨d.coh.nextOp, r, fmt, mode, sectors, base, true, !d.objPoison p o⟩ }) ∧
    (∀ (q obj : Nat) (o : Obj) (x : Seal), obj < 2 ^ 16 → s.dev.obj q obj = some o → o.sealing = some x → x.started = true →
      s.dev.sealLocked q o = false → s.dev.sealCapped q o (s.dev.rd (K.migrationClass + q)) = false →
      (s.dev.objPoison q o = true → exec (.sealDone q obj) s = ends (s.dev.sealPoisoned q obj o x) ∧
        (x.clean = false → s.dev.sealPoisoned q obj o x =
          (((s.dev.drawn.setObj q obj { o with sealing := none }).adminDone x.h 0x20 0x000B 0).startSeals).settle)) ∧
      (s.dev.objPoison q o = false → ∃ (t : Dev) (o' : Obj), exec (.sealDone q obj) s =
          ends (((t.adminDone x.h 0 0 0).startSeals).settle) ∧
        t.obj q obj = some o' ∧ o'.kind = 6 ∧ o'.fmt = x.fmt ∧ o'.declMode = x.mode ∧ o'.base = x.base ∧ o'.sealing = none ∧
        o'.declSectors = (if x.mode = 0 then x.sectors else 0) ∧ o'.ext = o.ext ∧ o'.n = o.n ∧ o'.codes.length = o.n)) ∧
    (∀ count off : Nat, s.dev.objTurn h false (.acceptStale count off) → (d.coh.dir.map (fun e => e.1)).Nodup →
      ∃ t : Dev, exec (.acceptStale h count off) s = ends (t.adminDone r 0 0 0) ∧ t.mm = d.mm ∧
        ∀ k : Nat, t.dirGet k = (match d.dirGet k with
          | some e => if e.st = .orph ∧ lineKey p (off / 64) ≤ k ∧ k < lineKey p (off / 64) + count then none else some e
          | none => none))

/-! ## Sharing, grants, the directory -/

/-- R126, R127, R129 to R131: sharing and grants. SHARE_EXPORT marks the object, SHARE_IMPORT puts in an alias with the exported
object's run and view, SHARE_WITHDRAW takes the mark away when no alias is left. GRANT adds a record, tells the host and
completes, for a CXL slot once its record stands in the log. REVOKE without a record completes at once; otherwise its records
drain, are recalled, and go when nothing is left. -/
def Obligations.SharingAndGrants : Prop :=
  ∀ (s : State) (h : Adm),
    let d := s.dev.admFetch h
    let p := h.fn.num
    let a := s.dev.admRun h
    let ends := fun (t : Dev) => (Host.Outcome.next ⟨t, s.pending⟩ : Res)
    (∀ (obj acc : Nat) (o : Obj), s.dev.objTurn h false (.share obj acc) → d.obj p obj = some o →
      ∃ t : Dev, exec (.shareExport h obj acc) s = ends (t.adminDone a 0 0 0) ∧
        t.obj p obj = some { o with exported := some (acc == 1) } ∧ t = { d with mm := { d.mm with objs := t.mm.objs } }) ∧
    (∀ (obj : Nat) (o : Obj), s.dev.objTurn h false (.withdraw obj) → d.quiet → d.obj p obj = some o →
      (∀ e ∈ d.mm.objs, e.2.aliasOf ≠ some (p, obj)) → o.aliasOf = none → d.mm.migs = [] → d.coh.dir = [] →
      ∃ t : Dev, exec (.shareWithdraw h obj) s = ends (t.adminDone a 0 0 0) ∧
        t.obj p obj = some { o with exported := none } ∧ t = { d with mm := { d.mm with objs := t.mm.objs } }) ∧
    (∀ (al owner acc oobj off : Nat) (o : Obj), s.dev.objTurn h false (.imp al owner acc oobj off) → d.obj owner oobj = some o →
      exec (.shareImport h al owner acc oobj off) s = ends ((d.setObj p al { newObj (off / 2 ^ 30) o.n 0 0 0 with
        kind := o.kind, fmt := o.fmt, stoch := o.stoch, declMode := o.declMode, declSectors := o.declSectors,
        scalePage := o.scalePage, backing := o.backing, base := o.base,
        aliasOf := some (owner, oobj), aliasRw := acc == 1 }).adminDone a 0 0 0)) ∧
    (∀ slot acc count first : Nat, s.dev.admTurn h false → d.grantCheck p slot acc count first = none →
      let u := ({ d with coh := { d.coh with grants := d.coh.grants ++ [Grant.mk slot p first count (acc == 1) none] } }).logState p
        (.grant slot first count (acc == 1) false)
      (slMode (d.slot slot) ≠ 2 →
        exec (.grant h slot acc count first) s = ends ((u.notice opGrantNotice slot first count acc).adminDone a 0 0 0)) ∧
      (slMode (d.slot slot) = 2 →
        exec (.grant h slot acc count first) s = ends (u.dcQueue (slPort (d.slot slot)) 0 first count (acc == 1) [a]))) ∧
    (∀ slot count first : Nat, s.dev.admTurn h true → d.revokeCheck p slot count first = none →
      (d.grantsOver slot p first count = [] → exec (.revoke h slot count first) s = ends (d.adminDone a 0 0 0)) ∧
      (d.grantsOver slot p first count ≠ [] → (∀ g ∈ d.grantsOver slot p first count, g.drain ≠ none) →
        exec (.revoke h slot count first) s = ends { d with coh := { d.coh with revokes := d.coh.revokes.map (fun v =>
          if ((d.grantsOver slot p first count).filterMap (fun g => g.drain)).contains v.id then { v with hs := v.hs ++ [a] } else v) } }) ∧
      (d.grantsOver slot p first count ≠ [] → (∀ g ∈ d.grantsOver slot p first count, g.drain = none) →
        ∃ t : Dev, exec (.revoke h slot count first) s = ends t ∧
          t.coh.revokes = d.coh.revokes ++ [⟨d.coh.nextOp, [a], slot, p, first, count, .v2⟩] ∧
          (∀ e : Nat, first ≤ e → e < first + count → t.granted slot p e false = false) ∧
          (∀ (e : Nat) (rw : Bool), e < first ∨ first + count ≤ e → t.granted slot p e rw = d.granted slot p e rw))) ∧
    (∀ r : Revoke, s.dev.coh.revokes.find? (fun x => x.id == r.id) = some r →
      (r.st = .v2 → s.dev.revokeBusy r = false → exec (.revokeDrained r.id) s = ends ((s.dev.revokeRecall r).settle)) ∧
      (r.st = .v2 → s.dev.coh.revokes = [r] → s.dev.mm.held = [] → s.dev.mm.clearing = [] → s.dev.coh.dir = [] →
        s.dev.coh.recalls = [] → s.dev.mm.migs = [] → s.dev.chs.wrote = [] → (∀ e ∈ s.dev.chs.chans, e.2.restart = none) →
        s.dev.pr.holds = [] → slMode (s.dev.slot r.slot) = 1 →
        ∃ t : Dev, exec (.revokeDrained r.id) s = ends t ∧ t.coh.revokes = [] ∧
          t.coh.grants = s.dev.coh.grants.filter (fun g => g.drain != some r.id)) ∧
      (r.st = .v5 → exec (.releaseTimeoutExpiry r.id) s = ends
        (((s.dev.dcQueue (slPort (s.dev.slot r.slot)) 2 r.first r.count false
          (r.hs.filter (fun x => !s.dev.coh.revokes.any (fun v => v.id != r.id && v.hs.contains x)))).revokeEnd
            { r with hs := [] }).settle)) ∧
      (r.st ≠ .v5 → exec (.releaseTimeoutExpiry r.id) s = ends s.dev))

/-- Table 04.6: what a caching request does to the entry of a line. In I the host becomes a sharer or the owner; in S a sharer is
added, or an only sharer becomes the owner, or the others are recalled; in O another host's line is recalled; while a recall is
outstanding, and on an orphaned line, the request waits.
R137, R139, R143, R144, R147: answers to recalls. An acknowledgement ends a recall; the last one returns the line to I, or to
S of the former owner after RECALL_SHARE; an answer to a line already orphaned is counted and discarded. A recall that times out
makes its slot LOST, where the directory holds lines of the 64 partitions alone, and its grants go. BIConflict is
acknowledged. -/
def Obligations.DirectoryTransitions : Prop :=
  (∀ (d : Dev) (k h : Nat) (own : Bool), h < 4096 →
    let r := d.cacheLine k h own
    (d.dirGet k = none → (d.setWays k).length < 16 → r.2 = none ∧
      ∃ e : DirE, r.1.dirGet k = some e ∧ e.has h = true ∧ e.st = (if own then .o else .s) ∧ e.coarse = false) ∧
    (∀ e : DirE, d.dirGet k = some e →
      (e.st = .s → own = false → r.2 = none ∧ r.1.dirGet k = some (e.addSharer h) ∧ (e.addSharer h).has h = true) ∧
      (e.st = .s → own = true → (d.sharers e).filter (· != h) = [] → r.2 = none ∧
        ∃ e' : DirE, r.1.dirGet k = some e' ∧ e'.st = .o ∧ e'.vec = h) ∧
      (e.st = .s → own = true → (d.sharers e).filter (· != h) ≠ [] → r.2 = some .line ∧
        (r.1.dirGet k).map (fun x => x.st) = some .rs ∧
        (r.1.coh.recalls.drop d.coh.recalls.length).map (fun x => (x.slot, x.line, x.share)) =
          ((d.sharers e).filter (· != h)).map (fun x => (x, k, false))) ∧
      (e.st = .o → e.vec = h → r = (d, none)) ∧
      (e.st = .o → e.vec ≠ h → r.2 = some .line ∧ (r.1.dirGet k).map (fun x => x.st) = some .ro ∧
        (r.1.coh.recalls.drop d.coh.recalls.length).map (fun x => (x.slot, x.line, x.share)) = [(e.vec, k, !own)]) ∧
      (e.st = .rs ∨ e.st = .ro ∨ e.st = .orph → r = (d, some .line))) ∧
    (∀ j : Nat, j ≠ k → (d.setWays k).length < 16 → r.1.dirGet j = d.dirGet j)) ∧
  (∀ s : State,
    let d := s.dev
    let ends := fun (u : Dev) => (Host.Outcome.next ⟨u, s.pending⟩ : Res)
    (∀ (port tag : Nat) (data : List Byte) (r : Recall), d.coh.recalls.find? (fun x => x.tag == tag && x.port == port) = some r →
      exec (.recallAck port tag) s = ends ((d.recallAnswered r.line r.slot none).settle) ∧
      (d.bw.locks = [] → exec (.recallData port tag data) s = ends ((d.recallAnswered r.line r.slot (some data)).settle)) ∧
      (∀ first : Bool, d.cxl port = true → exec (.biconflict port tag first) s = ends (d.emit (.cxlConflictAck port tag))) ∧
      (∀ e : DirE, d.dirGet r.line = some e → e.bad = false → (∀ x ∈ d.coh.recalls, x.line = r.line → x.slot = r.slot) →
        (e.st = .rs ∨ (e.st = .ro ∧ e.shareEnd = false) → (d.recallAnswered r.line r.slot none).dirGet r.line = none) ∧
        (e.st = .ro → e.shareEnd = true → d.slotActive e.vec = true →
          ∃ e' : DirE, (d.recallAnswered r.line r.slot none).dirGet r.line = some e' ∧ e'.st = .s ∧ e'.has e.vec = true))) ∧
    (∀ port tag : Nat, d.coh.recalls.find? (fun x => x.tag == tag && x.port == port) = none →
      (d.coh.lateTags.contains (port, tag) = true → exec (.recallAck port tag) s =
        ends (({ d with coh := { d.coh with lateTags := d.coh.lateTags.erase (port, tag) } }).inc K.lateRecallResponses)) ∧
      (d.coh.lateTags.contains (port, tag) = false → exec (.recallAck port tag) s = ends d)) ∧
    (∀ (tag : Nat) (r : Recall), d.coh.recalls.find? (fun x => x.tag == tag) = some r → r.slot < 4096 → d.slotActive r.slot = true →
      (∀ x ∈ d.mm.held, x.r.kind ≠ .recallData r.slot) →
      exec (.recallTimeoutExpiry tag) s = ends (((d.inc K.recallTimeouts).hostLost r.slot).settle) ∧
      (∀ g ∈ (d.hostLost r.slot).coh.grants, g.slot ≠ r.slot) ∧
      ((∀ e ∈ d.coh.dir, e.1 < 64 * 2 ^ 42) → (∀ l ∈ d.bw.locks, l.bpart < 64) → slState ((d.hostLost r.slot).slot r.slot) = 2)))

/-- R115, R128, R136, R343 (Table 11.9): loads and stores of hosts in native mode. A read of an object answers the stored bytes,
with POISON for a poisoned block; a write changes the bytes that its mask selects and no others; the owner's WR_BACK gives the
line back, EVICT drops a copy; an access without a grant is ACCESS_REVOKED and counted. -/
def Obligations.HostLoadsAndStores : Prop :=
  ∀ (s : State) (q : HReq) (feat p slot : Nat) (t : Tgt), s.dev.quiet → s.dev.mm.migs = [] → s.dev.lineReaches q feat p slot t →
    let d := s.dev
    let ends := fun (u : Dev) => (Host.Outcome.next ⟨u, s.pending⟩ : Res)
    let answer := fun (nocache : Bool) =>
      Out.ubl q.port opRespData q.src q.dst q.off q.tag q.pool nocache
        (if d.piecePoison (t.piece 64) then 0x20 else 0) (d.bytes t.part t.off 64)
    let reads := fun (i : Instr) (nocache : Bool) => ∃ u : Dev, exec i s = ends u ∧ u.out = d.out ++ [answer nocache] ∧
      u.mm.cells = d.mm.cells ∧ u.mm.blocks = d.mm.blocks ∧ u.coh.grants = d.coh.grants ∧ u.coh.recalls = d.coh.recalls
    (d.unheld t 64 (d.lsCls p) false → t.obj.tracked = false → d.dirGet (lineKey t.part (t.off / 64)) = none →
      d.granted slot p (q.off / 2 ^ 30) false = true →
      (feat = 0 → reads (.rdUncached q .good) false) ∧
      (feat = 1 → reads (.rdShared q .good) false) ∧
      (feat = 1 → d.granted slot p (q.off / 2 ^ 30) true = true → reads (.rdOwn q .good) false)) ∧
    (d.unheld t 64 (d.lsCls p) false → t.obj.tracked = true → d.mm.shareOn = true → feat = 1 → slot < 4096 →
      d.dirGet (lineKey t.part (t.off / 64)) = none → (d.setWays (lineKey t.part (t.off / 64))).length < 16 →
      d.granted slot p (q.off / 2 ^ 30) true = true →
      (∃ (u : Dev) (e : DirE), exec (.rdShared q .good) s = ends u ∧ u.dirGet (lineKey t.part (t.off / 64)) = some e ∧ e.st = .s ∧
        e.has slot = true ∧ answer false ∈ u.out) ∧
      (∃ (u : Dev) (e : DirE), exec (.rdOwn q .good) s = ends u ∧ u.dirGet (lineKey t.part (t.off / 64)) = some e ∧ e.st = .o ∧
        e.has slot = true ∧ answer false ∈ u.out)) ∧
    (∀ (mask : BitVec 64) (data : List Byte), feat = 0 → d.unheld t 64 (d.lsCls p) true → t.obj.tracked = false →
      t.obj.kind ≠ 6 → d.baseSealed t.part t.num = false → d.windowLines (t.piece 64) = [] → d.pairRole t.part = 0 →
      d.piecePoison (t.piece 64) = false → q.lock = false → q.poisoned = false → data.length = 64 →
      d.granted slot p (q.off / 2 ^ 30) true = true → d.objAt p q.off = some (t.num, t.obj) → t.obj.aliasOf = none →
      d.dirGet (lineKey t.part (t.off / 64)) = none → t.off + 64 ≤ 2 ^ 48 → Memory.wf d.mm.cells = true →
      ∃ u : Dev, exec (.wrUncached q mask data .good) s = ends u ∧
        u.out = d.out ++ [Out.ubl q.port opResp q.src q.dst q.off q.tag q.pool false 0 []] ∧
        (∀ i : Nat, i < 64 → u.byte t.part (t.off + i) =
          if mask.getLsbD i then data.getD i 0 else d.byte t.part (t.off + i)) ∧
        (∀ r a : Nat, a < 2 ^ 48 → ¬ (r = t.part ∧ t.off ≤ a ∧ a < t.off + 64) → u.byte r a = d.byte r a) ∧
        u.coh = d.coh) ∧
    (∀ data : List Byte, feat = 1 → d.bw.locks = [] → q.lock = false →
      let k := lineKey t.part (t.off / 64)
      (∀ e : DirE, d.dirGet k = some e → e.st = .o → e.vec = slot → d.recalled k slot = false →
        exec (.wrBack q data) s =
          ends (((((d.returnLine k data).dropCopy k slot).answerWrite (lineReq q .wrBack (2 ^ 64 - 1) data (d.lsCls p)) 0)).settle) ∧
        (d.dropCopy k slot).dirGet k = none) ∧
      (d.recalled k slot = false → exec (.evict q) s = ends ((d.dropCopy k slot).settle)) ∧
      (d.recalled k slot = true → exec (.evict q) s = ends ((d.recallAnswered k slot none).settle))) ∧
    (d.granted slot p (q.off / 2 ^ 30) false = false → feat = 0 → ∃ u : Dev, exec (.rdUncached q .good) s = ends u ∧
      u.out = d.out ++ [Out.ubl q.port opResp q.src q.dst q.off q.tag q.pool false 0x10 []] ∧
      u.rd K.revokedAccesses = (d.rd K.revokedAccesses + 1) % 2 ^ 64 ∧ u.mm = d.mm ∧ u.coh = d.coh)

/-- R335, R339, R340, R342: accesses through BAR2. A read within a 4 KiB range answers a completion with the stored bytes, its EP
bit set when a block is poisoned; a write changes the bytes and answers nothing; without Memory Space Enable or outside the
window a read is answered with Unsupported Request. -/
def Obligations.Bar2Accesses : Prop :=
  ∀ (s : State) (f : FnId) (off len tag : Nat) (data : List Byte), s.dev.quiet → s.dev.mm.migs = [] → s.dev.barUp f = true →
    off % 4096 + len ≤ 4096 → 1 ≤ len → data.length = len →
    let d := s.dev
    let p := f.num
    let a := d.rd (K.ofPart K.bar2Offset p) + off
    let ends := fun (u : Dev) => (Host.Outcome.next ⟨u, s.pending⟩ : Res)
    (d.mse f = false ∨ d.bar2There f off = false →
      exec (.bar2Read f off len tag .good) s = ends ((d.aer f 1 aerUnsupported).emit (.cpl f tag 1 [] false)) ∧
      exec (.bar2Write f off data false .good) s = ends (d.aer f 0 aerAdvisory)) ∧
    (∀ t : Tgt, d.mse f = true → d.bar2There f off = true → d.fenced p = false → d.pairRole p = 0 → d.resolve p a = some t →
      d.leaseFenced t.part t.obj = false → t.holds len = true → t.obj.tracked = false → (∀ k ∈ tgtLines t len, d.dirGet k = none) →
      (d.unheld t len (d.lsCls p) false → ∃ u : Dev, exec (.bar2Read f off len tag .good) s = ends u ∧
        u.out = d.out ++ [.cpl f tag 0 (d.bytes t.part t.off len) (d.piecePoison (t.piece len))] ∧
        u.mm.cells = d.mm.cells ∧ u.coh = d.coh) ∧
      (d.unheld t len (d.lsCls p) true → t.obj.kind ≠ 6 → d.baseSealed t.part t.num = false → d.windowLines (t.piece len) = [] →
        d.piecePoison (t.piece len) = false → t.off + len ≤ 2 ^ 48 → d.objAt p a = some (t.num, t.obj) → t.obj.aliasOf = none →
        Memory.wf d.mm.cells = true →
        ∃ u : Dev, exec (.bar2Write f off data false .good) s = ends u ∧ u.out = d.out ∧
          u.bytes t.part t.off len = data ∧
          (∀ r x : Nat, x < 2 ^ 48 → ¬ (r = t.part ∧ t.off ≤ x ∧ x < t.off + len) → u.byte r x = d.byte r x)))

/-- R298, R315, R345, R346, R348: answers to the device's own requests. An answer frees its tag and goes to what waits for it; a
failure and a timeout meet the rule of what the request was for, a timeout with the tag in quarantine until it expires or the
answer comes late, which is counted. An unknown UBL opcode is counted, a non-posted one answered with NO_RESERVATION. -/
def Obligations.DeviceRequests : Prop :=
  ∀ s : State,
    let d := s.dev
    let ends := fun (u : Dev) => (Host.Outcome.next ⟨u, s.pending⟩ : Res)
    let freed := fun (tag : Nat) => ({ d with tags := d.tags.filter (fun (x : OutTag) => x.tag != tag) } : Dev)
    (∀ (port tag status : Nat) (data : List Byte) (t : OutTag), d.tagOf tag = some t → t.ubl = true → t.port = port →
      (∀ c op : Nat, t.use = .stream c op → exec (.respData port tag 0 data) s = ends (freed t.tag)) ∧
      (∀ (k : Nat) (c : Chan), t.use = .descFetch k → (freed t.tag).chan k = some c →
        exec (.respData port tag 0 data) s = ends ((freed t.tag).fetchDsc k c (.data data))) ∧
      (failed status = false → exec (.resp port tag status) s = ends ((freed tag).wroteLine t.use)) ∧
      (failed status = true → exec (.resp port tag status) s = ends ((freed tag).useFailed t.use)) ∧
      (∀ y : Nat, t.use = .notify y →
        (freed tag).wroteLine t.use = freed tag ∧ (freed tag).useFailed t.use = (freed tag).inc K.notifyFailures)) ∧
    (∀ (tag : Nat) (t : OutTag), d.tagOf tag = some t → t.use ≠ .gone →
      exec (.completionTimeout tag) s = ends
        ((({ d with tags := d.tags.map (fun (x : OutTag) => if x.tag = t.tag then { x with quarantined := true } else x) } : Dev).countTimeout t).useFailed t.use)) ∧
    (∀ (tag : Nat) (t : OutTag), d.tags.find? (fun x => x.tag == tag && x.quarantined) = some t → t.ubl = true →
      exec (.lateCompletion tag) s = ends ((freed tag).inc K.lateCompletions)) ∧
    (∀ tag : Nat, ∃ u : Dev, exec (.tagQuarantineExpiry tag) s = ends u ∧ u = { d with tags := u.tags } ∧
      (∀ x ∈ u.tags, x.tag = tag → x.quarantined = false) ∧ (∀ x ∈ d.tags, x.tag ≠ tag → x ∈ u.tags)) ∧
    (∀ port src dst tag op : Nat, d.linkUp port = true → d.native port = true →
      exec (.ublUnknownOpcode port src dst tag op false) s = ends (d.inc K.ublMalformed) ∧
      exec (.ublUnknownOpcode port src dst tag op true) s =
        ends ((d.inc K.ublMalformed).emit (.ubl port opResp src dst 0 tag 0 false 0x11 []))) ∧
    (∀ (lock : Nat) (l : Lock), d.bw.locks.find? (fun x => x.id == lock && x.st == .held) = some l →
      (l.host = true → d.mm.held = [] → exec (.lockTimeoutExpiry lock) s = ends ((d.breakLock l (some .open_)).settle) ∧
        (d.breakLock l (some .open_)).bw.locks =
          d.bw.locks.map (fun x => if x.id = l.id then { x with pages := [], blocks := [], st := .open_ } else x)) ∧
      (∀ k q : Nat, l.host = false → (d.clu l.src).chan = some k → d.lockDsc l = some q →
        exec (.lockTimeoutExpiry lock) s = ends ((d.failHalt k q 0x22 0).settle)))

/-! ## Queue registers, doorbells, descriptors -/

/-- R180, R181, R318, R322, R325: writes of a function's queue registers. Enabling sets indexes to 0 and the phase to 1, or leaves
SIZE_ERROR; disabling keeps READY while fetched commands run; a tail or head out of bounds counts a doorbell error; without Memory
Space Enable a write is discarded and logged.
R194, R195, R178: channel doorbells through BAR0 and over UBL. A tail with bit 31 and a head with bit 63 are taken when both are
in bounds, and the read of the next descriptor is issued; a field out of bounds, or a doorbell to a channel that does not exist,
changes nothing but the count of errors. A UBL doorbell whose handle is not live is counted in BAD_HANDLES. -/
def Obligations.QueueRegisters : Prop :=
  (∀ (s : State) (f : FnId),
    let d := s.dev
    let q := (d.fn f).aq
    let e := (d.fn f).eq
    let ends := fun (t : Dev) => (Host.Outcome.next ⟨t, s.pending⟩ : Res)
    (d.barOpen f → ∀ v : Nat,
      exec (.aqEnable f v) s = ends (d.aqEnable f v) ∧ ((d.aqEnable f v).fn f).aq = q.write v ∧
      d.aqEnable f v = { d with fns := (d.setFn f { d.fn f with aq := q.write v }).fns, tags := (d.aqEnable f v).tags } ∧
      (∀ acc : Resp,
        (q.enable = true → q.tailBad v = false → exec (.asqTail f ⟨v, acc⟩) s =
          ends (((d.setFn f { d.fn f with aq := { q with asqTail := v } }).admRead f).admAnswer f acc)) ∧
        (q.enable = true → q.headBad v = false → exec (.acqHead f ⟨v, acc⟩) s =
          ends (((d.setFn f { d.fn f with aq := { q with acqHead := v } }).admRead f).admAnswer f acc)) ∧
        (q.enable = true → q.tailBad v = true → exec (.asqTail f ⟨v, acc⟩) s = ends (d.inc K.doorbellErrors)) ∧
        (q.enable = true → q.headBad v = true → exec (.acqHead f ⟨v, acc⟩) s = ends (d.inc K.doorbellErrors)) ∧
        (q.enable = false → exec (.asqTail f ⟨v, acc⟩) s = .next s ∧ exec (.acqHead f ⟨v, acc⟩) s = .next s)) ∧
      (2 ^ q.asqLog2 ≤ v → q.tailBad v = true) ∧ (2 ^ q.acqLog2 ≤ v → q.headBad v = true) ∧
      (d.placeholder f = false → exec (.eqEnable f v) s = ends ((d.setFn f { d.fn f with eq := e.write v }).pumpEv f)) ∧
      (e.enable = true → v < 2 ^ e.log2 → ringDist e.log2 e.ack v ≤ e.unacked →
        exec (.eqAck f v) s = ends ((d.setFn f { d.fn f with eq := { e with ack := v } }).pumpEv f)) ∧
      (e.enable = true → 2 ^ e.log2 ≤ v → exec (.eqAck f v) s = ends (d.inc K.doorbellErrors))) ∧
    (d.barUp f = true → d.mse f = false → ∀ v : Nat,
      exec (.aqEnable f v) s = ends (d.aer f 0 aerAdvisory) ∧ exec (.eqAck f v) s = ends (d.aer f 0 aerAdvisory)) ∧
    (d.barUp f = true → d.operational = false → ∀ (v : Nat) (acc : Resp),
      exec (.asqTail f ⟨v, acc⟩) s = ends (d.aer f 0 aerAdvisory) ∧ exec (.eqEnable f v) s = ends (d.aer f 0 aerAdvisory)) ∧
    exec (.eventHeldWrite f) s = ends (d.pumpEv f) ∧
    (∀ x : AdmQ,
      (x.enable = false → 4 ≤ x.asqLog2 → x.asqLog2 ≤ 12 → 4 ≤ x.acqLog2 → x.acqLog2 ≤ 12 → x.asqBase % 4096 = 0 →
        x.acqBase % 4096 = 0 → (x.write 1).ready = true ∧ (x.write 1).enable = true ∧ (x.write 1).sizeErr = false ∧
          (x.write 1).asqHead = 0 ∧ (x.write 1).asqTail = 0 ∧ (x.write 1).acqHead = 0 ∧ (x.write 1).acqTail = 0 ∧
          (x.write 1).acqPhase = true) ∧
      (x.enable = false → x.asqLog2 < 4 ∨ 12 < x.asqLog2 → (x.write 1).ready = false ∧ (x.write 1).sizeErr = true) ∧
      (x.enable = true → (x.write 0).enable = false ∧
        ((x.write 0).ready = true ↔ x.ready = true ∧ (x.old ≠ [] ∨ x.live ≠ []))))) ∧
  (∀ (s : State) (f : FnId) (idx word k : Nat) (c : Chan),
    let d := s.dev
    let ends := fun (t : Dev) => (Host.Outcome.next ⟨t, s.pending⟩ : Res)
    let c1 : Chan := { c with
      sqTail := if bit word 31 then fld word 0 16 else c.sqTail
      cqHead := if bit word 63 then fld word 32 16 else c.cqHead }
    (d.chan k = some c → c.st = .active →
      (bit word 31 = false ∨ c.tailBad (fld word 0 16) = false) → (bit word 63 = false ∨ c.headBad (fld word 32 16) = false) →
      (d.barOpen f → d.placeholder f = false → k = ctxKey f.num idx →
        exec (.channelDoorbell f idx 0 word) s = ends ((d.setChan k c1).fetchRead k c1)) ∧
      (∀ port dst handle p : Nat, d.linkUp port = true → d.native port = true → bit (d.port port).feats 3 = true →
        d.endpointPart port dst = some p → d.chanOf p handle = some k →
        exec (.doorbell port dst handle word) s = ends ((d.setChan k c1).fetchRead k c1))) ∧
    (d.barOpen f → d.placeholder f = false →
      exec (.channelDoorbell f idx 1 word) s = ends (d.bellChan (ctxKey f.num idx) true false word) ∧
      exec (.channelDoorbell f idx 2 word) s = ends (d.bellChan (ctxKey f.num idx) false true (word * 2 ^ 32)) ∧
      (d.chan (ctxKey f.num idx) = some c → bit word 31 = true → 2 ^ c.sqLog2 ≤ fld word 0 16 →
        exec (.channelDoorbell f idx 0 word) s = ends (d.inc K.doorbellErrors)) ∧
      (d.chan (ctxKey f.num idx) = some c → bit word 63 = true → 2 ^ c.cqLog2 ≤ fld word 32 16 →
        exec (.channelDoorbell f idx 0 word) s = ends (d.inc K.doorbellErrors)) ∧
      (d.chan (ctxKey f.num idx) = none → exec (.channelDoorbell f idx 0 word) s = ends (d.inc K.doorbellErrors))) ∧
    (d.barOpen f → d.placeholder f = true → ∀ part : Nat,
      exec (.channelDoorbell f idx part word) s = ends (d.inc K.doorbellErrors)) ∧
    (∀ port dst handle p : Nat, d.linkUp port = true → d.native port = true → bit (d.port port).feats 3 = true →
      (d.endpointPart port dst = some p → d.chanOf p handle = none →
        exec (.doorbell port dst handle word) s = ends (d.inc K.badHandles)) ∧
      (d.endpointPart port dst = none → exec (.doorbell port dst handle word) s = ends (d.inc K.misrouted))))

/-- R321 to R323 (Table 10.9): an event given to a function whose queue is READY with room, nothing held, is written as a 16-byte
entry at the tail with its phase, counts as posted, and raises the emulated wire unless Interrupt Disable is 1. With 64 events
held and no room it is lost and counted.
R198, R202, R204: a descriptor without signal that completes leaves the list of fetched ones, is counted, and its completion is next to be
written, but with NO_CQE and status OK none is. A completion in host memory over PCIe: 16 bytes at the tail, the tail advanced, the phase
changed when it returns to 0, and with CQ_EVENT an event when no earlier one is unreleased; without Bus Master Enable none is
written. -/
def Obligations.EventsAndCompletions : Prop :=
  ((∀ (d : Dev) (f : FnId) (e : Ev),
    let x := d.fn f
    x.eq.held = [] → x.eq.overflow = false → x.eq.tail = x.eq.ack → d.evRoom f = true → x.wire = false → x.recovering = false → 1 ≤ x.eq.log2 →
    bit x.command 10 = false → x.eq.tail < 2 ^ x.eq.log2 → x.eq.ack < 2 ^ x.eq.log2 →
    let t := d.giveEv f e
    t.out = d.out ++ [.hostWr f (x.eq.base + 16 * x.eq.tail) (e.bytes x.eq.phase), .intx f true] ∧
    (t.fn f).eq.tail = (x.eq.tail + 1) % 2 ^ x.eq.log2 ∧ (t.fn f).wire = true ∧ (t.fn f).eq.held = [] ∧
    t = { d with fns := t.fns, od := t.od, out := t.out }) ∧
  (∀ (d : Dev) (f : FnId) (e : Ev), 64 ≤ (d.fn f).eq.held.length → d.evRoom f = false →
    ((d.giveEv f e).fn f).eq.lost = (d.fn f).eq.lost + 1 ∧ ((d.giveEv f e).fn f).eq.overflow = true ∧
    ((d.giveEv f e).fn f).eq.held = (d.fn f).eq.held) ∧
  (∀ (e : Ev) (ph : Bool), (e.bytes ph).length = 16 ∧ leAt (e.bytes ph) 0 8 = e.data % 2 ^ 64 ∧
    leAt (e.bytes ph) 8 2 = e.aux % 2 ^ 16 ∧ leAt (e.bytes ph) 11 1 = e.typ % 256 ∧ leAt (e.bytes ph) 12 1 = e.status % 256 ∧
    leAt (e.bytes ph) 13 1 = b2n ph ∧ leAt (e.bytes ph) 14 2 = e.detail % 2 ^ 16)) ∧
  (∀ (d : Dev) (k : Nat) (c : Chan) (x : Dsc), d.chan k = some c → x.signal = false → x.isPush c.recipe = false → ctxPart k < 64 →
    let t := d.completeDsc k x
    let rest := c.fetched.filter (fun y => y.seq != x.seq)
    t.rd K.descriptorsDone = (d.rd K.descriptorsDone + 1) % 2 ^ 64 ∧
    (x.noCqe = false ∨ x.status ≠ 0 → t.chan k = some { c with
      fetched := rest, cqes := c.cqes ++ [⟨x.tag, x.status, x.detail, x.result, x.cls⟩] }) ∧
    (x.noCqe = true → x.status = 0 → t.chan k = some { c with fetched := rest }) ∧
    (c.recipe = 2 → x.op = 0x10 → x.status = 0 ∨ x.status = 0xF1 →
      t.rd K.tokensAttended = (d.rd K.tokensAttended + x.arg 0x28 4) % 2 ^ 64) ∧
    t = { d with
      chs := { d.chs with chans := t.chs.chans }, od := t.od, mm := { d.mm with thGot := t.mm.thGot } }) ∧
  (∀ (d : Dev) (k : Nat) (c : Chan) (x : Cqe) (r : List Cqe), d.chan k = some c → c.cqes = x :: r → c.cqBusy = false →
    c.cqLoc = 0 →
    let w := d.setChan k { c with
      cqes := r, cqTail := (c.cqTail + 1) % 2 ^ c.cqLog2
      phase := if (c.cqTail + 1) % 2 ^ c.cqLog2 = 0 then !c.phase else c.phase }
    let t := w.emit (.hostWr (c.fn k) (c.cqAddr + 16 * c.cqTail) (cplBytes x.result c.sqHead x.tag x.status x.detail c.phase))
    (d.bme (c.fn k) = true → c.cqEvent = false ∨ c.cqTail ≠ c.cqHead → d.cqSend k c x = t) ∧
    (d.bme (c.fn k) = true → c.cqEvent = true → c.cqTail = c.cqHead →
      d.cqSend k c x = t.postChan (ctxPart k) c.port ⟨0x01, 0, 0, 0, d.chHandle k⟩) ∧
    (d.bme (c.fn k) = false → d.cqSend k c x = d.setChan k { c with cqes := r }))

/-- R187, R193, R196 to R200, R205: the course of descriptors. A fetch takes the 64 bytes at the head, advances it, and starts the
descriptor when nothing holds it; a fetch that the host fails halts the channel with CHANNEL_RESET; a NOP ends OK; the oldest
descriptor that is done completes, and one of a halting status halts the channel. -/
def Obligations.DescriptorCourse : Prop :=
  ∀ (s : State) (handle k : Nat) (c : Chan), s.dev.workChan handle = some (k, c) →
    let d := s.dev
    let ends := fun (t : Dev) => (Host.Outcome.next ⟨t, s.pending⟩ : Res)
    (∀ bs : List Byte, d.fetchReady k c = true → c.sqLoc ≠ 2 → bs.length = 64 →
      exec (.descriptorFetch handle (.data bs)) s = ends ((d.freeTags (.descFetch k)).takeDsc k c bs)) ∧
    (d.fetchReady k c = true → c.sqLoc ≠ 2 →
      exec (.descriptorFetch handle .failed) s = ends (((d.freeTags (.descFetch k)).haltChan k none 0x30 0x000A).settle)) ∧
    (∀ (r : Resp) (d1 : Dev) (bs : List Byte) (n : Nat), d.fetchReady k c = true → c.sqLoc = 2 →
      d.chRead (ctxPart k) (c.sqAddr + 64 * c.sqHead) 64 c.cls (k + 1) = .done d1 bs n →
      exec (.descriptorFetch handle r) s = ends ((d1.thForget (k + 1)).takeDsc k c bs)) ∧
    (∀ (r : Resp) (d1 : Dev) (st dt : Nat), d.fetchReady k c = true → c.sqLoc = 2 →
      d.chRead (ctxPart k) (c.sqAddr + 64 * c.sqHead) 64 c.cls (k + 1) = .fail d1 st dt →
      exec (.descriptorFetch handle r) s = ends ((d1.haltChan k none 0x30 0x000A).settle)) ∧
    (∀ r : Resp, d.fetchReady k c = false → exec (.descriptorFetch handle r) s = .next s) ∧
    (∀ bs : List Byte, (dscOf c.nextSeq c.cls c.policy bs).isPush c.recipe = false → ∃ (c' : Chan) (x : Dsc), (d.takeDsc k c bs).chan k = some c' ∧
      c'.sqHead = (c.sqHead + 1) % 2 ^ c.sqLog2 ∧ c'.nextSeq = c.nextSeq + 1 ∧ c'.fetched.getLast? = some x ∧
      c'.fetched.length = c.fetched.length + 1 ∧ x.seq = c.nextSeq ∧ x.op = leAt bs 0 1 ∧ x.tag = leAt bs 2 2 ∧
      x.args = slice bs 0x20 32 ∧ x.cls = c.cls ∧ x.policy = c.policy ∧
      (∀ st dt : Nat, d.dscRefusal (ctxPart k) c.recipe (dscOf c.nextSeq c.cls c.policy bs) = some (st, dt) →
        x.ph = .done ∧ x.status = st ∧ x.detail = dt) ∧
      (d.dscRefusal (ctxPart k) c.recipe (dscOf c.nextSeq c.cls c.policy bs) = none → c.st = .active → x.wait = false →
        x.fence = false → (∀ y ∈ c.fetched, y.ph ≠ .held) → x.ph = .running)) ∧
    (∀ x : Dsc, c.running 0 = some x →
      exec (.nopDescriptor handle) s = ends (d.modDsc k x.seq
        (fun y => { y with ph := .done, status := 0, detail := 0, result := 0 }))) ∧
    (∀ (x : Dsc) (r : List Dsc) (b : Bool), c.fetched = x :: r → x.ph = .done → d.awaitsLog k x.seq = false →
      (haltsChan x.status = false → c.cqLoc ≠ 0 ∨ b = true ∨ (x.noCqe = true ∧ x.status = 0) →
        exec (.descriptorComplete handle b) s = ends (((d.completeDsc k x).cqPump k).settle)) ∧
      (haltsChan x.status = false → c.cqLoc = 0 → x.noCqe = false ∨ x.status ≠ 0 →
        exec (.descriptorComplete handle false) s =
          ends (((((d.completeDsc k x).cqeLost k).haltBody k none 0x30 0x000A).cqPump k).settle)) ∧
      (haltsChan x.status = true → x.status ≠ 0x32 →
        exec (.descriptorComplete handle b) s = ends ((d.haltChan k (some x.seq) 0x30 0).settle)) ∧
      (x.status = 0x32 → exec (.descriptorComplete handle b) s = ends ((d.haltChan k none 0x32 0).settle))) ∧
    (∀ (x : Dsc) (r : List Dsc) (b : Bool), c.fetched = x :: r → x.ph ≠ .done ∨ d.awaitsLog k x.seq = true →
      exec (.descriptorComplete handle b) s = .next s)

/-! ## Recipes -/

/-- R29, R90, R222: channel reads and writes of an object of its own that nothing holds back. A read gives the stored bytes, or
fails with POISON when a block is poisoned; a write changes exactly its bytes; an access outside every object is refused. -/
def Obligations.ChannelAccesses : Prop :=
  ∀ (d : Dev) (p off cls me : Nat) (t : Tgt) (bs : List Byte) (who : Option (Nat × Nat)),
    (d.objAt p off = none → d.chRead p off bs.length cls me = .fail d 0x11 0x0003 ∧
      d.chWrite p off (bs.map some) cls who = .fail d 0x11 0x0003) ∧
    (d.objAt p off = some (t.num, t.obj) → t.part = p → t.off = off → t.obj.aliasOf = none → t.holds bs.length = true →
      d.leaseFenced p t.obj = false → t.obj.tracked = false → (∀ k ∈ tgtLines t bs.length, d.dirGet k = none) → bs ≠ [] →
      (d.unheld t bs.length cls false → (∀ k ∈ pieceKeys [t.piece bs.length], (d.page k).st ≠ .promoting) →
        (d.piecePoison (t.piece bs.length) = true → d.chRead p off bs.length cls me = .fail d 0x20 0x000B) ∧
        (d.piecePoison (t.piece bs.length) = false → ∃ u : Dev, d.chRead p off bs.length cls me = .done u (d.bytes p off bs.length) 0 ∧
          u.mm.cells = d.mm.cells ∧ u.out = d.out ∧ u.chs = d.chs)) ∧
      (d.unheld t bs.length cls true → t.obj.kind ≠ 6 → d.baseSealed p t.num = false → d.windowLines (t.piece bs.length) = [] →
        d.pairRole p = 0 → d.piecePoison (t.piece bs.length) = false → off + bs.length ≤ 2 ^ 48 → Memory.wf d.mm.cells = true →
        ∃ u : Dev, d.chWrite p off (bs.map some) cls who = .done u [] 0 ∧ u.bytes p off bs.length = bs ∧
          (∀ r a : Nat, a < 2 ^ 48 → ¬ (r = p ∧ off ≤ a ∧ a < off + bs.length) → u.byte r a = d.byte r a) ∧
          u.out = d.out ∧ u.chs = d.chs))

/-- R216, R220, R223, R228, R229, R232, R234: the attention recipes with buffers in host memory. APPEND stores the rows of keys and
values and answers the token count; DECODE and PREFILL read the keys and values and write a record for each query head; MERGE
reads its parts and writes the combined records; an output with NaN or infinity ends with NONFINITE_OUTPUT.
R234: records combined by log-sum-exp. Records whose lse is minus infinity contribute nothing; with none left the result is
o = 0 and lse minus infinity; a single contributing record with lse 0 keeps its lse. -/
def Obligations.AttentionRecipes : Prop :=
  (∀ (s : State) (handle k : Nat) (c : Chan) (x : Dsc),
    let d := s.dev
    let p := ctxPart k
    let a := c.args
    let f := c.fn k
    let n := x.arg 0x28 4
    let done := fun (t : Dev) => (Host.Outcome.next ⟨d.overrunNoted k x t, s.pending⟩ : Res)
    let finished := fun (t : Dev) (recs : List Rec) (result : Nat) =>
      let w := t.emit (.hostWr f (x.arg 0x38 8) (recs.flatMap Rec.bytes))
      if sumBy Rec.nonfinite recs = 0 then done (w.recEnd k x 0 0 result)
      else done (w.recEnd k x 0xF1 (satN 16 (sumBy Rec.nonfinite recs)) result)
    (∀ src : List Byte, d.recipeOn handle 1 0x10 k c x → d.bme f = true → x.arg 0x23 1 = 0 → x.arg 0x2C 4 = 0 → x.arg 0x38 8 = 0 →
      1 ≤ n → n ≤ 65536 → d.winRefusal p a (x.arg 0x20 2) (x.arg 0x22 1) (x.arg 0x24 4) n = none → src.length = 2 * n * shRow a →
      ∀ (u : Dev) (bs : List Byte) (ov : Nat), (d.hostAsked f (x.arg 0x30 8) src.length).appendStore k c x src = .done u bs ov →
        exec (.append handle (.data src)) s = done (u.recEnd k x 0 0 n)) ∧
    (∀ (q : List Byte) (u : Dev) (bs : List Byte) (ov : Nat), d.recipeOn handle 2 0x10 k c x → x.arg 0x23 1 = 0 → x.arg 0x2C 4 = 0 →
      n ≤ shTmax a → d.winRefusal p a (x.arg 0x20 2) (x.arg 0x22 1) (x.arg 0x24 4) n = none →
      d.kvRead k a x (x.arg 0x24 4) n = .done u bs ov → u.bme f = true → q.length = shHeads a * shDim a * 2 →
      let v := u.hostAsked f (x.arg 0x30 8) q.length
      let b := (n + 1023) / 1024
      let recs := (List.range (shHeads a)).map (fun h => v.decodeHead p a x (queryAt a q 0 h) h (v.fresh + h * b))
      exec (.decode handle (.data q)) s = finished { v with fresh := v.fresh + shHeads a * b } recs n ∧
      (n = 0 → recs = List.replicate (shHeads a) ⟨List.replicate (shDim a) 0, 0xFF800000⟩)) ∧
    (∀ (q : List Byte) (u : Dev) (bs : List Byte) (ov : Nat), d.recipeOn handle 3 0x10 k c x → x.arg 0x23 1 = 0 → x.arg 0x2E 2 = 0 →
      1 ≤ x.arg 0x2C 2 → x.arg 0x2C 2 ≤ 16384 → d.winRefusal p a (x.arg 0x20 2) (x.arg 0x22 1) 0 n = none →
      d.kvRead k a x 0 (attended x (x.arg 0x2C 2 - 1)) = .done u bs ov → u.bme f = true →
      q.length = x.arg 0x2C 2 * shHeads a * shDim a * 2 →
      let v := u.hostAsked f (x.arg 0x30 8) q.length
      let len := 32 * (1 + v.free % 524288)
      let units := (n + len - 1) / len
      let recs := (List.range (x.arg 0x2C 2 * shHeads a)).map (fun e =>
        v.prefillHead p a x (queryAt a q (e / shHeads a) (e % shHeads a)) (e / shHeads a) (e % shHeads a) len
          (v.fresh + 1 + e * units))
      exec (.prefill handle (.data q)) s =
        finished { v with fresh := v.fresh + 1 + x.arg 0x2C 2 * shHeads a * units } recs (x.arg 0x2C 2)) ∧
    (∀ (recipe : Nat) (all : List Byte) (u : Dev) (bs : List Byte) (ov : Nat), recipe = 2 ∨ recipe = 3 →
      d.recipeOn handle recipe 0x11 k c x →
      x.arg 0x21 1 = 0 → x.arg 0x22 1 = 0 → x.arg 0x23 1 = 0 → x.arg 0x26 2 = 0 → 2 ≤ x.arg 0x20 1 → x.arg 0x20 1 ≤ 16 →
      1 ≤ x.arg 0x24 2 → x.arg 0x24 2 ≤ 16384 →
      let m := x.arg 0x24 2 * shHeads a * (4 * (shDim a + 1))
      d.readSets k c x m (.data all) (x.arg 0x20 1) = .done u bs ov → u.bme f = true →
      let recs := (List.range (x.arg 0x24 2 * shHeads a)).map (fun e => mergeRecs (shDim a)
        ((shuffle u.fresh (List.range (x.arg 0x20 1))).map (fun i => recAt (shDim a) bs (i * m + e * (4 * (shDim a + 1))))))
      exec (.merge handle (.data all)) s = finished { u with fresh := u.fresh + x.arg 0x20 1 } recs (x.arg 0x24 2))) ∧
  ((∀ (dim : Nat) (rs : List Rec), (∀ r ∈ rs, r.lse = 0xFF800000) →
    mergeRecs dim rs = ⟨List.replicate dim 0, 0xFF800000⟩) ∧
  (∀ (dim : Nat) (rs : List Rec), mergeRecs dim rs = mergeRecs dim (rs.filter (fun r => r.lse != 0xFF800000))) ∧
  (∀ (dim : Nat) (o : List W32), (mergeRecs dim [⟨o, 0⟩]).lse = 0))

/-- R235 to R241 (Table 07.13): weight streaming with its destination in host memory. A PUSH of parts that are ready writes the
window's bytes, signals PUSH_SYNC and ends with the status that the decision gave; PUSH_DECISION takes Table 07.13 once;
PREFETCH of pages that are in place ends at once. -/
def Obligations.WeightStreaming : Prop :=
  (∀ (s : State) (handle k : Nat) (c : Chan) (x : Dsc) (w : Win), s.dev.wsWin (ctxPart k) c.args = some w →
    let d := s.dev
    let done := fun (t : Dev) => (Host.Outcome.next ⟨d.overrunNoted k x t, s.pending⟩ : Res)
    (∀ (r : Resp) (u : Dev) (bs : List Byte) (ov : Nat), d.recipeOn handle 4 0x10 k c x → x.arg 0x2C 1 = 0 → x.arg 0x2D 1 = 0 →
      x.arg 0x38 8 = 0 → wsRefusal w x = none → (∀ y ∈ wsBase w x ++ wsDelta w x, d.inT3 y = false ∧ (d.page y).st ≠ .promoting) →
      r ≠ .failed → d.pushSource k w c.args x = .done u bs ov → u.bme (c.fn k) = true →
      let v := if bs = [] then u else u.emit (.hostWr (c.fn k) (x.arg 0x30 8) bs)
      exec (.push handle r) s =
        done ((v.add K.pushBytes (x.arg 0x28 4)).recEnd k x (pushStatus x ov) 0 (pushResult x ov))) ∧
    (∀ late : Bool, d.recipeOn handle 4 0x10 k c x → x.deadline ≠ 0 → x.step = 0 →
      let r := pushDecide x.policy (d.partReady (wsBase w x)) (d.partReady (wsDelta w x)) late
      exec (.pushDecision handle late) s =
        done (d.modDsc k x.seq (fun y => { y with missed := r.1, late := r.2.1, fallback := r.2.2, step := 1 }))) ∧
    (d.recipeOn handle 4 0x11 k c x → x.arg 0x2D 1 = 0 → x.arg 0x38 8 = 0 → wsRefusal w x = none → x.step = 0 →
      (∀ y ∈ wsBase w x ++ wsDelta w x, d.inT3 y = false ∧ ∀ e ∈ d.mm.wantPromo, e.1 ≠ y) →
      exec (.prefetch handle) s = done (d.recEnd k x 0 0 0))) ∧
  (∀ base delta late : Bool,
    pushDecide 0 true true late = (late, false, 0) ∧ pushDecide 1 true true late = (false, late, 0) ∧
    pushDecide 2 true true late = (false, late, 0) ∧ pushDecide 0 base false late = (true, false, 0) ∧
    pushDecide 1 true false late = (false, false, 1) ∧ pushDecide 2 true false late = (false, false, 2) ∧
    pushDecide 0 false delta late = (true, false, 0) ∧ pushDecide 1 false delta late = (true, false, 0) ∧
    pushDecide 2 false delta late = (true, false, 0)) ∧
  (∀ (x : Dsc) (ov : Nat),
    (x.missed = true → pushStatus x ov = 0x40) ∧
    (x.missed = false → x.fallback ≠ 0 → pushStatus x ov = 1) ∧
    (x.missed = false → x.fallback = 0 → pushStatus x ov = if ov = 0 then 0 else 2))

/-- R242 to R246: REDUCE and GATHER with buffers in host memory. ACCUMULATE adds its decoded source to the accumulators element by
element with one rounding and answers the element count; READOUT writes the accumulators and, with CLEAR, makes them invalid;
GATHER reads each item at its index and writes it to its place. -/
def Obligations.ReduceAndGather : Prop :=
  ∀ (s : State) (handle k : Nat) (c : Chan) (x : Dsc),
    let d := s.dev
    let p := ctxPart k
    let f := c.fn k
    let n := x.arg 0x28 4
    let off := d.baseOff p (argAt c.args 0 2) + x.arg 0x20 8
    let done := fun (t : Dev) => (Host.Outcome.next ⟨d.overrunNoted k x t, s.pending⟩ : Res)
    (∀ (src bs : List Byte) (u v : Dev) (ov : Nat), d.recipeOn handle 5 0x10 k c x → d.bme f = true → redReserved false x = false →
      x.arg 0x2D 1 = 0 → d.redRefusal p c.args x = none → argAt c.args 4 4 = 0 → src.length = redBytes (x.arg 0x2C 1) n →
      firstWait [d.chRead p off (4 * n) x.cls (k + 1), d.chWrite p off ((zeros (4 * n)).map some) x.cls (some (k, x.seq))] = none →
      (d.hostAsked f (x.arg 0x30 8) src.length).chRead p off (4 * n) x.cls (k + 1) = .done u bs ov →
      u.chWrite p off ((addFp32 bs (redDecode (x.arg 0x2C 1) n src)).map some) x.cls (some (k, x.seq)) = .done v [] 0 →
      exec (.accumulate handle (.data src)) s = done (v.recEnd k x 0 0 n)) ∧
    (∀ (r : Resp) (o : Obj) (acc : List Byte) (u : Dev) (ov : Nat), d.recipeOn handle 5 0x11 k c x → redReserved true x = false →
      x.arg 0x2D 1 = 0 → x.arg 0x2C 1 = 0 → r ≠ .failed → d.redRefusal p c.args x = none →
      d.obj p (argAt c.args 0 2) = some o → d.chRead p off (4 * n) x.cls (k + 1) = .done u acc ov →
      u.bme f = true →
      let w := u.emit (.hostWr f (x.arg 0x30 8) acc)
      (bit (x.arg 0x2E 1) 0 = false → exec (.readout handle r) s = done (w.recEnd k x 0 0 n)) ∧
      (bit (x.arg 0x2E 1) 0 = true → d.clearWaits p o (x.arg 0x20 8) n = false →
        exec (.readout handle r) s = done ((w.readoutClear p o (x.arg 0x20 8) n k x.seq).recEnd k x 0 0 n))) ∧
    (∀ idx : List Byte, d.recipeOn handle 6 0x10 k c x → d.bme f = true → x.arg 0x28 1 = 0 → x.arg 0x29 7 = 0 → 1 ≤ x.arg 0x20 4 →
      x.arg 0x20 4 ≤ 65536 → x.arg 0x24 4 % 64 = 0 → 64 ≤ x.arg 0x24 4 → x.arg 0x24 4 ≤ 65536 → x.arg 0x30 8 % 64 = 0 →
      idx.length = 8 * x.arg 0x20 4 →
      exec (.gather handle (.data idx)) s =
        done (Dev.gatherItems k c x idx (x.arg 0x20 4 - x.step) x.step (d.hostAsked f (x.arg 0x30 8) idx.length))) ∧
    (∀ (idx bs : List Byte) (left i : Nat) (e u : Dev) (ov : Nat), x.arg 0x28 1 = 0 →
      e.chRead p (leAt idx (8 * i) 8) (x.arg 0x24 4) x.cls (k + 1) = .done u bs ov → u.bme f = true →
      Dev.gatherItems k c x idx (left + 1) i e =
        Dev.gatherItems k c x idx left (i + 1) (u.emit (.hostWr f (x.arg 0x38 8 + i * x.arg 0x24 4) bs)) ∧
      Dev.gatherItems k c x idx 0 i e = e.recEnd k x 0 0 i) ∧
    (∀ (a b : List Byte) (i : Nat), a.length = b.length → 4 * i + 4 ≤ a.length → a.length % 4 = 0 →
      leAt (addFp32 a b) (4 * i) 4 =
        (f32add (BitVec.ofNat 32 (leAt a (4 * i) 4)) (BitVec.ofNat 32 (leAt b (4 * i) 4))).toNat)

/-! ## Bandwidth -/

/-- R278, R281, R284, R293, R294: writes of the bandwidth entries. A budget beyond its cap, beyond room, or raised while the
factor is below 1 is refused; a reserve that takes room from budgets is refused; a class
keeps the partitions that use it; a shadow rank and ARB_COMMIT are refused while a commit is pending, and a commit swaps the
ranks of the selected groups.
R280, R285, R289: a refill. The deliverable figure is that of the causes that hold; the factor is 1 while the budgets fit the
room and room over sum otherwise; every tenant class has its effective budget as credit and nothing used. -/
def Obligations.BandwidthWrites : Prop :=
  (∀ (s : State) (role : Role),
    let d := s.dev
    let ends := fun (t : Dev) => (Host.Outcome.next ⟨t, s.pending⟩ : Res)
    let may := fun (idx sub v : Nat) => d.mayStore role idx sub (entryTy idx sub).len v
    (∀ res cls v : Nat, res < 4 → may (0x902 + res) (cls + 1) v →
      (d.budgetBad res cls v = false →
        exec (.budgetWrite role res cls v) s = ends ((d.wr (K.budgetT1 + res * 256 + cls) v).result 0)) ∧
      (d.budgetBad res cls v = true → exec (.budgetWrite role res cls v) s = ends (d.result 8)) ∧
      (d.budgetBad res cls v = true ↔ (d.cap res cls ≠ 0 ∧ d.cap res cls < v) ∨
        (d.degraded res = true ∧ d.budget res cls < v) ∨
        (d.degraded res = false ∧ d.bwRoom res < d.budgetSum res (some (cls, v))))) ∧
    (∀ v : Nat, may 0x900 3 v →
      ((∀ r < 4, d.budgetSum r none ≤ roomOf (d.rd (K.delivT1 + r)) v) →
        exec (.q0ReservePct role v) s = ends ((d.wr K.q0ReservePct v).result 0)) ∧
      ((∃ r < 4, roomOf (d.rd (K.delivT1 + r)) v < d.budgetSum r none) → exec (.q0ReservePct role v) s = ends (d.result 8))) ∧
    (∀ cls mask : Nat, may 0x901 (cls + 1) mask →
      ((∀ n < 64, d.bound cls n = true → bit mask n = false → d.classUsed n cls = false) →
        exec (.classPartitions role cls mask) s = ends ((d.wr (K.classPartitions + cls) mask).result 0)) ∧
      ((∃ n < 64, d.bound cls n = true ∧ bit mask n = false ∧ d.classUsed n cls = true) →
        exec (.classPartitions role cls mask) s = ends (d.result 8))) ∧
    (∀ (part v : Nat) (mig : Bool), may (if mig then 0x1102 else 0x910) (part + 1) v →
      exec (.lsClass role part mig v) s = ends (if d.bound v part = true
        then (d.wr ((if mig then K.migrationClass else K.lsClass) + part) v).result 0 else d.result 8)) ∧
    (∀ group cls rank : Nat, may (0xA10 + group) (cls + 1) rank → d.rd K.commitPending = 0 →
      exec (.shadow role group cls rank) s = ends ((d.wr (K.shadow + 256 * group + cls) rank).result 0)) ∧
    (∀ mask : Nat, may 0xA00 1 mask → d.rd K.commitPending = 0 →
      exec (.arbCommit role mask) s = ends ((d.wr K.commitPending mask).result 0)) ∧
    (∀ g c : Nat, d.rd K.commitPending ≠ 0 → g < 6 → 1 ≤ c → c ≤ 14 →
      let t := d.commitDone
      t.rd K.commitPending = 0 ∧
      t.rd (K.active + 256 * g + c) = d.rd ((if bit (d.rd K.commitPending) g then K.shadow else K.active) + 256 * g + c) ∧
      t.rd (K.shadow + 256 * g + c) = d.rd ((if bit (d.rd K.commitPending) g then K.active else K.shadow) + 256 * g + c))) ∧
  ((∀ s : State,
    (s.dev.operational = true → exec .refill s = .next ⟨s.dev.refillAll.settle, s.pending⟩) ∧
    (s.dev.operational = false → exec .refill s = .next s)) ∧
  (∀ (d : Dev) (r c : Nat), r < 4 → 1 ≤ c → c ≤ 14 →
    let t := d.refillRes r
    let room := roomOf (d.delivNow r) (d.rd K.q0ReservePct)
    let sum := d.budgetSum r none
    let f := t.factor r
    t.rd (K.delivT1 + r) = d.delivNow r ∧
    f = (if sum ≤ room then (1, 1) else (room, sum)) ∧
    kget 0 (r * 16 + c) t.bw.eff = d.budget r c * f.1 / f.2 ∧
    t.credit r c = ((d.budget r c * f.1 / f.2 * 8192 / 175 : Nat) : Int) ∧
    kget 0 (r * 16 + c) t.bw.used = 0))

/-! ## Placement -/

/-- R33, R46, R52 to R56, R62: epochs, placement programs and the end of a copy. An epoch end advances EPOCH and halves HEAT in an
epoch of decay; an invocation with a cause takes the moves that its program gave, or is stopped and counted; the end of a copy
whose recalls are over switches the page to its new home. -/
def Obligations.PlacementEvents : Prop :=
  ∀ s : State,
    let d := s.dev
    let ends := fun (t : Dev) => (Host.Outcome.next ⟨t, s.pending⟩ : Res)
    (d.operational = true → exec .epochEnd s = ends d.epochEnd) ∧
    (d.operational = false → exec .epochEnd s = ends d) ∧
    (∀ k : Nat, (d.mm.pages.map (fun e => e.1)).Nodup →
      d.epochEnd.mm.epoch = d.mm.epoch + 1 ∧
      d.epochEnd.page k = { d.page k with
        heat := if (d.mm.epoch + 1) % d.rd K.heatDecayEpochs = 0 then (d.page k).heat / 2 else (d.page k).heat }) ∧
    (∀ (part obj : Nat) (o : Obj) (out : List Byte), d.operational = true → d.obj part obj = some o → o.ordinary = true → d.fenced part = false →
      (d.invocationCause part o = 0 ∨ d.causeWaits part obj o = true → exec (.placementInvocation part obj out) s = .next s) ∧
      (d.invocationCause part o ≠ 0 → d.causeWaits part obj o = false →
        (d.runsSlot0 o = true →
          exec (.placementInvocation part obj out) s = ends ((d.placeOut part obj o (d.slot0 part o)).afterMoves.settle)) ∧
        (d.runsSlot0 o = false → d.runProgram part obj o out = none →
          exec (.placementInvocation part obj out) s = ends ((d.inc K.invocationsStopped).modObj part obj (fun o =>
            { o with causes := 0, stops := o.stops + 1, fellBack := o.fellBack || decide (d.rd K.abortLimit ≤ o.stops + 1) }))) ∧
        (∀ (ms : List Move) (data : List Byte), d.runsSlot0 o = false → d.runProgram part obj o out = some (ms, data) →
          exec (.placementInvocation part obj out) s = ends ((((({ d with
            mm := { d.mm with progData := kput (dataKey (pdProgram o.desc) obj) data d.mm.progData } } : Dev).modObj part obj
              (fun o => { o with stops := 0 })).placeOut part obj o ms).afterMoves).settle)))) ∧
    (∀ (part page : Nat) (m : Mig), d.operational = true → kfind (pageKey part page) d.mm.migs = some m →
      d.copyReady (pageKey part page) = true → d.pageRepairing (pageKey part page) = false →
      d.copyCapped (pageKey part page) m = false →
      exec (.migrationCopyDone part page .good) s = ends (((d.switchPage (pageKey part page) m).afterMoves).settle)) ∧
    (d.operational = true → d.mm.staged ≠ [] → exec .t3ProgramDone s =
      ends ((({ d with mm := { d.mm with staged := d.mm.staged.drop 1 } } : Dev).flashWear.afterMoves).settle)) ∧
    (∀ (k : Nat) (m : Mig), m.hop = none → m.dst.tier ≠ .t3 →
      let t := d.switchPage k m
      (t.page k).home = some m.dst ∧ (t.page k).st = .resident ∧ t.moving k = false ∧ (t.page k).valid = (d.page k).valid ∧
      t.mm.cells = d.mm.cells)

/-- R69, R71: upkeep of the flash of a bay whose cartridge serves changes no data and no page map entry; retirement of a block is
noted for its bay and lowers WEAR_PCT, which never rises. -/
def Obligations.FlashUpkeep : Prop :=
  ∀ (s : State) (bay blk wear : Nat),
    let d := s.dev
    let ends := fun (t : Dev) => (Host.Outcome.next ⟨t, s.pending⟩ : Res)
    let worn : Dev := { d with fresh := d.fresh + 1, bw := { d.bw with flashLow := Config.roundUp d.fresh } }
    (d.cartServing bay = true →
      exec (.readDisturbRelocate bay blk) s = ends worn ∧ exec (.retentionRefresh bay blk) s = ends worn ∧
      exec (.wearLevel bay) s = ends worn ∧
      ∃ t : Dev, exec (.flashBlockRetire bay blk wear) s = ends t ∧ (bay, blk) ∈ t.mm.flashRetired ∧
        t.rd (K.wearPct + bay) = Min.min (d.wearPct bay) wear ∧ t.mm = { d.mm with flashRetired := t.mm.flashRetired } ∧
        t = { d with mm := t.mm, od := t.od, fresh := t.fresh, bw := t.bw }) ∧
    (d.cartServing bay = false →
      exec (.readDisturbRelocate bay blk) s = ends d ∧ exec (.retentionRefresh bay blk) s = ends d ∧
      exec (.wearLevel bay) s = ends d ∧ exec (.flashBlockRetire bay blk wear) s = ends d)

/-- R48, R65, R67, R114, R116, R123, R179: reservations, lent memory, sharing, host slots and quotas. A reservation beyond what can
be reserved or below use is refused, as is a quota beyond the device's; a lend entry and a host slot take only the changes of
their states; sharing is enabled while T1 leaves its reserve, and disabled when nothing is exported or cached. -/
def Obligations.ReservationWrites : Prop :=
  ∀ (s : State) (role : Role),
    let d := s.dev
    let ends := fun (t : Dev) => (Host.Outcome.next ⟨t, s.pending⟩ : Res)
    let may := fun (idx sub v : Nat) => d.mayStore role idx sub (entryTy idx sub).len v
    (∀ tier part v : Nat, tier < 4 → may (0x1001 + tier) (part + 1) v →
      let t := tierOf tier
      (v * 16384 < d.tierUse part t → exec (.tierReservationWrite role tier part v) s = ends (d.result 8)) ∧
      (t = .th ∨ d.resv part t ≤ v → d.reservable t < d.resvSum t - d.resv part t + v →
        exec (.tierReservationWrite role tier part v) s = ends (d.result 8)) ∧
      (d.tierUse part t ≤ v * 16384 →
        (d.resvSum t - d.resv part t + v ≤ d.reservable t ∨ (t ≠ .th ∧ d.reservable t < d.resvSum t ∧ v < d.resv part t)) →
        exec (.tierReservationWrite role tier part v) s = ends ((d.wr (resvKey part t) v).result 0))) ∧
    (∀ i v : Nat, d.mayStore role 0x1005 (i + 1) 16 v →
      (lendBad v = true → exec (.lend role i v) s = ends (d.result 7)) ∧
      (lendBad v = false → lendAllowed (d.lendEntry i) v = false → exec (.lend role i v) s = ends (d.result 8)) ∧
      (lendBad v = false → lendAllowed (d.lendEntry i) v = true → lendState v ≠ 1 →
        exec (.lend role i v) s = ends ((d.lendSet i v).result 0)) ∧
      (lendBad v = false → lendState v = 1 →
        (lendState (d.lendEntry i) = 0 ∨ lendState (d.lendEntry i) = 4 ∨ lendState (d.lendEntry i) = 5) →
        (d.lent + lendExtents v ≤ 4096 → exec (.lend role i v) s = ends ((d.wr (K.lend + i) (v / 2 ^ 40 * 2 ^ 40)).result 0)) ∧
        (4096 < d.lent + lendExtents v → exec (.lend role i v) s = ends (d.result 8)))) ∧
    (may 0x1300 1 1 → d.mm.shareOn = false → d.mm.shareEnabling = false →
      exec (.sharedEnable role 1) s = ends (if d.resvSum .t1 ≤ 751
        then (({ d with mm := { d.mm with shareEnabling := true } } : Dev).afterMoves).result 0 else d.result 8)) ∧
    (may 0x1300 1 0 →
      ((∀ e ∈ d.mm.objs, e.2.exported = none) → d.coh.dir = [] → exec (.sharedEnable role 0) s =
        ends (({ d.wr K.sharedEnable 0 with mm := { d.mm with shareOn := false, shareEnabling := false } } : Dev).result 0)) ∧
      ((∃ e ∈ d.mm.objs, e.2.exported ≠ none) ∨ d.coh.dir ≠ [] → exec (.sharedEnable role 0) s = ends (d.result 8))) ∧
    (∀ i w : Nat, d.mayStore role (0x1310 + i / 128) (i % 128 + 1) 16 w →
      let v := w / 2 ^ 92 * 2 ^ 92
      let t := (d.wr (slotKey i) v).logState (slPartition v) (.slot i v)
      (d.slotAllowed i v = false → exec (.hostSlot role i w) s = ends (d.result 8)) ∧
      (d.slotAllowed i v = true → slState v = 2 → exec (.hostSlot role i w) s = ends (((d.hostLost i).settle).result 0)) ∧
      (d.slotAllowed i v = true → slState v ≠ 2 → (slState v = 1 → t.slotDoomed v = false) →
        exec (.hostSlot role i w) s = ends (t.result 0)) ∧
      (d.slotAllowed i v = true → slState v = 1 → t.slotDoomed v = true →
        exec (.hostSlot role i w) s = ends (((t.hostLost i).settle).result 0)) ∧
      (slState (d.slot i) = 0 → slState v ≠ 1 → d.slotAllowed i v = false)) ∧
    (∀ (sync : Bool) (part v : Nat), part < 64 → may (if sync then 0x1A02 else 0x1A01) (part + 1) v →
      let k := if sync then K.syncQuota else K.chQuota
      let others := sumBy (fun q => if q = part then 0 else d.rd (k + q)) (List.range 64)
      exec (.chQuota role sync part v) s =
        ends (if others + v ≤ (if sync then 16384 else 65536) then (d.wr (k + part) v).result 0 else d.result 8))

/-- R51, R170, R272 to R275, R316: the program stores and clusters taken away by writes. A placement program replaces its slot's; a
stage program or pipeline is stored when its verification answers 0, refused with LOAD_RESULT otherwise; a change of what
measurement 7 covers is announced. CLUSTER_RETIRE retires a cluster for good; CLUSTER_RESET resets the channel that holds one.
R272, R274 (Table 08.14): what the verifier of stage programs refuses, and where. An image passes exactly when its header is in
range and no instruction is refused; the result of a refusal names the reason and the index of the first bad instruction.
R171, R174: a retired cluster keeps no stage, serves no number and stays retired; retiring it again changes nothing. -/
def Obligations.ProgramStores : Prop :=
  (∀ (s : State) (role : Role),
    let d := s.dev
    let ends := fun (t : Dev) => (Host.Outcome.next ⟨t, s.pending⟩ : Res)
    let told := fun (t : Dev) => if t.mm.progs = d.mm.progs ∧ t.progs = d.progs ∧ t.pipes = d.pipes then t
      else t.postAll ⟨0x31, 0, 0, 7, 0⟩
    (∀ (slot : Nat) (img : List Byte), d.mayStore role 0x1101 (slot + 1) img.length 0 →
      exec (.programImage role slot img) s = ends ((told { d with mm := { d.mm with
        progs := if img = [] then kdel slot d.mm.progs else kput slot img d.mm.progs } }).result 0)) ∧
    (∀ (slot : Nat) (img : List Byte), d.mayStore role (0x1940 + slot / 16) (slot % 16 + 1) img.length 0 →
      (d.slotNamed slot = true → exec (.program role slot img) s = ends ((d.wr K.loadResult (loadResult 0x0B 0 0)).result 8)) ∧
      (d.slotNamed slot = false → img ≠ [] → imageResult img = 0 → exec (.program role slot img) s =
        ends ((told { d.wr K.loadResult 0 with progs := kput slot img d.progs }).result 0)) ∧
      (d.slotNamed slot = false → img ≠ [] → imageResult img ≠ 0 →
        exec (.program role slot img) s = ends ((d.wr K.loadResult (imageResult img)).result 8)) ∧
      (d.slotNamed slot = false → img = [] → exec (.program role slot img) s =
        ends ((told { d.wr K.loadResult 0 with progs := kdel slot d.progs }).result 0))) ∧
    (∀ (slot : Nat) (img : List Byte), d.mayStore role (0x1980 + slot / 8) (slot % 8 + 1) img.length 0 →
      (d.pipeUsed slot = true → exec (.pipeline role slot img) s = ends ((d.wr K.loadResult (loadResult 0x0B 0 0)).result 8)) ∧
      (d.pipeUsed slot = false → img ≠ [] → d.manifestResult img = 0 → exec (.pipeline role slot img) s =
        ends ((told { d.wr K.loadResult 0 with pipes := kput slot img d.pipes }).result 0)) ∧
      (d.pipeUsed slot = false → img ≠ [] → d.manifestResult img ≠ 0 →
        exec (.pipeline role slot img) s = ends ((d.wr K.loadResult (d.manifestResult img)).result 8)) ∧
      (d.pipeUsed slot = false → img = [] → exec (.pipeline role slot img) s =
        ends ((told { d.wr K.loadResult 0 with pipes := kdel slot d.pipes }).result 0))) ∧
    (∀ c : Nat, d.mayStore role 0x1800 0x15 (entryTy 0x1800 0x15).len c →
      exec (.clusterRetire role c) s = ends (((d.retireClu c).settle).result 0)) ∧
    (∀ part l : Nat, d.mayStore role (0x800 + part) 0x0D (entryTy (0x800 + part) 0x0D).len l →
      (role = .fabric → exec (.clusterReset role part l) s = ends ((d.clusterReset l).result 0)) ∧
      (∀ p : Nat, role = .partition p → d.holderOf l = none → exec (.clusterReset role part l) s = ends (d.result 8)))) ∧
  ((∀ img : List Byte, imageHeaderBad img = true → imageResult img = 1) ∧
  (∀ img : List Byte, imageHeaderBad img = false →
    (imageResult img = 0 ↔ ∀ w ∈ imageWords img, ∀ i : Nat, (imageWords img)[i]? = some w →
      insnReason w i (imageWords img).length = 0) ∧
    (∀ (i w : Nat), (imageWords img)[i]? = some w → insnReason w i (imageWords img).length ≠ 0 →
      (∀ (j v : Nat), j < i → (imageWords img)[j]? = some v → insnReason v j (imageWords img).length = 0) →
      imageResult img = insnReason w i (imageWords img).length + i % 8192 * 2 ^ 12)) ∧
  (∀ w i n : Nat,
    (insnDefined w = false → insnReason w i n = 2) ∧
    (insnDefined w = true → branchOut w i n = true → insnReason w i n = 3) ∧
    (fld w 28 4 = 2 → fld w 25 3 ≠ 7 → (branchOut w i n = true ↔
      (i : Int) + sext 15 (fld w 0 15) < 0 ∨ (n : Int) ≤ (i : Int) + sext 15 (fld w 0 15))))) ∧
  (∀ (d : Dev) (c : Nat),
    ((d.clu c).st = .retired → d.retireClu c = d) ∧
    ((d.clu c).st ≠ .retired → (d.clu c).chan = none →
      ((d.retireClu c).clu c).st = .retired ∧ ((d.retireClu c).clu c).logical = none ∧ ((d.retireClu c).clu c).chan = none))

/-! ## Partitions and functions -/

/-- R302, R308, R309, R312, R470: enabling, fencing and resetting a partition. ENABLE 1 draws a key, waits for one while the entropy
source fails, and is refused for an endpoint in use or during a reset; ENABLE 0 is refused while a port presents the partition;
FENCE adds or takes away the FABRIC and CONTAINMENT causes; RESET of a disabled partition is refused, a second one does nothing.
R308: a fence already in force takes a further cause without entering again, and a cause that enters sets the mask and
counts; the mask of a fence taken away is 0. Stated for a device without channels, host slots and locked sequences. -/
def Obligations.PartitionControl : Prop :=
  (∀ (s : State) (role : Role) (p v : Nat),
    let d := s.dev
    let ends := fun (t : Dev) => (Host.Outcome.next ⟨t, s.pending⟩ : Res)
    (d.mayStore role (0x800 + p) 0x01 (entryTy (0x800 + p) 0x01).len v →
      (v = 1 → d.enabled p = false → d.endpointClash p = false → d.resetting p = false → d.su.entropyBad = false →
        exec (.enable role p v) s = ends (((d.wr (K.ofPart K.enable p) 1).drawKey p).result 0)) ∧
      (v = 1 → d.enabled p = false → d.endpointClash p = false → d.resetting p = false → d.su.entropyBad = true →
        exec (.enable role p v) s = ends { d with su := { d.su with keyWaits := d.su.keyWaits ++ [(p, .row)] } }) ∧
      (v = 1 → d.enabled p = false → (d.endpointClash p = true ∨ d.resetting p = true) →
        exec (.enable role p v) s = ends (d.result 8)) ∧
      (v = 1 → d.enabled p = true → exec (.enable role p v) s = ends (d.result 0)) ∧
      (v = 0 → d.rd (K.ofPart K.portsActive p) ≠ 0 → exec (.enable role p v) s = ends (d.result 8)) ∧
      (v = 0 → d.rd (K.ofPart K.portsActive p) = 0 → d.enabled p = true →
        (d.resetting p = false →
          exec (.enable role p v) s = ends (((d.wr (K.ofPart K.enable p) 0).startReset p).result 0)) ∧
        (d.resetting p = true → exec (.enable role p v) s =
          ends (({ d.wr (K.ofPart K.enable p) 0 with su := { d.su with keys := kdel p d.su.keys } } : Dev).result 0))) ∧
      (v = 0 → d.rd (K.ofPart K.portsActive p) = 0 → d.enabled p = false → exec (.enable role p v) s = ends (d.result 0))) ∧
    (d.mayStore role (0x800 + p) 0x0A (entryTy (0x800 + p) 0x0A).len v →
      (v = 1 → exec (.fence role p v) s = ends (((d.fenceAdd p 1).settle).result 0)) ∧
      (v = 0 → exec (.fence role p v) s = ends (((d.setFence p (d.fenceCauses p &&& 4)).settle).result 0))) ∧
    (d.mayStore role (0x800 + p) 0x0B (entryTy (0x800 + p) 0x0B).len v →
      (d.enabled p = false → exec (.reset role p v) s = ends (d.result 8)) ∧
      (d.enabled p = true → d.resetting p = true → exec (.reset role p v) s = ends (d.result 0)) ∧
      (d.enabled p = true → d.resetting p = false → exec (.reset role p v) s = ends ((d.startReset p).result 0))) ∧
    (d.su.keyWaits = [(p, .row)] →
      exec (.keyDrawTimeout p) s = ends (({ d with su := { d.su with keyWaits := [] } } : Dev).result 8)) ∧
    (d.su.keyWaits = [] → exec (.keyDrawTimeout p) s = ends d)) ∧
  (∀ (d : Dev) (p cause : Nat), p < 64 → d.chs.chans = [] → d.slots = [] → d.bw.locks = [] → cause = 1 ∨ cause = 4 →
    (d.fenceAdd p cause).fenceCauses p = d.fenceCauses p ||| cause ∧
    (d.fenceCauses p ≠ 0 → d.fenceAdd p cause = d.setFence p (d.fenceCauses p ||| cause)) ∧
    (d.fenceCauses p = 0 → (d.fenceAdd p cause).rd (K.ofPart K.fences p) = (d.rd (K.ofPart K.fences p) + 1) % 2 ^ 32) ∧
    (∀ q : Nat, q < 64 → q ≠ p → (d.fenceAdd p cause).fenceCauses q = d.fenceCauses q))

/-- R313, R314, R323, R335, Table 11.4: configuration writes of a function. Memory Space Enable and Interrupt Disable change their
bits; Bus Master Enable cleared halts the function's channels, set resumes held events and admin fetching; D3hot turns memory
space and bus mastering off, D1 and D2 are ignored. A function-level reset returns the registers to their reset values and
quarantines the function's tags, and its end posts FUNCTION_RESET. -/
def Obligations.FunctionConfiguration : Prop :=
  ∀ (s : State) (f : FnId),
    let d := s.dev
    let x := d.fn f
    let ends := fun (t : Dev) => (Host.Outcome.next ⟨t, s.pending⟩ : Res)
    (d.cfgOpen f = true →
      (∀ b : Bool,
        exec (.memorySpaceEnable f b) s = ends ((d.setFn f (x.setCommand 1 b)).updWire f) ∧
        exec (.interruptDisable f b) s = ends ((d.setFn f (x.setCommand 10 b)).updWire f)) ∧
      (d.bme f = true → exec (.busMasterEnable f false) s = ends (((d.setFn f (x.setCommand 2 false)).busOff f).updWire f)) ∧
      (x.d3 = false → bit x.command 2 = false →
        exec (.busMasterEnable f true) s = ends (((d.setFn f (x.setCommand 2 true)).busOn f).updWire f)) ∧
      (d.bme f = true → exec (.powerState f 3) s = ends (((d.setFn f { x with d3 := true }).busOff f).updWire f)) ∧
      (x.d3 = true → bit x.command 2 = true → exec (.powerState f 0) s = ends (((d.setFn f { x with d3 := false }).busOn f).updWire f)) ∧
      (∀ v : Nat, v = 1 ∨ v = 2 → exec (.powerState f v) s = ends ((d.setFn f x).updWire f)) ∧
      (d.quiet → d.mm.migs = [] → d.placeholder f = false → x.wire = false → x.eq.held = [] → d.chansOn f.num f.port = [] → d.bw.locks = [] →
        exec (.initiateFlr f) s = ends { d with
          fns := kput (fnKey f) (x.inReset 1 x.killed) d.fns
          tags := d.tags.map (fun t => if t.fn = some f then { t with quarantined := true } else t) } ∧
        (x.inReset 1 x.killed).command = 0 ∧ (x.inReset 1 x.killed).recovering = true ∧
        (x.inReset 1 x.killed).eq.ready = false ∧ (x.inReset 1 x.killed).aq.ready = false)) ∧
    (d.cfgOpen f = false → ∀ b : Bool, exec (.memorySpaceEnable f b) s = ends d ∧ exec (.busMasterEnable f b) s = ends d ∧
      exec (.interruptDisable f b) s = ends d ∧ exec (.initiateFlr f) s = ends d) ∧
    (x.recovering = true → x.resetWhy ≠ 0 → exec (.functionResetDone f) s = ends
      ((((d.setFn f (d.bar2Taken f { x with recovering := false, resetWhy := 0, killed := 0 })).inc (K.ofPart K.flrs f.num)).post f.num
        ⟨0x0A, 0x30, x.resetWhy, f.port, x.killed⟩).updWire f)) ∧
    (x.recovering = false → exec (.functionResetDone f) s = ends d)

/-! ## Links and the CXL mailbox -/

/-- R306, R311, R328, R329, R356 to R360: the trainings and losses of links. A training starts from every setting but DISABLED and
passes a live link through recovery; a loss or a hot reset resets the port's functions and trains again; the outcome takes
the best protocol offered on both sides, no faster than MAX_SPEED, CXL no faster than 64 GT/s; the crosspoint closes with
BYPASS_FORCE and breaks the ring links; a replayed FLIT is counted. -/
def Obligations.LinkEvents : Prop :=
  ∀ (s : State) (p : Nat),
    let d := s.dev
    let x := d.port p
    let ends := fun (t : Dev) => (Host.Outcome.next ⟨t, s.pending⟩ : Res)
    (d.mayTrain p = true →
      (d.portMode p ≠ 4 → d.startTraining p =
        (d.setPort p (if d.linkUp p then { x with link := .recovery } else x.drop .training)).emit (.train p (d.portMode p))) ∧
      (d.portMode p = 4 → d.startTraining p = d.setPort p (x.drop .disabled))) ∧
    (d.linkUp p = true → exec (.dlDown p) s = ends ((d.linkDrop p).startTraining p)) ∧
    (d.linkUp p = false → exec (.dlDown p) s = ends d ∧ exec (.hotReset p) s = ends d ∧ exec (.flitCrcError p) s = ends d) ∧
    (d.linkUp p = true → p < 22 →
      (let t := (d.resetPort p 2).settle
       (t.portMode p ≠ 4 → exec (.hotReset p) s = ends (t.startTraining p)) ∧
       (t.portMode p = 4 → exec (.hotReset p) s = ends ((t.linkDrop p).startTraining p))) ∧
      exec (.flitCrcError p) s = ends ((d.inc (K.flitRetries + p)).aer ⟨p, 0⟩ 0 aerReceiver)) ∧
    (d.linkUp p = true → 22 ≤ p → exec (.flitCrcError p) s = ends (d.inc (K.flitRetries + p))) ∧
    (∀ role : Role, d.mayStore role 0x2806 (p + 1) (entryTy 0x2806 (p + 1)).len 1 →
      (d.portMode p ≠ 4 → exec (.retrain role p 1) s = ends ((d.startTraining p).result 0)) ∧
      (d.portMode p = 4 → d.linkUp p = true → exec (.retrain role p 1) s = ends (((d.linkDrop p).startTraining p).result 0))) ∧
    (∀ t : Training, (x.link = .training ∨ x.link = .recovery) →
      (t.up = false → p < 22 → x.link = .training → exec (.linkTrainingDone p t) s = ends (d.inc (K.linkDowns + p))) ∧
      (t.up = false → p < 22 → x.link = .recovery → exec (.linkTrainingDone p t) s = ends ((d.linkDrop p).startTraining p)) ∧
      (t.up = true → p < 22 → ∃ u : Dev, u = ((d.countDeclined p (d.trainedMode p t)).trained p t).afterRoutes ∧
        exec (.linkTrainingDone p t) s =
          ends ((List.range 64).foldl (fun v n => if v.fnExists ⟨p, n⟩ && decide (p < 22) then v.pumpEv ⟨p, n⟩ else v) u)) ∧
      (t.up = true → 22 ≤ p → d.trainedMode p t = .ring →
        ∃ u : Dev, exec (.linkTrainingDone p t) s = ends u ∧
          u = (List.range 64).foldl (fun v n => if v.fnExists ⟨p, n⟩ && decide (p < 22) then v.pumpEv ⟨p, n⟩ else v)
            (((d.countDeclined p .ring).trained p t).ringUp p).afterRoutes)) ∧
    (∀ t : Training, p < 22 →
      (d.ublOffered p = true → t.selUbl = true → t.major = 1 ∨ t.major = 2 → d.trainedMode p t = .native) ∧
      (d.ublOffered p = false ∨ t.selUbl = false → d.cxlOffered p = true → t.selCxl = true → d.trainedMode p t = .cxl) ∧
      (d.ublOffered p = false ∨ t.selUbl = false → d.cxlOffered p = false ∨ t.selCxl = false → d.trainedMode p t = .pcie) ∧
      (∀ m : PMode, d.trainedSpeed p m t ≤ d.rd (K.maxSpeed + p) ∧ (m = .cxl → d.trainedSpeed p m t ≤ 6) ∧
        (d.su.modState = 3 → d.trainedSpeed p m t ≤ 5)) ∧
      ((d.trained p t).port p).link = .l0 ∧ ((d.trained p t).port p).minor = 0) ∧
    (∀ (role : Role) (v : Nat), d.mayStore role 0x2800 0x06 (entryTy 0x2800 0x06).len v →
      exec (.bypassForce role v) s = ends (((d.wr K.bypassForce v).updBypass).result 0)) ∧
    (d.flag K.bypassClosed = false →
      let t := (d.wr K.bypassForce 1).updBypass
      t.flag K.bypassClosed = true ∧ t.linkUp 22 = false ∧ t.linkUp 23 = false) ∧
    (d.flag K.ringFault = true → exec .ringRetryExpiry s = ends ((d.wr K.ringFault 0).updBypass)) ∧
    (d.flag K.ringFault = false → exec .ringRetryExpiry s = ends d)

/-- R130, R352, R355: the CXL mailbox of function 0 of a port that runs CXL: what each command answers. The Dynamic Capacity
Event Log is read and cleared by handle; no event interrupts; one region of 2^48 bytes; a rejected offer is counted. The
opcodes and return codes are the model's (PRESUMED, log entry 59). -/
def Obligations.CxlMailbox : Prop :=
  ∀ (s : State) (p : Nat),
    let d := s.dev
    let ends := fun (t : Dev) => (Host.Outcome.next ⟨t, s.pending⟩ : Res)
    let mb := fun (t : Dev) (cmd code : Nat) (bs : List Byte) => ends (t.emit (.cxlMb p cmd code bs))
    let x := d.port p
    (d.cxlServed p = true → d.mse ⟨p, 0⟩ = true →
      exec (.identifyMemoryDevice p) s = mb d 0x4000 0 (leBytes 2 256) ∧
      exec (.getSupportedLogs p) s = mb d 0x0400 0 (leBytes 2 1 ++ leBytes 4 24) ∧
      (∀ off len : Nat,
        (off + len ≤ 24 → exec (.getLog p off len) s = mb d 0x0401 0 (slice (celOpcodes.flatMap (leBytes 2)) off len)) ∧
        (24 < off + len → exec (.getLog p off len) s = mb d 0x0401 2 [])) ∧
      exec (.getEventRecords p 4) s = mb d 0x0100 0 (x.dcLog.flatMap DcRec.bytes) ∧
      (∀ log < 4, exec (.getEventRecords p log) s = mb d 0x0100 0 []) ∧
      (∀ log : Nat, 4 < log → exec (.getEventRecords p log) s = mb d 0x0100 2 []) ∧
      (x.dcWait = [] → exec (.clearEventRecords p 4 true []) s = mb (d.setPort p { x with dcLog := [] }) 0x0101 0 []) ∧
      (∀ hs : List Nat, (∀ h ∈ hs, ∃ r ∈ x.dcLog, r.handle = h) → x.dcWait = [] → exec (.clearEventRecords p 4 false hs) s =
        mb (d.setPort p { x with dcLog := x.dcLog.filter (fun r => !hs.contains r.handle) }) 0x0101 0 []) ∧
      (∀ hs : List Nat, (∃ h ∈ hs, ∀ r ∈ x.dcLog, r.handle ≠ h) →
        exec (.clearEventRecords p 4 false hs) s = mb d 0x0101 0xE []) ∧
      exec (.getEventInterruptPolicy p) s = mb d 0x0102 0 (zeros 5) ∧
      (∀ l : List Nat, exec (.setEventInterruptPolicy p l) s = mb d 0x0103 (if ∀ v ∈ l, v = 0 then 0 else 2) []) ∧
      (∀ addr len q : Nat, d.cxlPart p = some q → exec (.getPoisonList p addr len) s =
        mb d 0x4300 0 ((d.poisonRuns q addr len).flatMap (fun r => leBytes 8 r.1 ++ leBytes 4 (r.2 / 64)))) ∧
      exec (.getDynamicCapacityConfiguration p) s =
        mb d 0x4800 0 (leBytes 1 1 ++ leBytes 8 0 ++ leBytes 8 (2 ^ 48) ++ leBytes 8 (2 ^ 30)) ∧
      (∀ first count : Nat, let l := ((d.cxlRuns p).drop first).take count
        exec (.getDynamicCapacityExtentList p first count) s = mb d 0x4801 0 (leBytes 4 l.length ++
          leBytes 4 (d.cxlRuns p).length ++ l.flatMap (fun g => leBytes 8 (g.first * 2 ^ 30) ++ leBytes 8 (g.count * 2 ^ 30)))) ∧
      (∀ ext count : Nat, exec (.cxlReleaseDynamicCapacity p ext count) s = mb ((d.cxlRelease p ext count).settle) 0x4803 0 []) ∧
      exec (.cxlAddDynamicCapacityResponse p true) s = mb d 0x4802 0 [] ∧
      exec (.cxlAddDynamicCapacityResponse p false) s = mb (d.inc K.dcRejects) 0x4802 0 []) ∧
    (d.cxlServed p = true → ∀ phase : Nat, exec (.globalPersistentFlush p phase) s = mb d phase 0 []) ∧
    (d.cxlServed p = false → exec (.identifyMemoryDevice p) s = ends d ∧ ∀ phase, exec (.globalPersistentFlush p phase) s = ends d) ∧
    (∀ (q addr len : Nat), ∀ r ∈ d.poisonRuns q addr len, r.1 < addr + len ∧ addr < r.1 + r.2)

/-! ## Cartridge bays -/

/-- R72 to R74, R363 to R366: the events of a bay. A press during a quiesce cancels it, is refused while another bay cannot be
spared, and otherwise quiesces the bay; power taken away makes the bay's codewords missing; a cartridge lost with power is
marked so and counted; a cartridge seated settles, is powered, checked, rebuilt and serves.
R362, R363: a write of BAY_CTRL. A reserved indicator encoding is out of range; taking power from a bay while another cannot be
spared is refused; POWER_OFF and POWER_IND are the device's own while BAY_AUTO is 1; the DVSEC of a port other than
BAY_CTRL_PORT writes nothing. -/
def Obligations.BayEvents : Prop :=
  (∀ (s : State) (b : Nat),
    let d := s.dev
    let x := d.bay b
    let ends := fun (t : Dev) => (Host.Outcome.next ⟨t, s.pending⟩ : Res)
    (let d1 := d.baySignal b 0 0
     let y := d1.bay b
     y = { x with status := setBit x.status 0 } ∧
     (y.pressed = true → exec (.attnButtonPress b) s = ends (d1.setBay b ({ y with pressed := false }.setPowerInd 1))) ∧
     (y.pressed = false → y.cart = 2 ∨ y.cart = 3 → d1.removalBarred b = true →
       exec (.attnButtonPress b) s = ends ((d1.setBay b { y with blinking := true }).inc (K.ofBay K.buttonRefusals b))) ∧
     (y.pressed = false → y.cart = 2 ∨ y.cart = 3 → d1.removalBarred b = false → d1.bayAuto b = true →
       exec (.attnButtonPress b) s = ends (d1.setBay b ({ y with pressed := true, blinking := false }.setPowerInd 2))) ∧
     (y.pressed = false → y.cart ≠ 2 → y.cart ≠ 3 → exec (.attnButtonPress b) s = ends d1)) ∧
    (x.pressed = true → exec (.bayQuiesceTimer b) s = ends ((d.powerDown b).modBay b (fun y => y.setPowerInd 3))) ∧
    (x.pressed = false → exec (.bayQuiesceTimer b) s = ends d) ∧
    (d.otherMissing b = false →
      let t := d.powerDown b
      (t.bay b).cart = 5 ∧ (t.bay b).missing = true ∧ (t.bay b).ready = false ∧ (t.bay b).powerOff = true ∧ t.mm = d.mm) ∧
    (d.otherMissing b = false →
      let t := d.loseCartridge b
      (t.bay b).cart = 6 ∧ (t.bay b).missing = true ∧ (t.bay b).ready = false ∧ (t.bay b).powerOff = true ∧ t.mm = d.mm) ∧
    (x.missing = false → d.otherMissing b = true →
      d.loseCodewords b = ((d.modBay b (fun y => { y with missing := true })).secondLoss).settle) ∧
    (x.present = true → x.powered = false → exec (.cartridgeRemoved b) s =
      ends (((d.noteWear b).setBay b { x with cart := 0, serial := [], fw := [], settling := false }).setPresence b false)) ∧
    (x.powered = true →
      exec (.cartridgeRemoved b) s = ends d ∧
      exec (.cartridgeSurpriseRemoval b true) s = ends (d.loseCartridge b) ∧
      exec (.cartridgeSurpriseRemoval b false) s =
        ends ((((d.loseCartridge b).noteWear b).modBay b (fun y => { y with serial := [], fw := [] })).setPresence b false) ∧
      exec (.powerFault b) s = ends ((d.baySignal b 1 1).loseCartridge b)) ∧
    (∀ serial fw : List Byte,
      (x.present = false → exec (.cartridgeInserted b serial fw) s =
        ends ((((d.setBay b { x with cart := 5, serial := serial, fw := fw, settling := true }).takeWear b).inc
          (K.ofBay K.insertions b)).setPresence b true)) ∧
      (x.present = true → exec (.cartridgeInserted b serial fw) s = ends d)) ∧
    (x.settling = true → d.su.mains = true →
      (d.bayAuto b = true → exec (.cartridgeSettleTimer b) s = ends (d.setBay b (x.powerUp.setPowerInd 2))) ∧
      (d.bayAuto b = false → x.powerOff = true → exec (.cartridgeSettleTimer b) s = ends (d.setBay b { x with settling := false })) ∧
      (d.bayAuto b = false → x.powerOff = false → exec (.cartridgeSettleTimer b) s = ends (d.setBay b x.powerUp))) ∧
    (x.settling = false ∨ d.su.mains = false → exec (.cartridgeSettleTimer b) s = ends d) ∧
    (x.cart = 1 →
      (∃ t : Dev, exec (.cartridgeCheckDone b true) s = ends t ∧ (t.bay b).cart = (if x.missing then 3 else 2) ∧
        (t.bay b).ready = true ∧ t.mm = d.mm) ∧
      exec (.cartridgeCheckDone b false) s =
        ends (d.modBay b (fun y => (({ y with cart := 7 }.setPowerOff true).setPowerInd 3).setAttnInd 1))) ∧
    (x.cart ≠ 1 → ∀ q : Bool, exec (.cartridgeCheckDone b q) s = ends d) ∧
    (x.cart = 3 → exec (.rebuildDone b) s = ends (d.chargeRebuild.setBay b { x with cart := 2, missing := false }) ∧
      d.chargeRebuild = { d with od := d.chargeRebuild.od, bw := d.chargeRebuild.bw }) ∧
    (x.cart ≠ 3 → exec (.rebuildDone b) s = ends d)) ∧
  (∀ (s : State) (b v : Nat),
    let d := s.dev
    let x := d.bay b
    let ends := fun (t : Dev) => (Host.Outcome.next ⟨t, s.pending⟩ : Res)
    let new := bayCtrlTaken x.ctrl v (d.bayAuto b)
    let t := d.setBay b { x with ctrl := new, blinking := false }
    (∀ role : Role, d.mayStore role (0x2900 + b) 0x02 (entryTy (0x2900 + b) 0x02).len v →
      (fld v 6 2 = 0 → exec (.bayCtrl (.role role) b v) s = ends (d.result 7)) ∧
      (d.bayAuto b = false → fld v 8 2 = 0 → exec (.bayCtrl (.role role) b v) s = ends (d.result 7)) ∧
      (fld v 6 2 ≠ 0 → d.bayAuto b = true → bit new 10 = x.powerOff →
        exec (.bayCtrl (.role role) b v) s = ends (t.result 0)) ∧
      (fld v 6 2 ≠ 0 → fld v 8 2 ≠ 0 → d.bayAuto b = false →
        (bit new 10 = true → x.powerOff = false → d.removalBarred b = true →
          exec (.bayCtrl (.role role) b v) s = ends (d.result 8)) ∧
        (bit new 10 = true → x.powerOff = false → d.removalBarred b = false → x.powered = true →
          exec (.bayCtrl (.role role) b v) s = ends ((t.powerDown b).result 0)) ∧
        (bit new 10 = false → x.powerOff = true → x.present = true → d.su.mains = true → x.powered = false →
          exec (.bayCtrl (.role role) b v) s = ends ((t.modBay b Bay.powerUp).result 0)))) ∧
    (∀ f : FnId, (f.num ≠ 0 ∨ f.port ≠ d.rd K.bayCtrlPort → exec (.bayCtrl (.dvsec f) b v) s = ends d) ∧
      (f.num = 0 → f.port = d.rd K.bayCtrlPort → d.cfgOpen f = true → d.bayAuto b = true → fld v 6 2 ≠ 0 →
        bit new 10 = x.powerOff → exec (.bayCtrl (.dvsec f) b v) s = ends t)) ∧
    (bit new 10 = if d.bayAuto b then x.powerOff else bit v 10))

/-! ## Errors, tests and lists -/

/-- R373 to R376, R384, R385, R395: detection and containment. A parity error that a reissue mends is counted and logged and
changes no answer, one that it does not mend ends the stream operation or the descriptor with POISON, and a request whose header failed
its check is discarded; a lockstep mismatch is counted and acts on its unit; Larkspur's restart ends its sessions and closes the
crosspoint; scrub counts a corrected word; a lost stack or DDR channel is lost once. -/
def Obligations.ErrorEvents : Prop :=
  ∀ s : State,
    let d := s.dev
    let ends := fun (t : Dev) => (Host.Outcome.next ⟨t, s.pending⟩ : Res)
    let sig := fun (x : Sig) (ty u : Nat) => ({ x with unitType := ty, unit := u } : Sig)
    (∀ (c op k : Nat) (o : StreamOp), d.streamOf c op = some (o, k) → o.kind = 0 →
      exec (.datapathParityError (.streamRead c op true)) s = ends (((d.inc K.datapathErrors).inc K.datapathMasked).sign
        { Sig.base 5 0 3 with unitType := 4, unit := c, part := ctxPart k, channel := d.chHandle k }) ∧
      exec (.datapathParityError (.streamRead c op false)) s = ends ((((d.inc K.datapathErrors).sign
        { Sig.base 5 1 4 with status := 0x20, unitType := 4, unit := c, part := ctxPart k, channel := d.chHandle k }).streamFail
          c k o 0x20 0x000B).settle)) ∧
    (∀ (h k : Nat) (c : Chan) (x : Dsc), d.workChan h = some (k, c) → c.fetched.find? (fun y => y.ph == .running) = some x →
      exec (.datapathParityError (.recipeRead h true)) s = ends (((d.inc K.datapathErrors).inc K.datapathMasked).sign
        { Sig.base 5 0 3 with part := ctxPart k, channel := d.chHandle k }) ∧
      exec (.datapathParityError (.recipeRead h false)) s = ends ((((d.inc K.datapathErrors).sign
        { Sig.base 5 1 4 with status := 0x20, part := ctxPart k, channel := d.chHandle k }).failHalt k x.seq 0x20 0x000B).settle)) ∧
    (∀ (f : FnId) (tag : Nat), d.barUp f = true →
      let t := ((d.inc K.datapathErrors).sign { Sig.base 5 1 4 with status := 0x20, unitType := 5, unit := f.port }).aer f 1 aerInternal
      exec (.datapathParityError (.bar2Header f tag false)) s = ends t ∧
      exec (.datapathParityError (.bar2Header f tag true)) s = ends (t.emit (.cpl f tag 0 [] true))) ∧
    (∀ (tag : Nat) (t : OutTag), d.tagOf tag = some t → exec (.datapathParityError (.issued tag)) s =
      ends ((((d.inc K.datapathErrors).sign { Sig.base 5 1 4 with status := 0x20, unitType := 5, unit := t.port }).dropTag
        tag).useFailed t.use)) ∧
    (d.operational = true →
      let d1 := d.inc K.seqMismatches
      exec (.lockstepMismatch .control) s = ends (d1.sign (sig (Sig.base 6 1 3) 7 255)) ∧
      (∀ c : Nat, exec (.lockstepMismatch (.cluster c)) s = ends (d1.cluMismatch c)) ∧
      (∀ p n : Nat, d.obj p n ≠ none → exec (.lockstepMismatch (.placement p n)) s =
        ends ((d1.sign (sig (Sig.base 6 1 3) 8 255)).placeStopped p n)) ∧
      (∀ b : Nat, exec (.lockstepMismatch (.flash b true)) s = ends (d1.sign (sig (Sig.base 6 1 3) 8 b))) ∧
      (∀ u : MemUnit, d.er.suspects.contains (unitKey u) = false → ∃ t : Dev, exec (.lockstepMismatch (.memory u [])) s = ends t ∧
        t.er.suspects = d.er.suspects ++ [unitKey u] ∧ t.mm = d.mm ∧ t.er.stacksLost = d.er.stacksLost ∧ t.er.ddrLost = d.er.ddrLost)) ∧
    (d.su.standby = true → ∃ t : Dev, exec .larkspurWatchdogExpiry s = ends t ∧
      t = ({ d with mg := { d.mg with sessions := [], restarting := true, spdm := 0 } } : Dev).updBypass ∧
      t.mg.sessions = [] ∧ t.served = false ∧ t.flag K.bypassClosed = true ∧ t.mm = d.mm) ∧
    (d.mg.restarting = true → exec .larkspurRestartDone s =
      ends ({ d with mg := { d.mg with restarting := false } } : Dev).updBypass) ∧
    (d.operational = true → d.flag K.scrubEnable = true →
      (∀ p g : Nat, exec (.scrubRead (.pageEntry p g) .good) s = ends d) ∧
      (∀ p g : Nat, (d.page (pageKey p g)).home ≠ none → ∃ t : Dev,
        exec (.scrubRead (.pageEntry p g) (.corrected 0 none)) s = ends t ∧
        kget 0 1 t.er.ce = kget 0 1 d.er.ce + 1 ∧ t.mm = d.mm) ∧
      (∀ p g : Nat, (d.page (pageKey p g)).home ≠ none →
        ∃ t : Dev, exec (.scrubRead (.pageEntry p g) .uncorrectable) s = ends ((t.losePageEntry (pageKey p g)).settle) ∧
          kget 0 1 t.er.ue = kget 0 1 d.er.ue + 1) ∧
      (∀ p b : Nat, d.quiet → (d.blkValid p b = false ∨ d.blkPoison p b = true) → ∀ med : Med,
        exec (.scrubRead (.block p b) med) s = ends d)) ∧
    (d.flag K.scrubEnable = false → ∀ (t : ScrubT) (med : Med), exec (.scrubRead t med) s = ends d) ∧
    (d.operational = true → ∀ u : MemUnit,
      exec (.refreshFailure u) s = ends (d.loseUnit u) ∧ (d.unitLost u = true → exec (.refreshFailure u) s = ends d) ∧
      (d.markLost u).unitLost u = true)

/-- R379, R387 to R394: the retirement lists, duplicate windows and in-field tests. DEADHEAD_RESULT says what became of an entry,
and an accepted frame joins the list; a dismissed recommendation goes; a window takes a free Bud; a test that falls due
starts when the cluster is free of work and fewer than four run; a test that passes gives the cluster back. -/
def Obligations.RetirementAndTests : Prop :=
  ∀ (s : State) (role : Role),
    let d := s.dev
    let ends := fun (t : Dev) => (Host.Outcome.next ⟨t, s.pending⟩ : Res)
    (∀ e : Nat, d.mayStore role 0x2010 0x01 8 e →
      let t := d.wr K.deadheadResult (d.deadheadResult e)
      (d.deadheadResult e = 0 → exec (.deadheadAdd role e) s = ends ((t.deadheadPut e).result 0)) ∧
      (d.deadheadResult e = 1 → exec (.deadheadAdd role e) s = ends (t.result 0)) ∧
      (1 < d.deadheadResult e → exec (.deadheadAdd role e) s = ends (t.result 8))) ∧
    (∀ e : Nat, d.deadheadResult e = 0 → fld e 62 2 ≠ 3 ∧ fld e 52 10 = 0 ∧ fld e 0 52 < tierFrames (fld e 62 2) ∧
      (∀ x ∈ d.er.deadhead, sameFrame e x = false) ∧ d.er.deadhead.length < 131072) ∧
    (∀ e : Nat, d.mayStore role 0x2011 0x04 8 e → exec (.recommendDismiss role e) s =
      ends (({ d with er := { d.er with recommend := d.er.recommend.filter (fun x => !sameFrame e x) } } : Dev).result 0)) ∧
    (∀ c : Nat, d.flag K.dupEnable = true → d.dupReady c = true → d.dupFirst c = true → d.freeBuds ≠ [] →
      ∃ b ∈ d.freeBuds, exec (.dupWindowStart c) s = ends (d.drawn.windowStart c b) ∧
        ((d.drawn.windowStart c b).clu b).dupOf = some c ∧ ((d.drawn.windowStart c b).clu b).x = (d.clu c).x ∧
        ((d.drawn.windowStart c b).clu c).window = some b) ∧
    (∀ c : Nat, d.flag K.dupEnable = false → exec (.dupWindowStart c) s = ends d) ∧
    (∀ c : Nat, d.flag K.iftEnable = true → (d.clu c).st ≠ .retired → (d.clu c).st ≠ .testing →
      exec (.iftDue c) s = ends ((d.modClu c (fun u => { u with iftDue := true })).startTests)) ∧
    (∀ c : Nat, d.flag K.iftEnable = false ∨ (d.clu c).st = .retired → exec (.iftDue c) s = ends d) ∧
    (∀ c : Nat, (d.clu c).iftDue = true → exec (.iftDeferExpiry c) s = ends (d.modClu c (fun u => { u with iftForce := true }))) ∧
    (∀ c : Nat, (d.clu c).iftDue = false → exec (.iftDeferExpiry c) s = ends d) ∧
    (∀ (c : Nat) (pass : Bool), (d.clu c).st = .testing → exec (.iftDone c pass) s =
      ends ((if pass then (d.inc K.iftRuns).iftPass c else (d.inc K.iftRuns).iftFail c).startTests.settle)) ∧
    (∀ (c : Nat) (pass : Bool), (d.clu c).st ≠ .testing → exec (.iftDone c pass) s = ends d) ∧
    (∀ c : Nat, let t := d.iftPass c
      (t.clu c).st = (if (t.clu c).logical.isSome then .active else .bud) ∧ (t.clu c).iftDue = false ∧ t.mm = d.mm) ∧
    (∀ c : Nat, (d.clu c).iftDue = true → ((d.clu c).st = .active ∨ (d.clu c).st = .bud) →
      ((d.testsRunning < 4 → ((d.testDue c).clu c).st = .testing) ∧ (4 ≤ d.testsRunning → d.testDue c = d)))

/-! ## The mirrored pair -/

/-- R402, R404, R405, R407, R416, R421 to R423: the settings of the pair. Identities and ranges change only while PAIR_ENABLE is 0,
roles also in FENCED; PAIR_ENABLE 1 needs MODULE_ID and a key and forms the pair, FENCED without a lease; a handover needs a
MIRRORED pair and a PRIMARY partition; the format commit needs a MIRRORED pair whose partner reads it. -/
def Obligations.PairSettings : Prop :=
  ∀ (s : State) (role : Role),
    let d := s.dev
    let ends := fun (t : Dev) => (Host.Outcome.next ⟨t, s.pending⟩ : Res)
    let may := fun (idx sub v : Nat) => d.mayStore role idx sub (entryTy idx sub).len v
    (∀ (partner : Bool) (v : Nat), v < 2 ^ 20 → may 0x2100 (if partner then 2 else 1) v →
      exec (.moduleId role partner v) s = ends (if d.flag K.pairEnable then d.result 8
        else (d.wr (if partner then K.partnerId else K.moduleId) v).result 0)) ∧
    (∀ (p v : Nat), v ≤ 2 → may 0x2101 (p + 1) v →
      (d.flag K.pairEnable = true → d.pr.st ≠ .fenced → exec (.pairRole role p false v) s = ends (d.result 8)) ∧
      (d.flag K.pairEnable = false ∨ d.pr.st = .fenced →
        exec (.pairRole role p false v) s = ends (((d.wr (K.pairRole + p) v).settle).result 0))) ∧
    (∀ i v : Nat, d.mayStore role (0x2103 + i / 128) (i % 128 + 1) 16 v →
      (262144 < fld v 96 32 ∨ 262143 < fld v 64 32 → exec (.mirrorRange role i v) s = ends (d.result 7)) ∧
      (fld v 96 32 ≤ 262144 → fld v 64 32 ≤ 262143 → exec (.mirrorRange role i v) s = ends (if d.flag K.pairEnable
        then d.result 8 else (d.wr (K.mirrorRange + i / 128 * 256 + i % 128) (v / 2 ^ 58 * 2 ^ 58)).result 0))) ∧
    (may 0x2100 3 1 →
      (d.rd K.moduleId = 0 ∨ d.rd K.pairKeyState = 0 → exec (.pairEnable role 1) s = ends (d.result 8)) ∧
      (d.rd K.moduleId ≠ 0 → d.rd K.pairKeyState ≠ 0 → d.flag K.pairEnable = false →
        exec (.pairEnable role 1) s = ends (d.pairStart.result 0))) ∧
    d.pairStart.pr.st = (if d.pr.lease then .forming else .fenced) ∧ d.pairStart.pr.copied = 0 ∧
    d.pairStart.flag K.pairEnable = true ∧
    (may 0x2100 3 0 → exec (.pairEnable role 0) s = ends (if d.flag K.pairEnable then d.pairStop.result 0 else d.result 0)) ∧
    (∀ p : Nat, p < 64 → may 0x2100 0x18 p →
      (d.pr.st ≠ .mirrored ∨ d.pairRole p ≠ 1 ∨ d.pr.handing ≠ none → exec (.handover role p) s = ends (d.result 8)) ∧
      (d.pr.st = .mirrored → d.pairRole p = 1 → d.pr.handing = none → exec (.handover role p) s =
        ends ((({ d with pr := { d.pr with handing := some p } } : Dev).finishHand).result 0)) ∧
      (d.pr.st = .mirrored → d.pairRole p = 1 → d.pr.handing = none → d.unacked ≠ [] → exec (.handover role p) s =
        ends (({ d with pr := { d.pr with handing := some p } } : Dev).result 0))) ∧
    (may 0x2100 0x10 1 → exec (.mirrorFormatCommit role 1) s =
      ends (if d.flag K.pairEnable then d.result 8 else (d.wr K.mirrorFormatCommit 1).result 0)) ∧
    (may 0x2100 0x10 2 →
      (∀ hb : HbBody, d.pr.st = .mirrored → d.pr.hb = some hb → bit hb.formats 1 = true →
        exec (.mirrorFormatCommit role 2) s = ends (({ d.wr K.mirrorFormatCommit 2 with
          pr := { d.pr with switching := d.rd K.logFormat == 1 && hb.commit == 2 } } : Dev).result 0)) ∧
      (d.pr.st ≠ .mirrored ∨ d.pr.hb = none → exec (.mirrorFormatCommit role 2) s = ends (d.result 8)))

/-- R413 to R420: the lease and the course of a pair. An EPOCH not above LEASE_EPOCH is refused; a renewal leaves FENCED for
SOLO or PARTNER_LOST when the partner is out of reach; an expiry fences a pair; a silent partner ends MIRRORED and SYNCING;
resynchronisation sends one dirty page at a time and ends MIRRORED. -/
def Obligations.PairCourse : Prop :=
  ∀ (s : State) (role : Role),
    let d := s.dev
    let ends := fun (t : Dev) => (Host.Outcome.next ⟨t, s.pending⟩ : Res)
    (∀ v : Nat, d.mayStore role 0x2100 9 8 v →
      (fld v 0 32 ≤ d.rd K.leaseEpoch → exec (.leaseRenew role v) s = ends (d.result 8)) ∧
      (d.rd K.leaseEpoch < fld v 0 32 → bit v 33 = false →
        let t := ({ d with pr := { d.pr with lease := true, solo := bit v 32 } } : Dev).wr K.leaseEpoch (fld v 0 32)
        exec (.leaseRenew role v) s = ends ((t.leaseState.settle).result 0) ∧
        (d.pr.st = .fenced → d.reachable = false → t.leaseState = t.pairTo (if bit v 32 then .solo else .partnerLost)) ∧
        (d.pr.st = .partnerLost → bit v 32 = false → t.leaseState = t) ∧
        (d.pr.st = .mirrored ∨ d.pr.st = .forming ∨ d.pr.st = .syncing ∨ d.pr.st = .unpaired → t.leaseState = t)) ∧
      (d.rd K.leaseEpoch < fld v 0 32 → bit v 33 = true → d.reachable = true →
        let t := ({ d with pr := { d.pr with lease := true, solo := bit v 32 } } : Dev).wr K.leaseEpoch (fld v 0 32)
        exec (.leaseRenew role v) s = ends ((((t.inc K.takeoverRefused).leaseState).settle).result 0))) ∧
    (∀ st : PairSt, (d.pairTo st).pr.st = st ∧ (d.pairTo st).mm = d.mm) ∧
    (d.pr.lease = false → exec .leaseExpiry s = ends d) ∧
    (d.pr.lease = true →
      let t : Dev := { d with pr := { d.pr with lease := false, solo := false } }
      (d.pr.st = .unpaired ∨ d.pr.st = .fenced → exec .leaseExpiry s = ends t) ∧
      (d.pr.st = .mirrored ∨ d.pr.st = .forming ∨ d.pr.st = .syncing →
        exec .leaseExpiry s = ends (((t.pairTo .fenced).pairPost ⟨0x22, 0x32, 0, 0, 0⟩).settle)) ∧
      (d.pr.st = .partnerLost ∨ d.pr.st = .solo →
        exec .leaseExpiry s = ends (((t.failHeld.1.pairTo .fenced).pairPost ⟨0x22, 0x32, 0, 0, t.failHeld.2⟩).settle))) ∧
    (let t : Dev := { d with pr := { d.pr with seenEast := false, seenWest := false } }
     (d.pr.st = .mirrored ∨ d.pr.st = .syncing → exec .partnerSilent s =
       ends ((((t.add K.heldWrites (countBy MirHold.isWrite d.pr.holds)).pairTo
         .partnerLost).pairEvent 0x20).settle)) ∧
     (d.pr.st ≠ .mirrored → d.pr.st ≠ .syncing → exec .partnerSilent s = ends t)) ∧
    (exec .heartbeatTimer s = ends d.heartbeatTick) ∧
    (d.unacked = [] → d.linkUp 22 = false → d.linkUp 23 = false → ∃ east west : Bool, d.heartbeatTick =
      { d with pr := { d.pr with
          ageEast := d.pr.ageEast + 1, ageWest := d.pr.ageWest + 1, seenEast := east, seenWest := west } }) ∧
    (d.pr.st ≠ .syncing ∨ d.reachable = false → exec .resyncSend s = ends d) ∧
    (d.pr.st = .syncing → d.reachable = true →
      (dirtyTake d.pr.dirty = none →
        exec .resyncSend s = ends ({ d with pr := { d.pr with dirty := [] } } : Dev).resyncDone) ∧
      (∀ (k : Nat) (r : List (Nat × Nat)), dirtyTake d.pr.dirty = some (k, r) → d.moving k = false →
        d.pairRole (pagePart k) = 1 →
        let t := ({ d with pr := { d.pr with dirty := r, copied := d.pr.copied + 1 } } : Dev).sendPage k
        exec .resyncSend s = ends (if (dirtyTake r).isNone then t.resyncDone else t)) ∧
      (∀ (k : Nat) (r : List (Nat × Nat)), dirtyTake d.pr.dirty = some (k, r) → d.moving k = true →
        exec .resyncSend s = ends d))

/-- R351, R403, R411 to R413, R420: ring frames. A frame that is taken runs with its SEQ passed: a heartbeat is noted and moves
the pair, log records are applied and acknowledged or wait for a page, an acknowledgement frees the frames up to its SEQ, a
NACK sends again, a repair is served and taken once. Any other is forwarded, or answered with NACK, or changes nothing. -/
def Obligations.RingFrames : Prop :=
  ∀ (s : State) (port : Nat) (f : RingHdr),
    let d := s.dev
    let u := d.ringTook port f
    let ends := fun (t : Dev) => (Host.Outcome.next ⟨t, s.pending⟩ : Res)
    (d.ringTakes port f →
      (∀ hb : HbBody, exec (.heartbeat port f hb) s = ends (((u.noteHb port hb).hbState hb).settle)) ∧
      (∀ recs : List LogRec, exec (.log port f recs) s = ends (d.logIn f recs u) ∧
        (u.pr.st ≠ .unpaired →
          (∀ t : Dev, Dev.logAll recs none u = some (t, none) → d.logIn f recs u = (t.ringSend 0x41 (leBytes 4 f.seq)).settle) ∧
          (∀ (t : Dev) (st dt : Nat), Dev.logAll recs none u = some (t, some (st, dt)) →
            d.logIn f recs u = (t.ringSend 0x41 (leBytes 4 f.seq ++ (leBytes 1 st ++ leBytes 2 dt))).settle) ∧
          (Dev.logAll recs none u = none → d.logIn f recs u = d.promoteAll 0 (d.logPages recs)))) ∧
      (∀ upTo st dt : Nat, exec (.logAck port f upTo st dt) s = ends (u.logAck upTo st dt) ∧
        (u.quiet → u.mm.migs = [] → u.pr.holds = [] → u.pr.cmds = [] → u.pr.switching = false → u.pr.handing = none →
          u.logAck upTo st dt = { u with pr := { u.pr with
            tx := u.pr.tx.filter (fun x => !(x.port == u.partnerPort && seqLe x.seq upTo)) } })) ∧
      (∀ seq : Nat, exec (.nack port f seq) s = ends (u.resend u.partnerPort (fun x => seqLe seq x.seq))) ∧
      (∀ part blk : Nat, exec (.repairRead port f part blk) s = ends (u.repairAnswer part blk) ∧
        (u.partFor 1 part = none → u.partFor 2 part = none →
          u.repairAnswer part blk = u.ringSend 0x45 (zeros 256 ++ leBytes 2 Meta.zero.word ++ leBytes 1 0x20))) ∧
      (∀ (part blk : Nat) (r : Resp), exec (.repairData port f part blk r) s = ends (u.repaired part blk r) ∧
        ((part, blk) ∉ u.pr.repairs → u.repaired part blk r = u)) ∧
      (∀ (part page valid poison : Nat) (data : List Byte),
        exec (.resync port f part page valid poison data) s = ends (d.resyncIn part page valid poison data u) ∧
        (u.partFor 2 part = none → d.resyncIn part page valid poison data u = u))) ∧
    ((port = 22 ∨ port = 23) → d.linkUp port = true → ringPasses f = true →
      (d.isMe f.dst = false → exec (.ringFrameForward port f) s = ends ((d.hear f.src).forward port f) ∧
        ∀ seq : Nat, exec (.nack port f seq) s = ends ((d.hear f.src).forward port f)) ∧
      (d.isMe f.dst = true → exec (.ringFrameForward port f) s = ends ((d.hear f.src).inc K.ublMalformed)) ∧
      (d.isMe f.dst = true → bit (d.port port).feats 8 = true → f.src = d.rd K.partnerId → f.seq ≠ d.rxNext port →
        ∀ seq : Nat, exec (.nack port f seq) s = ends ((d.hear f.src).ringSend 0x42 (leBytes 4 (d.rxNext port))))) ∧
    ((port = 22 ∨ port = 23) → d.linkUp port = true → ringPasses f = false → d.isMe f.dst = true →
      bit (d.port port).feats 8 = true → f.src = d.rd K.partnerId →
      ∀ recs : List LogRec, exec (.log port f recs) s = ends (d.ringSend 0x42 (leBytes 4 (d.rxNext port)))) ∧
    (d.isMe f.src = false → d.linkUp (45 - port) = true → bit (d.port (45 - port)).feats 11 = true →
      d.forward port f = (d.inc K.forwardedFrames).emit (.forward (45 - port) f)) ∧
    (d.isMe f.src = true → d.forward port f = d) ∧
    (d.linkUp port = false → ∀ (hb : HbBody), exec (.heartbeat port f hb) s = ends d ∧ exec (.ringFrameForward port f) s = ends d)

/-! ## Management: sessions, the dictionary, the mailbox -/

/-- R434 (Table 14.4): the checks of a write come in the order of the table, the first that fails gives the result and nothing
else changes; the row of its own, a session and the mailbox of a function answer with the same code. -/
def Obligations.DictionaryChecks : Prop :=
  (∀ (d : Dev) (r : Role) (me : Option Nat) (idx sub len v : Nat),
    let o := d.odRefuse r me idx sub len v
    let found := idxExists idx = true ∧ subExists idx sub = true ∧ d.unavailable idx = false
    let writes := found ∧ roleMayWrite r idx sub = true ∧ entryAcc idx sub ≠ .const ∧ entryAcc idx sub ≠ .ro
    (o = some 1 ↔ idxExists idx = false) ∧
    (o = some 2 ↔ idxExists idx = true ∧ subExists idx sub = false) ∧
    (o = some 3 ↔ idxExists idx = true ∧ subExists idx sub = true ∧ d.unavailable idx = true) ∧
    (o = some 4 ↔ found ∧ roleMayWrite r idx sub = false) ∧
    (o = some 5 ↔ found ∧ roleMayWrite r idx sub = true ∧ (entryAcc idx sub = .const ∨ entryAcc idx sub = .ro)) ∧
    (o = some 6 ↔ writes ∧ (entryTy idx sub).fits len = false) ∧
    (o = some 9 ↔ writes ∧ (entryTy idx sub).fits len = true ∧ d.segBusy me idx sub = true) ∧
    (o = some 7 ↔ writes ∧ (entryTy idx sub).fits len = true ∧ d.segBusy me idx sub = false ∧ rangeBad idx sub v = true) ∧
    (o = none ↔ writes ∧ (entryTy idx sub).fits len = true ∧ d.segBusy me idx sub = false ∧ rangeBad idx sub v = false)) ∧
  (∀ (s : State) (idx sub c : Nat) (bs : List Byte),
    let d := s.dev
    let ends := fun (t : Dev) => (Host.Outcome.next ⟨t, s.pending⟩ : Res)
    (∀ r : Role, d.served = true → d.odRefuse r none idx sub bs.length (leNat bs) = some c →
      exec (.registerWrite (.dict r idx sub) bs) s = ends (d.result c)) ∧
    (∀ (m : MsgHdr) (x : Session), d.sessTurn m x → bs.length ≤ 1024 → d.provisioning x = false → c < 256 →
      d.odRefuse x.role (some x.num) idx sub bs.length (leNat bs) = some c →
      exec (.enwaryWrite m idx sub bs) s = ends (d.answer m ⟨c, addrBlock idx sub 0 bs.length⟩)) ∧
    (∀ f : FnId, d.mbOpen f → d.served = true → bs.length ≤ 3840 → d.mbBarred f false idx = none → c ≠ 0 → c < 256 →
      d.odRefuse (d.mbRole f) none idx sub bs.length (leNat bs) = some c →
      ∃ t : Dev, exec (.mbWrite f idx sub bs) s = ends t ∧ (t.fn f).mb.status = c * 256 ∧
        t = { d with fns := t.fns, out := d.out ++ [.mbox f c] }))

/-- R440: the device acts on a request of an open session by its SEQ. The next one runs and its response is kept; the last one
is answered again and nothing runs; any other, and one that comes while another waits, is discarded and counted. Every
request row is such a request. Notifications carry their own series from 1. -/
def Obligations.SessionSequence : Prop :=
  (∀ (d : Dev) (m : MsgHdr) (x : Session) (run : Session → Dev),
    d.session m.sess = some x → d.transportUp x.tr = true → x.isOpen = true → m.macOk = true →
    (d.sessBusy m.sess = false → m.seq = x.lastSeq + 1 → d.asked m run = run x) ∧
    (d.sessBusy m.sess = false → m.seq = x.lastSeq → x.lastSeq ≠ 0 →
      d.asked m run = d.emit (.enwary m.sess m.seq x.lastAns.code x.lastAns.payload)) ∧
    (d.sessBusy m.sess = false → m.seq ≠ x.lastSeq + 1 → m.seq ≠ x.lastSeq → d.asked m run = d.inc K.discarded) ∧
    (d.sessBusy m.sess = true → d.asked m run = d.inc K.discarded) ∧
    (∀ a : Answer, ∃ y : Session, (d.answer m a).session m.sess = some y ∧ y.lastSeq = m.seq ∧ y.lastAns = a)) ∧
  (∀ (s : State) (m : MsgHdr) (idx sub n : Nat) (bs : List Byte),
    let asks := fun c : Instr => ∃ run : Session → Dev, exec c s = .next ⟨s.dev.asked m run, s.pending⟩
    asks (.close m) ∧ asks (.keepalive m) ∧ asks (.enumerate m n) ∧ asks (.subscribe m n) ∧ asks (.describe m idx sub) ∧
    asks (.readClear m idx sub) ∧ (∀ len, asks (.enwaryRead m idx sub n len)) ∧ asks (.enwaryWrite m idx sub bs) ∧
    asks (.segBegin m idx sub n) ∧ asks (.segData m n bs) ∧ asks (.segEnd m n)) ∧
  (∀ (x : Session) (cls idx sub data : Nat) (e : Ntf), (x.notify cls idx sub data).2 = some e →
    e.seq = x.nextNtf ∧ (x.notify cls idx sub data).1.nextNtf = x.nextNtf + 1) ∧
  (∀ (n slot : Nat) (t : Transport) (fabric : Bool), (Session.opening n t fabric slot).nextNtf = 1)

/-- R439, R441, R444, R451: the life of sessions and their notifications. OPEN takes a free session of its transport; AUTH opens
it or frees its number; CLOSE, idling and a change of the network end sessions; SUBSCRIBE sets the classes; an acknowledged
notification leaves the queue, the others are sent five more times. -/
def Obligations.SessionCommands : Prop :=
  ∀ s : State,
    let d := s.dev
    let ends := fun (t : Dev) => (Host.Outcome.next ⟨t, s.pending⟩ : Res)
    (∀ (t : Transport) (role slot : Nat), d.transportUp t = true →
      (role = 1 ∨ role = 2 → d.sessionFree t = true → exec (.enwaryOpen t role slot) s =
        ends (({ d.drawn with mg := { d.mg with
          sessions := d.mg.sessions ++ [Session.opening d.mg.nextSess t (role == 1) slot]
          nextSess := d.mg.nextSess + 1 } } : Dev).emit (.challenge d.mg.nextSess 0 d.free))) ∧
      (role = 1 ∨ role = 2 → d.sessionFree t = false → exec (.enwaryOpen t role slot) s = ends (d.emit (.challenge 0 0x0B 0)))) ∧
    (∀ (n proof : Nat) (x : Session), d.session n = some x → d.transportUp x.tr = true →
      (x.isOpen = true → exec (.auth n proof) s = ends (d.emit (.enwary n 0 0x0B []))) ∧
      (x.isOpen = false → d.authGood x proof = true → exec (.auth n proof) s =
        ends ((d.setSession n (fun y => { y with isOpen := true })).emit (.enwary n 0 0 []))) ∧
      (x.isOpen = false → d.authGood x proof = false → exec (.auth n proof) s =
        ends (((d.endSessions (fun y => y.num == n)).inc K.authFailures).emit (.enwary n 0 0x0C [])))) ∧
    (∀ (n : Nat) (x : Session), d.session n = some x →
      exec (.authTimeout n) s =
        ends (if x.isOpen then d else (d.endSessions (fun y => y.num == n)).inc K.authFailures) ∧
      exec (.sessionIdleExpiry n) s = ends (d.endSessions (fun y => y.num == n && y.isOpen)) ∧
      exec (.segmentTimeout n) s =
        ends (d.setSession n (fun y => if y.seg.isSome then { y with seg := none } else { y with snap := none })) ∧
      (d.transportUp x.tr = true → exec (.notifyResend n) s =
        ends ((d.setSession n (fun y => { y with
          queue := y.queue.map (fun e => if e.sends ≤ 5 then { e with sends := e.sends + 1 } else e) })).emits
            ((x.queue.filter (fun e => e.sends ≤ 5)).map (fun e => Out.notify n e))))) ∧
    (∀ (m : MsgHdr) (x : Session), d.sessTurn m x →
      exec (.close m) s = ends ((d.answer m ⟨0, []⟩).endSessions (fun y => y.num == m.sess)) ∧
      exec (.keepalive m) s = ends (d.answer m ⟨0, []⟩) ∧
      (∀ mask : Nat, exec (.subscribe m mask) s =
        ends ((d.setSession m.sess (fun y => { y with mask := mask % 64 })).answer m ⟨0, leBytes 4 (mask % 64)⟩))) ∧
    (∀ (m : MsgHdr) (x : Session) (seq : Nat), d.session m.sess = some x → d.transportUp x.tr = true → x.isOpen = true →
      m.macOk = true → exec (.notifyAck m seq) s =
        ends (d.setSession m.sess (fun y => { y with queue := y.queue.filter (fun e => e.seq != seq) }))) ∧
    (∀ m : MsgHdr, d.session m.sess = none → d.served = true →
      exec (.keepalive m) s = ends (d.emit (.enwary m.sess m.seq 0x0B []))) ∧
    (exec .networkConfigApply s = ends (if d.mg.netPending && d.served
      then d.netApply.endSessions (fun x => onEthernet x.tr) else d)) ∧
    d.netApply.mg.netPending = false ∧ d.netApply.mg.netPort = d.rd K.udpPort

/-- R430, R434, R438, R442, R443: entry operations of a session whose turn has come. READ at offset 0 takes a snapshot that later
offsets are served from; READ_CLEAR clears what it returns; a write answers with its result; a segmented write collects its
data in order and acts once it is whole. -/
def Obligations.SessionEntries : Prop :=
  ∀ (s : State) (m : MsgHdr) (x : Session) (idx sub : Nat),
    let d := s.dev
    let ends := fun (t : Dev) => (Host.Outcome.next ⟨t, s.pending⟩ : Res)
    let refuses := fun (c : Nat) => ends (d.answer m ⟨c, addrBlock idx sub 0 0⟩)
    d.sessTurn m x → d.provisioning x = false →
    (∀ off len : Nat, 1 ≤ len → len ≤ 1024 →
      (∀ c : Nat, d.readRefuse x.role idx sub = some c → exec (.enwaryRead m idx sub off len) s = refuses c) ∧
      (d.readRefuse x.role idx sub = none → off = 0 →
        let t := d.readMeets idx
        let v := t.odRead idx sub
        exec (.enwaryRead m idx sub off len) s = ends ((t.readDone.setSession m.sess
          (fun y => { y with snap := some (idx, sub, v) })).answer m ⟨0, addrBlock idx sub 0 (v.take len).length ++ v.take len⟩)) ∧
      (∀ v : List Byte, d.readRefuse x.role idx sub = none → off ≠ 0 → x.snap = some (idx, sub, v) →
        exec (.enwaryRead m idx sub off len) s =
          ends (d.answer m ⟨0, addrBlock idx sub off ((v.drop off).take len).length ++ (v.drop off).take len⟩)) ∧
      (d.readRefuse x.role idx sub = none → off ≠ 0 → x.snap = none →
        exec (.enwaryRead m idx sub off len) s = refuses 0x0A)) ∧
    (∀ len : Nat, len = 0 ∨ 1024 < len → exec (.enwaryRead m idx sub 0 len) s = refuses 0x0D) ∧
    (d.clearRefuse x.role (some x.num) idx sub = none →
      let v := d.odRead idx sub
      exec (.readClear m idx sub) s =
        ends ((d.rwcWrite idx sub (leNat v)).answer m ⟨0, addrBlock idx sub 0 (v.take v.length).length ++ v.take v.length⟩)) ∧
    (∀ c : Nat, d.clearRefuse x.role (some x.num) idx sub = some c → exec (.readClear m idx sub) s = refuses c) ∧
    (idxExists idx = true → subExists idx sub = true →
      exec (.describe m idx sub) s = ends (d.answer m ⟨0, d.describeBytes x.role idx sub⟩)) ∧
    (idxExists idx = false → exec (.describe m idx sub) s = refuses 1) ∧
    (∀ first : Nat, exec (.enumerate m first) s = ends (d.answer m ⟨0,
      (indexesFrom first).flatMap (fun i => leBytes 2 i ++ leBytes 1 (dictTop i) ++ zeros 1)⟩)) ∧
    (∀ bs : List Byte, bs.length ≤ 1024 → let r := d.odTry x.role (some x.num) idx sub bs
      r.2 ≠ resultWaits → exec (.enwaryWrite m idx sub bs) s = ends (r.1.answer m ⟨r.2, addrBlock idx sub 0 bs.length⟩)) ∧
    (∀ total : Nat,
      (d.segRefuse x idx sub total = none → exec (.segBegin m idx sub total) s =
        ends ((d.setSession m.sess (fun y => { y with seg := some (SegXfer.mk idx sub total []) })).answer m
          ⟨0, addrBlock idx sub 0 total⟩)) ∧
      (∀ c : Nat, d.segRefuse x idx sub total = some c → exec (.segBegin m idx sub total) s = refuses c)) ∧
    (∀ (g : SegXfer) (bs : List Byte), x.seg = some g → 1 ≤ bs.length → bs.length ≤ 1024 →
      (g.got.length + bs.length ≤ g.total → exec (.segData m g.got.length bs) s =
        ends ((d.setSession m.sess (fun y => { y with seg := some { g with got := g.got ++ bs } })).answer m
          ⟨0, addrBlock g.idx g.sub g.got.length bs.length⟩)) ∧
      (∀ off : Nat, off ≠ g.got.length → exec (.segData m off bs) s =
        ends ((d.setSession m.sess (fun y => { y with seg := none })).answer m ⟨0x0A, addrBlock g.idx g.sub 0 0⟩))) ∧
    (∀ (g : SegXfer) (crc : Nat), x.seg = some g →
      let t := d.setSession m.sess (fun y => { y with seg := none })
      let r := t.odTry x.role (some x.num) g.idx g.sub g.got
      (g.got.length ≠ g.total → exec (.segEnd m crc) s = ends (t.answer m ⟨0x0A, addrBlock g.idx g.sub 0 0⟩)) ∧
      (g.got.length = g.total → r.2 ≠ resultWaits →
        exec (.segEnd m crc) s = ends (r.1.answer m ⟨r.2, addrBlock g.idx g.sub 0 g.total⟩)))

/-- R430, R447 to R449: the BAR0 mailbox and writes of registers. A mailbox operation leaves RESULT in MB_STATUS and what it read
in MB_DATA; no table opens an RWC entry to the
roles of a mailbox, so a READ_CLEAR ends with the code of the first check that it fails and clears nothing; a placeholder serves reads of 0x0100 only; a register write changes the registers it touches. -/
def Obligations.MailboxAndRegisters : Prop :=
  ∀ (s : State) (f : FnId) (idx sub : Nat),
    let d := s.dev
    let x := d.fn f
    let ends := fun (t : Dev) => (Host.Outcome.next ⟨t, s.pending⟩ : Res)
    (d.mbOpen f → d.served = true →
      (1 ≤ x.mb.count → x.mb.count ≤ 3840 →
        (∀ c : Nat, d.mbBarred f true idx = some c → exec (.mbRead f idx sub) s = ends (d.mbEnd f 0x10 idx sub c id)) ∧
        (d.mbBarred f true idx = none → d.readRefuse (d.mbRole f) idx sub = none →
          let t := d.readMeets idx
          let v := t.odRead idx sub
          exec (.mbRead f idx sub) s =
            ends (t.readDone.mbEnd f 0x10 idx sub 0 (Mbox.returns v.length ((v.drop x.mb.offset).take x.mb.count))))) ∧
      (x.mb.count = 0 → exec (.mbRead f idx sub) s = ends (d.mbEnd f 0x10 idx sub 0x0D id)) ∧
      (∀ bs : List Byte, bs.length ≤ 3840 → d.mbBarred f false idx = none →
        let r := d.odTry (d.mbRole f) none idx sub bs
        let put := fun (y : Mbox) =>
          { y with data := overlay (if y.data.isEmpty then zeros 3840 else y.data) 0 bs, count := bs.length }
        (r.2 = 0 → exec (.mbWrite f idx sub bs) s =
          ends (r.1.mbEnd f 0x11 idx sub 0 (fun y => { put y with entryLen := bs.length }))) ∧
        (r.2 ≠ 0 → r.2 ≠ resultWaits → exec (.mbWrite f idx sub bs) s = ends (r.1.mbEnd f 0x11 idx sub r.2 put))) ∧
      (∀ c : Nat, d.mbBarred f false idx = some c → exec (.mbReadClear f idx sub) s = ends (d.mbEnd f 0x12 idx sub c id)) ∧
      (f.num < 64 → d.mbBarred f false idx = none → ∃ c : Nat, 1 ≤ c ∧ c ≤ 5 ∧ d.clearRefuse (d.mbRole f) none idx sub = some c ∧
        exec (.mbReadClear f idx sub) s = ends (d.mbEnd f 0x12 idx sub c id)) ∧
      (d.mbBarred f false idx = none → idxExists idx = true → subExists idx sub = true →
        exec (.mbDescribe f idx sub) s = ends (d.mbEnd f 0x13 idx sub 0
          (Mbox.returns (entryTy idx sub).len (d.describeBytes (d.mbRole f) idx sub))))) ∧
    (∀ (op c : Nat) (g : Mbox → Mbox), ((d.mbEnd f op idx sub c g).fn f).mb.status = c * 256 ∧
      (d.mbEnd f op idx sub c g).out = d.out ++ [.mbox f c]) ∧
    (d.su.modState ≠ 3 → d.placeholder f = true → idx ≠ 0x100 → d.mbBarred f true idx = some 1 ∧ d.mbBarred f false idx = some 1) ∧
    (∀ (r : Role) (bs : List Byte), d.mayStore r idx sub bs.length (leNat bs) →
      exec (.registerWrite (.dict r idx sub) bs) s = ends (Dev.answered (d.odWrite r idx sub bs))) ∧
    (∀ v : Nat, d.barOpen f → x.aq.enable = false → v < 2 ^ 64 →
      ∃ t : Dev, exec (.registerWrite (.bar0 f 0x1000) (leBytes 8 v)) s = ends t ∧
        (t.fn f).aq = { x.aq with asqBase := v } ∧ t = { d with fns := t.fns }) ∧
    (∀ (off : Nat) (bs : List Byte),
      (d.romMapped = true → exec (.registerWrite (.rom off) bs) s = ends { d with su := d.su.romWrite off bs }) ∧
      (d.romMapped = false → exec (.registerWrite (.rom off) bs) s = ends d) ∧
      (d.cfgOpen f = true → exec (.registerWrite (.config f off) bs) s = ends (d.cfgRegs f off bs)) ∧
      (d.cfgOpen f = false → exec (.registerWrite (.config f off) bs) s = ends d))

/-! ## The management network -/

/-- R445, R446, R450, R467, R468: MCTP control, PLDM and SPDM. An endpoint ID that changes ends the MCTP sessions; a TID and an
event receiver are kept; SPDM goes from version to capabilities to algorithms before anything else is answered. The codes
and layouts are PRESUMED (log entry 55). -/
def Obligations.ManagementNetwork : Prop :=
  ∀ s : State,
    let d := s.dev
    let ends := fun (t : Dev) => (Host.Outcome.next ⟨t, s.pending⟩ : Res)
    (d.served = true →
      (∀ a : Nat, exec (.entdaa a) s = ends { d with mg := { d.mg with i3cAddr := a } }) ∧
      (∀ op e : Nat, op ≤ 1 → 1 ≤ e → e ≤ 254 → exec (.setEndpointId op e) s =
        ends ((if d.rd K.mctpEid = e then d.wr K.mctpEid e else (d.wr K.mctpEid e).endSessions mctpSession).mctp 0 1 0
          (zeros 1 ++ leBytes 1 e ++ zeros 1))) ∧
      (∀ op : Nat, exec (.setEndpointId op 0) s = ends (d.mctp 0 1 2 [])) ∧
      exec .getEndpointId s = ends (d.mctp 0 2 0 (leBytes 1 (d.rd K.mctpEid) ++ zeros 2)) ∧
      exec .getEndpointUuid s = ends (d.mctp 0 3 0 (slice Config.uuid 0 16)) ∧
      exec (.getMctpVersionSupport 0) s = ends (d.mctp 0 4 0 (leBytes 1 1 ++ leBytes 4 0x00FFF3F1)) ∧
      exec (.getMctpVersionSupport 0x02) s = ends (d.mctp 0 4 0x80 []) ∧
      exec .getMessageTypeSupport s = ends (d.mctp 0 5 0 (leBytes 1 3 ++ leBytes 1 1 ++ leBytes 1 5 ++ leBytes 1 0x7E)) ∧
      exec (.getVendorDefinedMessageSupport 0) s = ends (d.mctp 0 6 0
        (leBytes 1 0xFF ++ leBytes 1 0 ++ leBytes 1 0x1F ++ leBytes 1 0x3C ++ leBytes 2 (Config.mctpVersion 0x7E))) ∧
      exec .getTid s = ends (d.mctp 1 2 0 (leBytes 1 d.mg.tid)) ∧
      (∀ t : Nat, 1 ≤ t → t ≤ 254 → exec (.setTid t) s = ends (({ d with mg := { d.mg with tid := t } } : Dev).mctp 1 1 0 [])) ∧
      (∀ t : Nat, t = 0 ∨ t = 2 → exec (.getPldmVersion t) s =
        ends (d.mctp 1 3 0 (zeros 4 ++ leBytes 1 5 ++ leBytes 8 (Config.pldmVersion t)))) ∧
      exec .getPldmTypes s = ends (d.mctp 1 4 0 (leBytes 8 5)) ∧
      exec (.getPldmCommands 0) s = ends (d.mctp 1 5 0 (leBytes 32 0x3E)) ∧
      (∃ bs : List Byte, exec .getPdrRepositoryInfo s = ends (d.mctp 1 0x50 0 bs) ∧ slice bs 27 4 = leBytes 4 11) ∧
      (∀ h : Nat, 1 ≤ h → h ≤ 11 → exec (.getPdr h) s = ends (d.mctp 1 0x51 0 (leBytes 4 (if h = 11 then 0 else h + 1) ++ zeros 4 ++
        leBytes 1 5 ++ leBytes 2 (Config.pdr h).length ++ Config.pdr h))) ∧
      (∀ h : Nat, 11 < h → exec (.getPdr h) s = ends (d.mctp 1 0x51 0x82 [])) ∧
      (∀ i : Nat, 1 ≤ i → i ≤ 10 →
        (∃ bs : List Byte, exec (.getSensorReading i) s = ends (d.drawn.mctp 1 0x11 0 bs) ∧ bs.drop 6 = leBytes 4 (d.sensorWord i)) ∧
        ∃ bs : List Byte, exec (.getSensorThresholds i) s = ends (d.mctp 1 0x12 0 bs) ∧ bs.length = 25) ∧
      exec (.setEventReceiver 0 0) s = ends (({ d with mg := { d.mg with receiver := none } } : Dev).mctp 1 4 0 []) ∧
      (∀ e : Nat, 1 ≤ e → e ≤ 254 → exec (.setEventReceiver 1 e) s =
        ends (({ d with mg := { d.mg with receiver := some e } } : Dev).mctp 1 4 0 [])) ∧
      exec .getVersion s = ends ((d.spdmTo 1).mctp 5 0x84 0 (zeros 1 ++ leBytes 1 1 ++ leBytes 2 0x1300)) ∧
      (1 ≤ d.mg.spdm → exec .getCapabilities s = ends ((d.spdmTo 2).mctp 5 0xE1 0 (leBytes 4 0x16))) ∧
      (2 ≤ d.mg.spdm → exec (.negotiateAlgorithms 0x80 2) s =
        ends ((d.spdmTo 3).mctp 5 0xE3 0 (leBytes 1 1 ++ leBytes 4 0x80 ++ leBytes 4 2))) ∧
      (3 ≤ d.mg.spdm →
        exec .getDigests s = ends (d.mctp 5 0x81 0 (leBytes 1 1 ++ slice (Config.sha384 d.certChain) 0 48)) ∧
        (∀ off len : Nat, off < d.certChain.length → let r := (d.certChain.drop off).take len
          exec (.getCertificate 0 off len) s =
            ends (d.mctp 5 0x82 0 (leBytes 2 r.length ++ leBytes 2 (d.certChain.length - off - r.length) ++ r))) ∧
        (∀ n : Nat, ∃ bs : List Byte, exec (.spdmChallenge 0 n) s = ends (d.drawn.mctp 5 0x83 0 bs)) ∧
        (∀ (op n : Nat) (sign : Bool), op ≤ 7 ∨ op = 255 → ∃ bs : List Byte,
          exec (.getMeasurements op sign n) s = ends (d.drawn.mctp 5 0xE0 0 bs))) ∧
      (d.mg.spdm < 3 → exec .getDigests s = ends (d.mctp 5 0x81 4 []) ∧
        ∀ (op n : Nat) (sign : Bool), exec (.getMeasurements op sign n) s = ends (d.mctp 5 0xE0 4 []))) ∧
    (d.served = false → exec .getTid s = ends d ∧ exec .getVersion s = ends d ∧ exec .getEndpointId s = ends d)

/-! ## Start-up, images and power -/

/-- R30, R453 to R459: starts, resets and their timers. PERST# released or RESTART begins a start, which counts, draws the pair
point and shows MODULE_STATE 1; each stage that ends leads to the next and the last one to operational service; a failed
start records its reason and is tried again; PERST# asserted puts the module in standby. -/
def Obligations.StartCourse : Prop :=
  ∀ (s : State) (role : Role),
    let d := s.dev
    let ends := fun (t : Dev) => (Host.Outcome.next ⟨t, s.pending⟩ : Res)
    (d.su.perst = true → exec .perstAssert s = ends d ∧
      (let t : Dev := { d with su := { d.su with perst := false } }
       exec .perstDeassert s = ends (if d.su.standby then t.beginStart else t))) ∧
    (d.su.perst = false → exec .perstAssert s = ends d.perstOn ∧ exec .perstDeassert s = ends d) ∧
    (d.mayStore role 0x300 0x0F (entryTy 0x300 0x0F).len 1 →
      (d.su.modState ≠ 1 → d.su.perst = false → exec (.restart role 1) s = ends (d.beginStart.result 0)) ∧
      (d.su.modState = 1 ∨ d.su.perst = true → exec (.restart role 1) s = ends (d.result 8))) ∧
    (d.mayStore role 0x300 0x01 (entryTy 0x300 0x01).len 0 →
      exec (.startFailCount role 0) s = ends ((d.wr K.startFailCount 0).result 0)) ∧
    (d.su.modState = 1 →
      (∀ c : Nat, exec (.startStageDone (.failed c)) s = ends (d.startFail c)) ∧
      (∀ l : List Nat, exec (.startStageDone (.done l)) s = ends (d.stageDone l)) ∧
      exec .startTimeout s = ends (d.startFail 1) ∧ exec .stageWatchdog s = ends (d.startFail 2)) ∧
    (d.su.modState ≠ 1 → exec .startTimeout s = ends d ∧ exec .stageWatchdog s = ends d ∧
      ∀ r : StageResult, exec (.startStageDone r) s = ends d) ∧
    (d.su.retry = true → d.su.perst = false → d.su.standby = true → exec .startRetryTimer s = ends d.beginStart) ∧
    (d.su.retry = false → exec .startRetryTimer s = ends d) ∧
    (let t := d.beginStart
     t.su.modState = 1 ∧ t.su.stage = 1 ∧ t.su.retry = false ∧ t.mm = { Mm.reset with flashRetired := d.mm.flashRetired } ∧
     t.chs = Chs.reset ∧ t.coh = Coh.reset ∧ t.fns = [] ∧ t.tags = []) ∧
    (∀ c : Nat, let t := d.startFail c
      t.su.retry = true ∧ t.su.priorFailed = true ∧ t.rd K.lastFailReason = c ∧ t.su.modState = 0 ∧ t.ports = []) ∧
    (d.perstOn.su.modState = 0 ∧ d.perstOn.su.perst = true ∧ d.perstOn.fns = []) ∧
    (∀ l : List Nat,
      (d.su.stage = 1 → d.su.snow = false → (d.stageDone l).su.mains = true ∧ (d.stageDone l).su.stage = 2) ∧
      (d.su.stage = 1 → d.su.snow = true → (d.stageDone l).su.modState = 3 ∧ (d.stageDone l).su.romOpen = true) ∧
      (d.su.stage = 2 → (d.stageDone l).su.stage = 3) ∧ (d.su.stage = 3 → (d.stageDone l).su.stage = 4) ∧
      (d.su.stage = 4 → (d.stageDone l).su.stage = 5) ∧ (d.su.stage = 5 → (d.stageDone l).su.stage = 6) ∧
      (d.su.stage = 6 → (d.stageDone l).su.modState = 2 ∧ (d.stageDone l).su.stage = 7 ∧
        (d.stageDone l).rd K.startFailCount = 0))

/-- R461 to R465, R469, R470, R472: updates, recovery and credentials. UPDATE_BEGIN erases the slot that is not active, data follow
one another without gaps, a commit verifies the slot and makes it PENDING or leaves its code; MIN_SVN only rises; the
recovery commands do the same in Snowdrop alone; a credential slot written ends its sessions. -/
def Obligations.ImagesAndRecovery : Prop :=
  ∀ (s : State) (role : Role),
    let d := s.dev
    let ends := fun (t : Dev) => (Host.Outcome.next ⟨t, s.pending⟩ : Res)
    let may := fun (idx sub v : Nat) => d.mayStore role idx sub (entryTy idx sub).len v
    let refused := fun (code : Nat) => ends ((d.wr K.updateResult code).result 8)
    (∀ len : Nat, may 0x300 0x12 len → 5248 ≤ len → len ≤ 58720256 →
      (d.slotIs (1 - d.active) .trial = true → exec (.updateBegin role len) s = refused 8) ∧
      (d.slotIs (1 - d.active) .trial = false → ∃ t : Dev, exec (.updateBegin role len) s = ends (t.result 0) ∧
        t.su.upd = some ⟨1 - d.active, len, false, 0⟩ ∧ t.imgSlot (1 - d.active) = Slot.reset ∧ t.rd K.updateState = 1 ∧
        t.mm = d.mm)) ∧
    (∀ u : Upd, d.su.upd = some u → u.erased = false → ∃ t : Dev, exec .updateEraseDone s = ends t ∧
      t.su.upd = some { u with erased := true } ∧ t.rd K.updateState = 2 ∧ bit t.su.rresult 0 = false) ∧
    (d.su.upd = none → exec .updateEraseDone s = ends d) ∧
    (∀ bs : List Byte, d.mayStore role 0x300 0x14 bs.length 0 →
      (d.su.upd = none → exec (.updateData role bs) s = refused 6) ∧
      (∀ u : Upd, d.su.upd = some u → u.erased = false → exec (.updateData role bs) s = refused 6) ∧
      (∀ u : Upd, d.su.upd = some u → u.erased = true →
        (d.rd K.updateOffset ≠ u.off ∨ u.len < d.rd K.updateOffset + bs.length → exec (.updateData role bs) s = refused 5) ∧
        (d.rd K.updateOffset = u.off → u.off + bs.length ≤ u.len → u.slot ≤ 1 → ∃ t : Dev,
          exec (.updateData role bs) s = ends (t.result 0) ∧ t.rd K.updateOffset = u.off + bs.length ∧
          t.su.upd = some { u with off := u.off + bs.length } ∧
          (t.imgSlot u.slot).bytes = (d.imgSlot u.slot).bytes ++ bs))) ∧
    (may 0x300 0x15 1 →
      (d.su.upd = none → exec (.updateCommit role 1) s = refused 6) ∧
      (∀ u : Upd, d.su.upd = some u → u.erased = true →
        (verifyImage (d.imgSlot u.slot).bytes u.len (d.rd K.minSvn) ≠ 0 →
          exec (.updateCommit role 1) s = refused (verifyImage (d.imgSlot u.slot).bytes u.len (d.rd K.minSvn))) ∧
        (verifyImage (d.imgSlot u.slot).bytes u.len (d.rd K.minSvn) = 0 → ∃ t : Dev,
          exec (.updateCommit role 1) s = ends (t.result 0) ∧ (t.imgSlot u.slot).st = .pending ∧ t.su.upd = none ∧
          t.rd K.startFailCount = 0 ∧ t.rd K.updateResult = 0 ∧ t.rd K.updateState = 4 ∧ t.mm = d.mm))) ∧
    (may 0x300 0x0D 1 →
      (d.operational = true → d.slotIs d.su.runSlot .trial = true →
        exec (.imageConfirm role 1) s = ends (((d.slotTo d.su.runSlot .valid).wr K.activeSlot d.su.runSlot).result 0)) ∧
      (d.operational = false ∨ d.slotIs d.su.runSlot .trial = false → exec (.imageConfirm role 1) s = ends (d.result 8))) ∧
    (∀ v : Nat, may 0x300 0x18 v →
      (v < d.rd K.minSvn ∨ (d.rd K.minSvn < v ∧ d.runningSvn < v) → exec (.minSvn role v) s = ends (d.result 8)) ∧
      (d.rd K.minSvn ≤ v → v ≤ d.runningSvn → exec (.minSvn role v) s = ends
        (({ d.wr K.minSvn v with su := { d.su with slotA := d.su.slotA.shutOut v, slotB := d.su.slotB.shutOut v } } : Dev).result 0))) ∧
    (d.su.modState = 3 → bit d.su.rresult 0 = false →
      (d.su.rarg1 ≤ 1 → 5248 ≤ d.su.rarg0 → d.su.rarg0 ≤ 58720256 → ∃ t : Dev, exec .recoveryBegin s = ends t ∧
        t.su.upd = some ⟨d.su.rarg1, d.su.rarg0, false, 0⟩ ∧ t.su.rresult = 1 ∧ t.su.rcmd = 1) ∧
      (∀ u : Upd, d.su.upd = some u → u.erased = true → u.slot ≤ 1 → d.su.rarg1 ≤ 983040 → d.su.rarg0 = u.off →
        u.off + d.su.rarg1 ≤ u.len → ∃ t : Dev, exec .recoveryWrite s = ends t ∧
          (t.imgSlot u.slot).bytes = (d.imgSlot u.slot).bytes ++ d.rbufBytes d.su.rarg1 ∧ t.su.rresult = 0) ∧
      (∀ u : Upd, d.su.upd = some u → u.erased = true →
        verifyImage (d.imgSlot u.slot).bytes u.len (d.rd K.minSvn) = 0 → ∃ t : Dev, exec .recoveryCommit s = ends t ∧
          (t.imgSlot u.slot).st = .pending ∧ t.rd K.startFailCount = 0 ∧ t.su.rresult = 0) ∧
      (∃ t : Dev, exec .recoveryRestart s = ends t ∧ t.su.recRestart = true ∧ t.mm = d.mm) ∧
      (∃ t : Dev, exec .clearFails s = ends t ∧ t.rd K.startFailCount = 0 ∧ t.su.rcmd = 5 ∧ t.mm = d.mm)) ∧
    (d.su.modState ≠ 3 ∨ bit d.su.rresult 0 = true → exec .recoveryBegin s = ends d ∧ exec .recoveryWrite s = ends d ∧
      exec .recoveryCommit s = ends d ∧ exec .recoveryRestart s = ends d ∧ exec .clearFails s = ends d) ∧
    (exec .recoveryRestartTimer s = ends (if d.su.recRestart then d.beginStart else d)) ∧
    (∀ (n : Nat) (bs : List Byte), d.mayStore role 0x400 (n + 4) bs.length 0 →
      (bs.length = 98 → leAt bs 0 1 = 1 ∨ leAt bs 0 1 = 2 → exec (.credSlot role n bs) s =
        ends ((({ d with su := { d.su with creds := kput n bs d.su.creds } } : Dev).endSessions (fun x => x.slot == n)).result 0)) ∧
      (bs = [] → exec (.credSlot role n bs) s =
        ends ((({ d with su := { d.su with creds := kdel n d.su.creds } } : Dev).endSessions (fun x => x.slot == n)).result 0)) ∧
      (bs ≠ [] → bs.length ≠ 98 → exec (.credSlot role n bs) s = ends (d.result 7))) ∧
    (∀ bs : List Byte, d.mayStore role 0x400 0x0D bs.length 0 → exec (.pairPeer role bs) s =
      ends (if Config.peerOk bs then ({ d.wr K.pairKeyState 1 with su := { d.su with pairPeer := bs } } : Dev).result 0
        else d.result 8)) ∧
    (d.su.mains = true → exec .entropyHealthFailure s =
      ends { d.inc K.entropyFailures with su := { d.su with entropyBad := true } }) ∧
    (d.su.mains = false → exec .entropyHealthFailure s = ends d)

/-- R480 to R485, R490: power and thermal events. A supply out of range or a lost PLL lock takes the main rails down; standby
power lost ends what Larkspur holds; a power window above POWER_CAP raises the demand by one level, the tenth in a row below
95 % of it lowers it; the throttle level is the highest demand; a shutdown threshold takes the rails down. -/
def Obligations.PowerEvents : Prop :=
  ∀ (s : State) (role : Role),
    let d := s.dev
    let ends := fun (t : Dev) => (Host.Outcome.next ⟨t, s.pending⟩ : Res)
    exec .inputUndervoltage s = ends d.railsDown ∧ exec .pllLockLoss s = ends d.railsDown ∧
    (d.su.mains = true → d.railsDown.su.mains = false ∧ d.railsDown.su.modState = 0 ∧ d.railsDown.fns = [] ∧
      d.railsDown.su.retry = false) ∧
    (d.su.mains = false → d.su.modState ≠ 1 → d.railsDown = d) ∧
    (∃ t : Dev, exec .standbyPowerLoss s = ends t ∧ (d.su.standby = true → t.mg = Mg.reset ∧ t.pw = Pw.reset ∧
      t.su.standby = false ∧ t.served = false ∧ (d.su.mains = false → d.su.modState ≠ 1 → t.er.log = d.er.nor))) ∧
    (d.su.standby = false → ∃ t : Dev, exec .standbyPowerRestored s = ends t ∧ t.su.standby = true ∧
      t.mg.netPending = false ∧ t.mg.netMode = d.rd K.ipv4Mode ∧ t.mm = d.mm) ∧
    (d.su.standby = true → exec .standbyPowerRestored s = ends d) ∧
    (∀ w : Nat, d.su.mains = true → ∃ t : Dev, exec (.powerWindow w) s = ends t ∧
      t.sensor 9 = some (.reads (1000 * w)) ∧
      (d.rd K.powerCap < w → t.pw.demand = Min.min 3 (d.pw.demand + 1) ∧ t.pw.lowWins = 0) ∧
      (w ≤ d.rd K.powerCap → d.rd K.powerCap * 95 ≤ w * 100 → t.pw.demand = d.pw.demand ∧ t.pw.lowWins = 0) ∧
      (w * 100 < d.rd K.powerCap * 95 → d.pw.lowWins < 9 → t.pw.demand = d.pw.demand ∧ t.pw.lowWins = d.pw.lowWins + 1) ∧
      (w * 100 < d.rd K.powerCap * 95 → 9 ≤ d.pw.lowWins → t.pw.demand = d.pw.demand - 1 ∧ t.pw.lowWins = 0) ∧
      t.rd K.throttleLevel = t.throttleLevel ∧ t.mm = d.mm) ∧
    (∀ v : Nat, d.mayStore role 0x3000 0x0A (entryTy 0x3000 0x0A).len v → v ≤ 3 →
      exec (.throttleForce role v) s = ends (((d.wr K.throttleForce v).updThrottle).result 0) ∧
      (d.wr K.throttleForce v).updThrottle.rd K.throttleLevel = (d.wr K.throttleForce v).throttleLevel ∧
      v ≤ (d.wr K.throttleForce v).throttleLevel) ∧
    (∀ (i : Nat) (v : SensorVal), d.su.standby = true → 1 ≤ i → i ≤ 10 →
      exec (.sensorThreshold i v) s = ends (d.sensorReads i v) ∧
      (sensorShutdown i v = false →
        (d.sensorReads i v).sensor i = some v ∧ (d.sensorReads i v).mm = d.mm ∧
        (d.sensorReads i v).rd K.throttleLevel = (d.sensorReads i v).throttleLevel) ∧
      (sensorShutdown i v = true → d.su.mains = true → (d.sensorReads i v).su.mains = false ∧
        (d.sensorReads i v).flag K.thermalTripped = true)) ∧
    d.throttleLevel ≤ 3

/-! ## Rules of their own -/

/-- R46: an epoch end decrements a HINT_TIME above 1 by one, and leaves one of 1 or 0. -/
def Obligations.HintTimeCountsDown : Prop :=
  ∀ (s : State) (part n : Nat) (o : Obj), s.dev.operational = true → s.dev.obj part n = some o →
    ∃ t : Dev, exec .epochEnd s = .next ⟨t, s.pending⟩ ∧ ∃ o' : Obj, t.obj part n = some o' ∧
      pdHint o'.desc = (if 1 < pdHint o.desc then pdHint o.desc - 1 else pdHint o.desc)

/-- R283, R284: a write of CAP of 0 or of at least the budget is accepted, whatever the room; any other is refused. While a factor
is below 1 a write that raises a budget on its resource is refused, one that lowers it is accepted, and the next refill
computes the factor from the budgets as they then are. -/
def Obligations.CapsAndDegradedBudgets : Prop :=
  ∀ (s : State) (role : Role) (res cls v : Nat), res < 4 →
    let d := s.dev
    let ends := fun (t : Dev) => (Host.Outcome.next ⟨t, s.pending⟩ : Res)
    (d.mayStore role (0x906 + res) (cls + 1) (entryTy (0x906 + res) (cls + 1)).len v →
      (v = 0 ∨ d.budget res cls ≤ v → exec (.capWrite role res cls v) s = ends ((d.wr (K.capT1 + res * 256 + cls) v).result 0)) ∧
      (v ≠ 0 → v < d.budget res cls → exec (.capWrite role res cls v) s = ends (d.result 8))) ∧
    (d.mayStore role (0x902 + res) (cls + 1) (entryTy (0x902 + res) (cls + 1)).len v →
      (d.factor res).1 < (d.factor res).2 →
      (d.budget res cls < v → exec (.budgetWrite role res cls v) s = ends (d.result 8)) ∧
      (v < d.budget res cls → d.cap res cls = 0 ∨ v ≤ d.cap res cls →
        exec (.budgetWrite role res cls v) s = ends ((d.wr (K.budgetT1 + res * 256 + cls) v).result 0))) ∧
    (let room := roomOf (d.delivNow res) (d.rd K.q0ReservePct)
     (d.refillRes res).factor res =
       (if d.budgetSum res none ≤ room then (1, 1) else (room, d.budgetSum res none)))

/-- R255, R272, Table 08.2: a 32-bit word spells an instruction of a stage program exactly when the verifier finds it defined, and that
instruction is well formed, with its program's cluster in every one.
R184, Tables 06.3 and 06.4: the 64 bytes of an admin command spell a well-formed command from its function, with its CID; an opcode
of neither table spells an unknown one.
R347, Table 11.11: the header of a UBL message written as its 128-bit word and read back is the same header. The bytes of a load, a
store or a coherence request spell that request, with every field of its header.
Written-out words of the manual: the TMMA of the example of Table 05.6 and the RD_SHARED of the worked example after Table 11.13. -/
def Obligations.WordsOfCommands : Prop :=
  (∀ (c w : Nat) (ecc : Ecc) (res : Residue) (dup : DupCheck), w < 2 ^ 32 →
    (decodeStage c ecc res dup w).isSome = insnDefined w ∧
    ∀ i : Instr, decodeStage c ecc res dup w = some i → c < 256 → wellFormed i = true) ∧
  (∀ (f : FnId) (bs : List Byte), f.wf = true → bs.length = 64 →
    wellFormed (decodeAdmin f bs) = true ∧
    (adminFields (leAt bs 0 1) = none →
      decodeAdmin f bs = .unknownAdminOpcode ⟨f, leAt bs 2 2, false, 0⟩ (leAt bs 0 1))) ∧
  (∀ h : UblHdr, h.op < 2 ^ 8 → h.dst < 2 ^ 20 → h.src < 2 ^ 20 → h.off < 2 ^ 48 → h.tag < 2 ^ 12 → h.pool < 2 ^ 4 → h.lockId < 2 ^ 4 →
    h.status < 2 ^ 8 → ublWord h < 2 ^ 128 ∧ ublHdr (ublWord h) = h ∧
    ∀ (port : Nat) (med : Med) (np : Bool) (pay : List Byte),
      let spells := fun (i : Instr) => ublMessage port med np (leBytes 16 (ublWord h) ++ pay) = some i
      (h.op = 0x01 → pay = [] → spells (.rdUncached (h.req port) med)) ∧
      (h.op = 0x02 → pay = [] → spells (.rdShared (h.req port) med)) ∧
      (h.op = 0x03 → pay = [] → spells (.rdOwn (h.req port) med)) ∧
      (h.op = 0x08 → pay.length = 72 → spells (.wrUncached (h.req port) (BitVec.ofNat 64 (leAt pay 0 8)) (pay.drop 8) med)) ∧
      (h.op = 0x09 → pay.length = 64 → spells (.wrBack (h.req port) pay)) ∧
      (h.op = 0x0A → pay = [] → spells (.evict (h.req port))) ∧
      (h.op = 0x11 → pay = [] → spells (.resp port h.tag h.status)) ∧
      (h.op = 0x1A → pay = [] → spells (.recallAck port h.tag)) ∧
      (h.op = 0x1B → pay.length = 64 → spells (.recallData port h.tag pay)) ∧
      (h.op = 0x20 → pay.length = 16 → spells (.doorbell port h.dst (leAt pay 0 4) (leAt pay 8 8)))) ∧
  decodeStage 5 .ok .pass .agree 0x4200A5F0 = some (.tmma 5 0 0 10 11 8 0 .pass .ok) ∧
  ublMessage 4 .good false (leBytes 8 0xB000004001530000 ++ leBytes 8 0x0200A05421C70013) =
    some (.rdShared ⟨4, 0x421C7, 0x00A05, 0x13B0000040, 0x015, 3, false, false, 0, false⟩ .good)

/-- No command stops the block: every command, whatever the state, ends in a next state and leaves the commands that wait as they
are. So every run is safe, and it takes the commands one a step, first in, first out. -/
def Obligations.RunsNeverStop : Prop :=
  (∀ (c : Instr) (s : State), ∃ d : Dev, exec c s = .next ⟨d, s.pending⟩) ∧
  (∀ (k : Nat) (s : State), SafeRun k s ∧ ∀ t : State, core.run k s = .next t → t.pending = s.pending.drop k)
end

