-- ==== Sys2Proof/Laws/Keyed.lean ====
section
/-! SUPPORT. Keyed lists: what a key reads after an entry is put in, deleted or changed. None of it needs the list sorted. -/

namespace Sys2Proof.Machine

variable {α : Type}

/-! ## An entry put in -/

@[simp] theorem kfind_kput_self (k : Nat) (v : α) (m : List (Nat × α)) : kfind k (kput k v m) = some v := by
  induction m with
  | nil => simp [kput, kfind]
  | cons e r ih =>
    simp only [kput]
    split
    · simp [kfind]
    · split
      · simp [kfind]
      · rename_i h1 h2; simp [kfind, h2, ih]

@[simp] theorem kfind_kput_ne {j k : Nat} (v : α) (m : List (Nat × α)) (h : j ≠ k) : kfind j (kput k v m) = kfind j m := by
  induction m with
  | nil => simp [kput, kfind, h]
  | cons e r ih =>
    obtain ⟨a, b⟩ := e
    simp only [kput]
    split
    · simp [kfind, h]
    · split
      · rename_i h1 h2
        subst h2
        simp [kfind, h]
      · simp [kfind, ih]

theorem kget_eq_kfind (d : α) (k : Nat) (m : List (Nat × α)) : kget d k m = (kfind k m).getD d := by
  induction m with
  | nil => rfl
  | cons e r ih =>
    obtain ⟨a, b⟩ := e
    simp only [kget, kfind]
    split <;> simp [ih]

@[simp] theorem kget_kput_self (d : α) (k : Nat) (v : α) (m : List (Nat × α)) : kget d k (kput k v m) = v := by
  simp [kget_eq_kfind]

@[simp] theorem kget_kput_ne (d : α) {j k : Nat} (v : α) (m : List (Nat × α)) (h : j ≠ k) :
    kget d j (kput k v m) = kget d j m := by simp [kget_eq_kfind, h]

/-! ## Entries deleted or kept -/

@[simp] theorem kfind_kdel_self (k : Nat) (m : List (Nat × α)) : kfind k (kdel k m) = none := by
  induction m with
  | nil => rfl
  | cons e r ih =>
    obtain ⟨a, b⟩ := e
    by_cases h : a = k
    · subst h; simpa [kdel] using ih
    · have : k ≠ a := fun x => h x.symm
      simpa [kdel, h, kfind, this] using ih

@[simp] theorem kfind_kdel_ne {j k : Nat} (m : List (Nat × α)) (h : j ≠ k) : kfind j (kdel k m) = kfind j m := by
  induction m with
  | nil => rfl
  | cons e r ih =>
    obtain ⟨a, b⟩ := e
    by_cases ha : a = k
    · subst ha; simpa [kdel, kfind, h] using ih
    · by_cases hj : j = a
      · subst hj; simp [kdel, ha, kfind]
      · simpa [kdel, ha, kfind, hj] using ih

@[simp] theorem kget_kdel_self (d : α) (k : Nat) (m : List (Nat × α)) : kget d k (kdel k m) = d := by simp [kget_eq_kfind]

@[simp] theorem kget_kdel_ne (d : α) {j k : Nat} (m : List (Nat × α)) (h : j ≠ k) : kget d j (kdel k m) = kget d j m := by
  simp [kget_eq_kfind, h]

theorem kfind_filter_of {p : Nat × α → Bool} {k : Nat} {m : List (Nat × α)} (h : ∀ v, p (k, v) = true) :
    kfind k (m.filter p) = kfind k m := by
  induction m with
  | nil => rfl
  | cons e r ih =>
    obtain ⟨a, b⟩ := e
    by_cases ha : k = a
    · subst ha; simp [h b, kfind]
    · by_cases hp : p (a, b) = true
      · simp [hp, kfind, ha, ih]
      · simp [hp, kfind, ha, ih]

/-! ## Entries changed -/

theorem kfind_map (f : Nat → α → α) (k : Nat) (m : List (Nat × α)) :
    kfind k (m.map (fun e => (e.1, f e.1 e.2))) = (kfind k m).map (f k) := by
  induction m with
  | nil => rfl
  | cons e r ih =>
    obtain ⟨a, b⟩ := e
    by_cases ha : k = a
    · subst ha; simp [kfind]
    · simpa [kfind, ha] using ih

@[simp] theorem kfind_kmod_self (k : Nat) (f : α → α) (m : List (Nat × α)) : kfind k (kmod k f m) = (kfind k m).map f := by
  induction m with
  | nil => rfl
  | cons e r ih =>
    obtain ⟨a, b⟩ := e
    by_cases ha : a = k
    · subst ha; simp [kmod, kfind]
    · have : k ≠ a := fun x => ha x.symm
      simpa [kmod, kfind, ha, this] using ih

@[simp] theorem kfind_kmod_ne {j k : Nat} (f : α → α) (m : List (Nat × α)) (h : j ≠ k) : kfind j (kmod k f m) = kfind j m := by
  induction m with
  | nil => rfl
  | cons e r ih =>
    obtain ⟨a, b⟩ := e
    by_cases ha : a = k
    · subst ha; simpa [kmod, kfind, h] using ih
    · by_cases hj : j = a
      · subst hj; simp [kmod, ha, kfind]
      · simpa [kmod, kfind, ha, hj] using ih

theorem kfind_mem {k : Nat} {v : α} {m : List (Nat × α)} (h : kfind k m = some v) : (k, v) ∈ m := by
  induction m with
  | nil => simp [kfind] at h
  | cons e r ih =>
    obtain ⟨a, b⟩ := e
    simp only [kfind] at h
    split at h
    · rename_i ha; cases h; subst ha; exact List.mem_cons_self
    · exact List.mem_cons_of_mem _ (ih h)

end Sys2Proof.Machine
end

