-- ==== Sys2Proof/Laws/State.lean ====
section
/-! SUPPORT. One lemma per field of the device for each of its updates, and reading back what an update wrote. -/

namespace Sys2Proof.Machine

/-! ## Dev.wr -/

@[simp] theorem Dev.wr_od (d : Dev) (k v : Nat) : (d.wr k v).od = kput k v d.od := rfl
@[simp] theorem Dev.wr_out (d : Dev) (k v : Nat) : (d.wr k v).out = d.out := rfl
@[simp] theorem Dev.wr_fresh (d : Dev) (k v : Nat) : (d.wr k v).fresh = d.fresh := rfl
@[simp] theorem Dev.wr_mm (d : Dev) (k v : Nat) : (d.wr k v).mm = d.mm := rfl
@[simp] theorem Dev.wr_coh (d : Dev) (k v : Nat) : (d.wr k v).coh = d.coh := rfl
@[simp] theorem Dev.wr_chs (d : Dev) (k v : Nat) : (d.wr k v).chs = d.chs := rfl
@[simp] theorem Dev.wr_cl (d : Dev) (k v : Nat) : (d.wr k v).cl = d.cl := rfl
@[simp] theorem Dev.wr_lmap (d : Dev) (k v : Nat) : (d.wr k v).lmap = d.lmap := rfl
@[simp] theorem Dev.wr_progs (d : Dev) (k v : Nat) : (d.wr k v).progs = d.progs := rfl
@[simp] theorem Dev.wr_pipes (d : Dev) (k v : Nat) : (d.wr k v).pipes = d.pipes := rfl
@[simp] theorem Dev.wr_fns (d : Dev) (k v : Nat) : (d.wr k v).fns = d.fns := rfl
@[simp] theorem Dev.wr_ports (d : Dev) (k v : Nat) : (d.wr k v).ports = d.ports := rfl
@[simp] theorem Dev.wr_tags (d : Dev) (k v : Nat) : (d.wr k v).tags = d.tags := rfl
@[simp] theorem Dev.wr_nextTag (d : Dev) (k v : Nat) : (d.wr k v).nextTag = d.nextTag := rfl
@[simp] theorem Dev.wr_bays (d : Dev) (k v : Nat) : (d.wr k v).bays = d.bays := rfl
@[simp] theorem Dev.wr_bw (d : Dev) (k v : Nat) : (d.wr k v).bw = d.bw := rfl
@[simp] theorem Dev.wr_er (d : Dev) (k v : Nat) : (d.wr k v).er = d.er := rfl
@[simp] theorem Dev.wr_pr (d : Dev) (k v : Nat) : (d.wr k v).pr = d.pr := rfl
@[simp] theorem Dev.wr_mg (d : Dev) (k v : Nat) : (d.wr k v).mg = d.mg := rfl
@[simp] theorem Dev.wr_su (d : Dev) (k v : Nat) : (d.wr k v).su = d.su := rfl
@[simp] theorem Dev.wr_pw (d : Dev) (k v : Nat) : (d.wr k v).pw = d.pw := rfl

/-! ## Dev.emit -/

@[simp] theorem Dev.emit_od (d : Dev) (o : Out) : (d.emit o).od = d.od := rfl
@[simp] theorem Dev.emit_out (d : Dev) (o : Out) : (d.emit o).out = d.out ++ [o] := rfl
@[simp] theorem Dev.emit_fresh (d : Dev) (o : Out) : (d.emit o).fresh = d.fresh := rfl
@[simp] theorem Dev.emit_mm (d : Dev) (o : Out) : (d.emit o).mm = d.mm := rfl
@[simp] theorem Dev.emit_coh (d : Dev) (o : Out) : (d.emit o).coh = d.coh := rfl
@[simp] theorem Dev.emit_chs (d : Dev) (o : Out) : (d.emit o).chs = d.chs := rfl
@[simp] theorem Dev.emit_cl (d : Dev) (o : Out) : (d.emit o).cl = d.cl := rfl
@[simp] theorem Dev.emit_lmap (d : Dev) (o : Out) : (d.emit o).lmap = d.lmap := rfl
@[simp] theorem Dev.emit_progs (d : Dev) (o : Out) : (d.emit o).progs = d.progs := rfl
@[simp] theorem Dev.emit_pipes (d : Dev) (o : Out) : (d.emit o).pipes = d.pipes := rfl
@[simp] theorem Dev.emit_fns (d : Dev) (o : Out) : (d.emit o).fns = d.fns := rfl
@[simp] theorem Dev.emit_ports (d : Dev) (o : Out) : (d.emit o).ports = d.ports := rfl
@[simp] theorem Dev.emit_tags (d : Dev) (o : Out) : (d.emit o).tags = d.tags := rfl
@[simp] theorem Dev.emit_nextTag (d : Dev) (o : Out) : (d.emit o).nextTag = d.nextTag := rfl
@[simp] theorem Dev.emit_bays (d : Dev) (o : Out) : (d.emit o).bays = d.bays := rfl
@[simp] theorem Dev.emit_bw (d : Dev) (o : Out) : (d.emit o).bw = d.bw := rfl
@[simp] theorem Dev.emit_er (d : Dev) (o : Out) : (d.emit o).er = d.er := rfl
@[simp] theorem Dev.emit_pr (d : Dev) (o : Out) : (d.emit o).pr = d.pr := rfl
@[simp] theorem Dev.emit_mg (d : Dev) (o : Out) : (d.emit o).mg = d.mg := rfl
@[simp] theorem Dev.emit_su (d : Dev) (o : Out) : (d.emit o).su = d.su := rfl
@[simp] theorem Dev.emit_pw (d : Dev) (o : Out) : (d.emit o).pw = d.pw := rfl

/-! ## Dev.emits -/

@[simp] theorem Dev.emits_od (d : Dev) (os : List Out) : (d.emits os).od = d.od := rfl
@[simp] theorem Dev.emits_out (d : Dev) (os : List Out) : (d.emits os).out = d.out ++ os := rfl
@[simp] theorem Dev.emits_fresh (d : Dev) (os : List Out) : (d.emits os).fresh = d.fresh := rfl
@[simp] theorem Dev.emits_mm (d : Dev) (os : List Out) : (d.emits os).mm = d.mm := rfl
@[simp] theorem Dev.emits_coh (d : Dev) (os : List Out) : (d.emits os).coh = d.coh := rfl
@[simp] theorem Dev.emits_chs (d : Dev) (os : List Out) : (d.emits os).chs = d.chs := rfl
@[simp] theorem Dev.emits_cl (d : Dev) (os : List Out) : (d.emits os).cl = d.cl := rfl
@[simp] theorem Dev.emits_lmap (d : Dev) (os : List Out) : (d.emits os).lmap = d.lmap := rfl
@[simp] theorem Dev.emits_progs (d : Dev) (os : List Out) : (d.emits os).progs = d.progs := rfl
@[simp] theorem Dev.emits_pipes (d : Dev) (os : List Out) : (d.emits os).pipes = d.pipes := rfl
@[simp] theorem Dev.emits_fns (d : Dev) (os : List Out) : (d.emits os).fns = d.fns := rfl
@[simp] theorem Dev.emits_ports (d : Dev) (os : List Out) : (d.emits os).ports = d.ports := rfl
@[simp] theorem Dev.emits_tags (d : Dev) (os : List Out) : (d.emits os).tags = d.tags := rfl
@[simp] theorem Dev.emits_nextTag (d : Dev) (os : List Out) : (d.emits os).nextTag = d.nextTag := rfl
@[simp] theorem Dev.emits_bays (d : Dev) (os : List Out) : (d.emits os).bays = d.bays := rfl
@[simp] theorem Dev.emits_bw (d : Dev) (os : List Out) : (d.emits os).bw = d.bw := rfl
@[simp] theorem Dev.emits_er (d : Dev) (os : List Out) : (d.emits os).er = d.er := rfl
@[simp] theorem Dev.emits_pr (d : Dev) (os : List Out) : (d.emits os).pr = d.pr := rfl
@[simp] theorem Dev.emits_mg (d : Dev) (os : List Out) : (d.emits os).mg = d.mg := rfl
@[simp] theorem Dev.emits_su (d : Dev) (os : List Out) : (d.emits os).su = d.su := rfl
@[simp] theorem Dev.emits_pw (d : Dev) (os : List Out) : (d.emits os).pw = d.pw := rfl

/-! ## Dev.result -/

@[simp] theorem Dev.result_od (d : Dev) (c : Nat) : (d.result c).od = d.od := rfl
@[simp] theorem Dev.result_out (d : Dev) (c : Nat) : (d.result c).out = d.out ++ [.result c] := rfl
@[simp] theorem Dev.result_fresh (d : Dev) (c : Nat) : (d.result c).fresh = d.fresh := rfl
@[simp] theorem Dev.result_mm (d : Dev) (c : Nat) : (d.result c).mm = d.mm := rfl
@[simp] theorem Dev.result_coh (d : Dev) (c : Nat) : (d.result c).coh = d.coh := rfl
@[simp] theorem Dev.result_chs (d : Dev) (c : Nat) : (d.result c).chs = d.chs := rfl
@[simp] theorem Dev.result_cl (d : Dev) (c : Nat) : (d.result c).cl = d.cl := rfl
@[simp] theorem Dev.result_lmap (d : Dev) (c : Nat) : (d.result c).lmap = d.lmap := rfl
@[simp] theorem Dev.result_progs (d : Dev) (c : Nat) : (d.result c).progs = d.progs := rfl
@[simp] theorem Dev.result_pipes (d : Dev) (c : Nat) : (d.result c).pipes = d.pipes := rfl
@[simp] theorem Dev.result_fns (d : Dev) (c : Nat) : (d.result c).fns = d.fns := rfl
@[simp] theorem Dev.result_ports (d : Dev) (c : Nat) : (d.result c).ports = d.ports := rfl
@[simp] theorem Dev.result_tags (d : Dev) (c : Nat) : (d.result c).tags = d.tags := rfl
@[simp] theorem Dev.result_nextTag (d : Dev) (c : Nat) : (d.result c).nextTag = d.nextTag := rfl
@[simp] theorem Dev.result_bays (d : Dev) (c : Nat) : (d.result c).bays = d.bays := rfl
@[simp] theorem Dev.result_bw (d : Dev) (c : Nat) : (d.result c).bw = d.bw := rfl
@[simp] theorem Dev.result_er (d : Dev) (c : Nat) : (d.result c).er = d.er := rfl
@[simp] theorem Dev.result_pr (d : Dev) (c : Nat) : (d.result c).pr = d.pr := rfl
@[simp] theorem Dev.result_mg (d : Dev) (c : Nat) : (d.result c).mg = d.mg := rfl
@[simp] theorem Dev.result_su (d : Dev) (c : Nat) : (d.result c).su = d.su := rfl
@[simp] theorem Dev.result_pw (d : Dev) (c : Nat) : (d.result c).pw = d.pw := rfl

/-! ## Dev.drawn -/

@[simp] theorem Dev.drawn_od (d : Dev) : (d.drawn).od = d.od := rfl
@[simp] theorem Dev.drawn_out (d : Dev) : (d.drawn).out = d.out := rfl
@[simp] theorem Dev.drawn_fresh (d : Dev) : (d.drawn).fresh = d.fresh + 1 := rfl
@[simp] theorem Dev.drawn_mm (d : Dev) : (d.drawn).mm = d.mm := rfl
@[simp] theorem Dev.drawn_coh (d : Dev) : (d.drawn).coh = d.coh := rfl
@[simp] theorem Dev.drawn_chs (d : Dev) : (d.drawn).chs = d.chs := rfl
@[simp] theorem Dev.drawn_cl (d : Dev) : (d.drawn).cl = d.cl := rfl
@[simp] theorem Dev.drawn_lmap (d : Dev) : (d.drawn).lmap = d.lmap := rfl
@[simp] theorem Dev.drawn_progs (d : Dev) : (d.drawn).progs = d.progs := rfl
@[simp] theorem Dev.drawn_pipes (d : Dev) : (d.drawn).pipes = d.pipes := rfl
@[simp] theorem Dev.drawn_fns (d : Dev) : (d.drawn).fns = d.fns := rfl
@[simp] theorem Dev.drawn_ports (d : Dev) : (d.drawn).ports = d.ports := rfl
@[simp] theorem Dev.drawn_tags (d : Dev) : (d.drawn).tags = d.tags := rfl
@[simp] theorem Dev.drawn_nextTag (d : Dev) : (d.drawn).nextTag = d.nextTag := rfl
@[simp] theorem Dev.drawn_bays (d : Dev) : (d.drawn).bays = d.bays := rfl
@[simp] theorem Dev.drawn_bw (d : Dev) : (d.drawn).bw = d.bw := rfl
@[simp] theorem Dev.drawn_er (d : Dev) : (d.drawn).er = d.er := rfl
@[simp] theorem Dev.drawn_pr (d : Dev) : (d.drawn).pr = d.pr := rfl
@[simp] theorem Dev.drawn_mg (d : Dev) : (d.drawn).mg = d.mg := rfl
@[simp] theorem Dev.drawn_su (d : Dev) : (d.drawn).su = d.su := rfl
@[simp] theorem Dev.drawn_pw (d : Dev) : (d.drawn).pw = d.pw := rfl

/-! ## Dev.setFn -/

@[simp] theorem Dev.setFn_od (d : Dev) (f : FnId) (x : Fn) : (d.setFn f x).od = d.od := rfl
@[simp] theorem Dev.setFn_out (d : Dev) (f : FnId) (x : Fn) : (d.setFn f x).out = d.out := rfl
@[simp] theorem Dev.setFn_fresh (d : Dev) (f : FnId) (x : Fn) : (d.setFn f x).fresh = d.fresh := rfl
@[simp] theorem Dev.setFn_mm (d : Dev) (f : FnId) (x : Fn) : (d.setFn f x).mm = d.mm := rfl
@[simp] theorem Dev.setFn_coh (d : Dev) (f : FnId) (x : Fn) : (d.setFn f x).coh = d.coh := rfl
@[simp] theorem Dev.setFn_chs (d : Dev) (f : FnId) (x : Fn) : (d.setFn f x).chs = d.chs := rfl
@[simp] theorem Dev.setFn_cl (d : Dev) (f : FnId) (x : Fn) : (d.setFn f x).cl = d.cl := rfl
@[simp] theorem Dev.setFn_lmap (d : Dev) (f : FnId) (x : Fn) : (d.setFn f x).lmap = d.lmap := rfl
@[simp] theorem Dev.setFn_progs (d : Dev) (f : FnId) (x : Fn) : (d.setFn f x).progs = d.progs := rfl
@[simp] theorem Dev.setFn_pipes (d : Dev) (f : FnId) (x : Fn) : (d.setFn f x).pipes = d.pipes := rfl
@[simp] theorem Dev.setFn_fns (d : Dev) (f : FnId) (x : Fn) : (d.setFn f x).fns = kput (fnKey f) x d.fns := rfl
@[simp] theorem Dev.setFn_ports (d : Dev) (f : FnId) (x : Fn) : (d.setFn f x).ports = d.ports := rfl
@[simp] theorem Dev.setFn_tags (d : Dev) (f : FnId) (x : Fn) : (d.setFn f x).tags = d.tags := rfl
@[simp] theorem Dev.setFn_nextTag (d : Dev) (f : FnId) (x : Fn) : (d.setFn f x).nextTag = d.nextTag := rfl
@[simp] theorem Dev.setFn_bays (d : Dev) (f : FnId) (x : Fn) : (d.setFn f x).bays = d.bays := rfl
@[simp] theorem Dev.setFn_bw (d : Dev) (f : FnId) (x : Fn) : (d.setFn f x).bw = d.bw := rfl
@[simp] theorem Dev.setFn_er (d : Dev) (f : FnId) (x : Fn) : (d.setFn f x).er = d.er := rfl
@[simp] theorem Dev.setFn_pr (d : Dev) (f : FnId) (x : Fn) : (d.setFn f x).pr = d.pr := rfl
@[simp] theorem Dev.setFn_mg (d : Dev) (f : FnId) (x : Fn) : (d.setFn f x).mg = d.mg := rfl
@[simp] theorem Dev.setFn_su (d : Dev) (f : FnId) (x : Fn) : (d.setFn f x).su = d.su := rfl
@[simp] theorem Dev.setFn_pw (d : Dev) (f : FnId) (x : Fn) : (d.setFn f x).pw = d.pw := rfl

/-! ## Dev.setPort -/

@[simp] theorem Dev.setPort_od (d : Dev) (p : Nat) (x : Port) : (d.setPort p x).od = d.od := rfl
@[simp] theorem Dev.setPort_out (d : Dev) (p : Nat) (x : Port) : (d.setPort p x).out = d.out := rfl
@[simp] theorem Dev.setPort_fresh (d : Dev) (p : Nat) (x : Port) : (d.setPort p x).fresh = d.fresh := rfl
@[simp] theorem Dev.setPort_mm (d : Dev) (p : Nat) (x : Port) : (d.setPort p x).mm = d.mm := rfl
@[simp] theorem Dev.setPort_coh (d : Dev) (p : Nat) (x : Port) : (d.setPort p x).coh = d.coh := rfl
@[simp] theorem Dev.setPort_chs (d : Dev) (p : Nat) (x : Port) : (d.setPort p x).chs = d.chs := rfl
@[simp] theorem Dev.setPort_cl (d : Dev) (p : Nat) (x : Port) : (d.setPort p x).cl = d.cl := rfl
@[simp] theorem Dev.setPort_lmap (d : Dev) (p : Nat) (x : Port) : (d.setPort p x).lmap = d.lmap := rfl
@[simp] theorem Dev.setPort_progs (d : Dev) (p : Nat) (x : Port) : (d.setPort p x).progs = d.progs := rfl
@[simp] theorem Dev.setPort_pipes (d : Dev) (p : Nat) (x : Port) : (d.setPort p x).pipes = d.pipes := rfl
@[simp] theorem Dev.setPort_fns (d : Dev) (p : Nat) (x : Port) : (d.setPort p x).fns = d.fns := rfl
@[simp] theorem Dev.setPort_ports (d : Dev) (p : Nat) (x : Port) : (d.setPort p x).ports = kput p x d.ports := rfl
@[simp] theorem Dev.setPort_tags (d : Dev) (p : Nat) (x : Port) : (d.setPort p x).tags = d.tags := rfl
@[simp] theorem Dev.setPort_nextTag (d : Dev) (p : Nat) (x : Port) : (d.setPort p x).nextTag = d.nextTag := rfl
@[simp] theorem Dev.setPort_bays (d : Dev) (p : Nat) (x : Port) : (d.setPort p x).bays = d.bays := rfl
@[simp] theorem Dev.setPort_bw (d : Dev) (p : Nat) (x : Port) : (d.setPort p x).bw = d.bw := rfl
@[simp] theorem Dev.setPort_er (d : Dev) (p : Nat) (x : Port) : (d.setPort p x).er = d.er := rfl
@[simp] theorem Dev.setPort_pr (d : Dev) (p : Nat) (x : Port) : (d.setPort p x).pr = d.pr := rfl
@[simp] theorem Dev.setPort_mg (d : Dev) (p : Nat) (x : Port) : (d.setPort p x).mg = d.mg := rfl
@[simp] theorem Dev.setPort_su (d : Dev) (p : Nat) (x : Port) : (d.setPort p x).su = d.su := rfl
@[simp] theorem Dev.setPort_pw (d : Dev) (p : Nat) (x : Port) : (d.setPort p x).pw = d.pw := rfl

/-! ## Dev.setBay -/

@[simp] theorem Dev.setBay_od (d : Dev) (b : Nat) (x : Bay) : (d.setBay b x).od = d.od := rfl
@[simp] theorem Dev.setBay_out (d : Dev) (b : Nat) (x : Bay) : (d.setBay b x).out = d.out := rfl
@[simp] theorem Dev.setBay_fresh (d : Dev) (b : Nat) (x : Bay) : (d.setBay b x).fresh = d.fresh := rfl
@[simp] theorem Dev.setBay_mm (d : Dev) (b : Nat) (x : Bay) : (d.setBay b x).mm = d.mm := rfl
@[simp] theorem Dev.setBay_coh (d : Dev) (b : Nat) (x : Bay) : (d.setBay b x).coh = d.coh := rfl
@[simp] theorem Dev.setBay_chs (d : Dev) (b : Nat) (x : Bay) : (d.setBay b x).chs = d.chs := rfl
@[simp] theorem Dev.setBay_cl (d : Dev) (b : Nat) (x : Bay) : (d.setBay b x).cl = d.cl := rfl
@[simp] theorem Dev.setBay_lmap (d : Dev) (b : Nat) (x : Bay) : (d.setBay b x).lmap = d.lmap := rfl
@[simp] theorem Dev.setBay_progs (d : Dev) (b : Nat) (x : Bay) : (d.setBay b x).progs = d.progs := rfl
@[simp] theorem Dev.setBay_pipes (d : Dev) (b : Nat) (x : Bay) : (d.setBay b x).pipes = d.pipes := rfl
@[simp] theorem Dev.setBay_fns (d : Dev) (b : Nat) (x : Bay) : (d.setBay b x).fns = d.fns := rfl
@[simp] theorem Dev.setBay_ports (d : Dev) (b : Nat) (x : Bay) : (d.setBay b x).ports = d.ports := rfl
@[simp] theorem Dev.setBay_tags (d : Dev) (b : Nat) (x : Bay) : (d.setBay b x).tags = d.tags := rfl
@[simp] theorem Dev.setBay_nextTag (d : Dev) (b : Nat) (x : Bay) : (d.setBay b x).nextTag = d.nextTag := rfl
@[simp] theorem Dev.setBay_bays (d : Dev) (b : Nat) (x : Bay) : (d.setBay b x).bays = kput b x d.bays := rfl
@[simp] theorem Dev.setBay_bw (d : Dev) (b : Nat) (x : Bay) : (d.setBay b x).bw = d.bw := rfl
@[simp] theorem Dev.setBay_er (d : Dev) (b : Nat) (x : Bay) : (d.setBay b x).er = d.er := rfl
@[simp] theorem Dev.setBay_pr (d : Dev) (b : Nat) (x : Bay) : (d.setBay b x).pr = d.pr := rfl
@[simp] theorem Dev.setBay_mg (d : Dev) (b : Nat) (x : Bay) : (d.setBay b x).mg = d.mg := rfl
@[simp] theorem Dev.setBay_su (d : Dev) (b : Nat) (x : Bay) : (d.setBay b x).su = d.su := rfl
@[simp] theorem Dev.setBay_pw (d : Dev) (b : Nat) (x : Bay) : (d.setBay b x).pw = d.pw := rfl

/-! ## Dev.setClu -/

@[simp] theorem Dev.setClu_od (d : Dev) (c : Nat) (x : Clu) : (d.setClu c x).od = d.od := rfl
@[simp] theorem Dev.setClu_out (d : Dev) (c : Nat) (x : Clu) : (d.setClu c x).out = d.out := rfl
@[simp] theorem Dev.setClu_fresh (d : Dev) (c : Nat) (x : Clu) : (d.setClu c x).fresh = d.fresh := rfl
@[simp] theorem Dev.setClu_mm (d : Dev) (c : Nat) (x : Clu) : (d.setClu c x).mm = d.mm := rfl
@[simp] theorem Dev.setClu_coh (d : Dev) (c : Nat) (x : Clu) : (d.setClu c x).coh = d.coh := rfl
@[simp] theorem Dev.setClu_chs (d : Dev) (c : Nat) (x : Clu) : (d.setClu c x).chs = d.chs := rfl
@[simp] theorem Dev.setClu_cl (d : Dev) (c : Nat) (x : Clu) : (d.setClu c x).cl = kput c x d.cl := rfl
@[simp] theorem Dev.setClu_lmap (d : Dev) (c : Nat) (x : Clu) : (d.setClu c x).lmap = d.lmap := rfl
@[simp] theorem Dev.setClu_progs (d : Dev) (c : Nat) (x : Clu) : (d.setClu c x).progs = d.progs := rfl
@[simp] theorem Dev.setClu_pipes (d : Dev) (c : Nat) (x : Clu) : (d.setClu c x).pipes = d.pipes := rfl
@[simp] theorem Dev.setClu_fns (d : Dev) (c : Nat) (x : Clu) : (d.setClu c x).fns = d.fns := rfl
@[simp] theorem Dev.setClu_ports (d : Dev) (c : Nat) (x : Clu) : (d.setClu c x).ports = d.ports := rfl
@[simp] theorem Dev.setClu_tags (d : Dev) (c : Nat) (x : Clu) : (d.setClu c x).tags = d.tags := rfl
@[simp] theorem Dev.setClu_nextTag (d : Dev) (c : Nat) (x : Clu) : (d.setClu c x).nextTag = d.nextTag := rfl
@[simp] theorem Dev.setClu_bays (d : Dev) (c : Nat) (x : Clu) : (d.setClu c x).bays = d.bays := rfl
@[simp] theorem Dev.setClu_bw (d : Dev) (c : Nat) (x : Clu) : (d.setClu c x).bw = d.bw := rfl
@[simp] theorem Dev.setClu_er (d : Dev) (c : Nat) (x : Clu) : (d.setClu c x).er = d.er := rfl
@[simp] theorem Dev.setClu_pr (d : Dev) (c : Nat) (x : Clu) : (d.setClu c x).pr = d.pr := rfl
@[simp] theorem Dev.setClu_mg (d : Dev) (c : Nat) (x : Clu) : (d.setClu c x).mg = d.mg := rfl
@[simp] theorem Dev.setClu_su (d : Dev) (c : Nat) (x : Clu) : (d.setClu c x).su = d.su := rfl
@[simp] theorem Dev.setClu_pw (d : Dev) (c : Nat) (x : Clu) : (d.setClu c x).pw = d.pw := rfl

/-! ## Dev.add -/

@[simp] theorem Dev.add_od (d : Dev) (k n : Nat) : (d.add k n).od = kput k (wrapN (dictBits k) (d.rd k + n)) d.od := rfl
@[simp] theorem Dev.add_out (d : Dev) (k n : Nat) : (d.add k n).out = d.out := rfl
@[simp] theorem Dev.add_fresh (d : Dev) (k n : Nat) : (d.add k n).fresh = d.fresh := rfl
@[simp] theorem Dev.add_mm (d : Dev) (k n : Nat) : (d.add k n).mm = d.mm := rfl
@[simp] theorem Dev.add_coh (d : Dev) (k n : Nat) : (d.add k n).coh = d.coh := rfl
@[simp] theorem Dev.add_chs (d : Dev) (k n : Nat) : (d.add k n).chs = d.chs := rfl
@[simp] theorem Dev.add_cl (d : Dev) (k n : Nat) : (d.add k n).cl = d.cl := rfl
@[simp] theorem Dev.add_lmap (d : Dev) (k n : Nat) : (d.add k n).lmap = d.lmap := rfl
@[simp] theorem Dev.add_progs (d : Dev) (k n : Nat) : (d.add k n).progs = d.progs := rfl
@[simp] theorem Dev.add_pipes (d : Dev) (k n : Nat) : (d.add k n).pipes = d.pipes := rfl
@[simp] theorem Dev.add_fns (d : Dev) (k n : Nat) : (d.add k n).fns = d.fns := rfl
@[simp] theorem Dev.add_ports (d : Dev) (k n : Nat) : (d.add k n).ports = d.ports := rfl
@[simp] theorem Dev.add_tags (d : Dev) (k n : Nat) : (d.add k n).tags = d.tags := rfl
@[simp] theorem Dev.add_nextTag (d : Dev) (k n : Nat) : (d.add k n).nextTag = d.nextTag := rfl
@[simp] theorem Dev.add_bays (d : Dev) (k n : Nat) : (d.add k n).bays = d.bays := rfl
@[simp] theorem Dev.add_bw (d : Dev) (k n : Nat) : (d.add k n).bw = d.bw := rfl
@[simp] theorem Dev.add_er (d : Dev) (k n : Nat) : (d.add k n).er = d.er := rfl
@[simp] theorem Dev.add_pr (d : Dev) (k n : Nat) : (d.add k n).pr = d.pr := rfl
@[simp] theorem Dev.add_mg (d : Dev) (k n : Nat) : (d.add k n).mg = d.mg := rfl
@[simp] theorem Dev.add_su (d : Dev) (k n : Nat) : (d.add k n).su = d.su := rfl
@[simp] theorem Dev.add_pw (d : Dev) (k n : Nat) : (d.add k n).pw = d.pw := rfl

/-! ## Dev.inc -/

@[simp] theorem Dev.inc_od (d : Dev) (k : Nat) : (d.inc k).od = kput k (wrapN (dictBits k) (d.rd k + 1)) d.od := rfl
@[simp] theorem Dev.inc_out (d : Dev) (k : Nat) : (d.inc k).out = d.out := rfl
@[simp] theorem Dev.inc_fresh (d : Dev) (k : Nat) : (d.inc k).fresh = d.fresh := rfl
@[simp] theorem Dev.inc_mm (d : Dev) (k : Nat) : (d.inc k).mm = d.mm := rfl
@[simp] theorem Dev.inc_coh (d : Dev) (k : Nat) : (d.inc k).coh = d.coh := rfl
@[simp] theorem Dev.inc_chs (d : Dev) (k : Nat) : (d.inc k).chs = d.chs := rfl
@[simp] theorem Dev.inc_cl (d : Dev) (k : Nat) : (d.inc k).cl = d.cl := rfl
@[simp] theorem Dev.inc_lmap (d : Dev) (k : Nat) : (d.inc k).lmap = d.lmap := rfl
@[simp] theorem Dev.inc_progs (d : Dev) (k : Nat) : (d.inc k).progs = d.progs := rfl
@[simp] theorem Dev.inc_pipes (d : Dev) (k : Nat) : (d.inc k).pipes = d.pipes := rfl
@[simp] theorem Dev.inc_fns (d : Dev) (k : Nat) : (d.inc k).fns = d.fns := rfl
@[simp] theorem Dev.inc_ports (d : Dev) (k : Nat) : (d.inc k).ports = d.ports := rfl
@[simp] theorem Dev.inc_tags (d : Dev) (k : Nat) : (d.inc k).tags = d.tags := rfl
@[simp] theorem Dev.inc_nextTag (d : Dev) (k : Nat) : (d.inc k).nextTag = d.nextTag := rfl
@[simp] theorem Dev.inc_bays (d : Dev) (k : Nat) : (d.inc k).bays = d.bays := rfl
@[simp] theorem Dev.inc_bw (d : Dev) (k : Nat) : (d.inc k).bw = d.bw := rfl
@[simp] theorem Dev.inc_er (d : Dev) (k : Nat) : (d.inc k).er = d.er := rfl
@[simp] theorem Dev.inc_pr (d : Dev) (k : Nat) : (d.inc k).pr = d.pr := rfl
@[simp] theorem Dev.inc_mg (d : Dev) (k : Nat) : (d.inc k).mg = d.mg := rfl
@[simp] theorem Dev.inc_su (d : Dev) (k : Nat) : (d.inc k).su = d.su := rfl
@[simp] theorem Dev.inc_pw (d : Dev) (k : Nat) : (d.inc k).pw = d.pw := rfl

/-! ## Dev.dec -/

@[simp] theorem Dev.dec_od (d : Dev) (k : Nat) : (d.dec k).od = kput k (d.rd k - 1) d.od := rfl
@[simp] theorem Dev.dec_out (d : Dev) (k : Nat) : (d.dec k).out = d.out := rfl
@[simp] theorem Dev.dec_fresh (d : Dev) (k : Nat) : (d.dec k).fresh = d.fresh := rfl
@[simp] theorem Dev.dec_mm (d : Dev) (k : Nat) : (d.dec k).mm = d.mm := rfl
@[simp] theorem Dev.dec_coh (d : Dev) (k : Nat) : (d.dec k).coh = d.coh := rfl
@[simp] theorem Dev.dec_chs (d : Dev) (k : Nat) : (d.dec k).chs = d.chs := rfl
@[simp] theorem Dev.dec_cl (d : Dev) (k : Nat) : (d.dec k).cl = d.cl := rfl
@[simp] theorem Dev.dec_lmap (d : Dev) (k : Nat) : (d.dec k).lmap = d.lmap := rfl
@[simp] theorem Dev.dec_progs (d : Dev) (k : Nat) : (d.dec k).progs = d.progs := rfl
@[simp] theorem Dev.dec_pipes (d : Dev) (k : Nat) : (d.dec k).pipes = d.pipes := rfl
@[simp] theorem Dev.dec_fns (d : Dev) (k : Nat) : (d.dec k).fns = d.fns := rfl
@[simp] theorem Dev.dec_ports (d : Dev) (k : Nat) : (d.dec k).ports = d.ports := rfl
@[simp] theorem Dev.dec_tags (d : Dev) (k : Nat) : (d.dec k).tags = d.tags := rfl
@[simp] theorem Dev.dec_nextTag (d : Dev) (k : Nat) : (d.dec k).nextTag = d.nextTag := rfl
@[simp] theorem Dev.dec_bays (d : Dev) (k : Nat) : (d.dec k).bays = d.bays := rfl
@[simp] theorem Dev.dec_bw (d : Dev) (k : Nat) : (d.dec k).bw = d.bw := rfl
@[simp] theorem Dev.dec_er (d : Dev) (k : Nat) : (d.dec k).er = d.er := rfl
@[simp] theorem Dev.dec_pr (d : Dev) (k : Nat) : (d.dec k).pr = d.pr := rfl
@[simp] theorem Dev.dec_mg (d : Dev) (k : Nat) : (d.dec k).mg = d.mg := rfl
@[simp] theorem Dev.dec_su (d : Dev) (k : Nat) : (d.dec k).su = d.su := rfl
@[simp] theorem Dev.dec_pw (d : Dev) (k : Nat) : (d.dec k).pw = d.pw := rfl

/-! ## The dictionary reads back -/

@[simp] theorem Dev.rd_wr_self (d : Dev) (k v : Nat) : (d.wr k v).rd k = v := by simp [Dev.rd]
theorem Dev.rd_wr_ne (d : Dev) {j k : Nat} (v : Nat) (h : j ≠ k) : (d.wr k v).rd j = d.rd j := by simp [Dev.rd, h]
theorem Dev.rd_congr {d t : Dev} (h : t.od = d.od) (k : Nat) : t.rd k = d.rd k := by simp [Dev.rd, h]
@[simp] theorem Dev.rd_emit (d : Dev) (o : Out) (k : Nat) : (d.emit o).rd k = d.rd k := rfl
@[simp] theorem Dev.rd_emits (d : Dev) (os : List Out) (k : Nat) : (d.emits os).rd k = d.rd k := rfl
@[simp] theorem Dev.rd_drawn (d : Dev) (k : Nat) : d.drawn.rd k = d.rd k := rfl
@[simp] theorem Dev.rd_result (d : Dev) (c k : Nat) : (d.result c).rd k = d.rd k := rfl
@[simp] theorem Dev.rd_setFn (d : Dev) (f : FnId) (x : Fn) (k : Nat) : (d.setFn f x).rd k = d.rd k := rfl
@[simp] theorem Dev.rd_setPort (d : Dev) (p : Nat) (x : Port) (k : Nat) : (d.setPort p x).rd k = d.rd k := rfl
@[simp] theorem Dev.rd_setBay (d : Dev) (b : Nat) (x : Bay) (k : Nat) : (d.setBay b x).rd k = d.rd k := rfl
@[simp] theorem Dev.rd_setClu (d : Dev) (c : Nat) (x : Clu) (k : Nat) : (d.setClu c x).rd k = d.rd k := rfl
@[simp] theorem Dev.rd_inc_self (d : Dev) (k : Nat) : (d.inc k).rd k = wrapN (dictBits k) (d.rd k + 1) := by simp [Dev.inc, Dev.add]
theorem Dev.rd_inc_ne (d : Dev) {j k : Nat} (h : j ≠ k) : (d.inc k).rd j = d.rd j := by simp [Dev.inc, Dev.add, Dev.rd_wr_ne _ _ h]
theorem Dev.rd_add_ne (d : Dev) {j k : Nat} (n : Nat) (h : j ≠ k) : (d.add k n).rd j = d.rd j := by simp [Dev.add, Dev.rd_wr_ne _ _ h]

/-! ## Functions, ports, bays, clusters read back -/

@[simp] theorem Dev.fn_setFn_self (d : Dev) (f : FnId) (x : Fn) : (d.setFn f x).fn f = x := by simp [Dev.fn]
theorem Dev.fn_setFn_ne (d : Dev) {f g : FnId} (x : Fn) (h : fnKey g ≠ fnKey f) : (d.setFn f x).fn g = d.fn g := by simp [Dev.fn, h]
@[simp] theorem Dev.port_setPort_self (d : Dev) (p : Nat) (x : Port) : (d.setPort p x).port p = x := by simp [Dev.port]
theorem Dev.port_setPort_ne (d : Dev) {p q : Nat} (x : Port) (h : q ≠ p) : (d.setPort p x).port q = d.port q := by simp [Dev.port, h]
@[simp] theorem Dev.bay_setBay_self (d : Dev) (b : Nat) (x : Bay) : (d.setBay b x).bay b = x := by simp [Dev.bay]
theorem Dev.bay_setBay_ne (d : Dev) {a b : Nat} (x : Bay) (h : a ≠ b) : (d.setBay b x).bay a = d.bay a := by simp [Dev.bay, h]
@[simp] theorem Dev.clu_setClu_self (d : Dev) (c : Nat) (x : Clu) : (d.setClu c x).clu c = x := by simp [Dev.clu]
theorem Dev.clu_setClu_ne (d : Dev) {a c : Nat} (x : Clu) (h : a ≠ c) : (d.setClu c x).clu a = d.clu a := by simp [Dev.clu, h]
@[simp] theorem Dev.fn_wr (d : Dev) (k v : Nat) (f : FnId) : (d.wr k v).fn f = d.fn f := rfl
@[simp] theorem Dev.fn_emit (d : Dev) (o : Out) (f : FnId) : (d.emit o).fn f = d.fn f := rfl
@[simp] theorem Dev.fn_inc (d : Dev) (k : Nat) (f : FnId) : (d.inc k).fn f = d.fn f := rfl
@[simp] theorem Dev.clu_wr (d : Dev) (k v c : Nat) : (d.wr k v).clu c = d.clu c := rfl
@[simp] theorem Dev.clu_inc (d : Dev) (k c : Nat) : (d.inc k).clu c = d.clu c := rfl
@[simp] theorem Dev.clu_drawn (d : Dev) (c : Nat) : d.drawn.clu c = d.clu c := rfl
@[simp] theorem Dev.bay_inc (d : Dev) (k b : Nat) : (d.inc k).bay b = d.bay b := rfl
@[simp] theorem Dev.port_inc (d : Dev) (k p : Nat) : (d.inc k).port p = d.port p := rfl

end Sys2Proof.Machine
end

