-- ==== Sys2Proof/Laws/Admin.lean ====
section
/-! SUPPORT. What the shared ways of a command do: an admin command whose turn has come, a write of a dictionary entry, a request of
a session, a mailbox or register write through BAR0, a ring frame. -/

namespace Sys2Proof.Machine

/-! ## Admin commands -/

@[simp] theorem Dev.freeTags_od (d : Dev) (u : TagUse) : (d.freeTags u).od = d.od := rfl
@[simp] theorem Dev.freeTags_mm (d : Dev) (u : TagUse) : (d.freeTags u).mm = d.mm := rfl

theorem Dev.admRead_od (d : Dev) (f : FnId) : (d.admRead f).od = d.od := by
  unfold Dev.admRead; split <;> rfl
theorem Dev.admRead_mm (d : Dev) (f : FnId) : (d.admRead f).mm = d.mm := by
  unfold Dev.admRead; split <;> rfl

/-- The fetch of a command changes no dictionary entry. -/
@[simp] theorem Dev.admFetch_od (d : Dev) (h : Adm) : (d.admFetch h).od = d.od := by
  simp [Dev.admFetch, Dev.admRead_od]
/-- The fetch of a command changes no memory. -/
@[simp] theorem Dev.admFetch_mm (d : Dev) (h : Adm) : (d.admFetch h).mm = d.mm := by
  simp [Dev.admFetch, Dev.admRead_mm]
@[simp] theorem Dev.rd_admFetch (d : Dev) (h : Adm) (k : Nat) : (d.admFetch h).rd k = d.rd k := Dev.rd_congr (by simp) k

/-- What bars a command is the same before and after its fetch. -/
theorem Dev.admBar_admFetch (d : Dev) (h : Adm) (served : Bool) : (d.admFetch h).admBar h served = d.admBar h served := by
  simp [Dev.admBar, Dev.placeholder, Dev.presented, Dev.enabled, Dev.fenced, Dev.fenceCauses, Dev.pairRole]

/-- An admin command whose turn has come runs on the device that fetched it. -/
theorem Dev.admin_turn {d : Dev} {h : Adm} {served : Bool} (ht : d.admTurn h served) (run : Dev → Adm → Dev) :
    d.admin h served run = run (d.admFetch h) (d.admRun h) := by
  obtain ⟨h1, h2⟩ := ht
  rw [Dev.admBar_admFetch] at h2
  simp [Dev.admin, h1, h2]

/-- A command that cannot be fetched changes nothing. -/
theorem Dev.admin_off {d : Dev} {h : Adm} (ht : d.admReady h.fn = false) (served : Bool) (run : Dev → Adm → Dev) :
    d.admin h served run = d := by simp [Dev.admin, ht]

@[simp] theorem Dev.admTry_none (d : Dev) (h : Adm) (run : Dev → Dev) : d.admTry h none run = run d := rfl
@[simp] theorem Dev.admTry_some (d : Dev) (h : Adm) (st dt : Nat) (run : Dev → Dev) :
    d.admTry h (some (st, dt)) run = d.adminDone h st dt 0 := rfl

/-! ## Writes of entries by rows of their own -/

/-- A write that passes the checks is its entry's effect, answered. -/
theorem Dev.entryWrite_may {d : Dev} {r : Role} {idx sub len v : Nat} (h : d.mayStore r idx sub len v) (f : Dev → Dev × Nat) :
    d.entryWrite r idx sub len v f = Dev.answered (f d) := by simp [Dev.entryWrite, h.1, h.2]

theorem Dev.scalarWrite_may {d : Dev} {r : Role} {idx sub v : Nat} (h : d.mayStore r idx sub (entryTy idx sub).len v)
    (f : Dev → Dev × Nat) : d.scalarWrite r idx sub v f = Dev.answered (f d) := Dev.entryWrite_may h f

/-- A write that a check refuses is answered with the check's code and changes nothing. -/
theorem Dev.entryWrite_refused {d : Dev} {r : Role} {idx sub len v c : Nat} (hs : d.served = true)
    (h : d.odRefuse r none idx sub len v = some c) (f : Dev → Dev × Nat) : d.entryWrite r idx sub len v f = d.result c := by
  simp [Dev.entryWrite, hs, h]

/-- Without Larkspur no write is answered. -/
theorem Dev.entryWrite_off {d : Dev} (hs : d.served = false) (r : Role) (idx sub len v : Nat) (f : Dev → Dev × Nat) :
    d.entryWrite r idx sub len v f = d := by simp [Dev.entryWrite, hs]

theorem Dev.answered_of {r : Dev × Nat} (h : r.2 ≠ resultWaits) : Dev.answered r = r.1.result r.2 := by simp [Dev.answered, h]
@[simp] theorem Dev.answered_refused (d : Dev) : Dev.answered d.refused = d.result 8 := rfl
@[simp] theorem Dev.answered_outOfRange (d : Dev) : Dev.answered d.outOfRange = d.result 7 := rfl
@[simp] theorem Dev.answered_store (d : Dev) (k v : Nat) : Dev.answered (d.store k v) = (d.wr k v).result 0 := rfl
@[simp] theorem Dev.answered_unless_true (d : Dev) (f : Dev → Dev) : Dev.answered (d.unless true f) = d.result 8 := rfl
@[simp] theorem Dev.answered_unless_false (d : Dev) (f : Dev → Dev) : Dev.answered (d.unless false f) = (f d).result 0 := rfl

/-! ## Requests of sessions -/

/-- The request of a session whose turn has come runs. -/
theorem Dev.asked_turn {d : Dev} {m : MsgHdr} {x : Session} (h : d.sessTurn m x) (run : Session → Dev) : d.asked m run = run x := by
  obtain ⟨h1, h2, h3, h4, h5, h6⟩ := h
  simp [Dev.asked, Dev.withSession, h1, h2, h3, h4, h5, h6]

/-- A session changed by a rule that keeps its number is found changed. -/
theorem Dev.session_setSession {d : Dev} {n : Nat} {x : Session} (h : d.session n = some x) (f : Session → Session)
    (hf : ∀ y : Session, (f y).num = y.num) : (d.setSession n f).session n = some (f x) := by
  simp only [Dev.session, Dev.setSession] at h ⊢
  revert h
  generalize d.mg.sessions = l
  intro h
  induction l with
  | nil => simp at h
  | cons a r ih =>
    by_cases ha : a.num = n
    · simp [ha] at h
      subst h
      simp [ha, hf]
    · have hb : (a.num == n) = false := by simpa using ha
      simp only [List.find?_cons, hb] at h
      simp only [List.map_cons, hb, Bool.false_eq_true, if_false, List.find?_cons]
      exact ih h

/-! ## Writes through BAR0 -/

theorem Dev.barWrite_open {d : Dev} {f : FnId} (h : d.barOpen f) (run : Dev → Dev) : d.barWrite f run = run d := by
  simp [Dev.barWrite, Dev.barPut, Dev.bar0Open, h.1, h.2.1, h.2.2]

/-- A mailbox operation that reaches a function runs where Larkspur serves it. -/
theorem Dev.mbOp_open {d : Dev} {f : FnId} (h : d.mbOpen f) (run : Dev → Dev) :
    d.mbOp f run = if d.served then run d else d := by
  simp [Dev.mbOp, Dev.barPut, Dev.bar0Open, h.1, h.2]

/-! ## Ring frames -/

/-- The module heard changes no SEQ and no setting of the pair. -/
theorem Dev.hear_partner (d : Dev) (src : Nat) : (d.hear src).rd K.partnerId = d.rd K.partnerId := by
  unfold Dev.hear; split
  · rfl
  · exact Dev.rd_wr_ne _ _ (by decide)

/-- A frame that is taken runs on the device that took it. -/
theorem Dev.ringIn_takes {d : Dev} {port : Nat} {f : RingHdr} (h : d.ringTakes port f) (run : Dev → Dev) :
    d.ringIn port f run = run (d.ringTook port f) := by
  obtain ⟨h1, h2, h3, h4, h5, h6, h7⟩ := h
  rcases h1 with h1 | h1 <;> subst h1 <;> simp [Dev.ringIn, Dev.ringTook, h2, h3, h4, h5, h6, h7]

end Sys2Proof.Machine
end

