-- ==== Sys2Proof/Laws/Memory.lean ====
section
/-! SUPPORT. The stored bytes: every memory operation keeps the canonical form, a byte reads as it was put, and the others as
before. -/

namespace Sys2Proof.Machine

/-! ## The canonical form -/

theorem cellsFrom_mono {lo lo' : Nat} {m : List Host.Cell} (h : lo' ≤ lo) (hm : cellsFrom lo m = true) : cellsFrom lo' m = true := by
  cases m with
  | nil => rfl
  | cons e r =>
    obtain ⟨a, b⟩ := e
    simp only [cellsFrom, Bool.and_eq_true, decide_eq_true_eq] at hm ⊢
    exact ⟨⟨by omega, hm.1.2⟩, hm.2⟩

/-- A byte put in keeps the form. -/
theorem cellsFrom_cellPut {lo a : Nat} (b : Byte) {m : List Host.Cell} (hl : lo ≤ a) (hm : cellsFrom lo m = true) :
    cellsFrom lo (cellPut a b m) = true := by
  induction m generalizing lo with
  | nil => simp only [cellPut]; split <;> simp_all [cellsFrom]
  | cons e r ih =>
    obtain ⟨a', b'⟩ := e
    simp only [cellsFrom, Bool.and_eq_true, decide_eq_true_eq] at hm
    obtain ⟨⟨h1, h2⟩, h3⟩ := hm
    simp only [cellPut]
    split
    · split
      · simp only [cellsFrom, Bool.and_eq_true, decide_eq_true_eq]
        exact ⟨⟨h1, h2⟩, h3⟩
      · rename_i hlt hb
        simp only [cellsFrom, Bool.and_eq_true, decide_eq_true_eq]
        exact ⟨⟨hl, bne_iff_ne.2 hb⟩, ⟨by omega, h2⟩, h3⟩
    · split
      · split
        · exact cellsFrom_mono (by omega) h3
        · rename_i he hb
          subst he
          simp only [cellsFrom, Bool.and_eq_true, decide_eq_true_eq]
          exact ⟨⟨hl, bne_iff_ne.2 hb⟩, h3⟩
      · simp only [cellsFrom, Bool.and_eq_true, decide_eq_true_eq]
        exact ⟨⟨h1, h2⟩, ih (by omega) h3⟩

theorem wf_cellPut (a : Nat) (b : Byte) {m : List Host.Cell} (h : Memory.wf m = true) : Memory.wf (cellPut a b m) = true :=
  cellsFrom_cellPut b (Nat.zero_le a) h

/-- Bytes put in keep the form. -/
theorem wf_cellsPut (a : Nat) (bs : List Byte) {m : List Host.Cell} (h : Memory.wf m = true) : Memory.wf (cellsPut a bs m) = true := by
  induction bs generalizing a m with
  | nil => exact h
  | cons b r ih => exact ih (a + 1) (wf_cellPut a b h)

/-- Entries left out keep the form. -/
theorem cellsFrom_filter {lo : Nat} (p : Host.Cell → Bool) {m : List Host.Cell} (h : cellsFrom lo m = true) :
    cellsFrom lo (m.filter p) = true := by
  induction m generalizing lo with
  | nil => rfl
  | cons e r ih =>
    obtain ⟨a, b⟩ := e
    simp only [cellsFrom, Bool.and_eq_true, decide_eq_true_eq] at h
    obtain ⟨⟨h1, h2⟩, h3⟩ := h
    by_cases hp : p (a, b) = true
    · simp only [List.filter_cons, hp, if_true, cellsFrom, Bool.and_eq_true, decide_eq_true_eq]
      exact ⟨⟨h1, h2⟩, ih h3⟩
    · simp only [List.filter_cons, hp]
      exact ih (cellsFrom_mono (by omega) h3)

theorem wf_cellsClear (a n : Nat) {m : List Host.Cell} (h : Memory.wf m = true) : Memory.wf (cellsClear a n m) = true :=
  cellsFrom_filter _ h

theorem wf_reset : Memory.wf State.reset.dev.mm.cells = true := rfl

/-! ## Reading -/

/-- Below its first address a memory lists nothing. -/
theorem cellAt_below {lo a : Nat} {m : List Host.Cell} (h : cellsFrom lo m = true) (ha : a < lo) : cellAt m a = 0 := by
  induction m generalizing lo with
  | nil => rfl
  | cons e r ih =>
    obtain ⟨a', b'⟩ := e
    simp only [cellsFrom, Bool.and_eq_true, decide_eq_true_eq] at h
    obtain ⟨⟨h1, _⟩, h3⟩ := h
    have hne : a ≠ a' := by omega
    simp only [cellAt, kget, hne, if_false]
    exact ih h3 (by omega)

/-- A byte reads as it was put. -/
theorem cellAt_cellPut_self {a : Nat} (b : Byte) {m : List Host.Cell} {lo : Nat} (h : cellsFrom lo m = true) :
    cellAt (cellPut a b m) a = b := by
  induction m generalizing lo with
  | nil => simp only [cellPut]; split <;> simp_all [cellAt, kget]
  | cons e r ih =>
    obtain ⟨a', b'⟩ := e
    simp only [cellsFrom, Bool.and_eq_true, decide_eq_true_eq] at h
    obtain ⟨⟨h1, h2⟩, h3⟩ := h
    simp only [cellPut]
    split
    · rename_i hlt
      split
      · rename_i hb
        have hne : a ≠ a' := by omega
        simp only [cellAt, kget, hne, if_false]
        rw [hb]; exact cellAt_below h3 (by omega)
      · simp [cellAt, kget]
    · split
      · rename_i he
        split
        · rename_i hb
          rw [hb]; exact cellAt_below h3 (by omega)
        · simp [cellAt, kget]
      · rename_i hn
        simp only [cellAt, kget, hn, if_false]
        exact ih h3

/-- The other bytes read as before. -/
theorem cellAt_cellPut_ne {a c : Nat} (b : Byte) (m : List Host.Cell) (h : c ≠ a) : cellAt (cellPut a b m) c = cellAt m c := by
  induction m with
  | nil => simp only [cellPut]; split <;> simp [cellAt, kget, h]
  | cons e r ih =>
    obtain ⟨a', b'⟩ := e
    simp only [cellPut]
    split
    · split
      · rfl
      · simp [cellAt, kget, h]
    · split
      · rename_i he
        subst he
        split <;> simp [cellAt, kget, h]
      · simp only [cellAt, kget] at ih ⊢
        split
        · rfl
        · exact ih

/-- Bytes outside those put read as before. -/
theorem cellAt_cellsPut_outside (a : Nat) (bs : List Byte) (m : List Host.Cell) {c : Nat} (h : c < a ∨ a + bs.length ≤ c) :
    cellAt (cellsPut a bs m) c = cellAt m c := by
  induction bs generalizing a m with
  | nil => rfl
  | cons b r ih =>
    simp only [List.length_cons] at h
    simp only [cellsPut]
    rw [ih (a + 1) _ (by omega), cellAt_cellPut_ne b m (by omega)]

/-- The bytes put read as they were put. -/
theorem cellAt_cellsPut_inside (a : Nat) (bs : List Byte) {m : List Host.Cell} (hm : Memory.wf m = true) (i : Nat) (h : i < bs.length) :
    cellAt (cellsPut a bs m) (a + i) = bs[i] := by
  induction bs generalizing a m i with
  | nil => simp at h
  | cons b r ih =>
    simp only [cellsPut]
    cases i with
    | zero =>
      rw [Nat.add_zero, cellAt_cellsPut_outside _ _ _ (by omega)]
      simpa using cellAt_cellPut_self b hm
    | succ n =>
      have := ih (a + 1) (wf_cellPut a b hm) n (by simpa using h)
      rw [show a + (n + 1) = a + 1 + n by omega, this]
      simp

end Sys2Proof.Machine
end

