-- ==== Sys2Proof/Laws/Settle.lean ====
section
/-! SUPPORT. What the end of an event releases on a device at rest: nothing. -/

namespace Sys2Proof.Machine

/-- A fold of steps that each leave the device as it is. -/
theorem foldl_fixed {α : Type} (f : Dev → α → Dev) (d : Dev) :
    ∀ l : List α, (∀ e ∈ l, f d e = d) → l.foldl f d = d
  | [], _ => rfl
  | a :: r, h => by
    rw [List.foldl_cons, h a List.mem_cons_self]
    exact foldl_fixed f d r (fun e he => h e (List.mem_cons_of_mem _ he))

/-- Memory at rest releases nothing. -/
theorem Dev.settleMem_quiet {d : Dev} (h : d.quiet) : d.settleMem = d := by
  obtain ⟨h1, h2, h3, h4, -, -⟩ := h
  have e1 : d.revokeStep = d := by simp [Dev.revokeStep, h3]
  have e2 : d.clearStep = d := by simp [Dev.clearStep, h2]
  have e3 : d.thCopies = d := foldl_fixed _ d _ h4
  simp [Dev.settleMem, e1, e2, e3, h1, Dev.retryHeldN, Dev.decideN, Dev.retryPass]
  rw [← h1]

/-- No restart that waits, none carried out. -/
theorem Dev.lateRestarts_quiet {d : Dev} (h : d.quiet) : d.lateRestarts = d := by
  have e : d.chs.chans.filter (fun e => e.2.restart.isSome) = [] := by
    rw [List.filter_eq_nil_iff]
    intro e he
    simp [h.2.2.2.2.2 e he]
  simp [Dev.lateRestarts, e]

/-- On a device on which nothing waits the end of an event changes nothing. -/
theorem Dev.settle_quiet {d : Dev} (h : d.quiet) : d.settle = d := by
  have e : Dev.settleN (d.mm.held.length + 2) d = d := by
    simp [Dev.settleN, Dev.settleMem_quiet h, h.2.2.2.2.1]
  rw [Dev.settle, e, Dev.lateRestarts_quiet h]

end Sys2Proof.Machine
end

