-- ==== Sys2Proof/Laws/Stage.lean ====
section
/-! SUPPORT. What one instruction of a stage program can do: the rules of its outcomes, and the parts of a cluster that the
register and SRAM operations leave alone. -/

namespace Sys2Proof.Machine

/-! ## Registers and SRAM leave the rest of a cluster alone -/

@[simp] theorem Clu.setX_pc (u : Clu) (r : Fin 32) (v : W64) : (u.setX r v).pc = u.pc := by unfold Clu.setX; split <;> rfl
@[simp] theorem Clu.setX_insns (u : Clu) (r : Fin 32) (v : W64) : (u.setX r v).insns = u.insns := by
  unfold Clu.setX; split <;> rfl
@[simp] theorem Clu.setX_sram (u : Clu) (r : Fin 32) (v : W64) : (u.setX r v).sram = u.sram := by
  unfold Clu.setX; split <;> rfl
@[simp] theorem Clu.setX_zero (u : Clu) (v : W64) : u.setX 0 v = u := rfl
@[simp] theorem Clu.setV_pc (u : Clu) (r : Fin 32) (v : List W32) : (u.setV r v).pc = u.pc := rfl
@[simp] theorem Clu.setV_insns (u : Clu) (r : Fin 32) (v : List W32) : (u.setV r v).insns = u.insns := rfl
@[simp] theorem Clu.setV_x (u : Clu) (r : Fin 32) (v : List W32) : (u.setV r v).x = u.x := rfl
@[simp] theorem Clu.wrSram_pc (u : Clu) (a : Nat) (bs : List Byte) : (u.wrSram a bs).pc = u.pc := rfl
@[simp] theorem Clu.wrSram_insns (u : Clu) (a : Nat) (bs : List Byte) : (u.wrSram a bs).insns = u.insns := rfl
@[simp] theorem Clu.wrSram_x (u : Clu) (a : Nat) (bs : List Byte) : (u.wrSram a bs).x = u.x := rfl
@[simp] theorem Clu.wrSram_v (u : Clu) (a : Nat) (bs : List Byte) : (u.wrSram a bs).v = u.v := rfl

/-! ## The outcome of an instruction -/

/-- A ready cluster acts as the instruction's outcome says. -/
theorem Dev.stage_ready {d : Dev} {c : Nat} (h : d.stageReady c) (run : Clu → SRes) : d.stage c run = d.take c (run (d.clu c)) := by
  obtain ⟨h1, h2, h3⟩ := h
  simp [Dev.stage, h1, h2, h3]

/-- An outcome that goes on at the next instruction. -/
theorem Dev.take_go (d : Dev) (c : Nat) (u : Clu) (hp : u.pc = (d.clu c).pc) (hi : u.insns = (d.clu c).insns) :
    d.take c (.go u) = d.ranOn c u := by
  simp [Dev.take, Dev.ranOn, Dev.ranTo, Clu.past, hp, hi]

/-- An outcome that goes on elsewhere. -/
theorem Dev.take_jump (d : Dev) (c : Nat) (u : Clu) (pc : Nat) (hi : u.insns = (d.clu c).insns) :
    d.take c (.jump u pc) = d.ranTo c u pc := by
  simp [Dev.take, Dev.ranTo, Clu.past, hi]

/-- A stage that is paused, or whose channel is not ACTIVE, carries out nothing. -/
theorem Dev.stage_off {d : Dev} {c : Nat} (h : d.stageOn c = false ∨ (d.clu c).paused = true) (run : Clu → SRes) :
    d.stage c run = d := by
  rcases h with h | h <;> simp [Dev.stage, h]

/-- Without an SRAM error an instruction that reads SRAM acts as any other. -/
theorem Dev.stageRd_ok (d : Dev) (c : Nat) (word : Clu → Nat) (run : Clu → SRes) : d.stageRd c .ok word run = d.stage c run := rfl

/-- A read of SRAM that nothing stops. -/
theorem Clu.rdStop_none {u : Clu} {a n align : Nat} (ha : a % align = 0) (h : u.mayRead a n) : u.rdStop a n align = none := by
  simp [Clu.rdStop, ha, h.1, h.2]

/-- A write of SRAM that nothing stops. -/
theorem Clu.wrStop_none {u : Clu} {a n align : Nat} (ha : a % align = 0) (h : u.mayWrite a n) : u.wrStop a n align = none := by
  have := h.1
  simp [Clu.wrStop, ha, h.2]; omega

/-- A misaligned read of SRAM faults. -/
theorem Clu.rdStop_misaligned {u : Clu} {a n align : Nat} (ha : a % align ≠ 0) :
    u.rdStop a n align = some (.fault 0x02 0) := by simp [Clu.rdStop, ha]

/-- A misaligned write of SRAM faults. -/
theorem Clu.wrStop_misaligned {u : Clu} {a n align : Nat} (ha : a % align ≠ 0) :
    u.wrStop a n align = some (.fault 0x02 0) := by simp [Clu.wrStop, ha]

@[simp] theorem orStop_one_none (r : SRes) : orStop [none] r = r := rfl
@[simp] theorem orStop_one_some (x r : SRes) : orStop [some x] r = x := rfl

end Sys2Proof.Machine
end

