-- ==== Sys2Proof/Machine/CfgSpace.lean ====
section
/-! DEFINITION. What reads of configuration space and of BAR0 return (R303, R307, R332 to R339, R362, Tables 06.1, 10.2, 10.8, 11.4 to
11.8, 14.12). The operation table has no row for such a read: it changes nothing. -/

namespace Sys2Proof.Machine

/-- A register as a read finds it: its offset, its bytes, the bits that the manual determines and their values. -/
structure CfgReg where
  off : Nat
  size : Nat
  mask : Nat
  value : Nat
deriving DecidableEq, Repr

/-- A register that is wholly determined. -/
def CfgReg.all (off size value : Nat) : CfgReg := ⟨off, size, 256 ^ size - 1, value⟩

/-! ## The capability list (R333, Table 11.5) -/

/-- The header of an extended capability: its ID, and the offset of the next; the version where the manual gives one. -/
def extCap (off id next : Nat) (version : Option Nat) : CfgReg :=
  ⟨off, 4, 0xFFF0FFFF + (if version.isSome then 0xF0000 else 0), id + version.getD 0 * 2 ^ 16 + next * 2 ^ 20⟩

/-- The headers of a DVSEC: the extended capability, its vendor, its ID. -/
def dvsec (off next vendor id : Nat) : List CfgReg :=
  [extCap off 0x23 next none, ⟨off + 4, 4, 0xFFFF, vendor⟩, ⟨off + 8, 2, 0xFFFF, id⟩]

/-- The capabilities of every function. The ID of the 128.0 GT/s capability is not determined here. -/
def capsAll (zero : Bool) : List CfgReg :=
  [CfgReg.all 0x40 2 (0x01 + 0x50 * 2 ^ 8), CfgReg.all 0x50 2 0x10,
   extCap 0x100 0x000E 0x108 none, extCap 0x108 0x0025 0x120 none, extCap 0x120 0x0031 0x140 none,
   ⟨0x140, 4, 0xFFF00000, 0x160 * 2 ^ 20⟩, extCap 0x160 0x002E 0x180 none,
   extCap 0x300 0x0001 (if zero then 0x380 else 0x400) (some 2)] ++
  dvsec 0x180 (if zero then 0x1C0 else 0x300) 0x1F3C 1 ++ dvsec 0x400 0 0x1F3C 2

/-- The capabilities of function 0 alone. -/
def capsZero : List CfgReg :=
  dvsec 0x1C0 0x200 0x1E98 0 ++ dvsec 0x200 0x240 0x1E98 2 ++ dvsec 0x240 0x260 0x1E98 5 ++ dvsec 0x260 0x290 0x1E98 7 ++
  dvsec 0x290 0x300 0x1E98 8 ++ dvsec 0x380 0x400 0x1F3C 3

/-- The Next Function Number of a function: the next presented one on its port, 0 in the last (R303). -/
def Dev.nextFn (d : Dev) (f : FnId) : Nat :=
  ((List.range 64).find? (fun n => f.num < n && d.fnExists ⟨f.port, n⟩)).getD 0

/-! ## Values in standard capabilities (R334, Table 11.6) -/

/-- Device Capabilities 3: 14-Bit Tag Completer and Requester Supported. The manual's capability list has no place for it. -/
def devCap3 : Nat := 0b110

/-- The data object protocols of DOE, vendor and type: DOE Discovery, CMA/SPDM, and on function 0 in CXL mode CXL Table Access
(numbers PRESUMED from the PCI Express and CXL specifications, log entry 56). -/
def Dev.doeProtocols (d : Dev) (f : FnId) : List (Nat × Nat) :=
  [(0x0001, 0), (0x0001, 1)] ++ (if f.num == 0 && (d.port f.port).mode == .cxl then [(0x1E98, 2)] else [])

/-- The registers of the power management, PCI Express, ARI and Data Link Feature capabilities with the bits that Table 11.6
determines: offsets and bits within a capability PRESUMED from the PCI Express specification (log entry 56). -/
def Dev.stdRegs (d : Dev) (f : FnId) : List CfgReg :=
  let x := d.fn f
  [⟨0x42, 2, 0xFFC7, 0x0003⟩, ⟨0x44, 2, 0xB, 8 + (if x.d3 then 3 else 0)⟩,
   ⟨0x52, 2, 0xFF, 0x02⟩, ⟨0x54, 4, 0x10008027, 0x10008022⟩, CfgReg.all 0x58 2 x.devCtl, CfgReg.all 0x5A 2 x.devStat,
   ⟨0x5C, 4, 0xFF000FFF, f.port * 2 ^ 24 + 8 * 16 + 7⟩, ⟨0x74, 4, 0x3001F, 0x3000F⟩, CfgReg.all 0x78 2 x.devCtl2,
   ⟨0x7C, 4, 0xFE, 0xFE⟩, ⟨0x104, 2, 0xFF03, d.nextFn f * 2 ^ 8⟩, ⟨0x10C, 4, 1, 1⟩]

/-! ## The header and the device's own capabilities -/

/-- The Status register: Capabilities List always 1, Interrupt Status by the pending count (R323). -/
def Dev.cfgStatus (d : Dev) (f : FnId) : Nat :=
  let x := d.fn f
  setFld (setBit x.status 4) 3 1 (b2n (x.eq.pending != 0))

/-- Whether function 0 of a port shows a CXL memory device (Table 11.4). -/
def Dev.cxlFn (d : Dev) (f : FnId) : Bool := f.num == 0 && (d.port f.port).mode == .cxl

/-- The Type 0 header (Table 11.4). -/
def Dev.headerRegs (d : Dev) (f : FnId) : List CfgReg :=
  let x := d.fn f
  [CfgReg.all 0x00 2 0x1F3C, CfgReg.all 0x02 2 0x4096, CfgReg.all 0x04 2 x.command, CfgReg.all 0x06 2 (d.cfgStatus f),
   CfgReg.all 0x08 1 (Config.stepping % 256), CfgReg.all 0x09 3 (if d.cxlFn f then 0x050210 else 0x058000),
   CfgReg.all 0x0C 1 x.cacheLine, CfgReg.all 0x0E 1 0x80, CfgReg.all 0x10 8 x.bar0,
   CfgReg.all 0x18 8 (if x.bar2On && !d.placeholder f then x.bar2 else 0), CfgReg.all 0x2C 2 0x1F3C, CfgReg.all 0x2E 2 0x0001,
   CfgReg.all 0x30 4 (if d.romThere f then x.rom else 0), CfgReg.all 0x34 1 0x40, CfgReg.all 0x3C 1 x.intLine,
   CfgReg.all 0x3D 1 0x01]

/-- The status, mask and severity registers of AER (R357). -/
def Dev.aerRegs (d : Dev) (f : FnId) : List CfgReg :=
  let x := d.fn f
  [CfgReg.all 0x304 4 x.aerUnc, CfgReg.all 0x308 4 x.aerUncMask, CfgReg.all 0x30C 4 x.aerUncSev, CfgReg.all 0x310 4 x.aerCor,
   CfgReg.all 0x314 4 x.aerCorMask]

/-- The UBL DVSEC (R336). UBL_CTRL stands in function 0 and reads the same elsewhere. -/
def Dev.ublRegs (d : Dev) (f : FnId) : List CfgReg :=
  let x := d.port f.port
  [CfgReg.all 0x18C 4 (portFeatures f.port * 2 ^ 16 + 2), CfgReg.all 0x190 2 (b2n (d.fn ⟨f.port, 0⟩).ublOffer),
   CfgReg.all 0x192 2 (x.minor * 2 ^ 8 + b2n (x.mode == .native)), CfgReg.all 0x194 4 x.feats]

/-- The partition DVSEC (R337). -/
def Dev.partRegs (d : Dev) (f : FnId) : List CfgReg :=
  let ph := d.placeholder f
  let own := fun v => if ph then 0 else v
  [CfgReg.all 0x40C 1 (own f.num), CfgReg.all 0x40D 1 f.port, CfgReg.all 0x40E 2 (b2n (!ph) + 2 * b2n (d.cxlFn f)),
   CfgReg.all 0x410 4 (own (d.rd (K.ofPart K.endpoint f.num))), CfgReg.all 0x414 4 (own (d.rd (K.ofPart K.portsActive f.num))),
   CfgReg.all 0x418 1 (own (d.rd (K.lsClass + f.num))), CfgReg.all 0x420 8 (own (d.rd (K.ofPart K.bar2Offset f.num)))]

/-- The bay DVSEC of function 0 (R362), and what the CXL DVSECs say of a port that is not in CXL mode (R333): Mem_Capable and
IO_Capable read 0. -/
def Dev.zeroRegs (d : Dev) (f : FnId) : List CfgReg :=
  let cxl := b2n (d.cxlFn f)
  [⟨0x1CA, 2, 7, 6 * cxl⟩, CfgReg.all 0x38C 4 8] ++
  (List.range 8).flatMap (fun b =>
    [CfgReg.all (0x390 + 8 * b) 4 (bayCapWord b), CfgReg.all (0x394 + 8 * b) 2 (d.bay b).ctrl,
     CfgReg.all (0x396 + 8 * b) 2 (d.bay b).status])

/-- The registers of a function. -/
def Dev.cfgMap (d : Dev) (f : FnId) : List CfgReg :=
  d.headerRegs f ++ capsAll (f.num == 0) ++ d.stdRegs f ++ d.aerRegs f ++ d.ublRegs f ++ d.partRegs f ++
  (if f.num == 0 then capsZero ++ d.zeroRegs f else [])

/-- Whether an offset lies in a standard capability, whose other fields behave as their specifications define (R334). -/
def stdOffset (f : FnId) (off : Nat) : Bool :=
  (0x40 ≤ off && off < 0x180) || (0x300 ≤ off && off < 0x380) || (f.num == 0 && 0x1C0 ≤ off && off < 0x300)

/-- A byte of configuration space. What the manual does not determine in a standard capability is a free value; every other
byte that no register covers reads zero. -/
def Dev.cfgByte (d : Dev) (f : FnId) (off : Nat) : Nat :=
  let free := if stdOffset f off then Config.cfgStd f.port f.num off % 256 else 0
  match (d.cfgMap f).find? (fun r => r.off ≤ off && off < r.off + r.size) with
  | some r =>
    let m := fld r.mask (8 * (off - r.off)) 8
    (fld r.value (8 * (off - r.off)) 8 &&& m) + (free &&& (255 - m))
  | none => free

/-- A configuration read of `n` bytes; none while the function answers no configuration request. -/
def Dev.cfgRead (d : Dev) (f : FnId) (off n : Nat) : Option (List Byte) :=
  if d.cfgOpen f then some ((List.range n).map (fun i => BitVec.ofNat 8 (d.cfgByte f (off + i)))) else none

/-! ## CDAT (R352) -/

/-- One DSLBIS pair of CDAT: the latency in ns and the bandwidth in MB/s of the memory of an HDM decoder. -/
structure CdatEntry where
  decoder : Nat
  latency : Nat
  bandwidth : Nat
deriving DecidableEq, Repr

/-- Raw bandwidth of a trained port per direction in MB/s: lanes times the rate (R327). -/
def Port.rawRate (x : Port) : Nat :=
  x.width * [0, 2500, 5000, 8000, 16000, 32000, 64000, 128000].getD x.speed 0 / 8

/-- What the CDAT of function 0 holds in CXL mode: one DSMAS for each of the two decoders, 190 ns and the port's raw rate. -/
def Dev.cdat (d : Dev) (port : Nat) : List CdatEntry :=
  if d.cxlFn ⟨port, 0⟩ then [0, 1].map (fun i => ⟨i, 190, (d.port port).rawRate⟩) else []

/-! ## BAR0 (R339, Table 11.8) -/

/-- The admin queue registers (Table 06.1). -/
def AdmQ.map (q : AdmQ) : List CfgReg :=
  [CfgReg.all 0x1000 8 q.asqBase, CfgReg.all 0x1008 8 q.acqBase, CfgReg.all 0x1010 1 q.asqLog2, CfgReg.all 0x1011 1 q.acqLog2,
   CfgReg.all 0x1012 1 (b2n q.enable), CfgReg.all 0x1013 1 (b2n q.ready + 2 * b2n q.sizeErr + 4 * b2n q.accFail),
   CfgReg.all 0x1018 4 q.asqTail, CfgReg.all 0x101C 4 q.acqHead]

/-- The event queue registers (Table 10.8). -/
def EvQ.map (q : EvQ) : List CfgReg :=
  [CfgReg.all 0x2000 8 q.base, CfgReg.all 0x2008 1 q.log2, CfgReg.all 0x2009 1 (b2n q.enable),
   CfgReg.all 0x200A 1 (b2n q.ready + 2 * b2n q.sizeErr + 4 * b2n q.accFail + 8 * b2n q.overflow), CfgReg.all 0x200C 4 q.tail,
   CfgReg.all 0x2010 4 q.ack]

/-- The mailbox registers (Table 14.12). -/
def Mbox.map (x : Mbox) : List CfgReg :=
  [CfgReg.all 0x3000 4 x.cmd, CfgReg.all 0x3004 4 x.status, CfgReg.all 0x3008 2 x.index, CfgReg.all 0x300A 1 x.sub,
   CfgReg.all 0x300C 4 x.offset, CfgReg.all 0x3010 4 x.count, CfgReg.all 0x3014 4 x.entryLen, CfgReg.all 0x3100 3840 (leNat x.data)]

/-- A byte of BAR0: offsets that no row covers read 0. The CXL register blocks of function 0 in CXL mode hold what CXL 3.1 defines. -/
def Dev.bar0Byte (d : Dev) (f : FnId) (off : Nat) : Nat :=
  if 0x100000 ≤ off ∧ off < 0x120000 then fld (d.bellRead f ((off - 0x100000) / 8)) (off % 8 * 8) 8
  else if 0x800000 ≤ off ∧ off < 0x820000 then (if d.cxlFn f then Config.cxlReg f.port off % 256 else 0)
  else
    match (CfgReg.all 0 8 (d.fstat f) :: (d.fn f).aq.map ++ (if d.evThere f then (d.fn f).eq.map else []) ++ (d.fn f).mb.map).find?
      (fun r => r.off ≤ off && off < r.off + r.size) with
    | some r => fld r.value (8 * (off - r.off)) 8
    | none => 0

/-- A read of `n` bytes of BAR0; none where it completes with Unsupported Request (Table 11.9). -/
def Dev.bar0Read (d : Dev) (f : FnId) (off n : Nat) : Option (List Byte) :=
  if d.barUp f && d.mse f && d.bar0Open off then some ((List.range n).map (fun i => BitVec.ofNat 8 (d.bar0Byte f (off + i)))) else none

/-! ## The expansion ROM window (R464, Table 15.5) -/

/-- What Table 15.5 fixes of ROM_HEADER: the signature, and the PCI Data Structure, here at offset 0x1C (PRESUMED, log entry 56). -/
def romHeader : List CfgReg :=
  [CfgReg.all 0 2 0xAA55, CfgReg.all 0x18 2 0x1C, CfgReg.all 0x1C 4 0x52494350, CfgReg.all 0x20 2 0x1F3C, CfgReg.all 0x22 2 0x4096,
   CfgReg.all 0x30 1 0xFF, CfgReg.all 0x31 1 0x80]

/-- The registers of the window; those of a recovery command read 0 outside Snowdrop, where no write reached them. -/
def Dev.romMap (d : Dev) : List CfgReg :=
  let st := fun (x : Slot) => x.st.code
  [CfgReg.all 0x1000 4 (d.rd K.startFailCount * 2 ^ 24 + d.rd K.lastFailReason * 2 ^ 16 + d.rd K.lastStartCause * 2 ^ 8 + d.su.stage),
   CfgReg.all 0x1004 4 d.su.slotA.shown, CfgReg.all 0x1008 4 d.su.slotB.shown,
   CfgReg.all 0x100C 4 (d.active * 2 ^ 16 + st d.su.slotB * 2 ^ 8 + st d.su.slotA),
   CfgReg.all 0x1010 4 d.su.rcmd, CfgReg.all 0x1014 4 d.su.rarg0, CfgReg.all 0x1018 4 d.su.rarg1, CfgReg.all 0x101C 4 d.su.rresult]

/-- A byte of the window; outside the header and the registers it is the data buffer. -/
def Dev.romByte (d : Dev) (off : Nat) : Nat :=
  match (if off < 512 then romHeader else d.romMap).find? (fun r => r.off ≤ off && off < r.off + r.size) with
  | some r => fld r.value (8 * (off - r.off)) 8
  | none =>
    if off < 512 then Config.romFixed off % 256
    else if 0x10000 ≤ off ∧ off < 0x100000 then (kget 0 (off - 0x10000) d.su.rbuf).toNat else 0

/-- A read of `n` bytes of the window through a function; none where it completes with Unsupported Request (R341). -/
def Dev.romRead (d : Dev) (f : FnId) (off n : Nat) : Option (List Byte) :=
  if d.romThere f && d.barUp f && d.mse f && bit (d.fn f).rom 0 then
    some ((List.range n).map (fun i => BitVec.ofNat 8 (d.romByte (off + i))))
  else none

/-! ## Indicators (R488, R489) -/

/-- What an indicator shows. -/
inductive Light where
  | off | greenBlink | green | amber | amberBlink | amberFast
deriving DecidableEq, Repr

/-- The module status indicator (R489, Table 16.8). -/
def Dev.statusLight (d : Dev) : Light :=
  match d.su.modState with
  | 0 => if d.flag K.thermalTripped then .amberFast else .off
  | 1 => .greenBlink
  | 2 => if d.ratingsOk then .green else .amber
  | _ => .amberBlink

/-- The amber indicator of MRDIMM slot `s`, which is lit while one of its DRAM devices is classed as failed or its DDR channel is
lost (R488). -/
def Dev.slotLight (d : Dev) (s : Nat) : Light :=
  if bit d.er.ddrLost s || bit d.er.slotsFailed s then .amber else .off

end Sys2Proof.Machine
end

