-- ==== Sys2Proof/Tests/Slice0.lean ====
section
/-! SUPPORT. Tests: an ill-formed command for each check of WellFormed, a small device in service, a witness for the
hypotheses of every statement, and worked values whose expected results come from the manual. -/

namespace Sys2Proof.Tests

set_option Elab.async false

open Sys2Proof Sys2Proof.Machine

/-! ## Well-formed commands -/

/-- The function of partition 3 on port 0. -/
def f0 : FnId := ⟨0, 3⟩

/-- An admin command of that function. -/
def h0 : Adm := ⟨f0, 7, false, 0⟩

/-- A native request of host 0x777 at line 0 of the partition. -/
def q0 : HReq := ⟨0, 0x777, 0x321, 0, 5, 0, false, false, 0, false⟩

/-- Parameters of CH_CREATE for a channel of recipe 6 with queues in host memory. -/
def a0 : ChArgs where
  recipe := 6
  cls := 2
  policy := 0
  sqLog2 := 4
  cqLog2 := 4
  loc := 0
  clusters := 0
  sqAddr := 0x10000
  cqAddr := 0x20000
  sqEp := 0
  cqEp := 0
  inflight := 4
  flags := 0
  args := 0

/-- An admin command from no function, with an identifier beyond 16 bits, or with a count of enables. -/
theorem test_ill_formed_admin : ([
  .chCreate ⟨⟨22, 3⟩, 7, false, 0⟩ a0, .chCreate ⟨f0, 65536, false, 0⟩ a0, .chDestroy ⟨⟨22, 3⟩, 7, false, 0⟩ 1,
  .chDestroy ⟨f0, 65536, false, 0⟩ 1, .chReset ⟨⟨22, 3⟩, 7, false, 0⟩ 1, .chReset ⟨f0, 65536, false, 0⟩ 1,
  .chRestart ⟨⟨22, 3⟩, 7, false, 0⟩ 1 1, .chRestart ⟨f0, 65536, false, 0⟩ 1 1, .chModify ⟨⟨22, 3⟩, 7, false, 0⟩ 1 1 1 1 1,
  .chModify ⟨f0, 65536, false, 0⟩ 1 1 1 1 1, .chQuery ⟨⟨22, 3⟩, 7, false, 0⟩ 1, .chQuery ⟨f0, 65536, false, 0⟩ 1,
  .syncAlloc ⟨⟨22, 3⟩, 7, false, 0⟩ 1 1 1 1, .syncAlloc ⟨f0, 65536, false, 0⟩ 1 1 1 1, .syncFree ⟨⟨22, 3⟩, 7, false, 0⟩ 1,
  .syncFree ⟨f0, 65536, false, 0⟩ 1, .syncSignal ⟨⟨22, 3⟩, 7, false, 0⟩ 1 1, .syncSignal ⟨f0, 65536, false, 0⟩ 1 1,
  .syncQuery ⟨⟨22, 3⟩, 7, false, 0⟩ 1, .syncQuery ⟨f0, 65536, false, 0⟩ 1, .syncArm ⟨⟨22, 3⟩, 7, false, 0⟩ 1 1,
  .syncArm ⟨f0, 65536, false, 0⟩ 1 1, .objCreate ⟨⟨22, 3⟩, 7, false, 0⟩ 1 1 1 1 1, .objCreate ⟨f0, 65536, false, 0⟩ 1 1 1 1 1,
  .objPlace ⟨⟨22, 3⟩, 7, false, 0⟩ 1 1, .objPlace ⟨f0, 65536, false, 0⟩ 1 1, .objDiscard ⟨⟨22, 3⟩, 7, false, 0⟩ 1 1 1,
  .objDiscard ⟨f0, 65536, false, 0⟩ 1 1 1, .objQuery ⟨⟨22, 3⟩, 7, false, 0⟩ 1 1 1 1 1 1, .objQuery ⟨f0, 65536, false, 0⟩ 1 1 1 1 1 1,
  .objDestroy ⟨⟨22, 3⟩, 7, false, 0⟩ 1, .objDestroy ⟨f0, 65536, false, 0⟩ 1, .viewSet ⟨⟨22, 3⟩, 7, false, 0⟩ 1 1 1,
  .viewSet ⟨f0, 65536, false, 0⟩ 1 1 1, .viewCreate ⟨⟨22, 3⟩, 7, false, 0⟩ 1 1 1 1 1 1 1, .viewCreate ⟨f0, 65536, false, 0⟩ 1 1 1 1 1 1 1,
  .deltaSeal ⟨⟨22, 3⟩, 7, false, 0⟩ 1 1 1 1 1, .deltaSeal ⟨f0, 65536, false, 0⟩ 1 1 1 1 1, .shareExport ⟨⟨22, 3⟩, 7, false, 0⟩ 1 1,
  .shareExport ⟨f0, 65536, false, 0⟩ 1 1, .shareWithdraw ⟨⟨22, 3⟩, 7, false, 0⟩ 1, .shareWithdraw ⟨f0, 65536, false, 0⟩ 1,
  .shareImport ⟨⟨22, 3⟩, 7, false, 0⟩ 1 1 1 1 1, .shareImport ⟨f0, 65536, false, 0⟩ 1 1 1 1 1, .grant ⟨⟨22, 3⟩, 7, false, 0⟩ 1 1 1 1,
  .grant ⟨f0, 65536, false, 0⟩ 1 1 1 1, .revoke ⟨⟨22, 3⟩, 7, false, 0⟩ 1 1 1, .revoke ⟨f0, 65536, false, 0⟩ 1 1 1,
  .acceptStale ⟨⟨22, 3⟩, 7, false, 0⟩ 1 1, .acceptStale ⟨f0, 65536, false, 0⟩ 1 1, .chQuery ⟨f0, 7, false, 1⟩ 1,
  .unknownAdminOpcode ⟨⟨22, 3⟩, 7, false, 0⟩ 1,
  .unknownAdminOpcode ⟨f0, 65536, false, 0⟩ 1] : List Instr).all (fun i => !wellFormed i) = true := by
  decide +kernel

/-- One field of a request, of the parameters of CH_CREATE, or of a named unit out of range. -/
theorem test_ill_formed_structure : ([
  .chCreate h0 { a0 with recipe := 65536 }, .chCreate h0 { a0 with cls := 256 }, .chCreate h0 { a0 with policy := 256 },
  .chCreate h0 { a0 with sqLog2 := 256 }, .chCreate h0 { a0 with cqLog2 := 256 }, .chCreate h0 { a0 with loc := 256 },
  .chCreate h0 { a0 with clusters := 256 }, .chCreate h0 { a0 with sqAddr := 2 ^ 64 }, .chCreate h0 { a0 with cqAddr := 2 ^ 64 },
  .chCreate h0 { a0 with sqEp := 2 ^ 32 }, .chCreate h0 { a0 with cqEp := 2 ^ 32 }, .chCreate h0 { a0 with inflight := 65536 },
  .chCreate h0 { a0 with flags := 65536 }, .chCreate h0 { a0 with args := 2 ^ 128 }, .rdShared { q0 with port := 22 } .good,
  .rdShared { q0 with src := 2 ^ 20 } .good, .rdShared { q0 with dst := 2 ^ 20 } .good, .rdShared { q0 with off := 2 ^ 48 } .good,
  .rdShared { q0 with tag := 2 ^ 16 } .good, .rdShared { q0 with pool := 16 } .good, .rdShared { q0 with lockId := 16 } .good,
  .rdOwn { q0 with port := 22 } .good, .rdOwn { q0 with src := 2 ^ 20 } .good, .rdOwn { q0 with dst := 2 ^ 20 } .good,
  .rdOwn { q0 with off := 2 ^ 48 } .good, .rdOwn { q0 with tag := 2 ^ 16 } .good, .rdOwn { q0 with pool := 16 } .good,
  .rdOwn { q0 with lockId := 16 } .good, .rdUncached { q0 with port := 22 } .good, .rdUncached { q0 with src := 2 ^ 20 } .good,
  .rdUncached { q0 with dst := 2 ^ 20 } .good, .rdUncached { q0 with off := 2 ^ 48 } .good, .rdUncached { q0 with tag := 2 ^ 16 } .good,
  .rdUncached { q0 with pool := 16 } .good, .rdUncached { q0 with lockId := 16 } .good, .wrUncached { q0 with port := 22 } 1 (zeros 64) .good,
  .wrUncached { q0 with src := 2 ^ 20 } 1 (zeros 64) .good, .wrUncached { q0 with dst := 2 ^ 20 } 1 (zeros 64) .good, .wrUncached { q0 with off := 2 ^ 48 } 1 (zeros 64) .good,
  .wrUncached { q0 with tag := 2 ^ 16 } 1 (zeros 64) .good, .wrUncached { q0 with pool := 16 } 1 (zeros 64) .good, .wrUncached { q0 with lockId := 16 } 1 (zeros 64) .good,
  .wrBack { q0 with port := 22 } (zeros 64), .wrBack { q0 with src := 2 ^ 20 } (zeros 64), .wrBack { q0 with dst := 2 ^ 20 } (zeros 64),
  .wrBack { q0 with off := 2 ^ 48 } (zeros 64), .wrBack { q0 with tag := 2 ^ 16 } (zeros 64), .wrBack { q0 with pool := 16 } (zeros 64),
  .wrBack { q0 with lockId := 16 } (zeros 64), .evict { q0 with port := 22 }, .evict { q0 with src := 2 ^ 20 },
  .evict { q0 with dst := 2 ^ 20 }, .evict { q0 with off := 2 ^ 48 }, .evict { q0 with tag := 2 ^ 16 },
  .evict { q0 with pool := 16 }, .evict { q0 with lockId := 16 }, .datapathParityError (.hostRead { q0 with port := 22 } true),
  .datapathParityError (.streamRead 256 0 true), .datapathParityError (.streamWrite 256 0 true), .datapathParityError (.hostWrite { q0 with port := 22 } 1),
  .datapathParityError (.bar2Write ⟨22, 0⟩ 0 1), .datapathParityError (.bar2Read ⟨22, 0⟩ 0 0 1 true), .datapathParityError (.bar2Read ⟨0, 0⟩ 0 0 0 true),
  .datapathParityError (.bar2Header ⟨22, 0⟩ 0 true), .datapathParityError (.header { q0 with port := 22 } true), .datapathParityError (.ring 24),
  .bayCtrl (.role (.partition 64)) 1 1, .bayCtrl (.dvsec ⟨22, 0⟩) 1 1, .lockstepMismatch (.cluster 256),
  .lockstepMismatch (.memory (.stack 8) []), .lockstepMismatch (.placement 64 0), .lockstepMismatch (.placement 0 65536),
  .lockstepMismatch (.flash 8 true), .registerWrite (.dict (.partition 64) 0 0) [], .registerWrite (.dict .fabric 65536 0) [],
  .registerWrite (.dict .fabric 0 256) [], .registerWrite (.bar0 ⟨22, 0⟩ 0) [], .registerWrite (.config ⟨22, 0⟩ 0) [],
  .refreshFailure (.stack 8), .refreshFailure (.ddr 16), .scrubRead (.block 64 0) .good,
  .scrubRead (.pageEntry 64 0) .good, .scrubRead (.objTable 64) .good, .scrubRead (.dirEntry 64 0) .good,
  .scrubRead (.dataKey 64) .good, .scrubRead (.chanCtx (2 ^ 32)) .good, .scrubRead (.syncCtx (2 ^ 32)) .good] : List Instr).all (fun i => !wellFormed i) = true := by
  decide +kernel

/-- A number, handle, port, bay or value beyond the width of its field. -/
theorem test_ill_formed_field : ([
  .chDestroy h0 (2 ^ 32), .chReset h0 (2 ^ 32), .chRestart h0 (2 ^ 32) 1,
  .chModify h0 (2 ^ 32) 1 1 1 1, .chModify h0 1 1 1 1 256, .chModifyPortBind (2 ^ 32),
  .chQuery h0 (2 ^ 32), .syncFree h0 (2 ^ 32), .syncSignal h0 (2 ^ 32) 1,
  .syncQuery h0 (2 ^ 32), .syncArm h0 (2 ^ 32) 1, .objCreate h0 65536 1 1 1 1,
  .objCreate h0 1 1 1 1 (2 ^ 128), .objPlace h0 65536 1, .objPlace h0 1 (2 ^ 128),
  .objDiscard h0 65536 1 1, .objQuery h0 65536 1 1 1 1 1, .objDestroy h0 65536,
  .viewSet h0 65536 1 1, .viewSetThDrained 64 1, .viewSetThDrained 1 65536,
  .viewCreate h0 65536 1 1 1 1 1 1, .viewCreate h0 1 1 1 1 1 65536 1, .deltaSeal h0 65536 1 1 1 1,
  .deltaSeal h0 1 65536 1 1 1, .sealDone 64 1, .sealDone 1 65536,
  .shareExport h0 65536 1, .shareWithdraw h0 65536, .shareImport h0 65536 1 1 1 1,
  .grant h0 65536 1 1 1, .revoke h0 65536 1 1, .channelDoorbell f0 65536 1 1,
  .channelDoorbell f0 1 64 1, .channelDoorbell f0 1 1 (2 ^ 64), .doorbell 24 1 1 1,
  .doorbell 1 (2 ^ 20) 1 1, .doorbell 1 1 (2 ^ 32) 1, .doorbell 1 1 1 (2 ^ 64),
  .descriptorFetch (2 ^ 32) .failed, .descriptorComplete (2 ^ 32) true, .nopDescriptor (2 ^ 32),
  .append (2 ^ 32) .failed, .decode (2 ^ 32) .failed, .prefill (2 ^ 32) .failed,
  .merge (2 ^ 32) .failed, .push (2 ^ 32) .failed, .pushDecision (2 ^ 32) true,
  .prefetch (2 ^ 32), .accumulate (2 ^ 32) .failed, .readout (2 ^ 32) .failed,
  .gather (2 ^ 32) .failed, .tlds 1 16 1 1 .ok, .tmma 1 16 1 1 1 1 1 .pass .ok,
  .tmma 1 1 16 1 1 1 1 .pass .ok, .tmma 1 1 1 1 1 0 1 .pass .ok, .tmma 1 1 1 1 1 9 1 .pass .ok,
  .tmma 1 1 1 1 1 1 8 .pass .ok, .tdrain 1 16 1 1 1 1, .tdrain 1 1 1 1 0 1,
  .tdrain 1 1 1 1 9 1, .tdrain 1 1 1 1 1 8, .tzero 1 0 1,
  .tzero 1 9 1, .tzero 1 1 8, .tlda 1 1 1 0 1 .ok,
  .tlda 1 1 1 9 1 .ok, .tlda 1 1 1 1 8 .ok, .vcvtin 1 1 1 16,
  .vcvtout 1 1 1 16, .vmxenc 1 1 1 16, .vmxdec 1 1 1 16,
  .sld 1 4 1 1 1, .sst 1 4 1 1 1 .ok, .sacc 1 4 1 1 1 .ok,
  .qpop 1 16 1, .qrel 1 16, .qsend 1 16 1 1 1 .ok,
  .qcnt 1 16 1, .wrUncached q0 1 (zeros 63) .good, .wrBack q0 (zeros 63),
  .recallAck 24 1, .recallData 24 1 (zeros 64), .recallData 1 1 (zeros 63)] : List Instr).all (fun i => !wellFormed i) = true := by
  decide +kernel

/-- A number, handle, port, bay or value beyond the width of its field. -/
theorem test_ill_formed_field_2 : ([
  .biconflict 24 1 true, .respData 24 1 1 [], .resp 24 1 1,
  .ublUnknownOpcode 24 1 1 1 1 true, .ublUnknownOpcode 1 (2 ^ 20) 1 1 1 true, .ublUnknownOpcode 1 1 (2 ^ 20) 1 1 true,
  .arbCommit .fabric 256, .shadow .fabric 6 1 1, .shadow .fabric 1 16 1,
  .shadow .fabric 1 1 256, .budgetWrite .fabric 4 1 1, .budgetWrite .fabric 1 16 1,
  .budgetWrite .fabric 1 1 (2 ^ 32), .capWrite .fabric 4 1 1, .capWrite .fabric 1 16 1,
  .capWrite .fabric 1 1 (2 ^ 32), .q0ReservePct .fabric 256, .classPartitions .fabric 16 1,
  .classPartitions .fabric 1 (2 ^ 64), .lsClass .fabric 64 true 1, .lsClass .fabric 1 true 256,
  .placementInvocation 64 1 (zeros 1024), .placementInvocation 1 65536 (zeros 1024), .placementInvocation 1 1 [], .migrationCopyDone 64 1 .good,
  .migrationCopyDone 1 (2 ^ 32) .good, .readDisturbRelocate 8 1, .retentionRefresh 8 1,
  .wearLevel 8, .flashBlockRetire 8 1 1, .tierReservationWrite .fabric 4 1 1,
  .tierReservationWrite .fabric 1 64 1, .tierReservationWrite .fabric 1 1 (2 ^ 32), .lend .fabric 64 1,
  .lend .fabric 1 (2 ^ 128), .sharedEnable .fabric 256, .hostSlot .fabric 4096 1,
  .hostSlot .fabric 1 (2 ^ 128), .chQuota .fabric true 64 1, .chQuota .fabric true 1 65536,
  .programImage .fabric 16 [], .program .fabric 1024 [], .pipeline .fabric 256 [],
  .clusterRetire .fabric 65536, .clusterReset .fabric 64 1, .clusterReset .fabric 1 256,
  .enable .fabric 64 1, .enable .fabric 1 256, .fence .fabric 64 1,
  .fence .fabric 1 256, .reset .fabric 64 1, .reset .fabric 1 256,
  .hotReset 24, .dlDown 24, .linkTrainingDone 24 ⟨true, true, true, 1, 0, 0, 1, 1⟩,
  .retrain .fabric 24 1, .retrain .fabric 1 256, .bypassForce .fabric 256,
  .cxlReleaseDynamicCapacity 24 1 1, .cxlAddDynamicCapacityResponse 24 true, .identifyMemoryDevice 24,
  .getSupportedLogs 24, .getLog 24 1 1, .getEventRecords 24 1,
  .clearEventRecords 24 1 true [], .getEventInterruptPolicy 24, .setEventInterruptPolicy 24 [],
  .getPoisonList 24 1 1, .getDynamicCapacityConfiguration 24, .getDynamicCapacityExtentList 24 1 1,
  .globalPersistentFlush 24 1, .attnButtonPress 8, .bayQuiesceTimer 8,
  .bayCtrl (.role .fabric) 8 1, .cartridgeRemoved 8, .cartridgeSurpriseRemoval 8 true,
  .powerFault 8, .cartridgeInserted 8 [] [], .cartridgeSettleTimer 8,
  .cartridgeCheckDone 8 true, .rebuildDone 8, .deadheadAdd .fabric (2 ^ 64),
  .recommendDismiss .fabric (2 ^ 64), .moduleId .fabric true (2 ^ 32), .pairRole .fabric 64 true 1] : List Instr).all (fun i => !wellFormed i) = true := by
  decide +kernel

/-- A number, handle, port, bay or value beyond the width of its field. -/
theorem test_ill_formed_field_3 : ([
  .pairRole .fabric 1 true 256, .mirrorRange .fabric 256 1, .mirrorRange .fabric 1 (2 ^ 128),
  .pairEnable .fabric 256, .leaseRenew .fabric (2 ^ 64), .heartbeat 24 ⟨0, 0, 0, true, none⟩ ⟨0, 0, 0, true, 0, 0⟩,
  .log 24 ⟨0, 0, 0, true, none⟩ [], .logAck 24 ⟨0, 0, 0, true, none⟩ 1 1 1, .nack 24 ⟨0, 0, 0, true, none⟩ 1,
  .repairRead 24 ⟨0, 0, 0, true, none⟩ 1 1, .repairRead 1 ⟨0, 0, 0, true, none⟩ 64 1, .repairData 24 ⟨0, 0, 0, true, none⟩ 1 1 .failed,
  .repairData 1 ⟨0, 0, 0, true, none⟩ 64 1 .failed, .resync 24 ⟨0, 0, 0, true, none⟩ 1 1 1 1 [], .resync 1 ⟨0, 0, 0, true, none⟩ 64 1 1 1 [],
  .ringFrameForward 24 ⟨0, 0, 0, true, none⟩, .handover .fabric 256, .mirrorFormatCommit .fabric 256,
  .enwaryOpen .ethernet 1 256, .enwaryRead ⟨1, 1, true⟩ 65536 1 1 1, .enwaryRead ⟨1, 1, true⟩ 1 256 1 1,
  .enwaryWrite ⟨1, 1, true⟩ 65536 1 [], .enwaryWrite ⟨1, 1, true⟩ 1 256 [], .readClear ⟨1, 1, true⟩ 65536 1,
  .readClear ⟨1, 1, true⟩ 1 256, .describe ⟨1, 1, true⟩ 65536 1, .describe ⟨1, 1, true⟩ 1 256,
  .segBegin ⟨1, 1, true⟩ 65536 1 1, .segBegin ⟨1, 1, true⟩ 1 256 1, .mbRead f0 65536 1,
  .mbRead f0 1 256, .mbWrite f0 65536 1 [], .mbWrite f0 1 256 [],
  .mbReadClear f0 65536 1, .mbReadClear f0 1 256, .mbDescribe f0 65536 1,
  .mbDescribe f0 1 256, .setEndpointId 1 256, .setTid 256,
  .getPdr (2 ^ 32), .setEventReceiver 1 256, .getMeasurements 256 true 1,
  .restart .fabric 256, .startFailCount .fabric 256, .updateBegin .fabric (2 ^ 32),
  .updateCommit .fabric 256, .imageConfirm .fabric 256, .minSvn .fabric 65536,
  .credSlot .fabric 8 [], .throttleForce .fabric 256, .sensorThreshold 0 .silent,
  .sensorThreshold 11 .silent, .flitCrcError 24, .extentClearDone 64,
  .keyDrawTimeout 64] : List Instr).all (fun i => !wellFormed i) = true := by
  decide +kernel

/-- A function of port 22, or of partition 64. -/
theorem test_ill_formed_function : ([
  .aqEnable ⟨22, 0⟩ 1, .aqEnable ⟨0, 64⟩ 1, .asqTail ⟨22, 0⟩ ⟨1, .failed⟩,
  .asqTail ⟨0, 64⟩ ⟨1, .failed⟩, .acqHead ⟨22, 0⟩ ⟨1, .failed⟩, .acqHead ⟨0, 64⟩ ⟨1, .failed⟩,
  .channelDoorbell ⟨22, 0⟩ 1 1 1, .channelDoorbell ⟨0, 64⟩ 1 1 1, .bar2Read ⟨22, 0⟩ 1 1 1 .good,
  .bar2Read ⟨0, 64⟩ 1 1 1 .good, .bar2Write ⟨22, 0⟩ 1 [] true .good, .bar2Write ⟨0, 64⟩ 1 [] true .good,
  .eqEnable ⟨22, 0⟩ 1, .eqEnable ⟨0, 64⟩ 1, .eqAck ⟨22, 0⟩ 1,
  .eqAck ⟨0, 64⟩ 1, .eventHeldWrite ⟨22, 0⟩, .eventHeldWrite ⟨0, 64⟩,
  .memorySpaceEnable ⟨22, 0⟩ true, .memorySpaceEnable ⟨0, 64⟩ true, .busMasterEnable ⟨22, 0⟩ true,
  .busMasterEnable ⟨0, 64⟩ true, .interruptDisable ⟨22, 0⟩ true, .interruptDisable ⟨0, 64⟩ true,
  .powerState ⟨22, 0⟩ 1, .powerState ⟨0, 64⟩ 1, .initiateFlr ⟨22, 0⟩,
  .initiateFlr ⟨0, 64⟩, .functionResetDone ⟨22, 0⟩, .functionResetDone ⟨0, 64⟩,
  .mbRead ⟨22, 0⟩ 1 1, .mbRead ⟨0, 64⟩ 1 1, .mbWrite ⟨22, 0⟩ 1 1 [],
  .mbWrite ⟨0, 64⟩ 1 1 [], .mbReadClear ⟨22, 0⟩ 1 1, .mbReadClear ⟨0, 64⟩ 1 1,
  .mbDescribe ⟨22, 0⟩ 1 1, .mbDescribe ⟨0, 64⟩ 1 1] : List Instr).all (fun i => !wellFormed i) = true := by
  decide +kernel

/-- A cluster beyond 255. -/
theorem test_ill_formed_cluster : ([
  .add 256 1 1 1, .sub 256 1 1 1, .and 256 1 1 1,
  .or 256 1 1 1, .xor 256 1 1 1, .sll 256 1 1 1,
  .srl 256 1 1 1, .sra 256 1 1 1, .slt 256 1 1 1,
  .sltu 256 1 1 1, .mul 256 1 1 1, .mulhu 256 1 1 1,
  .min 256 1 1 1, .max 256 1 1 1, .addi 256 1 1 1,
  .andi 256 1 1 1, .ori 256 1 1 1, .xori 256 1 1 1,
  .slli 256 1 1 1, .srli 256 1 1 1, .srai 256 1 1 1,
  .slti 256 1 1 1, .lw32 256 1 1 1 .ok, .ld64 256 1 1 1 .ok,
  .sw32 256 1 1 1, .sd64 256 1 1 1, .beq 256 1 1 1,
  .bne 256 1 1 1, .blt 256 1 1 1, .bge 256 1 1 1,
  .bltu 256 1 1 1, .bgeu 256 1 1 1, .j 256 1 1,
  .jr 256 1 1, .liq 256 1 1 1, .tlds 256 1 1 1 .ok,
  .tmma 256 1 1 1 1 1 1 .pass .ok, .tdrain 256 1 1 1 1 1, .tzero 256 1 1,
  .tlda 256 1 1 1 1 .ok, .vadd 256 1 1 1, .vsub 256 1 1 1,
  .vmul 256 1 1 1, .vfma 256 1 1 1 1, .vmin 256 1 1 1,
  .vmax 256 1 1 1, .vabs 256 1 1, .vneg 256 1 1,
  .vcmpeq 256 1 1 1, .vcmplt 256 1 1 1, .vcmple 256 1 1 1,
  .vsel 256 1 1 1 1, .vand 256 1 1 1, .vor 256 1 1 1,
  .vxor 256 1 1 1, .viadd 256 1 1 1, .vishl 256 1 1 1,
  .visra 256 1 1 1, .vrcp 256 1 1, .vrsqrt 256 1 1,
  .vsqrt 256 1 1, .vexp2 256 1 1, .vlog2 256 1 1,
  .vexp 256 1 1, .vlog 256 1 1, .vtanh 256 1 1,
  .vredadd 256 1 1, .vredmax 256 1 1, .vcvtin 256 1 1 1,
  .vcvtout 256 1 1 1, .vmxenc 256 1 1 1, .vmxdec 256 1 1 1,
  .vld 256 1 1 .ok, .vst 256 1 1, .vldn 256 1 1 1 .ok,
  .vstn 256 1 1 1, .vbcast 256 1 1, .vext 256 1 1 1,
  .sld 256 1 1 1 1, .sst 256 1 1 1 1 .ok, .sacc 256 1 1 1 1 .ok,
  .streamComplete 256 1 .failed, .qpop 256 1 1, .qrel 256 1] : List Instr).all (fun i => !wellFormed i) = true := by
  decide +kernel

/-- A cluster beyond 255. -/
theorem test_ill_formed_cluster_2 : ([
  .qsend 256 1 1 1 1 .ok, .qcnt 256 1 1, .dnext 256 1,
  .dpass 256, .ddone 256 1 1, .dstat 256 1,
  .ssig 256 1 1, .swait 256 1 1, .cargs 256 1,
  .idRead 256 1 1, .nop 256, .step 256 .agree,
  .bnd 256 1 1, .sfence 256 1, .fault 256 1,
  .dupWindowStart 256, .iftDue 256, .iftDeferExpiry 256,
  .iftDone 256 true] : List Instr).all (fun i => !wellFormed i) = true := by
  decide +kernel

/-- A role of partition 64. -/
theorem test_ill_formed_role : ([
  .arbCommit (.partition 64) 1, .shadow (.partition 64) 1 1 1, .budgetWrite (.partition 64) 1 1 1,
  .capWrite (.partition 64) 1 1 1, .q0ReservePct (.partition 64) 1, .classPartitions (.partition 64) 1 1,
  .lsClass (.partition 64) 1 true 1, .tierReservationWrite (.partition 64) 1 1 1, .lend (.partition 64) 1 1,
  .sharedEnable (.partition 64) 1, .hostSlot (.partition 64) 1 1, .chQuota (.partition 64) true 1 1,
  .programImage (.partition 64) 1 [], .program (.partition 64) 1 [], .pipeline (.partition 64) 1 [],
  .clusterRetire (.partition 64) 1, .clusterReset (.partition 64) 1 1, .enable (.partition 64) 1 1,
  .fence (.partition 64) 1 1, .reset (.partition 64) 1 1, .retrain (.partition 64) 1 1,
  .bypassForce (.partition 64) 1, .deadheadAdd (.partition 64) 1, .recommendDismiss (.partition 64) 1,
  .moduleId (.partition 64) true 1, .pairRole (.partition 64) 1 true 1, .mirrorRange (.partition 64) 1 1,
  .pairEnable (.partition 64) 1, .leaseRenew (.partition 64) 1, .handover (.partition 64) 1,
  .mirrorFormatCommit (.partition 64) 1, .restart (.partition 64) 1, .startFailCount (.partition 64) 1,
  .updateBegin (.partition 64) 1, .updateData (.partition 64) [], .updateCommit (.partition 64) 1,
  .imageConfirm (.partition 64) 1, .minSvn (.partition 64) 1, .credSlot (.partition 64) 1 [],
  .pairPeer (.partition 64) [], .throttleForce (.partition 64) 1] : List Instr).all (fun i => !wellFormed i) = true := by
  decide +kernel

/-- The same commands with every field in range are well formed. -/
theorem test_well_formed : ([
  .chCreate h0 a0, .chDestroy h0 1, .chReset h0 1,
  .chRestart h0 1 1, .chModify h0 1 1 1 1 1, .chModifyPortBind 1,
  .chQuery h0 1, .syncAlloc h0 1 1 1 1, .syncFree h0 1,
  .syncSignal h0 1 1, .syncQuery h0 1, .syncArm h0 1 1,
  .objCreate h0 1 1 1 1 1, .objPlace h0 1 1, .objDiscard h0 1 1 1,
  .objQuery h0 1 1 1 1 1 1, .objDestroy h0 1, .viewSet h0 1 1 1,
  .viewSetThDrained 1 1, .viewCreate h0 1 1 1 1 1 1 1, .deltaSeal h0 1 1 1 1 1,
  .sealDone 1 1, .shareExport h0 1 1, .shareWithdraw h0 1,
  .shareImport h0 1 1 1 1 1, .grant h0 1 1 1 1, .revoke h0 1 1 1,
  .acceptStale h0 1 1, .unknownAdminOpcode h0 1, .aqEnable f0 1,
  .asqTail f0 ⟨1, .failed⟩, .acqHead f0 ⟨1, .failed⟩, .channelDoorbell f0 1 1 1,
  .doorbell 1 1 1 1, .descriptorFetch 1 .failed, .descriptorComplete 1 true,
  .nopDescriptor 1, .append 1 .failed, .decode 1 .failed,
  .prefill 1 .failed, .merge 1 .failed, .push 1 .failed,
  .pushDecision 1 true, .prefetch 1, .accumulate 1 .failed,
  .readout 1 .failed, .gather 1 .failed, .add 1 1 1 1,
  .sub 1 1 1 1, .and 1 1 1 1, .or 1 1 1 1,
  .xor 1 1 1 1, .sll 1 1 1 1, .srl 1 1 1 1,
  .sra 1 1 1 1, .slt 1 1 1 1, .sltu 1 1 1 1,
  .mul 1 1 1 1, .mulhu 1 1 1 1, .min 1 1 1 1,
  .max 1 1 1 1, .addi 1 1 1 1, .andi 1 1 1 1,
  .ori 1 1 1 1, .xori 1 1 1 1, .slli 1 1 1 1,
  .srli 1 1 1 1, .srai 1 1 1 1, .slti 1 1 1 1,
  .lw32 1 1 1 1 .ok, .ld64 1 1 1 1 .ok, .sw32 1 1 1 1,
  .sd64 1 1 1 1, .beq 1 1 1 1, .bne 1 1 1 1,
  .blt 1 1 1 1, .bge 1 1 1 1, .bltu 1 1 1 1,
  .bgeu 1 1 1 1, .j 1 1 1, .jr 1 1 1,
  .liq 1 1 1 1, .tlds 1 1 1 1 .ok, .tmma 1 1 1 1 1 1 1 .pass .ok] : List Instr).all (fun i => wellFormed i) = true := by
  decide +kernel

/-- The same commands with every field in range are well formed. -/
theorem test_well_formed_2 : ([
  .tdrain 1 1 1 1 1 1, .tzero 1 1 1, .tlda 1 1 1 1 1 .ok,
  .vadd 1 1 1 1, .vsub 1 1 1 1, .vmul 1 1 1 1,
  .vfma 1 1 1 1 1, .vmin 1 1 1 1, .vmax 1 1 1 1,
  .vabs 1 1 1, .vneg 1 1 1, .vcmpeq 1 1 1 1,
  .vcmplt 1 1 1 1, .vcmple 1 1 1 1, .vsel 1 1 1 1 1,
  .vand 1 1 1 1, .vor 1 1 1 1, .vxor 1 1 1 1,
  .viadd 1 1 1 1, .vishl 1 1 1 1, .visra 1 1 1 1,
  .vrcp 1 1 1, .vrsqrt 1 1 1, .vsqrt 1 1 1,
  .vexp2 1 1 1, .vlog2 1 1 1, .vexp 1 1 1,
  .vlog 1 1 1, .vtanh 1 1 1, .vredadd 1 1 1,
  .vredmax 1 1 1, .vcvtin 1 1 1 1, .vcvtout 1 1 1 1,
  .vmxenc 1 1 1 1, .vmxdec 1 1 1 1, .vld 1 1 1 .ok,
  .vst 1 1 1, .vldn 1 1 1 1 .ok, .vstn 1 1 1 1,
  .vbcast 1 1 1, .vext 1 1 1 1, .sld 1 1 1 1 1,
  .sst 1 1 1 1 1 .ok, .sacc 1 1 1 1 1 .ok, .streamComplete 1 1 .failed,
  .qpop 1 1 1, .qrel 1 1, .qsend 1 1 1 1 1 .ok,
  .qcnt 1 1 1, .dnext 1 1, .dpass 1,
  .ddone 1 1 1, .dstat 1 1, .ssig 1 1 1,
  .swait 1 1 1, .cargs 1 1, .idRead 1 1 1,
  .nop 1, .step 1 .agree, .bnd 1 1 1,
  .sfence 1 1, .fault 1 1, .rdShared q0 .good,
  .rdOwn q0 .good, .rdUncached q0 .good, .wrUncached q0 1 (zeros 64) .good,
  .wrBack q0 (zeros 64), .evict q0, .recallAck 1 1,
  .recallData 1 1 (zeros 64), .biconflict 1 1 true, .respData 1 1 1 [],
  .resp 1 1 1, .ublUnknownOpcode 1 1 1 1 1 true, .bar2Read f0 1 1 1 .good,
  .bar2Write f0 1 [] true .good, .datapathParityError (.issued 1), .datapathParityError (.bar2Read f0 1 0 4 true), .datapathParityError (.recipeRead 1 true),
  .datapathParityError (.bar2Header f0 1 true), .arbCommit .fabric 1,
  .shadow .fabric 1 1 1, .budgetWrite .fabric 1 1 1, .capWrite .fabric 1 1 1,
  .q0ReservePct .fabric 1, .classPartitions .fabric 1 1, .lsClass .fabric 1 true 1] : List Instr).all (fun i => wellFormed i) = true := by
  decide +kernel

/-- The same commands with every field in range are well formed. -/
theorem test_well_formed_3 : ([
  .placementInvocation 1 1 (zeros 1024), .migrationCopyDone 1 1 .good, .readDisturbRelocate 1 1,
  .retentionRefresh 1 1, .wearLevel 1, .flashBlockRetire 1 1 1,
  .tierReservationWrite .fabric 1 1 1, .lend .fabric 1 1, .sharedEnable .fabric 1,
  .hostSlot .fabric 1 1, .chQuota .fabric true 1 1, .programImage .fabric 1 [],
  .program .fabric 1 [], .pipeline .fabric 1 [], .clusterRetire .fabric 1,
  .clusterReset .fabric 1 1, .enable .fabric 1 1, .fence .fabric 1 1,
  .reset .fabric 1 1, .eqEnable f0 1, .eqAck f0 1,
  .eventHeldWrite f0, .memorySpaceEnable f0 true, .busMasterEnable f0 true,
  .interruptDisable f0 true, .powerState f0 1, .initiateFlr f0,
  .functionResetDone f0, .hotReset 1, .dlDown 1,
  .linkTrainingDone 1 ⟨true, true, true, 1, 0, 0, 1, 1⟩, .retrain .fabric 1 1, .bypassForce .fabric 1,
  .cxlReleaseDynamicCapacity 1 1 1, .cxlAddDynamicCapacityResponse 1 true, .identifyMemoryDevice 1,
  .getSupportedLogs 1, .getLog 1 1 1, .getEventRecords 1 1,
  .clearEventRecords 1 1 true [], .getEventInterruptPolicy 1, .setEventInterruptPolicy 1 [],
  .getPoisonList 1 1 1, .getDynamicCapacityConfiguration 1, .getDynamicCapacityExtentList 1 1 1,
  .globalPersistentFlush 1 1, .attnButtonPress 1, .bayQuiesceTimer 1,
  .bayCtrl (.role .fabric) 1 1, .cartridgeRemoved 1, .cartridgeSurpriseRemoval 1 true,
  .powerFault 1, .cartridgeInserted 1 [] [], .cartridgeSettleTimer 1,
  .cartridgeCheckDone 1 true, .rebuildDone 1, .lockstepMismatch .control,
  .deadheadAdd .fabric 1, .recommendDismiss .fabric 1, .dupWindowStart 1,
  .iftDue 1, .iftDeferExpiry 1, .iftDone 1 true,
  .moduleId .fabric true 1, .pairRole .fabric 1 true 1, .mirrorRange .fabric 1 1,
  .pairEnable .fabric 1, .leaseRenew .fabric 1, .heartbeat 1 ⟨0, 0, 0, true, none⟩ ⟨0, 0, 0, true, 0, 0⟩,
  .log 1 ⟨0, 0, 0, true, none⟩ [], .logAck 1 ⟨0, 0, 0, true, none⟩ 1 1 1, .nack 1 ⟨0, 0, 0, true, none⟩ 1,
  .repairRead 1 ⟨0, 0, 0, true, none⟩ 1 1, .repairData 1 ⟨0, 0, 0, true, none⟩ 1 1 .failed, .resync 1 ⟨0, 0, 0, true, none⟩ 1 1 1 1 [],
  .ringFrameForward 1 ⟨0, 0, 0, true, none⟩, .handover .fabric 1, .mirrorFormatCommit .fabric 1,
  .enwaryOpen .ethernet 1 1, .enwaryRead ⟨1, 1, true⟩ 1 1 1 1, .enwaryWrite ⟨1, 1, true⟩ 1 1 [],
  .readClear ⟨1, 1, true⟩ 1 1, .describe ⟨1, 1, true⟩ 1 1, .segBegin ⟨1, 1, true⟩ 1 1 1] : List Instr).all (fun i => wellFormed i) = true := by
  decide +kernel

/-- The same commands with every field in range are well formed. -/
theorem test_well_formed_4 : ([
  .mbRead f0 1 1, .mbWrite f0 1 1 [], .mbReadClear f0 1 1,
  .mbDescribe f0 1 1, .setEndpointId 1 1, .setTid 1,
  .getPdr 1, .setEventReceiver 1 1, .getMeasurements 1 true 1,
  .restart .fabric 1, .startFailCount .fabric 1, .updateBegin .fabric 1,
  .updateData .fabric [], .updateCommit .fabric 1, .imageConfirm .fabric 1,
  .minSvn .fabric 1, .credSlot .fabric 1 [], .pairPeer .fabric [],
  .throttleForce .fabric 1, .sensorThreshold 1 .silent, .registerWrite (.rom 0) [],
  .flitCrcError 1, .refreshFailure (.stack 0), .extentClearDone 1,
  .keyDrawTimeout 1] : List Instr).all (fun i => wellFormed i) = true := by
  decide +kernel
/-! ## A small device -/

/-- A port whose link is up in a mode, with every feature. -/
def upPort (m : PMode) (part : Option Nat) : Port := ⟨m, .l0, 5, 16, 0xFFF, 0, part, 0, [], [], 1⟩

/-- The function of partition 3 with its queues READY, one admin command to fetch, memory space and bus mastering on. -/
def fn0 : Fn := { Fn.reset with
  command := 6
  aq := ⟨0x40000, 0x50000, 4, 4, true, true, false, false, 1, 0, 0, 0, true, [], [], 0⟩
  eq := ⟨0x60000, 4, true, true, false, false, false, 0, 0, true, [], 0⟩
  mb := { Mbox.reset with count := 8 } }

/-- An object of two extents from offset 0 in T1 or T2. -/
def obj0 : Obj := newObj 0 2 2 0x103 0x103

/-- A page of that object in T2, every block valid. -/
def page0 : Page := ⟨some ⟨.t2, 9, false⟩, 2 ^ 256 - 1, .resident, false, 4, 0, none, true, false⟩

/-- An ACTIVE channel of GATHER. -/
def chan0 : Chan := newChan a0 0 []

/-- Host slot 5: ACTIVE, native, endpoint 0x777, partition 3. -/
def slot5 : Nat := 0x777 * 2 ^ 108 + 3 * 2 ^ 102 + 1 * 2 ^ 95 + 1 * 2 ^ 92

/-- A device in service: partition 3 is enabled and presented on port 0 (native) and port 1 (CXL), the ring links are up,
object 1 has one page in T2, channel 0 is ACTIVE, host slot 5 has a grant of extent 0. -/
def live : Dev := { Dev.reset with
  su := { Su.reset with modState := 2, mains := true, perst := false, stage := 7, lark := some (0, 0) }
  ports := [(0, upPort .native none), (1, upPort .cxl (some 3)), (22, upPort .ring none), (23, upPort .ring none)]
  fns := [(3, fn0), (64, { fn0 with aq := AdmQ.reset })]
  mm := { Mm.reset with objs := [(3 * 2 ^ 16 + 1, obj0)], pages := [(3 * 2 ^ 32, page0)], cells := [(3 * 2 ^ 48 + 5, 0xAB)] }
  chs := { Chs.reset with chans := [(ctxKey 3 0, chan0)], chSpace := [(3, ⟨1, [], [], [(0, 1)]⟩)],
                          syncs := [(ctxKey 3 0, ⟨5, 3, 0, 0, f0, none⟩)], syncSpace := [(3, ⟨1, [], [], [(0, 1)]⟩)] }
  coh := { Coh.reset with grants := [⟨5, 3, 0, 1, true, none⟩] }
  mg := { Mg.reset with sessions := [⟨1, .ethernet, true, 0, true, 4, ⟨0, []⟩, some (0x300, 1, [1, 2, 3]), none, 3, [], 1, false⟩] }
  od := ((((((((((Dev.reset.wr (K.ofPart K.enable 3) 1).wr (K.ofPart K.portsActive 3) 3).wr (K.ofPart K.endpoint 3) 0x321).wr
    (slotKey 5) slot5).wr (resvKey 3 .t2) 8).wr (resvKey 3 .t1) 2).wr (K.chQuota + 3) 4).wr (K.syncQuota + 3) 4).wr
    (K.grantQuota + 3) 4).wr (K.classPartitions + 2) 8).od }

/-- The state with no command waiting. -/
def at' (d : Dev) : State := ⟨d, []⟩

/-- The handle of channel 0 of partition 3, and of synchronisation object 0. -/
def handle0 : Nat := mkHandle 3 1 0

/-! ## Witnesses: stage programs -/

/-- A cluster of stage 0 with SRAM and a few addresses in its registers. -/
def clu5 : Clu := { Clu.reset with
  st := .active
  logical := some 40
  chan := some (ctxKey 3 0)
  prog := List.replicate 16 0
  sramLimit := 0x40000
  feeders := [0]
  x := [(1, 64), (2, 4), (3, 2), (4, 2048), (5, 15), (7, 0x3F800), (8, 0x3FFFC)] }

/-- The descriptor that the stages of the channel have at hand. -/
def dsc0 : Dsc where
  seq := 1
  op := 0x20
  flags := 0
  tag := 9
  waitH := 0
  waitV := 0
  sigH := 0
  deadline := 0
  sigAdd := 0
  args := zeros 32
  cls := 2
  policy := 0
  ph := .running
  status := 0
  detail := 0
  result := 0
  failed := 0
  overrun := false
  fallback := 0
  late := false
  missed := false
  step := 0
  passed := []
  dones := []

/-- A customer pipeline of two stages, one cluster each: stage 0 on cluster 5 feeds stage 1 on cluster 6. -/
def piped : Dev := { live with
  pipes := [(0, leBytes 0x34 0 ++ leBytes 2 2 ++ zeros 300)]
  lmap := [(40, 5), (41, 6)]
  chs := { live.chs with chans := [(ctxKey 3 0, { chan0 with recipe := 0x100, logical := [40, 41], stages := [[40], [41]], fetched := [dsc0] })] }
  cl := [(5, clu5), (6, { clu5 with logical := some 41, stage := 1 })] }

/-- The same device with other contents in cluster 5. -/
def with5 (f : Clu → Clu) : Dev := piped.modClu 5 f

theorem witness_stageReady : piped.stageReady 5 ∧ piped.stageReady 6 := by unfold Dev.stageReady; decide +kernel

theorem witness_ScalarOperations :
    ((clu5.xr 2 + (0 : BitVec 14).signExtend 64).toNat % 4 = 0 ∧ clu5.mayRead 4 4 ∧ clu5.mayWrite 0x3FFFC 4) ∧
    ((clu5.xr 1 + (0 : BitVec 14).signExtend 64).toNat % 8 = 0 ∧ clu5.mayRead 64 8 ∧ clu5.mayWrite 0x3FFF8 8) ∧
    (clu5.xr 3 + (0 : BitVec 14).signExtend 64).toNat % 4 ≠ 0 ∧ (clu5.xr 2 + (0 : BitVec 14).signExtend 64).toNat % 8 ≠ 0 ∧
    (clu5.xr 5).toNat < clu5.progLen := by
  unfold Clu.mayRead Clu.mayWrite; decide +kernel

theorem witness_ArrayOperations :
    (∀ g < 16, clu5.mayRead (clu5.xr 1 + BitVec.ofNat 64 g * 4096).toNat 4096) ∧
    (∀ g < 16, clu5.mayRead (clu5.xr 1 + BitVec.ofNat 64 g * clu5.xr 4).toNat (quadBytes 4 8)) ∧ pairOk 0 4 = true ∧ pairOk 7 7 = true ∧
    (∀ a < 256, kget 0 a clu5.tags = 0) ∧ (∃ a < 256, kget 0 a clu5.tags ≠ 4) ∧
    (drainSize 6 = some 2 ∧ drainSize 9 = some 4 ∧ ∀ g < 16, clu5.mayWrite (clu5.xr 1 + BitVec.ofNat 64 g * clu5.xr 4).toNat (2 * 256 * 4)) ∧
    (∀ g < 16, clu5.mayRead (clu5.xr 1 + BitVec.ofNat 64 g * clu5.xr 4).toNat (8 * 1024)) := by
  unfold Clu.mayRead Clu.mayWrite; decide +kernel

theorem witness_VectorFunctions : f32 0x7FC00000 = .nan ∧ f32 0xFF800001 = .nan := by decide +kernel

theorem witness_VectorMovesAndConversions :
    ((clu5.xr 1).toNat % 64 = 0 ∧ clu5.mayRead (clu5.xr 1).toNat 2048 ∧ clu5.mayWrite (clu5.xr 7).toNat 2048) ∧
    ((clu5.xr 4).toNat % 64 = 0 ∧ 64 ≤ (clu5.xr 4).toNat ∧ (clu5.xr 4).toNat ≤ 2048 ∧ clu5.mayRead 64 2048 ∧ clu5.mayWrite 64 2048) ∧
    ((clu5.xr 1).toNat % 64 = 0 ∧ 64 ≤ (clu5.xr 1).toNat) ∧ (clu5.xr 2).toNat % 64 ≠ 0 ∧ 2048 < (clu5.xr 7).toNat := by
  unfold Clu.mayRead Clu.mayWrite; decide +kernel

/-- An outstanding load from a host, the 16th operation. -/
def load15 : StreamOp := ⟨15, 0, 1, 0x1000, 0x80, 64, [], none, 0, 0⟩

theorem witness_StreamOperations :
    (∃ ch, (piped.clu 5).chan = some (ctxKey 3 0) ∧ piped.chan (ctxKey 3 0) = some ch ∧ ch.dscFailed (piped.clu 5).cur = false) ∧
    (clu5.mayWrite 64 64 ∧ clu5.mayRead 64 64 ∧ clu5.mayWrite 0 262144 ∧ { clu5 with streams := List.replicate 15 load15 }.streams.length < 16) ∧
    (piped.bme (chan0.fn (ctxKey 3 0)) = true ∧ (piped.setFn f0 Fn.reset).bme (chan0.fn (ctxKey 3 0)) = false) ∧
    (let d := with5 (fun u => { u with streams := [load15] })
     ∃ ch, (d.clu 5).streams.find? (fun x => x.id == load15.id) = some load15 ∧ (d.clu 5).chan = some (ctxKey 3 0) ∧
       d.chan (ctxKey 3 0) = some ch ∧ ch.st = .active ∧ (d.clu 5).earlier load15 = false ∧ ch.dscFailed load15.desc = false ∧
       load15.space ≠ 0 ∧ load15.kind = 0 ∧ (zeros 64).length = load15.len ∧ (∀ l ∈ d.bw.locks, streamLock 5 load15 l = false) ∧ d.quiet) := by
  unfold Clu.mayRead Clu.mayWrite Dev.quiet
  exact ⟨⟨_, by decide +kernel, by rfl, by decide +kernel⟩, by decide +kernel, by decide +kernel,
    ⟨_, by decide +kernel, by decide +kernel, by rfl, by decide +kernel⟩⟩

theorem witness_QueueOperations :
    (let b : QBuf := ⟨0, 0, 64, 1, false⟩
     let u := { clu5 with queue := [b] }
     u.feeders.contains 0 = true ∧ (u.from 0).find? (fun x => !x.popped) = some b ∧ (u.from 0).find? (fun x => x.popped) = none) ∧
    (let b : QBuf := ⟨0, 0, 64, 1, true⟩
     let u := { clu5 with queue := [b] }
     (u.from 0).find? (fun x => x.popped) = some b ∧ u.busy (u.bufAddr b) 4096 = false) ∧
    (∃ ch, piped.chan (ctxKey 3 0) = some ch ∧ bit (piped.outMask ch.recipe 0) 1 = true ∧ (clu5.xr 1).toNat % 64 = 0 ∧ clu5.mayRead 64 64 ∧
      clu5.mayRead 64 4096 ∧ clu5.storesOut = false ∧ (clu5.xr 0).toNat % 2 ^ 16 ≠ 0xFFFF ∧ piped.receivers ch clu5 1 0 = [6] ∧ 6 ≠ 5 ∧
      ((piped.clu 6).from 0).length < 8) := by
  unfold Clu.mayRead
  exact ⟨by decide +kernel, by decide +kernel, ⟨_, by rfl, by decide +kernel⟩⟩

theorem witness_DescriptorOperations :
    (∃ ch, piped.chan (ctxKey 3 0) = some ch ∧ clu5.cur = none ∧ (clu5.xr 1).toNat % 64 = 0 ∧ clu5.mayWrite 64 64 ∧
      ch.nextFor 0 0 = some dsc0 ∧ ch.reached dsc0 0 = true ∧ (0 + 1 ≠ ch.stages.length) ∧ (1 + 1 = ch.stages.length) ∧
      ch.fetched.find? (fun y => y.seq == 1) = some dsc0) ∧ clu5.storesOut = false ∧ doneBad 0 = false ∧ doneBad 0xF0 = false ∧
    (let x := { dsc0 with dones := [(0, 0, 7), (1, 0xF0, 8)] }
     (x.dones.find? (fun e => e.1 == 0)).map (fun e => e.2.2) = some 7 ∧ (∀ a ∈ x.dones, ∀ b ∈ x.dones, a.1 = b.1 → a = b) ∧
     x.failed = 0 ∧ ∃ e ∈ x.dones, e.2.1 ≠ 0) ∧ { dsc0 with failed := 0x20 }.failed ≠ 0 := by
  unfold Clu.mayWrite
  exact ⟨⟨_, by rfl, by decide +kernel⟩, by decide +kernel⟩

theorem witness_SynchronisationAndIdentity :
    piped.stageSync (ctxKey 3 0) (BitVec.ofNat 64 handle0) = some (ctxKey 3 0) ∧ (kfind (ctxKey 3 0) piped.chs.syncs).isSome = true ∧
    piped.stageSync (ctxKey 3 0) 0 = none ∧ (clu5.xr 1).toNat % 16 = 0 ∧ clu5.mayWrite 64 16 := by
  unfold Clu.mayWrite; decide +kernel

theorem witness_StepsAndBoundaries :
    (clu5.steps < 4096 ∧ clu5.prog ≠ [] ∧ clu5.window = none ∧ piped.dupStarved clu5 = false) ∧ 4096 ≤ { clu5 with steps := 4096 }.steps ∧
    (let u := { clu5 with prog := [], steps := 255 }; u.prog = [] ∧ u.steps < 256 ∧ (piped.setClu 5 u).stageReady 5) ∧
    (clu5.streams = [] ∧ (∀ b ∈ clu5.queue, b.popped = false) ∧ (clu5.xr 4).toNat ≤ 262144 ∧ (clu5.xr 1).toNat % 64 = 0 ∧
      (clu5.xr 1).toNat + (clu5.xr 4).toNat ≤ clu5.sramLimit ∧ clu5.iftDue = false) ∧
    (∃ b ∈ { clu5 with queue := [⟨0, 0, 64, 1, true⟩] }.queue, b.popped = true) ∧ live.stageOn 5 = false ∧
    ((with5 (fun u => { u with paused := true })).clu 5).paused = true ∧
    (let d := with5 (fun u => { u with pc := 16 }); d.stageOn 5 = true ∧ (d.clu 5).paused = false ∧ (d.clu 5).progLen ≤ (d.clu 5).pc) ∧
    (let d := with5 (fun u => { u with pc := 15, insns := 65536 })
     d.stageOn 5 = true ∧ (d.clu 5).pc < (d.clu 5).progLen ∧ 65536 ≤ (d.clu 5).insns) := by
  unfold Dev.stageReady; decide +kernel

/-! ## Witnesses: memory, admin queues, channels, objects -/

/-- The device after the fetch of its admin command. -/
def fetched : Dev := live.admFetch h0

/-- A device whose object 1 is something else. -/
def liveObj (o : Obj) : Dev := live.setObj 3 1 o

theorem witness_MemoryCanonicalKept : Memory.wf live.mm.cells = true ∧ step (at' live) = .next ⟨live.commitDone, []⟩ :=
  ⟨by decide +kernel, rfl⟩

theorem witness_MemoryReadAfterWrite : Memory.wf live.mm.cells = true ∧ 2 ^ 48 - 1 + ([7] : List Byte).length ≤ 2 ^ 48 := by
  decide +kernel

theorem witness_StepTakesTheFront : live.rd K.commitPending = 0 := by decide +kernel

theorem witness_AdminQueueTurn : f0.port < 22 ∧ h0.run = (live.fn f0).aq.runs ∧ live.bme f0 = true ∧
    (live.fn f0).aq.ready = true ∧ (live.fn f0).aq.accFail = false := by decide +kernel

theorem witness_AdminRefusals :
    live.admReady f0 = true ∧ fetched.admBar h0 false = none ∧
    (fetched.placeholder f0 = false ∧ fetched.enabled 3 = true ∧ fetched.pairRole 3 ≠ 2 ∧ fetched.fenced 3 = false ∧
      ({ h0 with rsv := true } : Adm).rsv = true) ∧
    (let d := live.wr (K.ofPart K.enable 3) 0; d.admReady f0 = true ∧ (d.admFetch h0).enabled 3 = false) ∧
    (let d := live.wr (K.ofPart K.fenceCauses 3) 1; d.admReady f0 = true ∧ (d.admFetch h0).fenced 3 = true) ∧
    (let d := live.wr (K.pairRole + 3) 2; d.admReady f0 = true ∧ (d.admFetch h0).pairRole 3 = 2 ∧ (d.admFetch h0).fenced 3 = false) := by
  decide +kernel

/-- The device with channel 0 halted, and with an unbound port change. -/
def halted : Dev := live.modChan (ctxKey 3 0) (fun c => { c with st := .halted, lastHalt := 0x30 })
def changing : Dev := live.modChan (ctxKey 3 0) (fun c => { c with newPort := some (1, h0) })

theorem witness_ChannelCommands :
    (live.chCreateWaits h0 { a0 with recipe := 0 } = false ∧ live.admTurn h0 false ∧
      fetched.chCreateCheck h0 { a0 with recipe := 0 } = none ∧ ((fetched.chSp 3).issue).isSome = true) ∧
    (live.chCreateWaits h0 { a0 with policy := 3 } = false ∧ fetched.chCreateCheck h0 { a0 with policy := 3 } = some (0x11, 0x0003)) ∧
    (fetched.chanOf 3 handle0 = some (ctxKey 3 0) ∧ fetched.chan (ctxKey 3 0) = some chan0 ∧ live.admTurn h0 true ∧ chan0.st ≠ .halted ∧
      live.chanCmdWaits h0 handle0 = false ∧ fetched.chModifyCheck (ctxKey 3 0) chan0 2 2 7 1 = none ∧
      fetched.chModifyCheck (ctxKey 3 0) chan0 15 0 3 0 = none ∧ chan0.fetched = [] ∧ bit 7 2 = true ∧ bit 3 2 = false) ∧
    (∃ c, halted.admTurn h0 false ∧ (halted.admFetch h0).chan (ctxKey 3 0) = some c ∧ c.st = .halted ∧ (halted.admFetch h0).bme (c.fn (ctxKey 3 0)) = true ∧
      ((halted.admFetch h0).refillStages (halted.admFetch h0).freeLogical c.stages).isSome = true ∧ (halted.admFetch h0).restartWaits c = false ∧
      (halted.admFetch h0).fenced (ctxPart (ctxKey 3 0)) = false ∧ halted.chanCmdWaits h0 handle0 = false ∧
      (halted.admFetch h0).chanOf 3 handle0 = some (ctxKey 3 0)) ∧
    (fetched.chanOf 3 (handle0 + 1) = none ∧ fetched.chanOf 3 (mkHandle 3 2 0) = none ∧ live.chanCmdWaits h0 (handle0 + 1) = false) ∧
    (∃ c, changing.chan (ctxKey (hPart handle0) (hIdx handle0)) = some c ∧ c.newPort = some (1, h0) ∧ c.fetched = [] ∧ c.cqes = []) ∧
    (∃ c, (live.modChan (ctxKey 3 0) (fun c => { c with st := .ending })).chan (ctxKey 3 0) = some c ∧ c.st = .ending) ∧
    live.restartWaits { chan0 with st := .halted, cqes := [⟨1, 0, 0, 0, 0⟩] } = true ∧
    (chan0.st = .active ∧ chan0.fetched = [] ∧ chan0.cqes = [] ∧ live.stageLocks (ctxKey 3 0) = [] ∧ chan0.sqHead < 2 ^ 16 ∧
      chan0.fetched.length + chan0.cqes.length < 2 ^ 16 ∧ chan0.lastHalt < 256 ∧ chan0.cls < 256) := by
  unfold Dev.admTurn
  exact ⟨by decide +kernel, by decide +kernel, by decide +kernel, ⟨_, by decide +kernel, by rfl, by decide +kernel⟩, by decide +kernel,
    ⟨_, by rfl, by decide +kernel⟩, ⟨_, by rfl, by decide +kernel⟩, by decide +kernel⟩

theorem witness_SynchronisationCommands :
    (fetched.syncAllocCheck h0 3 0 0 = none ∧ ((fetched.sySp 3).issue).isSome = true) ∧
    (∃ o, fetched.syncOf 3 handle0 = some (ctxKey 3 0) ∧ kfind (ctxKey 3 0) fetched.chs.syncs = some o ∧ fetched.syncAwaited handle0 = false ∧
      o.value < 6 ∧ 5 ≤ o.value) ∧ fetched.syncOf 3 (mkHandle 3 0 0) = none ∧
    (live.modChan (ctxKey 3 0) (fun c => { c with fetched := [{ dsc0 with flags := 1, ph := .held, waitH := handle0 }] })).syncAwaited handle0 = true := by
  exact ⟨by decide +kernel, ⟨_, by decide +kernel, by rfl, by decide +kernel⟩, by decide +kernel, by decide +kernel⟩

theorem witness_SignalSaturates : ∃ o, kfind (ctxKey 3 0) live.chs.syncs = some o ∧ o.loc = 3 ∧ o.arm = none ∧ o.value < 2 ^ 64 := by
  exact ⟨_, by rfl, by decide +kernel⟩

/-- An object under way out, and the device that clears it. -/
def clear0 : Clear := ⟨.destroy, 3, 1, 0, 2, true, 1, some h0⟩

theorem witness_ObjectCommands :
    live.objTurn h0 false (.create 7 2 (2 ^ 31) 2 0x103) ∧ live.objTurn h0 false (.place 1 0x103) ∧
    (live.numberBusy false (3, 1) = false ∧ live.discardWaits 3 1 0 (2 ^ 23) = false ∧ fetched.obj 3 1 = some obj0 ∧ fetched.pairRole 3 = 0 ∧
      obj0.ordinary = true ∧ 0 + 2 ^ 23 ≤ obj0.n * 2 ^ 22 ∧ obj0.n * 2 ^ 22 < 1 + 2 ^ 23) ∧
    ({ obj0 with kind := 4 }.ordinary = false ∧ (liveObj { obj0 with kind := 4 }).discardWaits 3 1 0 1 = false) ∧
    (live.admTurn h0 true ∧ fetched.objQueryCheck h0 1 0 1 0 0 0x70000 = none ∧ 
      fetched.objQueryCheck h0 1 2 1 0 0 0x1000 = none) := by
  unfold Dev.objTurn Dev.admTurn; decide +kernel

/-- The device with a route to every endpoint over port 0, after the fetch of its admin command. -/
def routed : Dev := (live.wr K.route (0xFFFFF * 2 ^ 24 + 1)).admFetch h0

theorem witness_ObjectCommands_ubl : routed.objQueryCheck h0 1 1 1 0 0x777 0x1000 = none := by
  have up : routed.upPorts (routed.route 0x777) = [0] := by decide +kernel
  have port : routed.routePort 0x777 (0x1000 / 64) = some 0 := by simp [Dev.routePort, up, Nat.mod_one]
  have obj : routed.obj 3 1 = some obj0 := by decide +kernel
  have bad : routed.queryBad h0 obj0 1 1 0 0x777 0x1000 = false := by decide +kernel
  unfold Dev.objQueryCheck
  rw [show h0.fn.num = 3 from rfl, obj]
  simp [bad, port]

theorem witness_ObjectCommands_2 :
    (live.objTurn h0 true (.destroy 1) ∧ fetched.quiet ∧ obj0.sealing = none ∧ 1 ≤ obj0.n ∧ fetched.coh.dir = [] ∧ fetched.coh.recalls = [] ∧ fetched.mm.migs = [] ∧
      ∀ e ∈ fetched.mm.objs, e.2.aliasOf ≠ some (3, 1) ∧ windowOver 3 1 (e.1 / 2 ^ 16) e.2 = false) ∧
    (let d := { live with mm := { live.mm with clearing := [clear0] } }
     d.mm.clearing = [clear0] ∧ d.coh.revokes = [] ∧ d.coh.recalls = [] ∧ d.mm.held = [] ∧ d.mm.migs = [] ∧ d.chs.wrote = [] ∧
       (∀ e ∈ d.chs.chans, e.2.restart = none) ∧ clear0.kind = .destroy ∧ clear0.gone = true ∧
       clear0.h = some h0 ∧ clear0.left = 0 + 1) ∧
    fetched.objCreateCheck 3 7 2 (2 ^ 31) 2 0x103 = none ∧ (IdxSpace.mk 16383 [] [4] []).fresh < 16384 ∧
    ((IdxSpace.mk 16384 [] [4] []).issue).isSome = true ∧ (2 ^ 40 - 1 + 1) * 256 ≤ 2 ^ 48 := by
  unfold Dev.objTurn Dev.admTurn Dev.quiet; decide +kernel

/-- An object with a seal that has started. -/
def seal0 : Seal := ⟨0, h0, 0, 0, 128, 2, true, true⟩

theorem witness_ViewCommands :
    (live.objTurn h0 false (.viewSet 1 1 0) ∧ live.objTurn h0 false (.viewSet 1 0 0) ∧ (fetched.stopThMoves 3 obj0).thPagesOf 3 obj0 = []) ∧
    (let o := { obj0 with kind := 1 }
     let d := { liveObj o with mm := { (liveObj o).mm with pages := [(3 * 2 ^ 32, { page0 with home := some ⟨.th, 0, false⟩ })] } }
     d.objTurn h0 false (.viewSet 1 0 0) ∧ ((d.admFetch h0).stopThMoves 3 o).thPagesOf 3 o ≠ []) ∧
    (let o := { obj0 with viewTo := some (0, 0, h0) }
     let d := liveObj o
     d.obj 3 1 = some o ∧ ∀ e ∈ d.pagesOf 3 o, e.2.home.all (fun x => x.tier != .th) = true ∧ (d.finalHome e.1 e.2).all (fun x => x.tier != .th) = true) ∧
    live.objTurn h0 false (.viewCreate 9 4 0 2 (2 ^ 31) 1 0) ∧
    (let d := (liveObj { obj0 with kind := 0 }).setObj 3 2 (newObj 4 2 2 0x103 0x103)
     d.objTurn h0 false (.seal 1 2 0 0 2) ∧ d.objTurn h0 false (.seal 1 2 2 1 0) ∧ ∀ e ∈ (d.admFetch h0).mm.objs, e.2.sealing = none) ∧
    (let o := { obj0 with sealing := some seal0 }
     (liveObj o).obj 3 1 = some o ∧ seal0.started = true ∧ (liveObj o).objPoison 3 o = false ∧ (liveObj o).sealLocked 3 o = false ∧
     (liveObj o).sealCapped 3 o ((liveObj o).rd (K.migrationClass + 3)) = false ∧ { seal0 with clean := false }.clean = false ∧
     ({ liveObj o with mm := { (liveObj o).mm with blocks := [(blkKey 3 0, { Meta.zero with poison := true })] } } : Dev).objPoison 3 o = true) ∧
    (live.objTurn h0 false (.acceptStale 1 0) ∧ (fetched.coh.dir.map (fun e => e.1)).Nodup) := by
  unfold Dev.objTurn Dev.admTurn; decide +kernel

theorem witness_ViewSetThDrained :
    let o := { obj0 with viewTo := some (0, 0, h0) }
    ∀ e ∈ (liveObj o).pagesOf 3 o, ∀ x, e.2.home = some x ∨ (liveObj o).finalHome e.1 e.2 = some x → x.tier ≠ .th := by
  have gen : ∀ (a : Option Home) (x : Home), a.all (fun x => x.tier != .th) = true → a = some x → x.tier ≠ .th := by
    intro a x h e; subst e; simpa using h
  intro o e he x hx
  have h := (witness_ViewCommands.2.2.1).2 e he
  exact hx.elim (gen _ x h.1) (gen _ x h.2)

/-! ## Witnesses: sharing, the directory, accesses, requests, descriptors -/

/-- The device with shared regions on. -/
def sharing : Dev := { live with mm := { live.mm with shareOn := true } }

/-- A revoke that drains the grant, and one that waits for its CXL host. -/
def revoke2 : Revoke := ⟨1, [h0], 5, 3, 0, 1, .v2⟩
def revoke5 : Revoke := ⟨2, [], 5, 3, 0, 1, .v5⟩
def revoking (r : Revoke) : Dev := { live with coh := { live.coh with revokes := [r] } }

theorem witness_SharingAndGrants :
    sharing.objTurn h0 false (.share 1 1) ∧
    (let o := { obj0 with exported := some true }
     let d := sharing.setObj 3 1 o
     d.objTurn h0 false (.withdraw 1) ∧ (d.admFetch h0).quiet ∧ (d.admFetch h0).obj 3 1 = some o ∧
     (∀ e ∈ (d.admFetch h0).mm.objs, e.2.aliasOf ≠ some (3, 1)) ∧ o.aliasOf = none ∧ (d.admFetch h0).mm.migs = [] ∧ (d.admFetch h0).coh.dir = []) ∧
    (let d := (sharing.setObj 8 1 { obj0 with exported := some true }).wr (K.importMask + 8) 8
     d.objTurn h0 false (.imp 11 8 1 1 (2 ^ 40)) ∧ ((d.admFetch h0).obj 8 1).isSome = true) ∧
    (fetched.grantCheck 3 5 1 1 1 = none ∧ slMode (fetched.slot 5) ≠ 2) ∧
    (let d := live.wr (slotKey 6) (3 * 2 ^ 102 + 1 * 2 ^ 97 + 2 * 2 ^ 95 + 1 * 2 ^ 92)
     d.admTurn h0 false ∧ (d.admFetch h0).grantCheck 3 6 0 2 0 = none ∧ slMode ((d.admFetch h0).slot 6) = 2) ∧
    (live.admTurn h0 true ∧ fetched.revokeCheck 3 5 1 7 = none ∧ fetched.grantsOver 5 3 7 1 = []) ∧
    (fetched.revokeCheck 3 5 1 0 = none ∧ (∀ g ∈ fetched.grantsOver 5 3 0 1, g.drain = none) ∧ fetched.grantsOver 5 3 0 1 ≠ []) ∧
    (let d := ({ revoking revoke2 with coh := { (revoking revoke2).coh with grants := [⟨5, 3, 0, 1, true, some 1⟩] } } : Dev).admFetch h0
     d.revokeCheck 3 5 1 0 = none ∧ d.grantsOver 5 3 0 1 ≠ [] ∧ ∀ g ∈ d.grantsOver 5 3 0 1, g.drain ≠ none) := by
  unfold Dev.objTurn Dev.admTurn Dev.quiet; decide +kernel

theorem witness_SharingAndGrants_2 :
    ((revoking revoke2).coh.revokes.find? (fun x => x.id == revoke2.id) = some revoke2 ∧ (revoking revoke2).revokeBusy revoke2 = false ∧
      (revoking revoke2).mm.held = [] ∧ (revoking revoke2).mm.clearing = [] ∧ (revoking revoke2).coh.dir = [] ∧
      (revoking revoke2).coh.recalls = [] ∧ (revoking revoke2).mm.migs = [] ∧ (revoking revoke2).chs.wrote = [] ∧
      (∀ e ∈ (revoking revoke2).chs.chans, e.2.restart = none) ∧ (revoking revoke2).pr.holds = [] ∧ slMode ((revoking revoke2).slot 5) = 1) ∧
    (revoking revoke5).coh.revokes.find? (fun x => x.id == revoke5.id) = some revoke5 ∧ revoke5.st = .v5 ∧ revoke2.st ≠ .v5 := by
  decide +kernel

/-- Line 0 of the partition in a state of the directory, and the recall of it from slot 5. -/
def line0 : Nat := lineKey 3 0
def recall0 : Recall := ⟨9, 5, 0, line0, false⟩
def lined (e : DirE) (rs : List Recall) : Dev := { sharing with coh := { sharing.coh with dir := [(line0, e)], recalls := rs } }
def shared5 : DirE := ⟨.s, 0, 0, false, 0, false, false⟩

theorem witness_DirectoryTransitions :
    (live.dirGet line0 = none ∧ (live.setWays line0).length < 16) ∧
    (let e := shared5.addSharer 5
     (lined e []).dirGet line0 = some e ∧ e.st = .s ∧ ((lined e []).sharers e).filter (· != 5) = [] ∧
     ((lined e []).sharers e).filter (· != 9) ≠ []) ∧
    (let e : DirE := ⟨.o, 5, 0, false, 0, false, false⟩; (lined e []).dirGet line0 = some e ∧ e.vec = 5 ∧ e.vec ≠ 4095) ∧
    (let e : DirE := ⟨.ro, 5, 0, false, 0, false, false⟩
     let d := lined e [recall0]
     d.coh.recalls.find? (fun x => x.tag == 9 && x.port == 0) = some recall0 ∧ d.cxl 1 = true ∧ d.dirGet recall0.line = some e ∧
     e.bad = false ∧ (∀ x ∈ d.coh.recalls, x.line = recall0.line → x.slot = recall0.slot) ∧ e.shareEnd = false ∧
     d.coh.recalls.find? (fun x => x.tag == 9) = some recall0 ∧ recall0.slot < 4096 ∧ d.slotActive recall0.slot = true ∧
     (∀ e ∈ d.coh.dir, e.1 < 64 * 2 ^ 42) ∧ d.bw.locks = [] ∧ d.mm.held = []) ∧
    (let e : DirE := ⟨.ro, 5, 0, false, 0, true, false⟩; e.shareEnd = true ∧ (lined e [recall0]).slotActive e.vec = true) ∧
    (live.coh.recalls.find? (fun x => x.tag == 8 && x.port == 0) = none ∧ live.coh.lateTags.contains (8, 0) = false ∧
      ({ live with coh := { live.coh with lateTags := [(0, 8)] } } : Dev).coh.lateTags.contains (0, 8) = true) := by
  decide +kernel

theorem witness_setWays (e : DirE) : ((lined e []).setWays line0).length < 16 :=
  Nat.lt_of_le_of_lt (List.length_filter_le _ _) (show 1 < 16 by decide)

/-- The target of the request, in the object as it is and as an exported one. -/
def tgt0 : Tgt := ⟨3, 1, obj0, 0⟩
def tgtS : Tgt := ⟨3, 1, { obj0 with exported := some true }, 0⟩
def exporting : Dev := sharing.setObj 3 1 tgtS.obj

theorem witness_HostLoadsAndStores :
    (live.quiet ∧ live.mm.migs = [] ∧ live.bw.locks = [] ∧ q0.lock = false ∧ live.lineReaches q0 0 3 5 tgt0 ∧ live.lineReaches q0 1 3 5 tgt0) ∧
    (live.unheld tgt0 64 (live.lsCls 3) false ∧ tgt0.obj.tracked = false ∧ live.dirGet (lineKey 3 0) = none ∧
      live.granted 5 3 (q0.off / 2 ^ 30) false = true ∧ live.granted 5 3 (q0.off / 2 ^ 30) true = true) := by
  unfold Dev.quiet Dev.lineReaches Dev.unheld; decide +kernel

theorem witness_HostLoadsAndStores_tracked :
    exporting.quiet ∧ exporting.mm.migs = [] ∧ exporting.lineReaches q0 1 3 5 tgtS ∧ exporting.unheld tgtS 64 (exporting.lsCls 3) false ∧ tgtS.obj.tracked = true ∧
    exporting.mm.shareOn = true ∧ exporting.dirGet (lineKey 3 0) = none ∧ (exporting.setWays (lineKey 3 0)).length < 16 ∧
    exporting.granted 5 3 (q0.off / 2 ^ 30) true = true := by
  unfold Dev.quiet Dev.lineReaches Dev.unheld; decide +kernel

theorem witness_HostLoadsAndStores_write :
    (live.unheld tgt0 64 (live.lsCls 3) true ∧ tgt0.obj.kind ≠ 6 ∧ live.baseSealed 3 1 = false ∧ live.windowLines (tgt0.piece 64) = [] ∧
      live.pairRole 3 = 0 ∧ live.piecePoison (tgt0.piece 64) = false ∧ q0.lock = false ∧ q0.poisoned = false) ∧
    ((zeros 64).length = 64 ∧ live.objAt 3 q0.off = some (1, obj0) ∧ obj0.aliasOf = none ∧ tgt0.off + 64 ≤ 2 ^ 48 ∧
      Memory.wf live.mm.cells = true) := by
  unfold Dev.unheld; decide +kernel

theorem witness_HostLoadsAndStores_owner :
    (let e : DirE := ⟨.o, 5, 0, false, 0, false, false⟩
     (lined e []).dirGet (lineKey 3 0) = some e ∧ e.st = .o ∧ e.vec = 5 ∧ (lined e []).recalled (lineKey 3 0) 5 = false ∧
     (lined e [recall0]).recalled (lineKey 3 0) 5 = true ∧ (lined e []).lineReaches q0 1 3 5 tgt0 ∧ (lined e []).mm.migs = []) ∧
    (let d : Dev := { live with coh := { live.coh with grants := [] } }
     d.quiet ∧ d.mm.migs = [] ∧ d.lineReaches q0 0 3 5 tgt0 ∧ d.granted 5 3 (q0.off / 2 ^ 30) false = false) := by
  unfold Dev.quiet Dev.lineReaches; decide +kernel

/-- The device with the BAR2 window of partition 3 over its first two extents. -/
def windowed : Dev := ({ live with fns := [(3, { fn0 with bar2On := true, bar2Log2 := 31, bar2 := 0x10000000C })] } : Dev)

theorem witness_Bar2Accesses :
    (windowed.quiet ∧ windowed.mm.migs = [] ∧ windowed.barUp f0 = true ∧ 4095 % 4096 + 1 ≤ 4096 ∧ windowed.mse f0 = true ∧ windowed.bar2There f0 0 = true ∧
      windowed.bar2There f0 (2 ^ 31) = false ∧ windowed.fenced 3 = false ∧ windowed.pairRole 3 = 0 ∧
      windowed.resolve 3 (windowed.rd (K.ofPart K.bar2Offset 3)) = some tgt0 ∧ windowed.leaseFenced 3 obj0 = false ∧ tgt0.holds 4096 = true ∧
      (∀ k ∈ tgtLines tgt0 4096, windowed.dirGet k = none)) ∧
    (windowed.unheld tgt0 4096 (windowed.lsCls 3) false ∧ windowed.unheld tgt0 4096 (windowed.lsCls 3) true ∧
      windowed.baseSealed 3 1 = false ∧ windowed.windowLines (tgt0.piece 4096) = [] ∧ windowed.piecePoison (tgt0.piece 4096) = false ∧
      windowed.objAt 3 (windowed.rd (K.ofPart K.bar2Offset 3)) = some (1, obj0)) := by
  unfold Dev.quiet Dev.unheld; decide +kernel

/-- A request of the device of some use, outstanding or quarantined. -/
def tagged (use : TagUse) (ubl quarantined : Bool) : Dev := { live with tags := [⟨12, some f0, 0, ubl, use, quarantined⟩] }

theorem witness_DeviceRequests :
    (∀ use ∈ [TagUse.stream 5 1, .descFetch (ctxKey 3 0), .notify (ctxKey 3 0)],
      ∃ t ∈ (tagged use true false).tagOf 12, t.ubl = true ∧ t.port = 0 ∧ t.use = use ∧ t.use ≠ .gone) ∧
    failed 0 = false ∧ failed 0x20 = true ∧ ((tagged (.descFetch (ctxKey 3 0)) true false).chan (ctxKey 3 0)).isSome = true ∧
    (∃ t ∈ (tagged .gone true true).tags.find? (fun x => x.tag == 12 && x.quarantined), t.ubl = true) ∧
    (live.linkUp 0 = true ∧ live.native 0 = true) ∧
    (let d : Dev := { live with bw := { live.bw with locks := [⟨4, true, 0, 0x777, 0x321, 1, 3, 0, 1, 3, [], [], .held⟩] } }
     (d.bw.locks.find? (fun x => x.id == 4 && x.st == .held)).isSome = true ∧ d.mm.held = []) ∧
    (let l : Lock := ⟨4, false, 0, 5, 0, 15, 3, 0, 1, 3, [], [], .held⟩
     let d := (with5 (fun u => { u with streams := [{ load15 with kind := 1, desc := some 1 }] }))
     let e : Dev := { d with bw := { d.bw with locks := [l] } }
     e.bw.locks.find? (fun x => x.id == 4 && x.st == .held) = some l ∧ (e.clu l.src).chan = some (ctxKey 3 0) ∧ e.lockDsc l = some 1) := by
  decide +kernel

theorem witness_QueueRegisters :
    (live.barOpen f0 ∧ (live.fn f0).aq.enable = true ∧ (live.fn f0).aq.tailBad 15 = false ∧ (live.fn f0).aq.headBad 0 = false ∧
      2 ^ (live.fn f0).aq.asqLog2 ≤ 16 ∧ 2 ^ (live.fn f0).aq.acqLog2 ≤ 16 ∧ live.placeholder f0 = false ∧ (live.fn f0).eq.enable = true ∧
      0 < 2 ^ (live.fn f0).eq.log2 ∧ ringDist (live.fn f0).eq.log2 (live.fn f0).eq.ack 0 ≤ (live.fn f0).eq.unacked ∧
      2 ^ (live.fn f0).eq.log2 ≤ 16) ∧
    (let d := live.setFn f0 { fn0 with command := 4 }; d.barUp f0 = true ∧ d.mse f0 = false) ∧
    (let x := { AdmQ.reset with asqLog2 := 12, acqLog2 := 4 }
     x.enable = false ∧ 4 ≤ x.asqLog2 ∧ x.asqLog2 ≤ 12 ∧ 4 ≤ x.acqLog2 ∧ x.acqLog2 ≤ 12 ∧ x.asqBase % 4096 = 0 ∧ x.acqBase % 4096 = 0) ∧
    (AdmQ.reset.enable = false ∧ AdmQ.reset.asqLog2 < 4) ∧
    (let d := live.setFn f0 { fn0 with aq := { fn0.aq with enable := false } }; d.barOpen f0 ∧ (d.fn f0).aq.enable = false) ∧
    (let d : Dev := { live with su := { live.su with modState := 1 } }; d.barUp f0 = true ∧ d.operational = false) ∧
    (let d := (live.wr (K.ofPart K.portsActive 3) 0).setFn ⟨0, 0⟩ fn0; d.barOpen ⟨0, 0⟩ ∧ d.placeholder ⟨0, 0⟩ = true) := by
  unfold Dev.barOpen; decide +kernel

theorem witness_QueueRegisters_2 :
    (live.chan (ctxKey 3 0) = some chan0 ∧ chan0.st = .active ∧ bit (2 ^ 31 + 15) 31 = true ∧ chan0.tailBad (fld (2 ^ 31 + 15) 0 16) = false ∧
      bit (2 ^ 63) 63 = true ∧ chan0.headBad (fld (2 ^ 63) 32 16) = false ∧ ctxKey 3 0 = ctxKey f0.num 0 ∧
      2 ^ chan0.sqLog2 ≤ fld (2 ^ 31 + 16) 0 16 ∧ live.chan (ctxKey f0.num 1) = none) ∧
    (live.linkUp 0 = true ∧ live.native 0 = true ∧ bit (live.port 0).feats 3 = true ∧ live.endpointPart 0 0x321 = some 3 ∧
      live.chanOf 3 handle0 = some (ctxKey 3 0) ∧ live.chanOf 3 0 = none ∧ live.endpointPart 0 0x322 = none) := by
  decide +kernel

theorem witness_EventsAndCompletions :
    (let x := live.fn f0
     x.eq.held = [] ∧ x.eq.overflow = false ∧ x.eq.tail = x.eq.ack ∧ live.evRoom f0 = true ∧ x.wire = false ∧ x.recovering = false ∧ 1 ≤ x.eq.log2 ∧
     bit x.command 10 = false ∧ x.eq.tail < 2 ^ x.eq.log2 ∧ x.eq.ack < 2 ^ x.eq.log2) ∧
    (let d := live.setFn f0 { fn0 with eq := { fn0.eq with held := List.replicate 64 ⟨3, 0, 0, 0, 0⟩, tail := 15 } }
     64 ≤ (d.fn f0).eq.held.length ∧ d.evRoom f0 = false) ∧
    (live.chan (ctxKey 3 0) = some chan0 ∧ dsc0.signal = false ∧ dsc0.isPush chan0.recipe = false ∧ ctxPart (ctxKey 3 0) < 64 ∧ chan0.cqLoc = 0 ∧ chan0.cqEvent = false ∧
      live.bme (chan0.fn (ctxKey 3 0)) = true ∧ dsc0.noCqe = false ∧ { dsc0 with flags := 16 }.noCqe = true ∧ dsc0.status = 0) ∧
    (let c := { chan0 with cqes := [⟨1, 0, 0, 0, 2⟩], cqTail := 1 }
     let e := { c with cqTail := 0, cqEvent := true }
     (live.setChan (ctxKey 3 0) c).chan (ctxKey 3 0) = some c ∧ c.cqes = [⟨1, 0, 0, 0, 2⟩] ∧ c.cqBusy = false ∧ c.cqTail ≠ c.cqHead ∧
       e.cqEvent = true ∧ e.cqTail = e.cqHead ∧ (live.setFn f0 Fn.reset).bme (c.fn (ctxKey 3 0)) = false) ∧
    { chan0 with recipe := 2 }.recipe = 2 ∧ { dsc0 with op := 0x10 }.op = 0x10 := by
  decide +kernel

/-- Whether an access is done. -/
def chDone (a : ChAcc) : Bool := match a with
  | .done _ _ _ => true
  | _ => false

/-- Whether an access fails. -/
def chFailed (a : ChAcc) : Bool := match a with
  | .fail _ _ _ => true
  | _ => false

/-- The device with descriptors on channel 0. -/
def work (c : Chan) : Dev := live.setChan (ctxKey 3 0) c
def tailed : Chan := { chan0 with sqTail := 1, inflight := 1 }
/-- The same with its submission queue in device memory, in page 1 of object 1. -/
def inDevice : Chan := { tailed with loc := 2, sqAddr := 0 }

theorem witness_DescriptorCourse :
    ((work tailed).workChan handle0 = some (ctxKey 3 0, tailed) ∧ (work tailed).fetchReady (ctxKey 3 0) tailed = true ∧ tailed.sqLoc ≠ 2 ∧
      (zeros 64).length = 64) ∧
    ((work inDevice).workChan handle0 = some (ctxKey 3 0, inDevice) ∧ (work inDevice).fetchReady (ctxKey 3 0) inDevice = true ∧
      inDevice.sqLoc = 2 ∧ chDone ((work inDevice).chRead (ctxPart (ctxKey 3 0)) (inDevice.sqAddr + 64 * inDevice.sqHead) 64 inDevice.cls (ctxKey 3 0 + 1)) = true) ∧
    (let c := { inDevice with sqAddr := 2 ^ 40 }
     (work c).fetchReady (ctxKey 3 0) c = true ∧ chFailed ((work c).chRead 3 (c.sqAddr + 64 * c.sqHead) 64 c.cls (ctxKey 3 0 + 1)) = true) ∧
    (let d := work tailed
     d.dscRefusal 3 6 (dscOf 0 2 0 (zeros 64)) = none ∧ (dscOf 0 2 0 (zeros 64)).isPush 6 = false ∧ (dscOf 0 2 0 (zeros 64)).wait = false ∧ (dscOf 0 2 0 (zeros 64)).fence = false ∧
     (d.dscRefusal 3 6 (dscOf 0 2 0 (leBytes 1 1 ++ zeros 63))).isSome = true) ∧
    (let c := { chan0 with fetched := [{ dsc0 with op := 0 }] }; (c.running 0).isSome = true ∧ (work c).workChan handle0 = some (ctxKey 3 0, c)) ∧
    (let x := { dsc0 with ph := .done }
     let c := { chan0 with fetched := [x] }
     (work c).workChan handle0 = some (ctxKey 3 0, c) ∧ x.ph = .done ∧ (work c).awaitsLog (ctxKey 3 0) x.seq = false ∧
     haltsChan x.status = false ∧ haltsChan 0x30 = true ∧ c.cqLoc = 0 ∧ { c with loc := 8 }.cqLoc ≠ 0 ∧ x.noCqe = false) ∧
    (let x := { dsc0 with ph := .done, status := 0x32 }
     let c := { chan0 with fetched := [x] }
     (work c).workChan handle0 = some (ctxKey 3 0, c) ∧ (work c).awaitsLog (ctxKey 3 0) x.seq = false ∧ x.status = 0x32) ∧
    (let c := { chan0 with fetched := [dsc0] }; (work c).workChan handle0 = some (ctxKey 3 0, c) ∧ dsc0.ph ≠ .done) := by
  decide +kernel

theorem witness_ChannelAccesses :
    live.objAt 3 (2 ^ 31) = none ∧
    (live.objAt 3 0 = some (1, obj0) ∧ tgt0.holds 4096 = true ∧ live.leaseFenced 3 obj0 = false ∧ obj0.tracked = false ∧
      (∀ k ∈ tgtLines tgt0 4096, live.dirGet k = none) ∧ live.unheld tgt0 4096 2 false ∧
      (∀ k ∈ pieceKeys [tgt0.piece 4096], (live.page k).st ≠ .promoting) ∧ live.piecePoison (tgt0.piece 4096) = false ∧
      live.unheld tgt0 4096 2 true ∧ tgt0.obj.kind ≠ 6 ∧ live.baseSealed 3 1 = false ∧ live.windowLines (tgt0.piece 4096) = [] ∧
      live.pairRole 3 = 0 ∧ Memory.wf live.mm.cells = true) ∧
    (let d : Dev := { live with mm := { live.mm with blocks := [(blkKey 3 0, { Meta.zero with poison := true })] } }
     d.unheld tgt0 4096 2 false ∧ d.piecePoison (tgt0.piece 4096) = true) := by
  unfold Dev.unheld; decide +kernel

/-! ## Witnesses: recipes -/

/-- The smallest shape record: one layer, one head of 32, a context of 1,024 tokens. -/
def shape0 : Nat := 1 + 2 ^ 8 + 2 ^ 16 + 10 * 2 ^ 24 + 32 * 2 ^ 32

/-- The arguments of an attention descriptor: window 9, layer 0, host buffers, `n` tokens from `t0`. -/
def attArgs (t0 n : Nat) : List Byte := leBytes 2 9 ++ zeros 2 ++ leBytes 4 t0 ++ leBytes 4 n ++ zeros 4 ++ leBytes 8 0x70000 ++ zeros 8

/-- Object 1 as RAW backing of a FIXED window 9 over extents 2 and 3, with a page of its scale plane. -/
def windowOn : Dev :=
  let d := live.setObj 3 1 { obj0 with kind := 1, n := 3 }
  let d1 := d.setObj 3 9 { newObj 3 2 0 0 0 with kind := 4, backing := 1, scalePage := scalePage 0 2 }
  { d1 with mm := { d1.mm with pages := [(3 * 2 ^ 32, page0), (3 * 2 ^ 32 + scalePage 0 2, { page0 with home := some ⟨.t2, 10, false⟩ })] } }

/-- A device whose channel 0 runs a recipe with one descriptor at its head. -/
def reciped (d : Dev) (recipe args : Nat) (x : Dsc) : Dev :=
  d.setChan (ctxKey 3 0) { chan0 with recipe := recipe, args := args, fetched := [x] }
def chanR (recipe args : Nat) (x : Dsc) : Chan := { chan0 with recipe := recipe, args := args, fetched := [x] }
def dscR (op : Nat) (args : List Byte) : Dsc := { dsc0 with op := op, args := args }

/-- Whether an access is done and counts no overrun chunk. -/
def plainDone (a : ChAcc) (d : Dev) : Bool := match a with
  | .done u _ _ => u.rd K.overrunChunks == d.rd K.overrunChunks
  | _ => false

theorem witness_Append :
    let x := dscR 0x10 (attArgs 0 1)
    let d := reciped windowOn 1 shape0 x
    d.recipeOn handle0 1 0x10 (ctxKey 3 0) (chanR 1 shape0 x) x ∧ d.bme f0 = true ∧ x.arg 0x23 1 = 0 ∧ x.arg 0x2C 4 = 0 ∧ x.arg 0x38 8 = 0 ∧
    x.arg 0x28 4 = 1 ∧ d.winRefusal 3 shape0 (x.arg 0x20 2) (x.arg 0x22 1) (x.arg 0x24 4) 1 = none ∧
    (zeros 128).length = 2 * 1 * shRow shape0 ∧
    chDone ((d.hostAsked f0 0x70000 128).appendStore (ctxKey 3 0) (chanR 1 shape0 x) x (zeros 128)) = true := by
  unfold Dev.recipeOn; decide +kernel

theorem witness_Decode :
    (let x := dscR 0x10 (attArgs 0 0)
     let d := reciped windowOn 2 shape0 x
     d.recipeOn handle0 2 0x10 (ctxKey 3 0) (chanR 2 shape0 x) x ∧ d.bme f0 = true ∧ x.arg 0x23 1 = 0 ∧ x.arg 0x2C 4 = 0 ∧ x.arg 0x28 4 ≤ shTmax shape0 ∧
     d.winRefusal 3 shape0 (x.arg 0x20 2) (x.arg 0x22 1) (x.arg 0x24 4) 0 = none ∧
     chDone (d.kvRead (ctxKey 3 0) shape0 x (x.arg 0x24 4) 0) = true ∧ (zeros 64).length = shHeads shape0 * shDim shape0 * 2) ∧
    (let x := dscR 0x10 (attArgs 1023 1)
     let d := reciped windowOn 2 shape0 x
     d.recipeOn handle0 2 0x10 (ctxKey 3 0) (chanR 2 shape0 x) x ∧
     d.winRefusal 3 shape0 (x.arg 0x20 2) (x.arg 0x22 1) (x.arg 0x24 4) 1 = none ∧
     plainDone (d.kvRead (ctxKey 3 0) shape0 x 0 1) d = true) := by
  unfold Dev.recipeOn; decide +kernel

theorem witness_Prefill :
    let x := dscR 0x10 (leBytes 2 9 ++ zeros 2 ++ leBytes 4 0 ++ leBytes 4 1 ++ leBytes 2 1 ++ zeros 2 ++ leBytes 8 0x70000 ++ zeros 8)
    let d := reciped windowOn 3 shape0 x
    d.recipeOn handle0 3 0x10 (ctxKey 3 0) (chanR 3 shape0 x) x ∧ x.arg 0x23 1 = 0 ∧ x.arg 0x2E 2 = 0 ∧ x.arg 0x2C 2 = 1 ∧
    d.winRefusal 3 shape0 (x.arg 0x20 2) (x.arg 0x22 1) 0 (x.arg 0x28 4) = none ∧
    plainDone (d.kvRead (ctxKey 3 0) shape0 x 0 (attended x (x.arg 0x2C 2 - 1))) d = true := by
  unfold Dev.recipeOn; decide +kernel

theorem witness_Merge :
    let x := dscR 0x11 (leBytes 1 2 ++ zeros 3 ++ leBytes 2 1 ++ zeros 26)
    let d := reciped windowOn 3 shape0 x
    d.recipeOn handle0 3 0x11 (ctxKey 3 0) (chanR 3 shape0 x) x ∧ x.arg 0x20 1 = 2 ∧ x.arg 0x24 2 = 1 ∧ x.arg 0x21 1 = 0 ∧ x.arg 0x22 1 = 0 ∧
    x.arg 0x23 1 = 0 ∧ x.arg 0x26 2 = 0 ∧ plainDone (d.readSets (ctxKey 3 0) (chanR 3 shape0 x) x 132 (.data (zeros 264)) 2) d = true ∧
    sumBy Rec.nonfinite [recAt 32 (zeros 132) 0, ⟨List.replicate 32 0, 0xFF800000⟩] = 0 ∧ sumBy Rec.nonfinite [⟨[0x7F800000], 0⟩] ≠ 0 := by
  unfold Dev.recipeOn; decide +kernel

/-- A delta window 9 over a delta store 2 and a base 4, both with their first pages in T2. -/
def deltaOn : Dev :=
  let d := live.setObj 3 4 { newObj 8 1 1 0x103 0x103 with kind := 1 }
  let d1 := d.setObj 3 2 { newObj 9 1 1 0x103 0x103 with kind := 6, base := 4 }
  let d2 := d1.setObj 3 9 { newObj 10 1 0 0 0 with kind := 5, backing := 2, base := 4 }
  { d2 with mm := { d2.mm with pages := [(3 * 2 ^ 32 + 8 * 16384, page0), (3 * 2 ^ 32 + 9 * 16384, { page0 with home := some ⟨.t2, 10, false⟩ })] } }

/-- PUSH and PREFETCH of the first chunk, after the decision to send the base alone. -/
def pushArgs : List Byte := leBytes 8 0 ++ leBytes 4 4096 ++ zeros 4 ++ leBytes 8 0x70000 ++ zeros 8
def dscP (op : Nat) : Dsc := { dscR op pushArgs with deadline := 5, policy := 1, fallback := 1 }

theorem witness_Push :
    let d := reciped deltaOn 4 9 (dscP 0x10)
    ∃ w, d.wsWin (ctxPart (ctxKey 3 0)) 9 = some w ∧ d.recipeOn handle0 4 0x10 (ctxKey 3 0) (chanR 4 9 (dscP 0x10)) (dscP 0x10) ∧
      (dscP 0x10).arg 0x2C 1 = 0 ∧ (dscP 0x10).arg 0x2D 1 = 0 ∧ (dscP 0x10).arg 0x38 8 = 0 ∧ wsRefusal w (dscP 0x10) = none ∧
      (∀ y ∈ wsBase w (dscP 0x10) ++ wsDelta w (dscP 0x10), d.inT3 y = false ∧ (d.page y).st ≠ .promoting) ∧
      plainDone (d.pushSource (ctxKey 3 0) w 9 (dscP 0x10)) d = true ∧ (dscP 0x10).deadline ≠ 0 ∧ (dscP 0x10).step = 0 ∧
      wsRefusal w { dscP 0x10 with args := leBytes 8 0x3FFFF000 ++ leBytes 4 4096 ++ zeros 20 } = none := by
  unfold Dev.recipeOn; exact ⟨_, by rfl, by decide +kernel⟩

theorem witness_Prefetch :
    let d := reciped deltaOn 4 9 (dscP 0x11)
    ∃ w, d.wsWin (ctxPart (ctxKey 3 0)) 9 = some w ∧ d.recipeOn handle0 4 0x11 (ctxKey 3 0) (chanR 4 9 (dscP 0x11)) (dscP 0x11) ∧
      wsRefusal w (dscP 0x11) = none ∧ (dscP 0x11).step = 0 ∧
      (∀ y ∈ wsBase w (dscP 0x11) ++ wsDelta w (dscP 0x11), d.inT3 y = false ∧ ∀ e ∈ d.mm.wantPromo, e.1 ≠ y) := by
  unfold Dev.recipeOn; exact ⟨_, by rfl, by decide +kernel⟩

/-- ACCUMULATE, READOUT and GATHER on object 1. -/
def dscA : Dsc := dscR 0x10 (leBytes 8 0 ++ leBytes 4 128 ++ leBytes 4 0 ++ leBytes 8 0x70000 ++ zeros 8)
def dscO (clear : Nat) : Dsc := dscR 0x11 (leBytes 8 0 ++ leBytes 4 128 ++ leBytes 2 0 ++ leBytes 2 clear ++ leBytes 8 0x70000 ++ zeros 8)
def dscG : Dsc := dscR 0x10 (leBytes 4 1 ++ leBytes 4 64 ++ zeros 8 ++ leBytes 8 0x70000 ++ leBytes 8 0x80000)
def rawLive : Dev := liveObj { obj0 with kind := 1 }

theorem witness_Accumulate :
    let d := reciped rawLive 5 1 dscA
    d.recipeOn handle0 5 0x10 (ctxKey 3 0) (chanR 5 1 dscA) dscA ∧ redReserved false dscA = false ∧ dscA.arg 0x2D 1 = 0 ∧
    d.redRefusal 3 1 dscA = none ∧ argAt 1 4 4 = 0 ∧ (zeros 512).length = redBytes (dscA.arg 0x2C 1) 128 ∧
    firstWait [d.chRead 3 0 512 2 (ctxKey 3 0 + 1), d.chWrite 3 0 ((zeros 512).map some) 2 (some (ctxKey 3 0, 1))] = none ∧
    chDone (((d.hostAsked f0 0x70000 512).chRead 3 0 512 2 (ctxKey 3 0 + 1)).next (fun u bs _ =>
      u.chWrite 3 0 ((addFp32 bs (redDecode 0 128 (zeros 512))).map some) 2 (some (ctxKey 3 0, 1)))) = true := by
  unfold Dev.recipeOn; decide +kernel

theorem witness_Readout : ∀ clear < 2,
    let d := reciped rawLive 5 1 (dscO clear)
    d.recipeOn handle0 5 0x11 (ctxKey 3 0) (chanR 5 1 (dscO clear)) (dscO clear) ∧ redReserved true (dscO clear) = false ∧
    (dscO clear).arg 0x2D 1 = 0 ∧ (dscO clear).arg 0x2C 1 = 0 ∧ d.redRefusal 3 1 (dscO clear) = none ∧ (d.obj 3 (argAt 1 0 2)).isSome = true ∧ d.bme f0 = true ∧
    plainDone (d.chRead 3 0 512 2 (ctxKey 3 0 + 1)) d = true ∧ bit ((dscO clear).arg 0x2E 1) 0 = (clear == 1) ∧ d.clearWaits 3 obj0 0 128 = false := by
  unfold Dev.recipeOn; decide +kernel

theorem witness_Gather :
    let d := reciped rawLive 6 0 dscG
    d.recipeOn handle0 6 0x10 (ctxKey 3 0) (chanR 6 0 dscG) dscG ∧ dscG.arg 0x28 1 = 0 ∧ dscG.arg 0x29 7 = 0 ∧ dscG.arg 0x20 4 = 1 ∧
    dscG.arg 0x24 4 = 64 ∧ dscG.arg 0x30 8 % 64 = 0 ∧ (zeros 8).length = 8 * dscG.arg 0x20 4 ∧ d.bme f0 = true ∧
    plainDone (d.chRead 3 0 64 2 (ctxKey 3 0 + 1)) d = true ∧ (addFp32 (zeros 8) (zeros 8)).length = 8 := by
  unfold Dev.recipeOn; decide +kernel

/-! ## Witnesses: dictionary rows of the fabric manager, placement, partitions, functions -/

/-- A write of an entry by the FABRIC role reaches the entry's rule. -/
abbrev may (d : Dev) (idx sub v : Nat) : Prop := d.mayStore .fabric idx sub (entryTy idx sub).len v

/-- The T1 resource with 10,000,000 deliverable, budgets 3,000 and 5,000, caps and a factor below 1. -/
def budgeted : Dev :=
  let d := (((live.wr K.delivT1 10000000).wr (K.budgetT1 + 2) 3000).wr (K.budgetT1 + 3) 5000).wr (K.capT1 + 2) 4000
  { d with bw := { d.bw with num := [(0, 9)], den := [(0, 10)] } }
def metered : Dev := { budgeted with bw := { budgeted.bw with num := [], den := [] } }

theorem witness_BandwidthWrites :
    (may metered 0x902 3 4000 ∧ metered.budgetBad 0 2 4000 = false ∧ metered.budgetBad 0 2 4001 = true ∧ metered.cap 0 2 < 4001 ∧
      metered.degraded 0 = false ∧ metered.bwRoom 0 < metered.budgetSum 0 (some (3, 10000000)) ∧ budgeted.degraded 0 = true ∧
      budgeted.budget 0 3 < 5001) ∧
    (may metered 0x900 3 1 ∧ (∀ r < 4, metered.budgetSum r none ≤ roomOf (metered.rd (K.delivT1 + r)) 1) ∧
      (let d := metered.wr (K.budgetT1 + 3) 9999999; may d 0x900 3 20 ∧ ∃ r < 4, roomOf (d.rd (K.delivT1 + r)) 20 < d.budgetSum r none)) ∧
    (may live 0x901 3 8 ∧ (∀ n < 64, live.bound 2 n = true → bit 8 n = false → live.classUsed n 2 = false) ∧
      may live 0x901 3 0 ∧ ∃ n < 64, live.bound 2 n = true ∧ bit 0 n = false ∧ live.classUsed n 2 = true) ∧
    (may live 0x910 4 2 ∧ live.bound 2 3 = true ∧ may live 0x1102 4 3 ∧ live.bound 3 3 = false) ∧
    (may live 0xA15 15 7 ∧ live.rd K.commitPending = 0 ∧ may live 0xA00 1 63 ∧ (live.wr K.commitPending 33).rd K.commitPending ≠ 0) ∧
    live.operational = true ∧ Dev.reset.operational = false := by
  unfold may Dev.mayStore; decide +kernel

theorem witness_CapsAndDegradedBudgets :
    may budgeted 0x906 3 0 ∧ may budgeted 0x906 3 3000 ∧ budgeted.budget 0 2 ≤ 3000 ∧ may budgeted 0x906 3 2999 ∧ 2999 < budgeted.budget 0 2 ∧
    (budgeted.factor 0).1 < (budgeted.factor 0).2 ∧ may budgeted 0x902 3 3001 ∧ budgeted.budget 0 2 < 3001 ∧
    may budgeted 0x902 3 2999 ∧ 2999 ≤ budgeted.cap 0 2 := by
  unfold may Dev.mayStore; decide +kernel

/-- A move of page 0 into T1, with its recalls over. -/
def mig0 : Mig := ⟨⟨.t1, 4, false⟩, none, 2, .program, false, 0⟩
def migrating : Dev := { live with mm := { live.mm with migs := [(3 * 2 ^ 32, mig0)], staged := [3 * 2 ^ 32] } }

/-! The first instruction of a placement program (R55): an encoding that is not defined stops it, and C.JR ra returns. -/

theorem rv_not_home (m : RvMem) : (m.base == m.base + BitVec.ofNat 32 rvRet) = false := by
  rw [beq_eq_false_iff_ne]
  intro e
  have := congrArg BitVec.toNat e
  simp only [BitVec.toNat_add, rvRet, BitVec.toNat_ofNat] at this
  have := m.base.isLt
  omega

theorem rv_first (m : RvMem) (regs : Nat → W32) (h : Nat) (r : List Byte) (he : m.code = leBytes 2 h ++ r) (hb : m.base.toNat % 2 = 0)
    (h4 : h % 4 ≠ 3) (hh : h < 65536) :
    (Rv.entry m regs).step m = (expandC h).bind (fun w => (Rv.entry m regs).exec32 m w 2) := by
  have hpc : (Rv.entry m regs).pc = m.base := rfl
  have hl : leNat ((Rv.entry m regs).bytes m 0 2) = h := by
    simp [Rv.bytes, Rv.byte, Rv.entry, kfind, RvMem.first, he, leBytes, leNat, List.range_succ, rvData]
    omega
  have hold : m.holds 0 2 = true := by simp [RvMem.holds, he]; left; simp [leBytes]
  simp [Rv.step, hpc, hb, Rv.fetch, hold, hl, h4, Option.map, Option.bind]
  cases expandC h <;> rfl

theorem rv_illegal (m : RvMem) (regs : Nat → W32) (r : List Byte) (n : Nat) (he : m.code = leBytes 2 0 ++ r) (hb : m.base.toNat % 2 = 0) :
    Rv.run m n (Rv.entry m regs) = none := by
  have hpc : (Rv.entry m regs).pc = m.base := rfl
  cases n with
  | zero => simp [Rv.run, hpc, rv_not_home]
  | succ n => simp [Rv.run, hpc, rv_not_home, rv_first m regs 0 r he hb, show expandC 0 = none by decide]

theorem even_target (b : W32) (hb : b.toNat % 2 = 0) : (b + BitVec.ofNat 32 rvRet + 0) &&& ~~~1 = b + BitVec.ofNat 32 rvRet := by
  apply BitVec.eq_of_getLsbD_eq
  intro i hi
  rw [show b + BitVec.ofNat 32 rvRet + 0 = b + BitVec.ofNat 32 rvRet by simp, BitVec.getLsbD_and, BitVec.getLsbD_not]
  by_cases h0 : i = 0
  · subst h0
    have : (b + BitVec.ofNat 32 rvRet).getLsbD 0 = false := by
      rw [BitVec.getLsbD_eq_getElem (by omega), BitVec.getElem_eq_testBit_toNat]
      simp [rvRet, BitVec.toNat_add]; omega
    rw [this, Bool.false_and]
  · simp [hi, h0]

/-- C.JR ra: a program that returns at once. -/
theorem rv_return (m : RvMem) (regs : Nat → W32) (r : List Byte) (n : Nat) (he : m.code = leBytes 2 0x8082 ++ r) (hb : m.base.toNat % 2 = 0) :
    (Rv.run m (n + 1) (Rv.entry m regs)).isSome = true := by
  have hpc : (Rv.entry m regs).pc = m.base := rfl
  have hx : (Rv.entry m regs).reg 1 = m.base + BitVec.ofNat 32 rvRet := by simp [Rv.entry, Rv.reg, kget]
  have hs : (Rv.entry m regs).exec32 m 0x8067 2 = some ((Rv.entry m regs).jump 0 2 (m.base + BitVec.ofNat 32 rvRet)) := by
    have : rvImmI 0x8067 = 0 := by decide
    simp only [Rv.exec32, show fld 0x8067 0 7 = 0x67 by decide, show fld 0x8067 12 3 = 0 by decide, show fld 0x8067 15 5 = 1 by decide,
      show fld 0x8067 7 5 = 0 by decide, hx, this, even_target _ hb]
    rfl
  have hd : ∀ k, Rv.run m k ((Rv.entry m regs).jump 0 2 (m.base + BitVec.ofNat 32 rvRet)) =
      some ((Rv.entry m regs).jump 0 2 (m.base + BitVec.ofNat 32 rvRet)) := by
    intro k; cases k <;> simp [Rv.run, Rv.jump]
  simp [Rv.run, hpc, rv_not_home, rv_first m regs 0x8082 r he hb, show expandC 0x8082 = some 0x8067 by decide, hs, hd]

/-- Object 1 under placement program 3, which begins with a halfword. -/
def obj3 : Obj := { obj0 with causes := 2, desc := obj0.desc + 3 * 2 ^ 40 }
def programmed (h : Nat) : Dev := { liveObj obj3 with mm := { (liveObj obj3).mm with progs := [(3, leBytes 2 h)] } }

theorem even_base (d : Dev) (p n : Nat) (o : Obj) (out : List Byte) : (d.progMem p n o out).base.toNat % 2 = 0 := by
  simp only [Dev.progMem, BitVec.toNat_ofNat]; omega

theorem witness_PlacementEvents_stopped : (programmed 0).runProgram 3 1 obj3 [] = none := by
  have code : ((programmed 0).progMem 3 1 obj3 []).code = leBytes 2 0 ++ [] := by decide +kernel
  simp [Dev.runProgram, rv_illegal _ _ _ _ code (even_base _ _ _ _ _)]

theorem witness_PlacementEvents_returns : ((programmed 0x8082).runProgram 3 1 obj3 []).isSome = true := by
  have code : ((programmed 0x8082).progMem 3 1 obj3 []).code = leBytes 2 0x8082 ++ [] := by decide +kernel
  have budget : (programmed 0x8082).rd K.insnBudget = 4095 + 1 := by decide +kernel
  have h := rv_return _ Config.progRegs [] 4095 code (even_base _ _ _ _ _)
  simp only [Dev.runProgram, budget, Option.isSome_map, h]

theorem witness_PlacementEvents :
    (live.operational = true ∧ (live.mm.pages.map (fun e => e.1)).Nodup) ∧
    (let o := { obj0 with causes := 2 }
     (liveObj o).obj 3 1 = some o ∧ o.ordinary = true ∧ (liveObj o).fenced 3 = false ∧ (liveObj o).invocationCause 3 o ≠ 0 ∧
     (liveObj o).runsSlot0 o = true ∧ (liveObj o).causeWaits 3 1 o = false) ∧
    ((programmed 0).obj 3 1 = some obj3 ∧ (programmed 0).invocationCause 3 obj3 ≠ 0 ∧ (programmed 0).runsSlot0 obj3 = false ∧
      (programmed 0).causeWaits 3 1 obj3 = false) ∧
    (let d := (liveObj { obj0 with causes := 1 }).setObj 4 9 { obj0 with causes := 2 }; d.causeWaits 3 1 { obj0 with causes := 1 } = true) ∧
    (live.obj 3 1 = some obj0 ∧ live.invocationCause 3 obj0 = 0) ∧
    (kfind (pageKey 3 0) migrating.mm.migs = some mig0 ∧ migrating.copyReady (pageKey 3 0) = true ∧
      migrating.pageRepairing (pageKey 3 0) = false ∧ migrating.copyCapped (pageKey 3 0) mig0 = false ∧ migrating.mm.staged ≠ [] ∧ mig0.hop = none ∧ mig0.dst.tier ≠ .t3) := by
  decide +kernel

theorem witness_HintTimeCountsDown : live.operational = true ∧ live.obj 3 1 = some obj0 ∧
    1 < pdHint ({ obj0 with desc := obj0.desc + 2 * 2 ^ 48 } : Obj).desc ∧ pdHint obj0.desc = 0 := by decide +kernel

theorem witness_FlashUpkeep :
    (live.setBay 7 { live.bay 7 with cart := 2 }).cartServing 7 = true ∧ (live.setBay 7 { live.bay 7 with cart := 3 }).cartServing 7 = true ∧
    live.cartServing 7 = false := by decide +kernel

/-- A lend entry of 4,096 extents of endpoint 0x777 in a state. -/
def lend0 (st : Nat) : Nat := 4096 * 2 ^ 112 + st * 2 ^ 108 + 0x777 * 2 ^ 88

theorem witness_Lend :
    (live.mayStore .fabric 0x1005 64 16 (lend0 1) ∧ lendBad (lend0 1) = false ∧ lendState (lend0 1) = 1 ∧ lendState (live.lendEntry 63) = 0 ∧
      live.lent + lendExtents (lend0 1) ≤ 4096) ∧
    (let d := live.wr (K.lend + 63) (lend0 1)
     d.mayStore .fabric 0x1005 64 16 (lend0 2) ∧ lendBad (lend0 2) = false ∧ lendAllowed (d.lendEntry 63) (lend0 2) = true ∧ lendState (lend0 2) ≠ 1) ∧
    (live.mayStore .fabric 0x1005 1 16 (lend0 6) ∧ lendBad (lend0 6) = true ∧ live.mayStore .fabric 0x1005 1 16 (lend0 2) ∧
      lendAllowed (live.lendEntry 0) (lend0 2) = false) := by
  unfold Dev.mayStore; decide +kernel

theorem witness_ReservationWrites :
    (may live 0x1002 4 7 ∧ live.tierUse 3 .t2 ≤ 7 * 16384 ∧ 7 ≤ live.resv 3 .t2 ∧ may live 0x1002 4 0 ∧ 0 * 16384 < live.tierUse 3 .t2 ∧
      may live 0x1002 4 4096 ∧ live.resv 3 .t2 < 4096 ∧ live.reservable .t2 < live.resvSum .t2 - live.resv 3 .t2 + 4096) ∧
    (may live 0x1004 4 1 ∧ live.reservable .th < live.resvSum .th - live.resv 3 .th + 1 ∧ may live 0x1004 4 0 ∧
      live.resvSum .th - live.resv 3 .th + 0 ≤ live.reservable .th) ∧
    (may live 0x1300 1 1 ∧ live.mm.shareOn = false ∧ live.mm.shareEnabling = false ∧ live.resvSum .t1 ≤ 751 ∧
      751 < (live.wr (resvKey 4 .t1) 750).resvSum .t1) ∧
    (may live 0x1300 1 0 ∧ (∀ e ∈ live.mm.objs, e.2.exported = none) ∧ live.coh.dir = [] ∧
      (∃ e ∈ (liveObj { obj0 with exported := some true }).mm.objs, e.2.exported ≠ none)) ∧
    (live.mayStore .fabric (0x1310 + 5 / 128) (5 % 128 + 1) 16 (slot5 + 2 ^ 92) ∧ live.slotAllowed 5 (slot5 + 2 ^ 92) = true ∧
      slState (slot5 + 2 ^ 92) = 2) ∧
    (live.mayStore .fabric (0x1310 + 4095 / 128) (4095 % 128 + 1) 16 (slot5 + 2 ^ 108) ∧ live.slotAllowed 4095 (slot5 + 2 ^ 108) = true ∧
      slState (slot5 + 2 ^ 108) ≠ 2 ∧ live.slotDoomed (slot5 + 2 ^ 108) = true ∧
      (live.wr K.route (0xFFFFF * 2 ^ 24 + 1)).slotDoomed (slot5 + 2 ^ 108) = false ∧ slState (live.slot 4095) = 0 ∧ live.slotAllowed 4095 (slot5 + 2 ^ 92) = false) ∧
    (may live 0x1A01 4 4 ∧ may live 0x1A02 64 16384) := by
  unfold may Dev.mayStore; decide +kernel

/-- A stage program of a STEP, and the manifest of a pipeline of that one stage for every partition and opcode 0x10. -/
def image0 : List Byte := leBytes 4 1 ++ leBytes 4 0x2000 ++ zeros 24 ++ leBytes 4 0xA1000000
def manifest0 : List Byte :=
  [1, 1, 1] ++ zeros 5 ++ leBytes 8 (2 ^ 64 - 1) ++ leBytes 32 (2 ^ 16) ++ leBytes 2 37 ++ [1, 0] ++ zeros 12
def loaded : Dev := { live with progs := [(37, image0)] }

theorem witness_ProgramStores :
    live.mayStore .fabric 0x1101 16 64 0 ∧
    (loaded.mayStore .fabric (0x1940 + 37 / 16) (37 % 16 + 1) image0.length 0 ∧ loaded.slotNamed 37 = false ∧ image0 ≠ [] ∧ imageResult image0 = 0 ∧
      imageResult (image0 ++ [0]) ≠ 0 ∧ ({ loaded with pipes := [(255, manifest0)] } : Dev).slotNamed 37 = true) ∧
    (loaded.mayStore .fabric (0x1980 + 255 / 8) (255 % 8 + 1) manifest0.length 0 ∧ loaded.pipeUsed 255 = false ∧ loaded.manifestResult manifest0 = 0 ∧
      live.manifestResult manifest0 ≠ 0 ∧ piped.pipeUsed 0 = true) ∧
    (may live 0x1800 0x15 255 ∧ may live 0x803 0x0D 40 ∧ live.mayStore (.partition 3) 0x803 0x0D (entryTy 0x803 0x0D).len 40 ∧
      live.holderOf 40 = none) ∧
    (imageHeaderBad [] = true ∧ imageHeaderBad image0 = false ∧ (imageWords image0)[0]? = some 0xA1000000 ∧
      insnReason 0xF0000000 0 1 ≠ 0 ∧ insnDefined 0xF0000000 = false ∧ insnDefined 0x20000001 = true ∧ branchOut 0x20000001 0 1 = true ∧
      fld 0x20000001 28 4 = 2 ∧ fld 0x20000001 25 3 ≠ 7) ∧
    (live.clu 9).st ≠ .retired ∧ (live.clu 9).chan = none := by
  unfold may Dev.mayStore; decide +kernel

/-- Partition 5, disabled and on no port; and the same while the entropy source fails. -/
def noKey : Dev := { live with su := { live.su with entropyBad := true } }

theorem witness_PartitionControl :
    (may live 0x805 1 1 ∧ live.enabled 5 = false ∧ live.endpointClash 5 = false ∧ live.resetting 5 = false ∧ live.su.entropyBad = false) ∧
    (may noKey 0x805 1 1 ∧ noKey.enabled 5 = false ∧ noKey.endpointClash 5 = false ∧ noKey.resetting 5 = false ∧ noKey.su.entropyBad = true) ∧
    (live.wr (K.ofPart K.endpoint 5) 0x321).endpointClash 5 = true ∧ live.enabled 3 = true ∧ live.rd (K.ofPart K.portsActive 3) ≠ 0 ∧
    (live.wr (K.ofPart K.portsActive 3) 0).rd (K.ofPart K.portsActive 3) = 0 ∧
    (may live 0x803 1 0 ∧ (let d := live.wr (K.ofPart K.portsActive 3) 0
      may d 0x803 1 0 ∧ d.enabled 3 = true ∧ d.resetting 3 = false ∧ (d.wr (K.ofPart K.resetState 3) 1).resetting 3 = true)) ∧
    (may live 0x803 0x0A 0 ∧ may live 0x803 0x0B 1 ∧ live.resetting 3 = false ∧ (live.wr (K.ofPart K.resetState 3) 1).resetting 3 = true) ∧
    ({ noKey with su := { noKey.su with keyWaits := [(5, .row)] } } : Dev).su.keyWaits = [(5, .row)] ∧
    (Dev.reset.chs.chans = [] ∧ Dev.reset.slots = [] ∧ Dev.reset.bw.locks = [] ∧ Dev.reset.fenceCauses 63 = 0 ∧
      (Dev.reset.wr (K.ofPart K.fenceCauses 63) 4).fenceCauses 63 ≠ 0) := by
  unfold may Dev.mayStore; decide +kernel

theorem witness_FunctionConfiguration :
    (live.cfgOpen f0 = true ∧ live.bme f0 = true ∧ (live.fn f0).d3 = false ∧ bit (fn0.setCommand 2 false).command 2 = false ∧
      (live.setFn f0 { fn0 with d3 := true }).cfgOpen f0 = true ∧ (live.setFn f0 Fn.reset).cfgOpen f0 = true ∧
      bit Fn.reset.command 2 = false ∧ bit fn0.command 2 = true) ∧
    (let d := { live with chs := Chs.reset }
     d.cfgOpen f0 = true ∧ d.quiet ∧ d.mm.migs = [] ∧ d.placeholder f0 = false ∧ (d.fn f0).wire = false ∧ (d.fn f0).eq.held = [] ∧ d.chansOn 3 0 = [] ∧ d.bw.locks = []) ∧
    live.cfgOpen ⟨21, 63⟩ = false ∧
    (let x := { fn0 with recovering := true, resetWhy := 1 }; (live.setFn f0 x).fn f0 = x ∧ x.recovering = true ∧ x.resetWhy ≠ 0) := by
  unfold Dev.quiet; decide +kernel

theorem witness_LinkEvents :
    (live.mayTrain 0 = true ∧ live.portMode 0 ≠ 4 ∧ (live.wr K.portMode 4).portMode 0 = 4 ∧ live.linkUp 0 = true ∧ live.linkUp 23 = true ∧
      live.linkUp 21 = false ∧ may live 0x2806 24 1 ∧ ((live.wr K.portMode 4).linkUp 0 = true ∧ may (live.wr K.portMode 4) 0x2806 1 1)) ∧
    (let d := live.setPort 0 { Port.reset with link := .training }
     (d.port 0).link = .training ∧ d.ublOffered 0 = true ∧ d.cxlOffered 0 = true ∧
     d.trainedMode 0 ⟨true, true, true, 1, 0, 0, 1, 1⟩ = .native) ∧
    (let d := live.setPort 0 { upPort .native none with link := .recovery }; (d.port 0).link = .recovery) ∧
    (let d := live.setPort 23 { Port.reset with link := .recovery }
     (d.port 23).link = .recovery ∧ d.trainedMode 23 ⟨true, true, true, 2, 0, 0, 5, 16⟩ = .ring) ∧
    (live.wr K.portMode 2).ublOffered 0 = false ∧ (live.wr K.portMode 1).cxlOffered 0 = false ∧
    (may live 0x2800 6 1 ∧ (live.wr K.bypassClosed 0).flag K.bypassClosed = false ∧ (live.wr K.ringFault 1).flag K.ringFault = true ∧
      live.flag K.ringFault = false) := by
  unfold may Dev.mayStore; decide +kernel

/-- The device with BAR0 of function 0 of the CXL port open and a record in its Dynamic Capacity log. -/
def cxlOn : Dev := (live.setFn ⟨1, 0⟩ { Fn.reset with command := 2 }).setPort 1 { upPort .cxl (some 3) with dcLog := [⟨1, 0, 0, 1, true, []⟩], dcHandle := 2 }

theorem witness_CxlMailbox :
    cxlOn.cxlServed 1 = true ∧ cxlOn.mse ⟨1, 0⟩ = true ∧ (cxlOn.port 1).dcWait = [] ∧ (∃ r ∈ (cxlOn.port 1).dcLog, r.handle = 1) ∧
    (∀ r ∈ (cxlOn.port 1).dcLog, r.handle ≠ 2) ∧ cxlOn.cxlPart 1 = some 3 ∧ live.cxlServed 0 = false := by decide +kernel

/-- Bay 6 in a CART_STATE, every other bay serving. -/
def bayed (cart : Nat) (f : Bay → Bay) : Dev :=
  { live with bays := (List.range 8).map (fun b => (b, if b = 6 then f { Bay.reset b with cart := cart } else { Bay.reset b with cart := 2 })) }

theorem witness_BayEvents :
    (let d := (bayed 2 id).baySignal 6 0 0
     (d.bay 6).pressed = false ∧ (d.bay 6).cart = 2 ∧ d.removalBarred 6 = false ∧ (d.wr (K.ofBay K.bayAuto 6) 1).bayAuto 6 = true) ∧
    (((bayed 2 (fun x => { x with pressed := true })).baySignal 6 0 0).bay 6).pressed = true ∧
    (((live.setBay 6 { live.bay 6 with cart := 3 }).baySignal 6 0 0).removalBarred 6 = true ∧ (((bayed 5 id).baySignal 6 0 0).bay 6).cart = 5) ∧
    ((bayed 2 id).otherMissing 6 = false ∧ ((bayed 2 id).setBay 7 { (bayed 2 id).bay 7 with missing := true }).otherMissing 6 = true ∧
      ((bayed 2 id).bay 6).missing = false) ∧
    (((bayed 5 id).bay 6).present = true ∧ ((bayed 5 id).bay 6).powered = false ∧ ((bayed 1 id).bay 6).powered = true ∧
      ((bayed 0 (fun x => { x with status := 0 })).bay 6).present = false) ∧
    (((bayed 5 (fun x => { x with settling := true })).bay 6).settling = true ∧ live.su.mains = true ∧ (live.bay 6).settling = false ∧
      (live.wr (K.ofBay K.bayAuto 6) 0).bayAuto 6 = false) ∧
    (((bayed 1 id).bay 6).cart = 1 ∧ ((bayed 3 id).bay 6).cart = 3) := by decide +kernel

theorem witness_BayCtrl :
    may live 0x2906 2 0x400 ∧ fld 0x400 6 2 = 0 ∧ fld 0x7C0 6 2 ≠ 0 ∧ fld 0x7C0 8 2 ≠ 0 ∧
    (let d := (bayed 2 (fun x => { x with ctrl := 0x1C0 })).wr (K.ofBay K.bayAuto 6) 0
     let new := bayCtrlTaken (d.bay 6).ctrl 0x7C0 (d.bayAuto 6)
     may d 0x2906 2 0x7C0 ∧ d.bayAuto 6 = false ∧ bit new 10 = true ∧ (d.bay 6).powerOff = false ∧ d.removalBarred 6 = false ∧ (d.bay 6).powered = true ∧
     (d.setBay 0 { d.bay 0 with cart := 3 }).removalBarred 6 = true) ∧
    (let d := (bayed 5 (fun x => { x with ctrl := 0x7C0 })).wr (K.ofBay K.bayAuto 6) 0
     let new := bayCtrlTaken (d.bay 6).ctrl 0x1C0 (d.bayAuto 6)
     bit new 10 = false ∧ (d.bay 6).powerOff = true ∧ (d.bay 6).present = true ∧ d.su.mains = true ∧ (d.bay 6).powered = false) ∧
    (let d := (bayed 2 (fun x => { x with ctrl := 0x1C0 })).wr (K.ofBay K.bayAuto 6) 1
     d.bayAuto 6 = true ∧ bit (bayCtrlTaken (d.bay 6).ctrl 0x1C0 true) 10 = (d.bay 6).powerOff) ∧
    (let d := ((bayed 2 (fun x => { x with ctrl := 0x1C0 })).wr (K.ofBay K.bayAuto 6) 1).wr K.bayCtrlPort 1
     d.rd K.bayCtrlPort = 1 ∧ d.cfgOpen ⟨1, 0⟩ = true ∧ d.bayAuto 6 = true ∧ fld 0x1C0 6 2 ≠ 0) ∧
    (f0.num ≠ 0) := by
  unfold may Dev.mayStore; decide +kernel

theorem witness_ErrorEvents :
    (let c := { chan0 with fetched := [{ dsc0 with op := 0 }] }
     (work c).workChan handle0 = some (ctxKey 3 0, c) ∧ (c.fetched.find? (fun y => y.ph == .running)).isSome = true) ∧
    (cxlOn.barUp ⟨1, 0⟩ = true) ∧
    (let d := with5 (fun u => { u with streams := [load15] }); d.streamOf 5 15 = some (load15, ctxKey 3 0) ∧ load15.kind = 0) ∧
    ((tagged (.notify (ctxKey 3 0)) true false).tagOf 12).isSome = true ∧ live.operational = true ∧ live.obj 3 1 ≠ none ∧
    live.er.suspects.contains (unitKey (.ddr 15)) = false ∧ live.su.standby = true ∧
    ({ live with mg := { live.mg with restarting := true } } : Dev).mg.restarting = true ∧
    (live.wr K.scrubEnable 1).flag K.scrubEnable = true ∧ (live.wr K.scrubEnable 0).flag K.scrubEnable = false ∧
    (live.page (pageKey 3 0)).home ≠ none ∧ live.mm.held = [] ∧ live.mm.clearing = [] ∧ live.blkValid 3 256 = false ∧
    ({ live with mm := { live.mm with blocks := [(blkKey 3 0, { Meta.zero with poison := true })] } } : Dev).blkPoison 3 0 = true ∧
    (live.markLost (.stack 7)).unitLost (.stack 7) = true := by decide +kernel

/-- A Deadhead entry of a frame of T2. -/
def entry0 (frame : Nat) : Nat := 1 * 2 ^ 62 + frame

theorem witness_RetirementAndTests :
    (live.mayStore .fabric 0x2010 0x01 8 (entry0 67108863) ∧ live.deadheadResult (entry0 67108863) = 0 ∧ 1 < live.deadheadResult (entry0 67108864) ∧
      ({ live with er := { live.er with deadhead := [entry0 3] } } : Dev).deadheadResult (entry0 3) = 1 ∧ live.mayStore .fabric 0x2011 0x04 8 (entry0 0)) ∧
    (let d := piped.wr K.dupEnable 1
     d.flag K.dupEnable = true ∧ d.dupReady 5 = true ∧ d.dupFirst 5 = true ∧ d.freeBuds ≠ [] ∧ (piped.wr K.dupEnable 0).flag K.dupEnable = false) ∧
    ((piped.wr K.iftEnable 1).flag K.iftEnable = true ∧ (piped.clu 5).st ≠ .retired ∧ (piped.clu 5).st ≠ .testing ∧
      (piped.wr K.iftEnable 0).flag K.iftEnable = false ∧ ((with5 (fun u => { u with st := .retired })).clu 5).st = .retired) ∧
    (((with5 (fun u => { u with iftDue := true })).clu 5).iftDue = true ∧ (piped.clu 5).iftDue = false ∧
      ((with5 (fun u => { u with st := .testing })).clu 5).st = .testing ∧ (with5 (fun u => { u with iftDue := true })).testsRunning < 4 ∧
      4 ≤ ({ piped with cl := (List.range 4).map (fun c => (c, { clu5 with st := .testing })) } : Dev).testsRunning) := by
  unfold Dev.mayStore; decide +kernel

/-! ## Witnesses: the mirrored pair -/

/-- A device of a pair in a state: module 1, partner 2, partition 3 PRIMARY. -/
def paired (st : PairSt) : Dev :=
  { ((((live.wr K.moduleId 1).wr K.partnerId 2).wr K.pairEnable 1).wr K.pairKeyState 1).wr (K.pairRole + 3) 1 with
    pr := { Pr.reset with st := st, lease := true, seenEast := true, hb := some ⟨3, 3, 2, true, 0, 0⟩ } }

/-- The same without the pair enabled. -/
def apart : Dev := { ((live.wr K.moduleId 1).wr K.partnerId 2).wr K.pairKeyState 1 with pr := { Pr.reset with lease := true } }

theorem witness_PairSettings :
    (may apart 0x2100 2 (2 ^ 20 - 1) ∧ may apart 0x2100 1 0 ∧ apart.flag K.pairEnable = false ∧ (paired .mirrored).flag K.pairEnable = true) ∧
    (may apart 0x2101 64 2 ∧ (paired .fenced).pr.st = .fenced ∧ may (paired .mirrored) 0x2101 4 0) ∧
    (apart.mayStore .fabric (0x2103 + 255 / 128) (255 % 128 + 1) 16 (262144 * 2 ^ 96) ∧ fld (262144 * 2 ^ 96) 96 32 ≤ 262144 ∧
      fld (262144 * 2 ^ 96) 64 32 ≤ 262143 ∧ apart.mayStore .fabric 0x2103 1 16 (262145 * 2 ^ 96) ∧ 262144 < fld (262145 * 2 ^ 96) 96 32) ∧
    (may apart 0x2100 3 1 ∧ apart.rd K.moduleId ≠ 0 ∧ apart.rd K.pairKeyState ≠ 0 ∧ live.rd K.moduleId = 0 ∧ may apart 0x2100 3 0) ∧
    (may (paired .mirrored) 0x2100 0x18 3 ∧ (paired .mirrored).pairRole 3 = 1 ∧ (paired .mirrored).pr.handing = none ∧
      may (paired .mirrored) 0x2100 0x18 63 ∧ (paired .mirrored).pairRole 63 ≠ 1 ∧
      ({ paired .mirrored with pr := { (paired .mirrored).pr with tx := [⟨0, 22, 0, 0x40, [], [], true⟩] } } : Dev).unacked ≠ []) ∧
    (may apart 0x2100 0x10 1 ∧ may (paired .mirrored) 0x2100 0x10 2 ∧ ∃ hb, (paired .mirrored).pr.hb = some hb ∧ bit hb.formats 1 = true) := by
  unfold may Dev.mayStore
  exact ⟨by decide +kernel, by decide +kernel, by decide +kernel, by decide +kernel, by decide +kernel, by decide +kernel, by decide +kernel,
    _, rfl, by decide +kernel⟩

theorem witness_PairCourse :
    (live.mayStore .fabric 0x2100 9 8 1 ∧ live.rd K.leaseEpoch < fld 1 0 32 ∧ bit 1 33 = false ∧
      live.mayStore .fabric 0x2100 9 8 0 ∧ fld 0 0 32 ≤ live.rd K.leaseEpoch ∧ live.mayStore .fabric 0x2100 9 8 (2 ^ 33 + 2 ^ 32 - 1) ∧
      bit (2 ^ 33 + 2 ^ 32 - 1) 33 = true ∧ (paired .solo).reachable = true ∧ live.reachable = false) ∧
    ((paired .fenced).pr.st = .fenced ∧ live.pr.lease = false ∧ (paired .solo).pr.lease = true ∧ live.unacked = [] ∧
      (live.setPort 22 Port.reset).linkUp 22 = false) ∧
    (let d : Dev := { paired .syncing with pr := { (paired .syncing).pr with dirty := [(pageKey 3 0, 1)] } }
     d.pr.st = .syncing ∧ d.reachable = true ∧ dirtyTake d.pr.dirty = some (pageKey 3 0, []) ∧ d.moving (pageKey 3 0) = false ∧
     d.pairRole (pagePart (pageKey 3 0)) = 1 ∧ dirtyTake (paired .syncing).pr.dirty = none ∧
     ({ d with mm := migrating.mm } : Dev).moving (pageKey 3 0) = true) := by
  unfold Dev.mayStore; decide +kernel

/-- A frame from the partner with the SEQ expected next. -/
def ring0 : RingHdr := ⟨1, 2, 0, true, none⟩

theorem witness_RingFrames :
    (paired .mirrored).ringTakes 22 ring0 ∧ (paired .syncing).ringTakes 23 ring0 ∧
    (let u := (paired .mirrored).ringTook 22 ring0
     u.pr.st ≠ .unpaired ∧ (Dev.logAll [] none u).isSome = true ∧ u.quiet ∧ u.mm.migs = [] ∧ u.pr.holds = [] ∧ u.pr.cmds = [] ∧ u.pr.switching = false ∧ u.pr.handing = none ∧
     u.partFor 1 7 = none ∧ u.partFor 2 7 = none ∧ (0, 0) ∉ u.pr.repairs) ∧
    ((paired .mirrored).isMe 9 = false ∧ (paired .mirrored).isMe 1 = true ∧ ringPasses ring0 = true ∧ ringPasses { ring0 with good := false } = false ∧ bit ((paired .mirrored).port 22).feats 8 = true ∧
      (⟨1, 2, 5, true, none⟩ : RingHdr).seq ≠ (paired .mirrored).rxNext 22 ∧ (paired .mirrored).linkUp (45 - 22) = true ∧
      bit ((paired .mirrored).port 23).feats 11 = true ∧ ((paired .mirrored).setPort 22 Port.reset).linkUp 22 = false) := by
  unfold Dev.ringTakes Dev.quiet; decide +kernel

/-! ## Witnesses: management -/

/-- The open session of the device, its next request, and one out of turn. -/
def m0 : MsgHdr := ⟨1, 5, true⟩
def sess0 : Session := ⟨1, .ethernet, true, 0, true, 4, ⟨0, []⟩, some (0x300, 1, [1, 2, 3]), none, 3, [], 1, false⟩

theorem witness_DictionaryChecks :
    live.odRefuse .fabric none 0xFFFF 0 1 0 = some 1 ∧ live.odRefuse .fabric none 0x100 0xFF 1 0 = some 2 ∧
    (Dev.reset.odRefuse .fabric none 0x902 1 4 0 = some 3 ∧ Dev.reset.served = true) ∧ live.odRefuse .observer none 0x902 2 4 0 = some 4 ∧
    live.odRefuse .fabric none 0x100 1 4 0 = some 5 ∧ live.odRefuse .fabric none 0x902 2 3 0 = some 6 ∧
    live.odRefuse .fabric none 0x900 3 1 21 = some 7 ∧ live.odRefuse .fabric none 0x902 2 4 0 = none ∧
    (live.sessTurn m0 sess0 ∧ live.provisioning sess0 = false ∧ live.odRefuse sess0.role (some 1) 0x100 1 4 0 = some 5) ∧
    (live.mbOpen f0 ∧ live.mbBarred f0 false 0x900 = none ∧ live.odRefuse (live.mbRole f0) none 0x900 3 1 2 = some 4) := by
  unfold Dev.sessTurn Dev.mbOpen; decide +kernel

theorem witness_busy :
    let d : Dev := { live with mg := { live.mg with sessions := [{ sess0 with seg := some ⟨0x1101, 2, 8, []⟩ }] } }
    d.odRefuse .fabric none 0x1101 2 8 0 = some 9 := by decide +kernel

theorem witness_SessionSequence :
    live.session 1 = some sess0 ∧ live.transportUp sess0.tr = true ∧ sess0.isOpen = true ∧ m0.macOk = true ∧ live.sessBusy 1 = false ∧
    m0.seq = sess0.lastSeq + 1 ∧ sess0.lastSeq ≠ 0 ∧ (7 : Nat) ≠ sess0.lastSeq + 1 ∧
    ({ live with su := { live.su with keyWaits := [(3, .sess 1 5)] } } : Dev).sessBusy 1 = true ∧ ((sess0.notify 1 0 0 0).2).isSome = true := by
  decide +kernel

/-- The same session before its AUTH, over MCTP, against the empty credential store. -/
def closed : Session := { sess0 with tr := .mctp 9, isOpen := false, slot := 0xFF }

theorem witness_SessionCommands :
    (live.transportUp .ethernet = true ∧ live.sessionFree .ethernet = true ∧
      ({ live with mg := { live.mg with sessions := List.replicate 8 sess0 } } : Dev).sessionFree .ethernet = false) ∧
    (let d : Dev := { live with mg := { live.mg with sessions := [closed] } }
     d.session 1 = some closed ∧ d.transportUp closed.tr = true ∧ closed.isOpen = false ∧ d.authGood closed 0 = true ∧ d.authGood closed 1 = false) ∧
    (live.session 1 = some sess0 ∧ live.sessTurn m0 sess0 ∧ live.session 2 = none ∧ live.served = true) := by
  unfold Dev.sessTurn; decide +kernel

/-- The session with a segmented write of 64 bytes half done. -/
def seg0 : SegXfer := ⟨0x1101, 2, 64, zeros 32⟩
def segged : Session := { sess0 with seg := some seg0 }

theorem witness_SessionEntries :
    (live.sessTurn m0 sess0 ∧ live.provisioning sess0 = false ∧ live.readRefuse sess0.role 0x300 1 = none ∧
      live.readRefuse sess0.role 0x300 0xFE = some 2 ∧ sess0.snap = some (0x300, 1, [1, 2, 3]) ∧ { sess0 with snap := none }.snap = none) ∧
    (live.clearRefuse sess0.role (some 1) 0x1910 8 = none ∧ live.clearRefuse sess0.role (some 1) 0x300 1 = some 5 ∧
      idxExists 0x1910 = true ∧ subExists 0x1910 8 = true ∧ idxExists 0xFFFF = false) ∧
    ((live.odTry sess0.role (some 1) 0x900 3 [5]).2 ≠ resultWaits ∧ live.segRefuse sess0 0x1101 2 64 = none ∧ live.segRefuse sess0 0x1101 2 0 = some 0x0D) ∧
    (let d : Dev := { live with mg := { live.mg with sessions := [segged] } }
     d.sessTurn m0 segged ∧ segged.seg = some seg0 ∧ seg0.got.length + 32 ≤ seg0.total ∧ (31 : Nat) ≠ seg0.got.length ∧ seg0.got.length ≠ seg0.total ∧
     (SegXfer.mk 0x1101 2 32 (zeros 32)).got.length = 32 ∧
     ((d.setSession 1 (fun y => { y with seg := none })).odTry sess0.role (some 1) 0x1101 2 (zeros 32)).2 ≠ resultWaits) := by
  unfold Dev.sessTurn; decide +kernel

theorem witness_MailboxAndRegisters :
    (live.mbOpen f0 ∧ live.barOpen f0 ∧ live.served = true ∧ 1 ≤ (live.fn f0).mb.count ∧ (live.fn f0).mb.count ≤ 3840 ∧ live.mbBarred f0 true 0x100 = none ∧
      live.readRefuse (live.mbRole f0) 0x100 1 = none ∧ (live.setFn f0 { fn0 with mb := Mbox.reset }).mbOpen f0 ∧ Mbox.reset.count = 0) ∧
    (live.placeholder ⟨0, 0⟩ = true ∧ live.mbBarred ⟨0, 0⟩ true 0x300 = some 1 ∧ live.su.modState ≠ 3) ∧
    (let r := live.odTry (live.mbRole f0) none 0x803 0x0D [40]; r.2 ≠ 0 ∧ r.2 ≠ resultWaits) ∧
    (live.odTry (live.mbRole f0) none 0x803 0x0B [1]).2 = 0 ∧
    (live.mbBarred f0 false 0x1910 = none ∧ live.clearRefuse (live.mbRole f0) none 0x1910 8 = some 4 ∧ live.mbBarred ⟨0, 0⟩ false 0x1910 = some 1) ∧
    live.mayStore .fabric 0x900 3 ([5] : List Byte).length (leNat [5]) ∧
    ((live.setFn f0 { fn0 with aq := AdmQ.reset }).barOpen f0 ∧ AdmQ.reset.enable = false) ∧
    (let d : Dev := { live.setFn ⟨0, 0⟩ { Fn.reset with command := 2, rom := 1 } with su := { live.su with modState := 3 } }
     d.romMapped = true ∧ live.romMapped = false ∧ live.cfgOpen f0 = true) := by
  unfold Dev.mbOpen Dev.barOpen Dev.mayStore; decide +kernel

theorem witness_ManagementNetwork : live.served = true ∧ ({ live with mg := { live.mg with spdm := 3 } } : Dev).mg.spdm = 3 ∧ live.mg.spdm < 3 ∧
    ({ live with mg := { live.mg with restarting := true } } : Dev).served = false := by decide +kernel

/-! ## Witnesses: start-up, images, power -/

/-- A device in a start stage, and one in Snowdrop. -/
def starting (stage : Nat) : Dev := { live with su := { live.su with modState := 1, stage := stage } }
def snow : Dev := { live with su := { live.su with modState := 3, stage := 0, snow := true, rarg0 := 5248 } }

theorem witness_StartCourse :
    (Dev.reset.su.perst = true ∧ Dev.reset.su.standby = true ∧ live.su.perst = false) ∧
    (may live 0x300 0x0F 1 ∧ live.su.modState ≠ 1 ∧ may (starting 2) 0x300 0x0F 1 ∧ (starting 2).su.modState = 1 ∧ may live 0x300 0x01 0) ∧
    ({ live.su with retry := true }.retry = true ∧ live.su.retry = false ∧ (starting 6).su.stage = 6 ∧ (starting 1).su.snow = false ∧
      { snow.su with stage := 1 }.snow = true) := by
  unfold may Dev.mayStore; decide +kernel

/-- An update of slot B with 100 of 5,248 bytes, and a small SVN in the running slot. -/
def upd0 (erased : Bool) : Upd := ⟨1, 5248, erased, 100⟩
def updating (erased : Bool) : Dev :=
  { live.wr K.updateOffset 100 with su := { live.su with upd := some (upd0 erased), slotA := ⟨.trial, 1, 5, [], 0⟩, slotB := ⟨.empty, 0, 0, zeros 100, 0⟩ } }

theorem witness_ImagesAndRecovery :
    (may live 0x300 0x12 5248 ∧ may live 0x300 0x12 58720256 ∧ live.slotIs 1 .trial = false ∧
      ((updating false).wr K.activeSlot 1).slotIs 0 .trial = true) ∧
    ((updating false).su.upd = some (upd0 false) ∧ (updating true).mayStore .fabric 0x300 0x14 5148 0 ∧ live.su.upd = none ∧
      (updating true).rd K.updateOffset = (upd0 true).off ∧ (upd0 true).off + 5148 ≤ (upd0 true).len ∧
      (updating true).mayStore .fabric 0x300 0x14 5149 0 ∧ (upd0 true).len < (updating true).rd K.updateOffset + 5149) ∧
    (may (updating true) 0x300 0x15 1 ∧ verifyImage ((updating true).imgSlot 1).bytes 5248 ((updating true).rd K.minSvn) ≠ 0) ∧
    (may (updating true) 0x300 0x0D 1 ∧ (updating true).operational = true ∧ (updating true).slotIs 0 .trial = true) ∧
    (may (updating true) 0x300 0x18 5 ∧ (updating true).rd K.minSvn ≤ 5 ∧ 5 ≤ (updating true).runningSvn ∧ (updating true).runningSvn < 6) ∧
    (snow.su.modState = 3 ∧ bit snow.su.rresult 0 = false ∧ snow.su.rarg1 ≤ 1 ∧ 5248 ≤ snow.su.rarg0) ∧
    (live.mayStore .fabric 0x400 11 98 0 ∧ live.mayStore .fabric 0x400 4 0 0 ∧ live.mayStore .fabric 0x400 0x0D 96 0 ∧ live.su.mains = true) := by
  unfold may Dev.mayStore; decide +kernel

/-- Which images pass is the signature's matter, a constant of the environment; nothing else is free in it. -/
theorem witness_image_passes (img : List Byte) (h1 : manifestOk img img.length = true) (h2 : Config.imageSigned img = true)
    (h3 : sectionsOk img = true) (h4 : 1 ≤ leAt img 8 2) : verifyImage img img.length 1 = 0 := by
  simp [verifyImage, h1, h2, h3, Nat.not_lt.2 h4]

theorem witness_PowerEvents :
    (live.su.mains = true ∧ Dev.reset.su.mains = false ∧ Dev.reset.su.modState ≠ 1 ∧ live.su.standby = true) ∧
    (live.rd K.powerCap < 100000 ∧ live.rd K.powerCap * 95 ≤ live.rd K.powerCap * 100 ∧ 0 * 100 < live.rd K.powerCap * 95 ∧ live.pw.lowWins < 9) ∧
    (may live 0x3000 0x0A 3 ∧ sensorShutdown 1 (.reads 1000000) = true ∧ sensorShutdown 10 .silent = false) := by
  unfold may Dev.mayStore; decide +kernel

theorem witness_RunsNeverStop : SafeRun 1 (at' live) := ⟨_, rfl⟩

/-! ## Worked values of the manual -/

/-- The worked example of R14: handle 0x1C02_C005 is index 5 of P7, generation 11; reissued it is 0x1C03_0005. -/
theorem test_handle_example : mkHandle 7 11 5 = 0x1C02C005 ∧ mkHandle 7 12 5 = 0x1C030005 := by decide +kernel

/-- Table 05.6: the block adds 11.0 to 100.25 with one rounding, and the tile drains to BF16 0x42DE. -/
theorem test_block_example :
    accBlock 0 ([0xB5, 0x71] ++ zeros 14) 0x7E 0 ([0x24, 0x1E] ++ zeros 14) 0x81 0x42C88000 = 0x42DE8000 ∧
    drainVal 6 0x42DE8000 = 0x42DE := by decide +kernel

/-- R258: the TMMA of the worked example is a defined instruction; with T0 = 1 its eight tiles go beyond tile 7. -/
theorem test_tmma_words : insnReason 0x4200A5F0 0 16 = 0 ∧ insnReason 0x4200A5F2 0 16 = 5 := by decide +kernel

/-- R255: words written out field by field from Table 08.2, one of each class, and what they spell. -/
theorem test_stage_words :
    decodeStage 5 .ok .pass .agree 0b0000_000001_00001_00010_00011_0000000 = some (.sub 5 1 2 3) ∧
    decodeStage 5 .ok .pass .agree 0b0001_0000_11111_00010_11111111111111 = some (.addi 5 31 2 (-1)) ∧
    decodeStage 5 .ok .pass .agree 0b0010_001_00100_00101_111111111111110 = some (.bne 5 4 5 (-2)) ∧
    decodeStage 5 .ok .pass .agree 0b0011_00110_10_1011111011101111_00000 = some (.liq 5 6 2 0xBEEF) ∧
    decodeStage 5 .ok .pass .agree 0b0100_010_0110_0000_01001_01010_010_100_0 = some (.tdrain 5 6 9 10 3 4) ∧
    decodeStage 5 .ok .pass .agree 0b0101_000011_00001_00010_00011_00100_00 = some (.vfma 5 1 2 3 4) ∧
    decodeStage 5 .ok .pass .agree 0b0110_010_00111_01000_01001_0000000000 = some (.vldn 5 7 8 9 .ok) ∧
    decodeStage 5 .ok .pass .agree 0b0111_01_10_00001_00010_00011_000000000 = some (.sst 5 2 1 2 3 .ok) ∧
    decodeStage 5 .ok .pass .agree 0b1000_10_0011_00100_00101_00110_0000000 = some (.qsend 5 3 4 5 6 .ok) ∧
    decodeStage 5 .ok .pass .agree 0b1001_0100_01011_01100_00000000000000 = some (.ssig 5 11 12) ∧
    decodeStage 5 .ok .pass .agree 0b1010_0010_01101_01110_00000000000000 = some (.bnd 5 13 14) ∧
    decodeStage 5 .ok .pass .agree 0xB0000000 = none := by decide +kernel

/-- R184: an SYNC_SIGNAL (opcode 0x0A, CID 7) of handle 0x1C02_C005 by 9, as 64 bytes written out from Tables 06.2 and 06.3; with
one reserved byte set it carries its mark. -/
theorem test_admin_words :
    let cmd := fun (r : Nat) => ([0x0A, 0, 7, 0, 0, 0, 0, 0, 0x05, 0xC0, 0x02, 0x1C, r, 0, 0, 0, 9, 0, 0, 0, 0, 0, 0, 0].map (BitVec.ofNat 8)) ++ zeros 40
    decodeAdmin f0 (cmd 0) = .syncSignal ⟨f0, 7, false, 0⟩ 0x1C02C005 9 ∧
    decodeAdmin f0 (cmd 1) = .syncSignal ⟨f0, 7, true, 0⟩ 0x1C02C005 9 := by decide +kernel

/-- The worked example after Table 11.13: the sixteen bytes on the link are the RD_SHARED of endpoint 0x4_21C7. -/
theorem test_ubl_words :
    ublMessage 4 .good false ([0x00, 0x00, 0x53, 0x01, 0x40, 0x00, 0x00, 0xB0, 0x13, 0x00, 0xC7, 0x21, 0x54, 0xA0, 0x00, 0x02].map (BitVec.ofNat 8)) =
      some (.rdShared ⟨4, 0x421C7, 0x00A05, 0x13B0000040, 0x015, 3, false, false, 0, false⟩ .good) := by decide +kernel

/-- AES-256 on the example vector of FIPS 197, appendix C.3, both ways. -/
theorem test_aes :
    let rks := roundKeys (List.range 32)
    let plain := (List.range 16).map (· * 0x11)
    let coded := [0x8E, 0xA2, 0xB7, 0xCA, 0x51, 0x67, 0x45, 0xBF, 0xEA, 0xFC, 0x49, 0x90, 0x4B, 0x49, 0x60, 0x89]
    aesEncrypt rks plain = coded ∧ aesDecrypt rks coded = plain := by decide +kernel

/-- The values at which the clauses of `Obligations.WordsOfCommands` are met: a word, 64 bytes of an unknown opcode, and headers at the
bounds of their fields. -/
theorem witness_WordsOfCommands :
    (0xFFFFFFFF < 2 ^ 32 ∧ decodeStage 255 .ok .pass .agree 0xA1000000 = some (.step 255 .agree)) ∧
    (f0.wf = true ∧ (zeros 64).length = 64 ∧ adminFields (leAt (zeros 64) 0 1) = none) ∧
    (let h := fun (op : Nat) => (⟨op, 2 ^ 20 - 1, 2 ^ 20 - 1, 2 ^ 48 - 1, 2 ^ 12 - 1, 2 ^ 4 - 1, true, true, 2 ^ 4 - 1, true, 2 ^ 8 - 1⟩ : UblHdr)
     (h 0x20).op < 2 ^ 8 ∧ (h 0x20).dst < 2 ^ 20 ∧ (h 0x20).off < 2 ^ 48 ∧ ublWord (h 0xFF) < 2 ^ 128 ∧
     ([0x01, 0x02, 0x03, 0x0A, 0x11, 0x1A].all (fun op => (ublMessage 0 .good false (leBytes 16 (ublWord (h op)))).isSome)) = true ∧
     (zeros 72).length = 72 ∧ (zeros 16).length = 16 ∧
     ublMessage 0 .good false (leBytes 16 (ublWord (h 0x20)) ++ zeros 16) = some (.doorbell 0 (2 ^ 20 - 1) 0 0)) := by decide +kernel

/-- The worked example of R215: the allotment of ten clusters over defaults 1 and 3 is 2 and 8. -/
theorem test_allot_example : allot 10 [1, 3] = [2, 8] := by decide +kernel

/-- The worked examples of chapter 09: the T1 room of a full configuration, and after the loss of one unit. -/
theorem test_room_example : roomOf 13760000 5 = 13072000 ∧ roomOf 12040000 5 = 11438000 := by decide +kernel

/-- R256: an addition discards its carry, and x0 stays zero. -/
theorem test_add_wraps :
    (match exec (.addi 5 3 0 (BitVec.ofInt 14 (-1))) (at' piped) with
      | .next t => decide ((t.dev.clu 5).xr 3 = BitVec.ofNat 64 (2 ^ 64 - 1)) && decide ((t.dev.clu 5).pc = clu5.pc + 1)
      | _ => false) = true ∧
    (match exec (.addi 5 0 1 1) (at' piped) with
      | .next t => decide ((t.dev.clu 5).xr 0 = 0)
      | _ => false) = true := by decide +kernel

/-- R256: SLT compares signed values and SLTU unsigned ones. -/
theorem test_slt_signed :
    (match exec (.slti 5 3 0 (BitVec.ofInt 14 (-1))) (at' piped) with
      | .next t => decide ((t.dev.clu 5).xr 3 = 0)
      | _ => false) = true := by decide +kernel

/-- Commands run first in, first out. -/
theorem test_step_order :
    step ⟨Dev.reset, [.perstDeassert, .perstAssert]⟩ = exec .perstDeassert ⟨Dev.reset, [.perstAssert]⟩ := by rfl

end Sys2Proof.Tests
end

section
/-! Proofs for the chapter "Address space, tiers and placement": the hint time of an object at an epoch end (R46). -/

namespace Sys2Proof.Machine

/-! ## A field of a number -/

theorem fld_lt (n lo w : Nat) : fld n lo w < 2 ^ w := Nat.mod_lt _ (Nat.two_pow_pos w)

/-- Replacing a field shifts with the number: the bits from `lo` up lose the old field and gain the new one. -/
theorem setFld_shiftRight (n lo w v : Nat) :
    setFld n lo w v >>> lo = n >>> lo - (n >>> lo) % 2 ^ w + v % 2 ^ w := by
  simp only [setFld, fld, Nat.shiftLeft_eq, Nat.shiftRight_eq_div_pow]
  rw [Nat.add_mul_div_right _ _ (Nat.two_pow_pos lo), Nat.mul_comm _ (2 ^ lo), Nat.sub_mul_div]

@[simp] theorem fld_setFld_self (n lo w v : Nat) : fld (setFld n lo w v) lo w = v % 2 ^ w := by
  have above : n >>> lo - (n >>> lo) % 2 ^ w = 2 ^ w * ((n >>> lo) / 2 ^ w) := by
    have := Nat.div_add_mod (n >>> lo) (2 ^ w)
    omega
  rw [fld, setFld_shiftRight, above, Nat.mul_add_mod, Nat.mod_mod]

/-! ## What an epoch end does to an object -/

/-- The hint time of an object after an epoch end (R46). -/
theorem Obj.epochEnd_hint (o : Obj) :
    pdHint o.epochEnd.desc = if 1 < pdHint o.desc then pdHint o.desc - 1 else pdHint o.desc := by
  by_cases counts : 1 < pdHint o.desc
  · have fits : pdHint o.desc - 1 < 2 ^ 16 := Nat.lt_of_le_of_lt (Nat.sub_le _ _) (fld_lt o.desc 48 16)
    have written : o.epochEnd.desc = setFld o.desc 48 16 (pdHint o.desc - 1) := by simp [Obj.epochEnd, counts]
    rw [if_pos counts, written, pdHint, fld_setFld_self, Nat.mod_eq_of_lt fits]
  · have kept : o.epochEnd.desc = o.desc := by simp [Obj.epochEnd, counts]
    rw [if_neg counts, kept]

theorem Dev.epochEnd_obj (d : Dev) (part n : Nat) : d.epochEnd.obj part n = (d.obj part n).map Obj.epochEnd :=
  kfind_map (fun _ => Obj.epochEnd) _ d.mm.objs

theorem exec_epochEnd_of_operational {s : State} (h : s.dev.operational = true) :
    exec .epochEnd s = .next ⟨s.dev.epochEnd, s.pending⟩ := by
  change ok s (if s.dev.operational then s.dev.epochEnd else s.dev) = _
  rw [if_pos h, ok]

/-- Settles O57: every object goes through `Obj.epochEnd`, which writes the hint less one into its own field of 16 bits. -/
theorem hintTimeCountsDown : Obligations.HintTimeCountsDown := by
  intro s part n o operational found
  refine ⟨s.dev.epochEnd, exec_epochEnd_of_operational operational, o.epochEnd, ?_, o.epochEnd_hint⟩
  rw [Dev.epochEnd_obj, found, Option.map_some]

end Sys2Proof.Machine
end

section
/-! Proofs for the chapter "Stage programs": the scalar, branch and immediate instructions (R256, Table 08.3). -/

namespace Sys2Proof.Machine

/-! ## A field of a number and the fields beside it -/

/-- A number with a field replaced, as what stands below the field, the field, and what stands above it. -/
theorem setFld_eq_parts (n lo w v : Nat) :
    setFld n lo w v = n % 2 ^ lo + 2 ^ lo * (v % 2 ^ w + 2 ^ w * (n / 2 ^ (lo + w))) := by
  have split : n = n % 2 ^ lo + 2 ^ lo * (n / 2 ^ lo % 2 ^ w + 2 ^ w * (n / 2 ^ (lo + w))) := by
    rw [Nat.pow_add, ← Nat.div_div_eq_div_mul, Nat.mod_add_div, Nat.mod_add_div]
  have old : n / 2 ^ lo % 2 ^ w * 2 ^ lo + (n % 2 ^ lo + 2 ^ lo * (2 ^ w * (n / 2 ^ (lo + w)))) = n := by
    rw [Nat.mul_add] at split
    rw [Nat.mul_comm]
    omega
  rw [setFld, fld, Nat.shiftLeft_eq, Nat.shiftLeft_eq, Nat.shiftRight_eq_div_pow, Nat.mul_add, Nat.mul_comm (v % 2 ^ w)]
  omega

theorem setFld_mod_below (n lo w v : Nat) : setFld n lo w v % 2 ^ lo = n % 2 ^ lo := by
  rw [setFld_eq_parts, Nat.add_mul_mod_self_left, Nat.mod_mod]

theorem setFld_div_above (n lo w v : Nat) : setFld n lo w v / 2 ^ (lo + w) = n / 2 ^ (lo + w) := by
  rw [setFld_eq_parts, Nat.pow_add, ← Nat.div_div_eq_div_mul, Nat.add_mul_div_left _ _ (Nat.two_pow_pos lo),
    Nat.div_eq_of_lt (Nat.mod_lt _ (Nat.two_pow_pos lo)), Nat.zero_add, Nat.add_mul_div_left _ _ (Nat.two_pow_pos w),
    Nat.div_eq_of_lt (Nat.mod_lt _ (Nat.two_pow_pos w)), Nat.zero_add]

theorem fld_setFld_below {lo' w' lo : Nat} (below : lo' + w' ≤ lo) (n w v : Nat) :
    fld (setFld n lo w v) lo' w' = fld n lo' w' := by
  have low (m : Nat) : fld m lo' w' = m % 2 ^ lo / 2 ^ lo' % 2 ^ w' := by
    rw [fld, Nat.shiftRight_eq_div_pow, ← Nat.mod_mul_right_div_self, ← Nat.mod_mul_right_div_self, ← Nat.pow_add,
      Nat.mod_mod_of_dvd _ (Nat.pow_dvd_pow 2 below)]
  rw [low, low, setFld_mod_below]

theorem fld_setFld_above {lo w lo' : Nat} (above : lo + w ≤ lo') (n w' v : Nat) :
    fld (setFld n lo w v) lo' w' = fld n lo' w' := by
  obtain ⟨k, rfl⟩ := Nat.exists_eq_add_of_le above
  rw [fld, fld, Nat.shiftRight_add, Nat.shiftRight_add n, Nat.shiftRight_eq_div_pow _ (lo + w),
    Nat.shiftRight_eq_div_pow n (lo + w), setFld_div_above]

theorem setFld_lt {n lo w k : Nat} (inside : lo + w ≤ k) (fits : n < 2 ^ k) (v : Nat) : setFld n lo w v < 2 ^ k := by
  obtain ⟨j, rfl⟩ := Nat.exists_eq_add_of_le inside
  have pos := Nat.two_pow_pos (lo + w)
  rw [Nat.pow_add, Nat.mul_comm] at fits ⊢
  rw [← Nat.div_lt_iff_lt_mul pos] at fits ⊢
  rwa [setFld_div_above]

/-- The bytes stored do not see the bits above them. -/
theorem leBytes_mod (k n : Nat) : leBytes k (n % 256 ^ k) = leBytes k n := by
  induction k generalizing n with
  | zero => rfl
  | succ k ih =>
    have low : BitVec.ofNat 8 (n % 256 ^ (k + 1)) = BitVec.ofNat 8 n := by
      apply BitVec.eq_of_toNat_eq
      rw [BitVec.toNat_ofNat, BitVec.toNat_ofNat]
      exact Nat.mod_mod_of_dvd n (Nat.dvd_mul_left 256 (256 ^ k))
    rw [leBytes, leBytes, low, Nat.pow_succ, Nat.mul_comm, Nat.mod_mul_right_div_self, ih]

/-! ## The operations of Table 08.3 -/

theorem sSlt_eq (a b : W64) : sSlt a b = if a.toInt < b.toInt then 1 else 0 := by
  simp only [sSlt, truth, BitVec.slt, decide_eq_true_eq]

theorem sSltu_eq (a b : W64) : sSltu a b = if a.toNat < b.toNat then 1 else 0 := by
  simp only [sSltu, truth, BitVec.ult, decide_eq_true_eq]

theorem sMin_eq (a b : W64) : sMin a b = if a.toInt < b.toInt then a else b := by
  simp only [sMin, BitVec.slt, decide_eq_true_eq]

theorem sMax_eq (a b : W64) : sMax a b = if a.toInt < b.toInt then b else a := by
  simp only [sMax, BitVec.slt, decide_eq_true_eq]

theorem not_slt_iff {a b : W64} : (!a.slt b) = true ↔ b.toInt ≤ a.toInt := by
  simp only [BitVec.slt, Bool.not_eq_true', decide_eq_false_iff_not, Int.not_lt]

theorem not_ult_iff {a b : W64} : (!a.ult b) = true ↔ b.toNat ≤ a.toNat := by
  simp only [BitVec.ult, Bool.not_eq_true', decide_eq_false_iff_not, Nat.not_lt]

/-- LIQ of quarter 0 clears the other quarters. -/
theorem liqVal_zero (old : W64) (imm : BitVec 16) : liqVal old 0 imm = imm.zeroExtend 64 := rfl

theorem liqVal_toNat {q : Fin 4} (hq : q ≠ 0) (old : W64) (imm : BitVec 16) :
    (liqVal old q imm).toNat = setFld old.toNat (16 * q.val) 16 imm.toNat := by
  rw [liqVal, if_neg hq, BitVec.toNat_ofNat, Nat.mod_eq_of_lt (setFld_lt (by omega) old.isLt _)]

/-- LIQ of another quarter writes that quarter and keeps the rest. -/
theorem liqVal_quarter {q : Fin 4} (hq : q ≠ 0) (old : W64) (imm : BitVec 16) (j : Fin 4) :
    fld (liqVal old q imm).toNat (16 * j.val) 16 = if j = q then imm.toNat else fld old.toNat (16 * j.val) 16 := by
  rw [liqVal_toNat hq]
  rcases Nat.lt_trichotomy j.val q.val with before | same | after
  · rw [if_neg (Fin.ne_of_lt before), fld_setFld_below (by omega)]
  · rw [if_pos (Fin.ext same), same, fld_setFld_self, Nat.mod_eq_of_lt imm.isLt]
  · rw [if_neg (Fin.ne_of_gt after), fld_setFld_above (by omega)]

/-! ## What an instruction of each form does on a cluster that can go on -/

section
variable {s : State} {c : Nat} (h : s.dev.stageReady c)
include h

/-- An instruction that goes on at the next one. -/
theorem ok_stage_go {run : Clu → SRes} {v : Clu} (hrun : run (s.dev.clu c) = .go v) (hpc : v.pc = (s.dev.clu c).pc)
    (hins : v.insns = (s.dev.clu c).insns) : ok s (s.dev.stage c run) = .next ⟨s.dev.ranOn c v, s.pending⟩ := by
  rw [Dev.stage_ready h, hrun, Dev.take_go _ _ _ hpc hins, ok]

/-- An instruction that goes on elsewhere. -/
theorem ok_stage_jump {run : Clu → SRes} {v : Clu} {pc : Nat} (hrun : run (s.dev.clu c) = .jump v pc)
    (hins : v.insns = (s.dev.clu c).insns) : ok s (s.dev.stage c run) = .next ⟨s.dev.ranTo c v pc, s.pending⟩ := by
  rw [Dev.stage_ready h, hrun, Dev.take_jump _ _ _ _ hins, ok]

theorem ok_stage_fault {run : Clu → SRes} {code imm : Nat} (hrun : run (s.dev.clu c) = .fault code imm) :
    ok s (s.dev.stage c run) = .next ⟨s.dev.stageFault c code imm, s.pending⟩ := by
  rw [Dev.stage_ready h, hrun, Dev.take, ok]

/-- RD := a value. -/
theorem ok_stage_setX {run : Clu → SRes} {rd : Fin 32} {v : W64} (hrun : run (s.dev.clu c) = .go ((s.dev.clu c).setX rd v)) :
    ok s (s.dev.stage c run) = .next ⟨s.dev.ranOn c ((s.dev.clu c).setX rd v), s.pending⟩ :=
  ok_stage_go h hrun (Clu.setX_pc ..) (Clu.setX_insns ..)

theorem ok_stage_scReg (rd rs1 rs2 : Fin 32) (f : W64 → W64 → W64) {v : W64}
    (hv : f ((s.dev.clu c).xr rs1) ((s.dev.clu c).xr rs2) = v) :
    ok s (s.dev.stage c (scReg f rd rs1 rs2)) = .next ⟨s.dev.ranOn c ((s.dev.clu c).setX rd v), s.pending⟩ :=
  ok_stage_setX h (by rw [scReg, hv])

theorem ok_stage_scImm (rd rs1 : Fin 32) (imm : BitVec 14) (f : W64 → W64 → W64) {v : W64}
    (hv : f ((s.dev.clu c).xr rs1) (imm64 imm) = v) :
    ok s (s.dev.stage c (scImm f rd rs1 imm)) = .next ⟨s.dev.ranOn c ((s.dev.clu c).setX rd v), s.pending⟩ :=
  ok_stage_setX h (by rw [scImm, hv])

theorem ok_stage_scLoad {n : Nat} {rs1 : Fin 32} {imm : BitVec 14} (rd : Fin 32)
    (aligned : (s.dev.clu c).scAddr rs1 imm % n = 0) (may : (s.dev.clu c).mayRead ((s.dev.clu c).scAddr rs1 imm) n) :
    ok s (s.dev.stage c (scLoad n rd rs1 imm)) =
      .next ⟨s.dev.ranOn c ((s.dev.clu c).setX rd
        (BitVec.ofNat 64 (leNat ((s.dev.clu c).rdSram ((s.dev.clu c).scAddr rs1 imm) n)))), s.pending⟩ :=
  ok_stage_setX h (by rw [scLoad, Clu.rdStop_none aligned may, orStop_one_none])

theorem ok_stage_scStore {n : Nat} {rs1 : Fin 32} {imm : BitVec 14} (rd : Fin 32)
    (aligned : (s.dev.clu c).scAddr rs1 imm % n = 0) (may : (s.dev.clu c).mayWrite ((s.dev.clu c).scAddr rs1 imm) n) :
    ok s (s.dev.stage c (scStore n rd rs1 imm)) =
      .next ⟨s.dev.ranOn c ((s.dev.clu c).wrSram ((s.dev.clu c).scAddr rs1 imm)
        (leBytes n ((s.dev.clu c).xr rd).toNat)), s.pending⟩ :=
  ok_stage_go h (by rw [scStore, Clu.wrStop_none aligned may, orStop_one_none]) (Clu.wrSram_pc ..) (Clu.wrSram_insns ..)

theorem ok_stage_scLoad_misaligned {n : Nat} {rs1 : Fin 32} {imm : BitVec 14} (rd : Fin 32)
    (misaligned : (s.dev.clu c).scAddr rs1 imm % n ≠ 0) :
    ok s (s.dev.stage c (scLoad n rd rs1 imm)) = .next ⟨s.dev.stageFault c 0x02 0, s.pending⟩ :=
  ok_stage_fault h (by rw [scLoad, Clu.rdStop_misaligned misaligned, orStop_one_some])

theorem ok_stage_scStore_misaligned {n : Nat} {rs1 : Fin 32} {imm : BitVec 14} (rd : Fin 32)
    (misaligned : (s.dev.clu c).scAddr rs1 imm % n ≠ 0) :
    ok s (s.dev.stage c (scStore n rd rs1 imm)) = .next ⟨s.dev.stageFault c 0x02 0, s.pending⟩ :=
  ok_stage_fault h (by rw [scStore, Clu.wrStop_misaligned misaligned, orStop_one_some])

/-- A branch leaves the registers alone and goes to its target when `P`, which its comparison decides, holds. -/
theorem ok_stage_branch (rs1 rs2 : Fin 32) (off : BitVec 15) (p : W64 → W64 → Bool) {P : Prop} [Decidable P]
    (hp : p ((s.dev.clu c).xr rs1) ((s.dev.clu c).xr rs2) = true ↔ P) :
    ok s (s.dev.stage c (branch p rs1 rs2 off)) =
      .next ⟨s.dev.ranTo c (s.dev.clu c) (if P then (s.dev.clu c).target off else (s.dev.clu c).pc + 1), s.pending⟩ := by
  by_cases taken : P
  · rw [if_pos taken]
    exact ok_stage_jump h (by rw [branch, if_pos (hp.2 taken)]) rfl
  · rw [if_neg taken]
    exact ok_stage_go h (by rw [branch, if_neg (mt hp.1 taken)]) rfl rfl

theorem ok_stage_scJ (link : Fin 32) (off : BitVec 15) :
    ok s (s.dev.stage c (scJ link off)) =
      .next ⟨s.dev.ranTo c ((s.dev.clu c).setX link (BitVec.ofNat 64 ((s.dev.clu c).pc + 1))) ((s.dev.clu c).target off),
        s.pending⟩ :=
  ok_stage_jump h rfl (Clu.setX_insns ..)

theorem ok_stage_scJr {rs1 : Fin 32} (link : Fin 32) (inside : ((s.dev.clu c).xr rs1).toNat < (s.dev.clu c).progLen) :
    ok s (s.dev.stage c (scJr rs1 link)) =
      .next ⟨s.dev.ranTo c ((s.dev.clu c).setX link (BitVec.ofNat 64 ((s.dev.clu c).pc + 1))) ((s.dev.clu c).xr rs1).toNat,
        s.pending⟩ :=
  ok_stage_jump h (by rw [scJr, if_neg (Nat.not_le.2 inside)]) (Clu.setX_insns ..)

theorem ok_stage_scLiq (rd : Fin 32) (q : Fin 4) (imm : BitVec 16) :
    ok s (s.dev.stage c (scLiq rd q imm)) =
      .next ⟨s.dev.ranOn c ((s.dev.clu c).setX rd (liqVal ((s.dev.clu c).xr rd) q imm)), s.pending⟩ :=
  ok_stage_setX h rfl

end

/-- Settles O1: every instruction is one of the forms above, with its operation or its comparison of Table 08.3. -/
theorem scalarOperations : Obligations.ScalarOperations := by
  intro s c h
  refine ⟨fun rd rs1 rs2 => ?registers, fun rd rs1 imm => ?immediates, fun rd rs1 imm => ?memory, fun rs1 rs2 off => ?branches,
    fun link rs1 off => ?jumps, fun rd q imm => ?quarters⟩
  case registers =>
    have form := @ok_stage_scReg s c h rd rs1 rs2
    exact ⟨form (· + ·) rfl, form (· - ·) rfl, form (· &&& ·) rfl, form (· ||| ·) rfl, form (· ^^^ ·) rfl, form sSll rfl,
      form sSrl rfl, form sSra rfl, form sSlt (sSlt_eq ..), form sSltu (sSltu_eq ..), form (· * ·) (BitVec.mul_def ..),
      form sMulhu rfl, form sMin (sMin_eq ..), form sMax (sMax_eq ..)⟩
  case immediates =>
    have form := @ok_stage_scImm s c h rd rs1 imm
    exact ⟨form (· + ·) rfl, form (· &&& ·) rfl, form (· ||| ·) rfl, form (· ^^^ ·) rfl, form sSll rfl, form sSrl rfl,
      form sSra rfl, form sSlt (sSlt_eq ..)⟩
  case memory =>
    have faults {n : Nat} (misaligned : (s.dev.clu c).scAddr rs1 imm % n ≠ 0) :=
      And.intro (ok_stage_scLoad_misaligned h rd misaligned) (ok_stage_scStore_misaligned h rd misaligned)
    refine ⟨ok_stage_scLoad h rd, ok_stage_scLoad h rd, fun aligned may => ?_, ok_stage_scStore h rd, faults, faults⟩
    have cut : leBytes 4 (((s.dev.clu c).xr rd).toNat % 2 ^ 32) = leBytes 4 ((s.dev.clu c).xr rd).toNat := leBytes_mod 4 _
    rw [cut]
    exact ok_stage_scStore h rd aligned may
  case branches =>
    have form := @ok_stage_branch s c h rs1 rs2 off
    exact ⟨form (· == ·) beq_iff_eq, form (· != ·) bne_iff_ne, form BitVec.slt BitVec.slt_iff_toInt_lt,
      form (fun a b => !a.slt b) not_slt_iff, form BitVec.ult BitVec.ult_iff_toNat_lt,
      form (fun a b => !a.ult b) not_ult_iff⟩
  case jumps => exact ⟨ok_stage_scJ h link off, ok_stage_scJr h link⟩
  case quarters =>
    refine ⟨_, ok_stage_scLiq h rd q imm, ?_, fun hq j => ?_⟩
    · rintro rfl
      exact liqVal_zero ..
    · rw [← Nat.shiftRight_eq_div_pow, ← Nat.shiftRight_eq_div_pow]
      exact liqVal_quarter hq _ imm j

end Sys2Proof.Machine
end

section
/-! Proofs for the chapter "Bandwidth classes, admission and arbitration": caps against budgets (R283), budgets while a factor is
below 1 (R284) and the factor that a refill computes (R289). -/

namespace Sys2Proof.Machine

/-! ## Writes of caps and budgets -/

theorem Dev.wCap_accepts {d : Dev} {r c v : Nat} (h : v = 0 ∨ d.budget r c ≤ v) :
    d.wCap r c v = d.unless false (fun d => d.wr (K.capT1 + r * 256 + c) v) := by
  have passes : (v != 0 && decide (v < d.budget r c)) = false := by
    rcases h with rfl | reaches
    · rfl
    · rw [decide_eq_false (Nat.not_lt.2 reaches), Bool.and_false]
  rw [Dev.wCap, passes]

theorem Dev.wCap_refuses {d : Dev} {r c v : Nat} (nonzero : v ≠ 0) (under : v < d.budget r c) :
    d.wCap r c v = d.unless true (fun d => d.wr (K.capT1 + r * 256 + c) v) := by
  have fails : (v != 0 && decide (v < d.budget r c)) = true := by simp [nonzero, under]
  rw [Dev.wCap, fails]

theorem Dev.degraded_iff {d : Dev} {r : Nat} : d.degraded r = true ↔ (d.factor r).1 < (d.factor r).2 := decide_eq_true_iff

/-- While the factor is below 1 room is not tested: a budget write is refused beyond the cap or for a raise (R283, R284). -/
theorem Dev.budgetBad_iff_of_degraded {d : Dev} {r : Nat} (degraded : d.degraded r = true) (c v : Nat) :
    d.budgetBad r c v = true ↔ (d.cap r c ≠ 0 ∧ d.cap r c < v) ∨ d.budget r c < v := by
  simp [Dev.budgetBad, degraded]

section
variable {s : State} {role : Role} {res cls v : Nat}

/-- A write of a cap that passes the checks of Table 14.4. -/
theorem exec_capWrite_of_may (may : s.dev.mayStore role (0x906 + res) (cls + 1) (entryTy (0x906 + res) (cls + 1)).len v) :
    exec (.capWrite role res cls v) s = .next ⟨Dev.answered (s.dev.wCap res cls v), s.pending⟩ := by
  change ok s (s.dev.scalarWrite role (0x906 + res) (cls + 1) v (fun d => d.wCap res cls v)) = _
  rw [Dev.scalarWrite_may may, ok]

/-- A write of a budget that passes the checks of Table 14.4. -/
theorem exec_budgetWrite_of_may (may : s.dev.mayStore role (0x902 + res) (cls + 1) (entryTy (0x902 + res) (cls + 1)).len v) :
    exec (.budgetWrite role res cls v) s = .next ⟨Dev.answered (s.dev.wBudget res cls v), s.pending⟩ := by
  change ok s (s.dev.scalarWrite role (0x902 + res) (cls + 1) v (fun d => d.wBudget res cls v)) = _
  rw [Dev.scalarWrite_may may, ok]

end

/-! ## Events leave the meters alone -/

/-- What every step of a fold keeps, the fold keeps. -/
theorem foldl_keeps {α β : Type} (part : Dev → β) {f : Dev → α → Dev} (keeps : ∀ d a, part (f d a) = part d) (l : List α) (d : Dev) :
    part (l.foldl f d) = part d := by
  induction l generalizing d with
  | nil => rfl
  | cons a l ih => rw [List.foldl_cons, ih, keeps]

@[simp] theorem Dev.updWire_bw (d : Dev) (f : FnId) : (d.updWire f).bw = d.bw := by
  unfold Dev.updWire
  dsimp only
  split <;> rfl

@[simp] theorem Dev.writeEv_bw (d : Dev) (f : FnId) (e : Ev) : (d.writeEv f e).bw = d.bw := rfl

@[simp] theorem Dev.drainEv_bw (f : FnId) (fuel : Nat) (d : Dev) : (Dev.drainEv f fuel d).bw = d.bw := by
  induction fuel generalizing d with
  | zero => rfl
  | succ fuel ih =>
    unfold Dev.drainEv
    split
    · rfl
    · dsimp only
      split
      · rw [ih, Dev.writeEv_bw, Dev.setFn_bw]
      · split
        · rfl
        · rw [ih, Dev.writeEv_bw, Dev.setFn_bw]

@[simp] theorem Dev.pumpEv_bw (d : Dev) (f : FnId) : (d.pumpEv f).bw = d.bw := by
  rw [Dev.pumpEv, Dev.updWire_bw, Dev.drainEv_bw]

@[simp] theorem Dev.giveEv_bw (d : Dev) (f : FnId) (e : Ev) : (d.giveEv f e).bw = d.bw := by
  unfold Dev.giveEv
  rw [Dev.pumpEv_bw]
  split
  · rw [Dev.setFn_bw, Dev.pumpEv_bw]
  · rw [Dev.inc_bw, Dev.setFn_bw, Dev.pumpEv_bw]

@[simp] theorem Dev.post_bw (d : Dev) (n : Nat) (e : Ev) : (d.post n e).bw = d.bw := by
  unfold Dev.post
  split
  · exact Dev.giveEv_bw ..
  · dsimp only
    split
    · exact Dev.giveEv_bw ..
    · rfl

theorem Dev.postFactor_bw (r : Nat) (d : Dev) (n : Nat) : (Dev.postFactor r d n).bw = d.bw := by
  unfold Dev.postFactor
  split
  · exact Dev.post_bw ..
  · rfl

@[simp] theorem Dev.factorChanged_bw (d : Dev) (r : Nat) : (d.factorChanged r).bw = d.bw := by
  rw [Dev.factorChanged, foldl_keeps Dev.bw (Dev.postFactor_bw r), Dev.inc_bw, Dev.wr_bw]

/-! ## The factor of a refill -/

theorem Dev.factor_congr {d t : Dev} (h : t.bw = d.bw) (r : Nat) : t.factor r = d.factor r := by rw [Dev.factor, h, Dev.factor]

theorem Dev.factor_refillMeter (r num den : Nat) (d : Dev) (c k : Nat) : (d.refillMeter r num den c).factor k = d.factor k := rfl

section
variable (d : Dev) {r : Nat} (hr : r < 4) (v : Nat)
include hr

/-- The deliverable figure of a resource is no budget. -/
theorem Dev.budget_wr_deliv (k c : Nat) : (d.wr (K.delivT1 + r) v).budget k c = d.budget k c :=
  Dev.rd_wr_ne d v (by simp only [K.budgetT1, K.delivT1]; omega)

theorem Dev.budgetSum_wr_deliv (k : Nat) (repl : Option (Nat × Nat)) :
    (d.wr (K.delivT1 + r) v).budgetSum k repl = d.budgetSum k repl := by
  simp only [Dev.budgetSum, Dev.budget_wr_deliv d hr v]

theorem Dev.bwRoom_wr_deliv : (d.wr (K.delivT1 + r) v).bwRoom r = roomOf v (d.rd K.q0ReservePct) := by
  have apart : K.q0ReservePct ≠ K.delivT1 + r := by simp only [K.q0ReservePct, K.delivT1]; omega
  rw [Dev.bwRoom, Dev.rd_wr_self, Dev.rd_wr_ne d v apart]

end

/-- The device with the factor `f` in effect for a resource. -/
def Dev.setFactor (d : Dev) (r : Nat) (f : Nat × Nat) : Dev :=
  { d with bw := { d.bw with num := kput r f.1 d.bw.num, den := kput r f.2 d.bw.den } }

@[simp] theorem Dev.factor_setFactor_self (d : Dev) (r : Nat) (f : Nat × Nat) : (d.setFactor r f).factor r = f := by
  simp [Dev.factor, Dev.setFactor]

/-- The part of a refill up to the meters: the deliverable figure and the factor `f` in effect, and every tenant class metered
by them. -/
def Dev.metered (d : Dev) (r : Nat) (f : Nat × Nat) : Dev :=
  tenants.foldl (Dev.refillMeter r f.1 f.2) ((d.wr (K.delivT1 + r) (d.delivNow r)).setFactor r f)

@[simp] theorem Dev.factor_metered (d : Dev) (r : Nat) (f : Nat × Nat) : (d.metered r f).factor r = f := by
  rw [Dev.metered, foldl_keeps (Dev.factor · r) (fun t c => Dev.factor_refillMeter r f.1 f.2 t c r), Dev.factor_setFactor_self]

/-- A refill of a resource meters by the factor of its budgets and of room under the deliverable figure of now, and reports that
factor when it is another one (R280, R289, R290). -/
theorem Dev.refillRes_eq (d : Dev) {r : Nat} (hr : r < 4) :
    let f := factorOf (d.budgetSum r none) (roomOf (d.delivNow r) (d.rd K.q0ReservePct))
    d.refillRes r = if f.1 * (d.factor r).2 == (d.factor r).1 * f.2 then d.metered r f else (d.metered r f).factorChanged r := by
  rw [← Dev.budgetSum_wr_deliv d hr (d.delivNow r), ← Dev.bwRoom_wr_deliv d hr]
  rfl

theorem Dev.factor_refillRes (d : Dev) {r : Nat} (hr : r < 4) :
    (d.refillRes r).factor r = factorOf (d.budgetSum r none) (roomOf (d.delivNow r) (d.rd K.q0ReservePct)) := by
  rw [Dev.refillRes_eq d hr]
  split
  · exact Dev.factor_metered ..
  · rw [Dev.factor_congr (Dev.factorChanged_bw ..), Dev.factor_metered]

/-- Settles O58: a cap is tested against the budget alone, a budget against cap and old value alone while the factor is below 1, and
what follows the factor at a refill, meters and events, keeps it. -/
theorem capsAndDegradedBudgets : Obligations.CapsAndDegradedBudgets := by
  intro s role res cls v hres
  refine ⟨fun may => ?caps, fun may below => ?budgets, s.dev.factor_refillRes hres⟩
  case caps =>
    rw [exec_capWrite_of_may may]
    refine ⟨fun allowed => ?_, fun nonzero under => ?_⟩
    · rw [Dev.wCap_accepts allowed, Dev.answered_unless_false]
    · rw [Dev.wCap_refuses nonzero under, Dev.answered_unless_true]
  case budgets =>
    have bad := Dev.budgetBad_iff_of_degraded (Dev.degraded_iff.2 below) cls v
    rw [exec_budgetWrite_of_may may, Dev.wBudget]
    refine ⟨fun raises => ?_, fun lowers withinCap => ?_⟩
    · rw [bad.2 (.inr raises), Dev.answered_unless_true]
    · have good : s.dev.budgetBad res cls v = false := by
        rw [Bool.eq_false_iff, Ne, bad]
        omega
      rw [good, Dev.answered_unless_false]

end Sys2Proof.Machine
end

section
/-! Proofs about the block as a whole: its step, its runs (chapter "What each step holds") and the state after reset. -/

namespace Sys2Proof.Machine

/-! ## A step -/

/-- Every command ends in a next state and leaves the queue alone. -/
theorem exec_next (c : Instr) (s : State) : ∃ d : Dev, exec c s = .next ⟨d, s.pending⟩ := by
  cases c <;> exact ⟨_, rfl⟩

theorem step_next (s : State) : ∃ d : Dev, step s = .next ⟨d, s.pending.tail⟩ := by
  obtain ⟨d, _ | ⟨c, rest⟩⟩ := s
  · exact ⟨d.commitDone, rfl⟩
  · exact exec_next c ⟨d, rest⟩

theorem Dev.commitDone_idle {d : Dev} (idle : d.rd K.commitPending = 0) : d.commitDone = d := by
  rw [Dev.commitDone, idle]
  rfl

/-- Settles O10: `step` takes the queue apart, and without a pending commit `commitDone` does nothing. -/
theorem stepTakesTheFront : Obligations.StepTakesTheFront :=
  ⟨fun _ _ _ => rfl, fun _ => rfl, fun _ => Dev.commitDone_idle⟩

/-! ## Runs -/

theorem run_next (k : Nat) (s : State) : ∃ d : Dev, core.run k s = .next ⟨d, s.pending.drop k⟩ := by
  induction k generalizing s with
  | zero => exact ⟨s.dev, rfl⟩
  | succ k ih =>
    obtain ⟨d, hd⟩ := step_next s
    obtain ⟨e, he⟩ := ih ⟨d, s.pending.tail⟩
    have first : core.run (k + 1) s = core.run k ⟨d, s.pending.tail⟩ := by
      simp only [Host.Core.run, core, hd]
    exact ⟨e, by rw [first, he, List.drop_tail]⟩

/-- Settles O60: no arm of `exec` stops, so a run of `k` steps ends with `k` commands taken off the queue's front. -/
theorem runsNeverStop : Obligations.RunsNeverStop := by
  refine ⟨exec_next, fun k s => ?_⟩
  obtain ⟨d, hd⟩ := run_next k s
  refine ⟨⟨_, hd⟩, fun t ht => ?_⟩
  rw [hd] at ht
  obtain rfl := Host.Outcome.next.inj ht
  rfl

/-! ## The state after reset -/

/-- Settles O12: the fields of `State.reset` are empty or hold their reset values, and the enable and fence of each of the
64 partitions read the default of an empty dictionary. -/
theorem resetLeaves : Obligations.ResetLeaves := by
  have partitions : ∀ p < 64, State.reset.dev.enabled p = false ∧ State.reset.dev.fenced p = false ∧
      State.reset.dev.objsOf p = [] ∧ State.reset.dev.chansOf p = [] := by decide
  refine ⟨wf_reset, fun _ _ => rfl, rfl, partitions, fun _ => rfl, rfl, rfl, rfl, rfl, rfl, ?_⟩
  refine ⟨rfl, rfl, rfl, ?_, rfl, ?_⟩ <;> exact fun e he => absurd he List.not_mem_nil

end Sys2Proof.Machine
end

section
/-! Proofs about the words of commands: stage instructions (R255, R272), admin commands (R184) and UBL messages (R347). -/

-- Each of the many short theorems below elaborated in a thread of its own would cost the memory of the threads.
set_option Elab.async false
namespace Sys2Proof.Machine

/-! ## Little-endian bytes -/

theorem leNat_lt (bs : List Byte) : leNat bs < 256 ^ bs.length := by
  induction bs with
  | nil => decide
  | cons b r ih =>
    have low := b.isLt
    rw [leNat, List.length_cons, Nat.pow_succ]
    omega

@[simp] theorem length_leBytes (k n : Nat) : (leBytes k n).length = k := by
  induction k generalizing n with
  | zero => rfl
  | succ k ih => rw [leBytes, List.length_cons, ih]

@[simp] theorem length_slice (bs : List Byte) (off len : Nat) : (slice bs off len).length = len := by simp [slice]

theorem leNat_leBytes (k n : Nat) : leNat (leBytes k n) = n % 256 ^ k := by
  induction k generalizing n with
  | zero => simp [leBytes, leNat, Nat.mod_one]
  | succ k ih =>
    rw [leBytes, leNat, ih, BitVec.toNat_ofNat]
    exact (Nat.pow_succ' (m := 256) ▸ Nat.mod_mul).symm

theorem leAt_lt (bs : List Byte) (off len : Nat) : leAt bs off len < 256 ^ len := by
  simpa [leAt] using leNat_lt (slice bs off len)

/-- A field that a list of bytes begins with. -/
theorem slice_append (bs tail : List Byte) : slice (bs ++ tail) 0 bs.length = bs := by
  apply List.ext_getElem (by simp)
  intro i _ inside
  simp [slice, List.getElem?_append_left inside, inside]

theorem leAt_leBytes_append {k n : Nat} (fits : n < 256 ^ k) (tail : List Byte) : leAt (leBytes k n ++ tail) 0 k = n := by
  have front := slice_append (leBytes k n) tail
  rw [length_leBytes] at front
  rw [leAt, front, leNat_leBytes, Nat.mod_eq_of_lt fits]

/-! ## Stage instructions -/

/-- A decoding agrees with the verifier's test, and what it gives is well formed on a cluster that exists. -/
def Spells (c : Nat) (o : Option Instr) (defined : Bool) : Prop :=
  o.isSome = defined ∧ ∀ i, o = some i → c < 256 → wellFormed i = true

@[simp] theorem spells_none_iff {c : Nat} {defined : Bool} : Spells c none defined ↔ defined = false :=
  ⟨fun h => h.1.symm, fun h => ⟨h.symm, nofun⟩⟩

@[simp] theorem spells_some_iff {c : Nat} {i : Instr} {defined : Bool} :
    Spells c (some i) defined ↔ defined = true ∧ (c < 256 → wellFormed i = true) :=
  ⟨fun h => ⟨h.1.symm, h.2 i rfl⟩, fun h => ⟨h.1.symm, fun _ e => Option.some.inj e ▸ h.2⟩⟩

theorem drainSize_isSome (f : Nat) : (drainSize f).isSome = (6 ≤ f && f ≤ 9 : Bool) := by
  unfold drainSize
  split
  case h_5 => grind
  all_goals rfl

section
variable {c w : Nat}

theorem spells_scalar (cls : fld w 28 4 = 0) : Spells c (decodeScalar c w) (insnDefined w) := by
  simp only [decodeScalar, insnDefined, cls]
  split
  case isTrue reserved => simp_all
  case isFalse =>
    split
    case h_15 => simp only [spells_none_iff]; grind
    all_goals simp_all [wellFormed]

theorem spells_immediate (ecc : Ecc) (cls : fld w 28 4 = 1) : Spells c (decodeImmediate c ecc w) (insnDefined w) := by
  simp only [decodeImmediate, insnDefined, cls]
  split
  case h_13 => simp only [spells_none_iff]; grind
  all_goals simp_all [wellFormed]

theorem spells_branch (cls : fld w 28 4 = 2) : Spells c (decodeBranch c w) (insnDefined w) := by
  simp only [decodeBranch, insnDefined, cls]
  split <;> simp [wellFormed]

theorem spells_insert (cls : fld w 28 4 = 3) : Spells c (decodeInsert c w) (insnDefined w) := by
  simp only [decodeInsert, insnDefined, cls]
  split <;> simp_all [wellFormed]

theorem spells_array (ecc : Ecc) (res : Residue) (cls : fld w 28 4 = 4) : Spells c (decodeArray c ecc res w) (insnDefined w) := by
  have tiles : fld w 4 3 < 8 := fld_lt w 4 3
  have first : fld w 1 3 < 8 := fld_lt w 1 3
  have formatA : fld w 21 4 < 16 := fld_lt w 21 4
  simp only [decodeArray, insnDefined, cls]
  split
  case isTrue reserved => simp_all
  case isFalse =>
    split
    case h_3 => split <;> grind [wellFormed, spells_none_iff, spells_some_iff, drainSize_isSome]
    all_goals grind [wellFormed, spells_none_iff, spells_some_iff]

theorem spells_vector (cls : fld w 28 4 = 5) : Spells c (decodeVector c w) (insnDefined w) := by
  have code : fld w 2 5 < 32 := fld_lt w 2 5
  simp only [decodeVector, insnDefined, cls]
  split
  case isTrue reserved => simp_all
  case isFalse =>
    split
    all_goals grind [wellFormed, spells_none_iff, spells_some_iff, cvtCode]

theorem spells_move (ecc : Ecc) (cls : fld w 28 4 = 6) : Spells c (decodeMove c ecc w) (insnDefined w) := by
  simp only [decodeMove, insnDefined, cls]
  split
  case isTrue reserved => simp_all
  case isFalse =>
    split
    case h_7 => simp only [spells_none_iff]; grind
    all_goals simp_all [wellFormed]

theorem spells_stream (ecc : Ecc) (cls : fld w 28 4 = 7) : Spells c (decodeStream c ecc w) (insnDefined w) := by
  simp only [decodeStream, insnDefined, cls]
  split
  case isTrue reserved => grind [spells_none_iff]
  case isFalse defined => 
    split
    all_goals grind [wellFormed, spells_none_iff, spells_some_iff]

theorem spells_queue (ecc : Ecc) (cls : fld w 28 4 = 8) : Spells c (decodeQueue c ecc w) (insnDefined w) := by
  have stage : fld w 22 4 < 16 := fld_lt w 22 4
  simp only [decodeQueue, insnDefined, cls]
  split
  case isTrue reserved => simp_all
  case isFalse => split <;> simp_all [wellFormed]

theorem spells_sync (cls : fld w 28 4 = 9) : Spells c (decodeSync c w) (insnDefined w) := by
  simp only [decodeSync, insnDefined, cls]
  split
  all_goals grind [wellFormed, spells_none_iff, spells_some_iff]

theorem spells_control (dup : DupCheck) (cls : fld w 28 4 = 10) : Spells c (decodeControl c dup w) (insnDefined w) := by
  simp only [decodeControl, insnDefined, cls]
  split
  case h_6 => simp only [spells_none_iff]; grind
  all_goals simp_all [wellFormed]

/-- A word decodes by its class (Table 08.2). -/
theorem spells_stage (ecc : Ecc) (res : Residue) (dup : DupCheck) : Spells c (decodeStage c ecc res dup w) (insnDefined w) := by
  unfold decodeStage
  split
  case h_1 cls => exact spells_scalar cls
  case h_2 cls => exact spells_immediate ecc cls
  case h_3 cls => exact spells_branch cls
  case h_4 cls => exact spells_insert cls
  case h_5 cls => exact spells_array ecc res cls
  case h_6 cls => exact spells_vector cls
  case h_7 cls => exact spells_move ecc cls
  case h_8 cls => exact spells_stream ecc cls
  case h_9 cls => exact spells_queue ecc cls
  case h_10 cls => exact spells_sync cls
  case h_11 cls => exact spells_control dup cls
  case h_12 => grind [insnDefined, spells_none_iff]

end

/-! ## Admin commands -/

theorem decodeAdmin_wf {f : FnId} (hf : f.wf = true) (bs : List Byte) : wellFormed (decodeAdmin f bs) = true := by
  have byte (o) : leAt bs o 1 < 2 ^ 8 := leAt_lt bs o 1
  have half (o) : leAt bs o 2 < 2 ^ 16 := leAt_lt bs o 2
  have word (o) : leAt bs o 4 < 2 ^ 32 := leAt_lt bs o 4
  have long (o) : leAt bs o 8 < 2 ^ 64 := leAt_lt bs o 8
  have desc (o) : leAt bs o 16 < 2 ^ 128 := leAt_lt bs o 16
  simp only [Nat.reducePow] at byte half word long desc
  unfold decodeAdmin
  dsimp only
  split <;> simp [wellFormed, Adm.wf, hf, ChArgs.wf, chArgsOf, byte, half, word, long, desc]

/-- An opcode of neither table. -/
theorem decodeAdmin_unknown {bs : List Byte} (unknown : adminFields (leAt bs 0 1) = none) (f : FnId) :
    decodeAdmin f bs = .unknownAdminOpcode ⟨f, leAt bs 2 2, false, 0⟩ (leAt bs 0 1) := by
  unfold decodeAdmin
  dsimp only
  rw [unknown, Option.any_none]
  split <;> simp_all [adminFields]

/-! ## UBL messages -/

section
variable {h : UblHdr} (op : h.op < 2 ^ 8) (dst : h.dst < 2 ^ 20) (src : h.src < 2 ^ 20) (off : h.off < 2 ^ 48)
  (tag : h.tag < 2 ^ 12) (pool : h.pool < 2 ^ 4) (lockId : h.lockId < 2 ^ 4) (status : h.status < 2 ^ 8)
include op dst src off tag pool lockId status

theorem ublWord_lt : ublWord h < 2 ^ 128 := by
  unfold ublWord b2n
  grind

theorem ublHdr_ublWord : ublHdr (ublWord h) = h := by
  obtain ⟨_, _, _, _, _, _, lock, last, _, nocache, _⟩ := h
  have flag (b : Bool) : ∃ n < 2, b2n b = n ∧ b = (n == 1) := ⟨b2n b, by cases b <;> decide, rfl, by cases b <;> rfl⟩
  obtain ⟨lockBit, _, hlock, rfl⟩ := flag lock
  obtain ⟨lastBit, _, hlast, rfl⟩ := flag last
  obtain ⟨nocacheBit, _, hnocache, rfl⟩ := flag nocache
  simp only [ublHdr, ublWord, fld, bit, Nat.shiftRight_eq_div_pow, UblHdr.mk.injEq, hlock, hlast, hnocache] at *
  refine ⟨by omega, by omega, by omega, by omega, by omega, by omega, ?_, ?_, by omega, ?_, by omega⟩
  all_goals congr 1; omega

/-- The bytes of a message give back its header. -/
theorem ublHdr_message (pay : List Byte) : ublHdr (leAt (leBytes 16 (ublWord h) ++ pay) 0 16) = h := by
  have fits := ublWord_lt op dst src off tag pool lockId status
  rw [leAt_leBytes_append fits, ublHdr_ublWord op dst src off tag pool lockId status]

end

theorem drop_leBytes_append (k n : Nat) (pay : List Byte) : (leBytes k n ++ pay).drop k = pay :=
  List.drop_left' (length_leBytes k n)

/-- Settles O59: each class of Table 08.2 decodes what the verifier finds defined, each opcode of Table 06.3 reads its fields within
their widths, and the fields of a UBL header are the digits of its word. -/
theorem wordsOfCommands : Obligations.WordsOfCommands := by
  refine ⟨fun c w ecc res dup _ => spells_stage ecc res dup,
    fun f bs hf _ => ⟨decodeAdmin_wf hf bs, fun unknown => decodeAdmin_unknown unknown f⟩,
    fun h op dst src off tag pool lockId status => ⟨ublWord_lt op dst src off tag pool lockId status,
      ublHdr_ublWord op dst src off tag pool lockId status, fun port med np pay => ?_⟩, rfl, rfl⟩
  · have header := ublHdr_message op dst src off tag pool lockId status pay
    simp only [ublMessage, header, drop_leBytes_append, List.length_append, length_leBytes]
    refine ⟨?_, ?_, ?_, ?_, ?_, ?_, ?_, ?_, ?_, ?_⟩ <;> intro hop len <;> simp [hop, len]
end Sys2Proof.Machine
end

section
/-! Proofs about the stored bytes of partitions (R38) and the turn of an admin queue (R180 to R183). -/

namespace Sys2Proof.Machine

/-! ## Partition memory -/

theorem Dev.byte_setBytes_outside (d : Dev) (p off : Nat) (bs : List Byte) {q a : Nat}
    (h : cellKey q a < cellKey p off ∨ cellKey p off + bs.length ≤ cellKey q a) : (d.setBytes p off bs).byte q a = d.byte q a :=
  cellAt_cellsPut_outside _ _ _ h

theorem Dev.byte_setBytes_inside {d : Dev} (wf : Memory.wf d.mm.cells = true) (p off : Nat) {bs : List Byte} {i : Nat}
    (h : i < bs.length) : (d.setBytes p off bs).byte p (off + i) = bs[i] := by
  have same : cellKey p (off + i) = cellKey p off + i := (Nat.add_assoc ..).symm
  rw [Dev.byte, same]
  exact cellAt_cellsPut_inside _ bs wf i h

@[simp] theorem Dev.length_bytes (d : Dev) (p off len : Nat) : (d.bytes p off len).length = len := by simp [Dev.bytes]

theorem Dev.bytes_setBytes {d : Dev} (wf : Memory.wf d.mm.cells = true) (p off : Nat) (bs : List Byte) :
    (d.setBytes p off bs).bytes p off bs.length = bs := by
  apply List.ext_getElem (by simp)
  intro i _ inside
  simp only [Dev.bytes, List.getElem_map, List.getElem_range]
  exact Dev.byte_setBytes_inside wf p off inside

/-- Settles O13: the 2^48 bytes of a partition have keys of their own, and a put leaves the other keys alone. -/
theorem memoryReadAfterWrite : Obligations.MemoryReadAfterWrite := by
  intro d p off bs wf fits
  refine ⟨Dev.bytes_setBytes wf p off bs, fun q a ha apart => Dev.byte_setBytes_outside d p off bs ?_, wf_cellsPut _ bs wf, rfl⟩
  simp only [cellKey]
  rcases Nat.lt_trichotomy q p with before | same | after
  · omega
  · omega
  · omega

/-! ## The turn of an admin queue -/

theorem leAt_leBytes_head (k n : Nat) (post : List Byte) : leAt (leBytes k n ++ post) 0 k = n % 256 ^ k := by
  have front := slice_append (leBytes k n) post
  rw [length_leBytes] at front
  rw [leAt, front, leNat_leBytes]

theorem leAt_leBytes (k n : Nat) : leAt (leBytes k n) 0 k = n % 256 ^ k := by
  rw [← List.append_nil (leBytes k n), leAt_leBytes_head]

/-- A field behind one of `k` bytes. -/
theorem leAt_leBytes_skip {k off : Nat} (behind : k ≤ off) (n : Nat) (post : List Byte) (len : Nat) :
    leAt (leBytes k n ++ post) off len = leAt post (off - k) len := by
  have here (i : Nat) : (leBytes k n ++ post)[off + i]? = post[off - k + i]? := by
    rw [List.getElem?_append_right (by rw [length_leBytes]; omega), length_leBytes]
    congr 1
    omega
  simp only [leAt, slice, List.getD_eq_getElem?_getD, here]

@[simp] theorem length_cplBytes (result sqHead tag status detail : Nat) (phase : Bool) :
    (cplBytes result sqHead tag status detail phase).length = 16 := by simp [cplBytes]

/-- The fields of a completion (Table 06.8.B). -/
theorem leAt_cplBytes (result sqHead tag status detail : Nat) (phase : Bool) :
    let bs := cplBytes result sqHead tag status detail phase
    leAt bs 0 8 = result % 2 ^ 64 ∧ leAt bs 8 2 = sqHead % 2 ^ 16 ∧ leAt bs 10 2 = tag % 2 ^ 16 ∧
    leAt bs 12 1 = status % 256 ∧ leAt bs 13 1 = b2n phase ∧ leAt bs 14 2 = detail % 2 ^ 16 := by
  have flag : b2n phase % 256 = b2n phase := by cases phase <;> rfl
  simp [cplBytes, leAt_leBytes_head, leAt_leBytes_skip, leAt_leBytes, flag]

theorem Dev.admRead_frame (d : Dev) (f : FnId) :
    d.admRead f = { d with tags := (d.admRead f).tags, nextTag := (d.admRead f).nextTag, out := (d.admRead f).out } := by
  unfold Dev.admRead
  split <;> rfl

theorem Dev.admFetch_frame (d : Dev) (h : Adm) :
    d.admFetch h = { d with fns := (d.admFetch h).fns, tags := (d.admFetch h).tags, nextTag := (d.admFetch h).nextTag, out := (d.admFetch h).out } := by
  rw [Dev.admFetch, Dev.admRead_frame]
  rfl

@[simp] theorem Dev.admRead_fns (d : Dev) (f : FnId) : (d.admRead f).fns = d.fns := by rw [Dev.admRead_frame]

theorem Dev.fn_admFetch (d : Dev) (h : Adm) :
    (d.admFetch h).fn h.fn = { d.fn h.fn with aq := { (d.fn h.fn).aq with
      asqHead := ((d.fn h.fn).aq.asqHead + 1) % 2 ^ (d.fn h.fn).aq.asqLog2, live := (d.fn h.fn).aq.live ++ [h.cid] } } := by
  rw [Dev.fn, Dev.admFetch, Dev.admRead_fns]
  exact kget_kput_self ..

/-- A completion that its queue takes. -/
theorem Dev.adminDone_posts {d : Dev} {h : Adm} (status detail result : Nat) (port : h.fn.port < 22)
    (run : h.run = (d.fn h.fn).aq.runs) (bme : d.bme h.fn = true) (ready : (d.fn h.fn).aq.ready = true)
    (acc : (d.fn h.fn).aq.accFail = false) :
    d.adminDone h status detail result =
      (let q := (d.fn h.fn).aq
       let t := (q.acqTail + 1) % 2 ^ q.acqLog2
       let x := { q with live := q.live.erase h.cid, acqTail := t, acqPhase := if t = 0 then !q.acqPhase else q.acqPhase }
       (d.setFn h.fn { d.fn h.fn with aq := x }).emit
        (.hostWr h.fn (q.acqBase + 16 * q.acqTail) (cplBytes result q.asqHead h.cid status detail q.acqPhase))) := by
  simp [Dev.adminDone, Nat.not_le.2 port, run, bme, ready, acc]

/-- Settles O14: the fetch and the completion change one function, and the completion's fields stand at their offsets. -/
theorem adminQueueTurn : Obligations.AdminQueueTurn := by
  refine ⟨fun d h => ⟨?_, ?_, d.admFetch_frame h⟩, fun d h status detail result port run bme ready acc => ?_⟩
  · rw [Dev.fn_admFetch]
  · rw [Dev.fn_admFetch]
  · rw [Dev.adminDone_posts status detail result port run bme ready acc]
    refine ⟨rfl, ?_, ?_, length_cplBytes .., leAt_cplBytes ..⟩ <;> rw [Dev.fn_emit, Dev.fn_setFn_self]

/-! ## What turns an admin command away -/

theorem Dev.admin_barred {d : Dev} {h : Adm} {served : Bool} {st dt : Nat} (ready : d.admReady h.fn = true)
    (bar : (d.admFetch h).admBar h served = some (st, dt)) (run : Dev → Adm → Dev) :
    d.admin h served run = (d.admFetch h).adminDone (d.admRun h) st dt 0 := by
  rw [Dev.admBar_admFetch] at bar
  simp [Dev.admin, ready, bar]

/-- Settles O15: `admBar` tests in this order, and what it answers ends the command before its own checks. -/
theorem adminRefusals : Obligations.AdminRefusals := by
  intro s h ready
  refine ⟨fun opcode pass => ?_, fun off served run => ?_, fun shown on fenced run => ?_,
    fun shown on secondary => ⟨fun open_ served run => ?_, fun run => ?_⟩, fun shown on primary rsv open_ served run => ?_⟩
  · exact congrArg (ok s) (Dev.admin_turn ⟨ready, pass⟩ _)
  · exact Dev.admin_barred ready (by simp only [Dev.admBar]; rcases off with off | off <;> simp [off]) run
  · exact Dev.admin_barred ready (by simp [Dev.admBar, shown, on, fenced]) run
  · exact Dev.admin_barred ready (by simp [Dev.admBar, shown, on, secondary, open_]) run
  · exact Dev.admin_barred ready (by simp [Dev.admBar, shown, on, secondary]) run
  · exact Dev.admin_barred ready (by simp [Dev.admBar, shown, on, primary, rsv, open_]) run

end Sys2Proof.Machine
end

section
/-! Proofs for the chapter "Stage programs": the array operations (R258) and the arithmetic of one block (R160, R161, R166). -/

namespace Sys2Proof.Machine

/-! ## Keyed lists with a value that is not listed -/

theorem kget_kset {α : Type} [DecidableEq α] (z : α) (j k : Nat) (v : α) (m : List (Nat × α)) :
    kget z j (kset z k v m) = if j = k then v else kget z j m := by
  unfold kset
  by_cases same : j = k
  · subst same
    split <;> simp_all
  · split <;> simp [same]

/-- A key after a fold of entries: the value that every entry of that key has, or what was there. -/
theorem kget_foldl_kset {α β : Type} [DecidableEq α] (z : α) (key : β → Nat) (val : β → α) (k : Nat) (v : α) (l : List β)
    (m : List (Nat × α)) (agree : ∀ x ∈ l, key x = k → val x = v) :
    kget z k (l.foldl (fun m x => kset z (key x) (val x) m) m) = if ∃ x ∈ l, key x = k then v else kget z k m := by
  induction l generalizing m with
  | nil => simp
  | cons x l ih =>
    rw [List.foldl_cons, ih _ fun y hy => agree y (List.mem_cons_of_mem x hy), kget_kset]
    by_cases here : key x = k
    · have := agree x List.mem_cons_self here
      simp [here, this]
    · have there : k ≠ key x := fun e => here e.symm
      simp [here, there]

theorem kget_foldl_range {α : Type} [DecidableEq α] (z : α) (f : Nat → α) {n k : Nat} (inside : k < n) (m : List (Nat × α)) :
    kget z k ((List.range n).foldl (fun m k => kset z k (f k) m) m) = f k := by
  exact (kget_foldl_kset z id f k (f k) _ _ fun _ _ same => congrArg f same).trans (if_pos ⟨k, List.mem_range.2 inside, rfl⟩)

theorem kfind_filter_key {α : Type} (p : Nat → Bool) (k : Nat) (m : List (Nat × α)) :
    kfind k (m.filter fun e => p e.1) = if p k then kfind k m else none := by
  by_cases keep : p k = true
  · rw [if_pos keep]
    exact kfind_filter_of fun _ => keep
  · rw [if_neg keep]
    cases found : kfind k (m.filter fun e => p e.1) with
    | none => rfl
    | some v => exact absurd (List.mem_filter.1 (kfind_mem found)).2 keep

/-! ## Outcomes over the 16 groups -/

theorem orStop_all_none {l : List (Option SRes)} (h : ∀ x ∈ l, x = none) (r : SRes) : orStop l r = r := by
  have empty : l.filterMap id = [] := by
    rw [List.filterMap_eq_nil_iff]
    exact h
  rw [orStop, empty]

theorem orStop_groups_none {f : Nat → Option SRes} (h : ∀ g < 16, f g = none) (r : SRes) : orStop ((List.range 16).map f) r = r :=
  orStop_all_none (fun x hx => by
    obtain ⟨g, hg, rfl⟩ := List.mem_map.1 hx
    exact h g (List.mem_range.1 hg)) r

theorem mem_tilesOf {n t0 : Nat} {at' : Nat × Nat} : at' ∈ tilesOf n t0 ↔ at'.1 < 256 ∧ ∃ t < n, at'.2 = t0 + t := by
  obtain ⟨a, t⟩ := at'
  simp only [tilesOf, List.mem_flatMap, List.mem_map, List.mem_range, Prod.mk.injEq]
  constructor
  · rintro ⟨_, ha, i, hi, rfl, rfl⟩
    exact ⟨ha, i, hi, rfl⟩
  · rintro ⟨ha, i, hi, rfl⟩
    exact ⟨a, ha, i, hi, rfl, rfl⟩

/-- The tiles after a fold that gives every tile of T0 to T0 + N - 1 in every array its value. -/
theorem kget_foldl_putTile (val : Nat → Nat → List W32) {n t0 : Nat} (room : t0 + n ≤ 8) (acc : List (Nat × List W32)) {a t : Nat}
    (ha : a < 256) (ht : t < 8) :
    kget tileZero (a * 8 + t) ((tilesOf n 0).foldl (fun m at' => putTile m at'.1 (t0 + at'.2) (val at'.1 at'.2)) acc) =
      if t0 ≤ t ∧ t < t0 + n then val a (t - t0) else kget tileZero (a * 8 + t) acc := by
  have place : ∀ at' ∈ tilesOf n 0, at'.1 * 8 + (t0 + at'.2) = a * 8 + t → at'.1 = a ∧ at'.2 = t - t0 ∧ t0 ≤ t ∧ t < t0 + n := by
    intro at' mem same
    obtain ⟨_, i, hi, hat⟩ := mem_tilesOf.1 mem
    omega
  have fold := kget_foldl_kset tileZero (fun at' : Nat × Nat => at'.1 * 8 + (t0 + at'.2)) (fun at' => val at'.1 at'.2) (a * 8 + t)
    (val a (t - t0)) (tilesOf n 0) acc fun at' mem same => by rw [(place at' mem same).1, (place at' mem same).2.1]
  have named : (∃ at' ∈ tilesOf n 0, at'.1 * 8 + (t0 + at'.2) = a * 8 + t) ↔ t0 ≤ t ∧ t < t0 + n := by
    constructor
    · rintro ⟨at', mem, same⟩
      exact (place at' mem same).2.2
    · rintro ⟨lower, upper⟩
      exact ⟨(a, t - t0), mem_tilesOf.2 ⟨ha, t - t0, by omega, by simp⟩, by simp; omega⟩
  simp only [named] at fold
  exact fold

/-! ## The operations -/

section
variable {u : Clu}

theorem arrLoad_go {fmtB : Nat} {rs1 rs2 : Fin 32} (fmt : fmtB ≤ 7)
    (may : ∀ g < 16, u.mayRead (groupBase (u.xr rs1) (tldsStride (u.xr rs2)) g) 4096) :
    ∃ v : Clu, arrLoad fmtB rs1 rs2 u = .go v ∧ v = { u with stat := v.stat, tags := v.tags } ∧
      ∀ a < 256, kget slabZero a v.stat =
          u.rdSram (groupBase (u.xr rs1) (tldsStride (u.xr rs2)) (a / 16) + a % 16 * 256) 256 ∧ kget 0 a v.tags = fmtB := by
  have go := orStop_groups_none fun g hg => Clu.rdStop_none (Nat.mod_one _) (may g hg)
  simp only [arrLoad, Nat.not_lt.2 fmt, if_false, go]
  refine ⟨_, rfl, ?frame, fun a ha => ⟨?slabs, ?tags⟩⟩
  all_goals dsimp only
  case slabs => rw [kget_foldl_range slabZero _ ha]
  case tags => rw [kget_foldl_range 0 _ ha]

section
variable {n t0 : Nat} (some_ : 1 ≤ n) (room : t0 + n ≤ 8)
include some_ room

theorem noTiles_false : (decide (n < 1) || decide (8 < t0 + n)) = false := by simp; omega

theorem arrMma_go {fa fb : Nat} {rs1 rs2 : Fin 32} (pair : pairOk fa fb = true) (tags : ∀ a < 256, kget 0 a u.tags = fb)
    (may : ∀ g < 16, u.mayRead (groupBase (u.xr rs1) (u.xr rs2) g) (quadBytes fa n)) :
    ∃ v : Clu, arrMma fa fb rs1 rs2 n t0 u = .go v ∧ v = { u with acc := v.acc } ∧ ∀ a < 256, ∀ t < 8, v.tile a t =
      if t0 ≤ t ∧ t < t0 + n then u.mmaTile fa fb (groupBase (u.xr rs1) (u.xr rs2) (a / 16)) n a (t - t0) t0 else u.tile a t := by
  have agree : (List.range 256).any (fun a => kget 0 a u.tags != fb) = false := by
    simpa [List.any_eq_false] using tags
  have go := orStop_groups_none fun g hg => Clu.rdStop_none (Nat.mod_one _) (may g hg)
  simp only [arrMma, pair, Bool.not_true, Bool.false_or, noTiles_false some_ room, agree, Bool.false_eq_true, if_false, go]
  refine ⟨_, rfl, rfl, fun a ha t ht => ?_⟩
  exact kget_foldl_putTile (fun a t => u.mmaTile fa fb (groupBase (u.xr rs1) (u.xr rs2) (a / 16)) n a t t0) room u.acc ha ht

theorem arrMma_mismatch {fa fb : Nat} (rs1 rs2 : Fin 32) (pair : pairOk fa fb = true) (tag : ∃ a < 256, kget 0 a u.tags ≠ fb) :
    arrMma fa fb rs1 rs2 n t0 u = .fault 0x03 0 := by
  have differ : (List.range 256).any (fun a => kget 0 a u.tags != fb) = true := by simpa using tag
  rw [arrMma]
  simp only [pair, Bool.not_true, Bool.false_or, noTiles_false some_ room, differ, Bool.false_eq_true, if_false, if_true]

theorem arrDrain_go {f size : Nat} {rs1 rs2 : Fin 32} (fmt : drainSize f = some size)
    (may : ∀ g < 16, u.mayWrite (groupBase (u.xr rs1) (u.xr rs2) g) (n * 256 * size)) :
    arrDrain f rs1 rs2 n t0 u =
      .go ((List.range 16).foldl (fun v g => v.wrSram (groupBase (u.xr rs1) (u.xr rs2) g) (u.drainGroup f size n t0 g)) u) := by
  simp only [arrDrain, fmt, noTiles_false some_ room, Bool.false_eq_true, if_false]
  rw [orStop_groups_none fun g hg => Clu.wrStop_none (Nat.mod_one _) (may g hg)]

theorem arrZero_go : ∃ v : Clu, arrZero n t0 u = .go v ∧ v = { u with acc := v.acc } ∧
    ∀ a < 256, ∀ t < 8, v.tile a t = if t0 ≤ t ∧ t < t0 + n then List.replicate 16 0 else u.tile a t := by
  simp only [arrZero, noTiles_false some_ room, Bool.false_eq_true, if_false]
  refine ⟨_, rfl, rfl, fun a ha t ht => ?_⟩
  simp only [Clu.tile, kget_eq_kfind]
  rw [kfind_filter_key fun k => decide (k % 8 < t0) || decide (t0 + n ≤ k % 8)]
  have col : (a * 8 + t) % 8 = t := by omega
  by_cases named : t0 ≤ t ∧ t < t0 + n
  · rw [if_neg (by simp [col]; omega), if_pos named]
    rfl
  · rw [if_pos (by simp [col]; omega), if_neg named]

theorem arrLoadAcc_go {rs1 rs2 : Fin 32} (may : ∀ g < 16, u.mayRead (groupBase (u.xr rs1) (u.xr rs2) g) (n * 1024)) :
    ∃ v : Clu, arrLoadAcc rs1 rs2 n t0 u = .go v ∧ v = { u with acc := v.acc } ∧ ∀ a < 256, ∀ t < 8, v.tile a t =
      if t0 ≤ t ∧ t < t0 + n then (List.range 16).map (fun i => BitVec.ofNat 32 (leNat (u.rdSram
        (groupBase (u.xr rs1) (u.xr rs2) (a / 16) + 4 * ((t - t0) * 256 + i / 4 * 64 + a % 16 * 4 + i % 4)) 4)))
      else u.tile a t := by
  have go := orStop_groups_none fun g hg => Clu.rdStop_none (Nat.mod_one _) (may g hg)
  simp only [arrLoadAcc, noTiles_false some_ room, Bool.false_eq_true, if_false, go]
  refine ⟨_, rfl, rfl, fun a ha t ht => ?_⟩
  exact kget_foldl_putTile (fun a t => (List.range 16).map (fun i => BitVec.ofNat 32 (leNat (u.rdSram
      (groupBase (u.xr rs1) (u.xr rs2) (a / 16) + 4 * (t * 256 + i / 4 * 64 + a % 16 * 4 + i % 4)) 4)))) room u.acc ha ht

end
end

theorem foldl_wrSram_keeps {β : Type} (part : Clu → β) (keeps : ∀ (v : Clu) a bs, part (v.wrSram a bs) = part v) (base : Nat → Nat)
    (data : Nat → List Byte) (l : List Nat) (u : Clu) :
    part (l.foldl (fun v g => v.wrSram (base g) (data g)) u) = part u := by
  induction l generalizing u with
  | nil => rfl
  | cons g l ih => rw [List.foldl_cons, ih, keeps]

/-- Where the residue check passes a TMMA acts as any instruction that reads SRAM. -/
theorem Dev.residue_pass (d : Dev) (c : Nat) (run : Clu → SRes) (rs1 : Fin 32) : d.residue c .pass run .ok rs1 = d.stage c run := by
  simp only [Dev.residue, ite_self]
  rfl

/-! ## One block -/

theorem accBlock_mx_nan {fa sa sb : Nat} (mx : fa ≤ 4) (nan : sa = 0xFF ∨ sb = 0xFF) (a : List Byte) (fb : Nat) (b : List Byte) (acc : W32) :
    accBlock fa a sa fb b sb acc = w32 .nan := by
  have scale : blockScale ((products fa a fb b).foldl FV.add .zero) sa sb = .nan := by
    rcases nan with nan | nan <;> simp [blockScale, nan]
  have absorbs (x : FV) : x.add .nan = .nan := by cases x <;> rfl
  simp [accBlock, isMx, mx, Nat.le_succ_of_le mx, scale, absorbs]

theorem accBlock_mx {fa sa sb : Nat} (mx : fa ≤ 4) (ha : sa ≠ 0xFF) (hb : sb ≠ 0xFF) (a : List Byte) (fb : Nat) (b : List Byte)
    (acc : W32) : accBlock fa a sa fb b sb acc =
      w32 ((f32 acc).add (((products fa a fb b).foldl FV.add .zero).scale ((sa : Int) + sb - 254))) := by
  simp [accBlock, isMx, mx, Nat.le_succ_of_le mx, blockScale, ha, hb]

/-- Settles O2: every operation is a fold over slabs, tiles or groups, and a block's arithmetic goes by its format. -/
theorem arrayOperations : Obligations.ArrayOperations := by
  refine ⟨fun s c h => ?_, fun fa fb sa sb a b acc => ⟨fun mx nan => accBlock_mx_nan mx nan a fb b acc,
    fun mx ha hb => accBlock_mx mx ha hb a fb b acc, fun int => ?_, fun fp => ?_⟩⟩
  · refine ⟨fun f rs1 rs2 fmt may => ?tlds, fun fa fb rs1 rs2 n t0 pair some_ room => ⟨fun tags may => ?tmma, fun tag => ?mismatch⟩,
      fun f size rs1 rs2 n t0 fmt some_ room may => ?tdrain, fun n t0 some_ room => ?tzero, fun rs1 rs2 n t0 some_ room may => ?tlda⟩
    case tlds =>
      obtain ⟨v, go, frame, reads⟩ := arrLoad_go (u := s.dev.clu c) fmt may
      exact ⟨v, ok_stage_go h go (by rw [frame]) (by rw [frame]), frame, reads⟩
    case tmma =>
      obtain ⟨v, go, frame, reads⟩ := arrMma_go some_ room pair tags may
      refine ⟨v, ?_, frame, reads⟩
      change ok s (s.dev.residue c .pass _ .ok rs1) = _
      rw [Dev.residue_pass]
      exact ok_stage_go h go (by rw [frame]) (by rw [frame])
    case mismatch =>
      change ok s (s.dev.residue c .pass _ .ok rs1) = _
      rw [Dev.residue_pass]
      exact ok_stage_fault h (arrMma_mismatch some_ room rs1 rs2 pair tag)
    case tdrain =>
      exact ok_stage_go h (arrDrain_go some_ room fmt may) (foldl_wrSram_keeps Clu.pc Clu.wrSram_pc ..)
        (foldl_wrSram_keeps Clu.insns Clu.wrSram_insns ..)
    case tzero =>
      obtain ⟨v, go, frame, reads⟩ := arrZero_go (u := s.dev.clu c) some_ room
      exact ⟨v, ok_stage_go h go (by rw [frame]) (by rw [frame]), frame, reads⟩
    case tlda =>
      obtain ⟨v, go, frame, reads⟩ := arrLoadAcc_go some_ room may
      exact ⟨v, ok_stage_go h go (by rw [frame]) (by rw [frame]), frame, reads⟩
  · simp [accBlock, isMx, int]
  · simp [accBlock, Nat.not_le.2 fp]

end Sys2Proof.Machine
end

section
/-! Proofs for the chapter "Stage programs": the vector unit (R163, R260, R261; Tables 05.7, 08.6, 08.7). -/

namespace Sys2Proof.Machine

/-! ## Lane functions -/

section
variable {s : State} {c : Nat} (h : s.dev.stageReady c)
include h

/-- An instruction that writes a vector register goes on. -/
theorem ok_stage_setV {run : Clu → SRes} {vd : Fin 32} {v : List W32} (hrun : run (s.dev.clu c) = .go ((s.dev.clu c).setV vd v)) :
    ok s (s.dev.stage c run) = .next ⟨s.dev.ranOn c ((s.dev.clu c).setV vd v), s.pending⟩ :=
  ok_stage_go h hrun (Clu.setV_pc ..) (Clu.setV_insns ..)

/-- An instruction that writes SRAM goes on. -/
theorem ok_stage_wrSram {run : Clu → SRes} {a : Nat} {bs : List Byte} (hrun : run (s.dev.clu c) = .go ((s.dev.clu c).wrSram a bs)) :
    ok s (s.dev.stage c run) = .next ⟨s.dev.ranOn c ((s.dev.clu c).wrSram a bs), s.pending⟩ :=
  ok_stage_go h hrun (Clu.wrSram_pc ..) (Clu.wrSram_insns ..)

theorem ok_stage_vec1 (f : W32 → W32) (vd va : Fin 32) :
    ok s (s.dev.stage c (vec1 f vd va)) =
      .next ⟨s.dev.ranOn c ((s.dev.clu c).setV vd (((s.dev.clu c).vr va).map f)), s.pending⟩ := ok_stage_setV h rfl

theorem ok_stage_vec2 (f : W32 → W32 → W32) (vd va vb : Fin 32) :
    ok s (s.dev.stage c (vec2 f vd va vb)) =
      .next ⟨s.dev.ranOn c ((s.dev.clu c).setV vd (List.zipWith f ((s.dev.clu c).vr va) ((s.dev.clu c).vr vb))), s.pending⟩ :=
  ok_stage_setV h rfl

theorem ok_stage_vec3 (f : W32 → W32 → W32 → W32) (vd va vb vc : Fin 32) :
    ok s (s.dev.stage c (vec3 f vd va vb vc)) =
      .next ⟨s.dev.ranOn c ((s.dev.clu c).setV vd (List.zipWith (fun ab c => f ab.1 ab.2 c)
        (((s.dev.clu c).vr va).zip ((s.dev.clu c).vr vb)) ((s.dev.clu c).vr vc))), s.pending⟩ := ok_stage_setV h rfl

end

/-! ## Special cases (Table 05.7) -/

theorem w32_nan : w32 .nan = 0x7FC00000 := rfl

/-- Every function of one operand gives NaN for a NaN. -/
theorem vFunctions_nan {x : W32} (nan : f32 x = .nan) :
    vRcp x = 0x7FC00000 ∧ vRsqrt x = 0x7FC00000 ∧ vSqrt x = 0x7FC00000 ∧ vExp2 x = 0x7FC00000 ∧ vLog2 x = 0x7FC00000 ∧
    vExp x = 0x7FC00000 ∧ vLog x = 0x7FC00000 ∧ vTanh x = 0x7FC00000 := by
  simp only [vRcp, vRsqrt, vSqrt, vExp2, vLog2, vExp, vLog, vTanh, nan, w32_nan, and_self]

theorem FV.add_nan {a b : FV} (nan : a = .nan ∨ b = .nan) : a.add b = .nan := by
  rcases nan with rfl | rfl
  · rfl
  · cases a <;> rfl

theorem FV.min_nan {a b : FV} (nan : a = .nan ∨ b = .nan) : a.min b = .nan := by
  rcases nan with rfl | rfl <;> simp [FV.min, FV.isNan]

theorem FV.max_nan {a b : FV} (nan : a = .nan ∨ b = .nan) : a.max b = .nan := by
  rcases nan with rfl | rfl <;> simp [FV.max, FV.isNan]

/-- Settles O3: every instruction maps its function over the lanes, and the functions look at their special cases first. -/
theorem vectorFunctions : Obligations.VectorFunctions := by
  refine ⟨fun s c h => ⟨fun vd va vb => ?_, fun vd va vb vc => ?_, fun vd va => ?_⟩, fun x nan => vFunctions_nan nan,
    fun x y nan => ?_, rfl, rfl, rfl, rfl, rfl, rfl, rfl, rfl, rfl⟩
  · have two := fun f => ok_stage_vec2 h f vd va vb
    exact ⟨two _, two _, two _, two _, two _, two lEq, two lLt, two lLe, two _, two _, two _, two _, two lShl, two lSra⟩
  · have three := fun f => ok_stage_vec3 h f vd va vb vc
    exact ⟨three _, three lSel⟩
  · have one := fun f => ok_stage_vec1 h f vd va
    exact ⟨one _, one _, one _, one _, one _, one _, one _, one _, one _, one _⟩
  · rw [FV.min_nan nan, FV.max_nan nan, FV.add_nan nan, w32_nan]
    exact ⟨rfl, rfl, rfl⟩

/-! ## Conversions and moves -/

theorem vecCountBad_false {n : Nat} (step : n % 64 = 0) (least : 64 ≤ n) (most : n ≤ 2048) : vecCountBad n = false := by
  simp [vecCountBad, step, least, most]

theorem vecLd_go {u : Clu} {a n : Nat} (count : vecCountBad n = false) (aligned : a % 64 = 0) (may : u.mayRead a n) (v : Fin 32) :
    vecLd v a n u = .go (u.setV v (bytesLanes (u.rdSram a n))) := by
  rw [vecLd, count, if_neg Bool.false_ne_true, Clu.rdStop_none aligned may, orStop_one_none]

theorem vecSt_go {u : Clu} {a n : Nat} (count : vecCountBad n = false) (aligned : a % 64 = 0) (may : u.mayWrite a n) (v : Fin 32) :
    vecSt v a n u = .go (u.wrSram a ((laneBytes (u.vr v)).take n)) := by
  rw [vecSt, count, if_neg Bool.false_ne_true, Clu.wrStop_none aligned may, orStop_one_none]

/-- A count or an address out of steps of 64 faults. -/
theorem vecMove_fault {u : Clu} {a n : Nat} (bad : a % 64 ≠ 0 ∨ n % 64 ≠ 0 ∨ n < 64 ∨ 2048 < n) (v : Fin 32) :
    vecLd v a n u = .fault 0x02 0 ∧ vecSt v a n u = .fault 0x02 0 := by
  by_cases count : vecCountBad n = true
  · simp [vecLd, vecSt, count]
  · have misaligned : a % 64 ≠ 0 := by
      simp [vecCountBad] at count
      omega
    simp [vecLd, vecSt, count, Clu.rdStop_misaligned misaligned, Clu.wrStop_misaligned misaligned]

/-- Settles O4: reductions, conversions and moves write one register or one range of SRAM, and a move's count and address are
tested before its range. -/
theorem vectorMovesAndConversions : Obligations.VectorMovesAndConversions := by
  intro s c h
  refine ⟨fun vd va => ⟨ok_stage_setV h rfl, ok_stage_setV h rfl⟩, fun vd va code low high => ?_, fun vd va code low => ?_,
    fun v rs1 rs2 => ⟨fun aligned may => ?_, fun aligned may => ?_, fun aligned step least most => ⟨fun may => ?_, fun may => ?_⟩,
      fun bad => ⟨?_, ?_⟩⟩, fun v rd va rs1 rs2 => ⟨ok_stage_setV h rfl, ?_⟩⟩
  · have takes : cvtCode code = true := by simp [cvtCode, low, high]
    exact ⟨ok_stage_setV h (by simp [vecIn, takes]), ok_stage_setV h (by simp [vecOut, takes])⟩
  · have takes : ¬4 < code := Nat.not_lt.2 low
    exact ⟨ok_stage_setV h (by simp [vecEnc, takes]), ok_stage_setV h (by simp [vecDec, takes])⟩
  · exact ok_stage_setV h (vecLd_go rfl aligned may v)
  · exact ok_stage_wrSram h (vecSt_go rfl aligned may v)
  · exact ok_stage_setV h (vecLd_go (vecCountBad_false step least most) aligned may v)
  · exact ok_stage_wrSram h (vecSt_go (vecCountBad_false step least most) aligned may v)
  · exact ok_stage_fault h (vecMove_fault bad v).1
  · exact ok_stage_fault h (vecMove_fault bad v).2
  · refine ok_stage_setX h ?_
    rw [vecExt, BitVec.ofNat_toNat]

end Sys2Proof.Machine
end

section
/-! Proofs for the chapter "Stage programs": streams (R254, R262, R263), steps and boundaries (R250, R267 to R270), synchronisation
and identity (R265). -/

namespace Sys2Proof.Machine

/-! ## A cluster put in twice -/

@[simp] theorem kput_kput_self {α : Type} (k : Nat) (v w : α) (m : List (Nat × α)) : kput k w (kput k v m) = kput k w m := by
  induction m with
  | nil => simp [kput]
  | cons e r ih =>
    obtain ⟨a, b⟩ := e
    simp only [kput]
    split
    · simp [kput]
    · split
      · simp [kput]
      · simp [kput, *]

@[simp] theorem Dev.setClu_setClu (d : Dev) (c : Nat) (x y : Clu) : (d.setClu c x).setClu c y = d.setClu c y := by
  simp [Dev.setClu]

/-! ## Instructions that act beyond their cluster -/

theorem Dev.stageChan_of {d : Dev} {u : Clu} {k : Nat} {ch : Chan} (hk : u.chan = some k) (hch : d.chan k = some ch)
    (run : Nat → Chan → SRes) : d.stageChan u run = run k ch := by
  simp only [Dev.stageChan, hk, hch]

/-- The device `t` with cluster `c` gone on at its next instruction. -/
def Dev.wentOn (t : Dev) (c : Nat) : Dev := t.modClu c fun v => v.past (v.pc + 1)

/-- A cluster put in and gone on is a cluster that ran on. -/
theorem Dev.wentOn_setClu {d : Dev} {c : Nat} {u : Clu} (hpc : u.pc = (d.clu c).pc) (hins : u.insns = (d.clu c).insns) :
    (d.setClu c u).wentOn c = d.ranOn c u := by
  simp [Dev.wentOn, Dev.modClu, Clu.past, Dev.ranOn, Dev.ranTo, hpc, hins]

section
variable {s : State} {c : Nat} (h : s.dev.stageReady c)
include h

theorem ok_stage_dev {run : Clu → SRes} {t : Dev} (hrun : run (s.dev.clu c) = .dev t) :
    ok s (s.dev.stage c run) = .next ⟨t.wentOn c, s.pending⟩ := by
  rw [Dev.stage_ready h, hrun]
  rfl

theorem ok_stage_wait {run : Clu → SRes} (hrun : run (s.dev.clu c) = .wait) : ok s (s.dev.stage c run) = .next s := by
  rw [Dev.stage_ready h, hrun]
  rfl

end

/-! ## Issue of a stream operation -/

/-- The cluster with an operation behind those outstanding. -/
def Clu.issues (u : Clu) (o : StreamOp) : Clu := { u with streams := u.streams ++ [o], nextOp := u.nextOp + 1 }

/-- The operation that a cluster issues on a channel. -/
def Clu.streamOp (u : Clu) (ch : Chan) (kind space mem sram len : Nat) : StreamOp :=
  ⟨u.nextOp, kind, space, mem, sram, len, if kind == 0 then [] else u.rdSram sram len, u.cur, ch.streamEp, 0⟩

theorem Dev.streamFirst_one_beat {o : StreamOp} (h : o.kind = 0 ∨ o.piece 0 ≤ 64) (d : Dev) (c k : Nat) (ch : Chan) :
    d.streamFirst c k ch o = d := by
  unfold Dev.streamFirst
  rcases h with h | h <;> simp [h]

/-- A load in the channel's partition, or a store of one beat there, changes nothing but its cluster. -/
theorem ok_stage_one_beat {s : State} {c k : Nat} {ch : Chan} {o : StreamOp} (h : s.dev.stageReady c) {run : Clu → SRes}
    (hrun : run (s.dev.clu c) = .dev ((s.dev.setClu c ((s.dev.clu c).issues o)).streamFirst c k ch o)) (one : o.kind = 0 ∨ o.piece 0 ≤ 64) :
    ok s (s.dev.stage c run) = .next ⟨s.dev.ranOn c ((s.dev.clu c).issues o), s.pending⟩ := by
  rw [ok_stage_dev h hrun, Dev.streamFirst_one_beat one]
  exact congrArg (ok s) (Dev.wentOn_setClu rfl rfl)

section
variable {d : Dev} {u : Clu} {k : Nat} {ch : Chan} {kind space : Nat} {rs1 rs2 rs3 : Fin 32} (hk : u.chan = some k)
  (hch : d.chan k = some ch) (live : ch.dscFailed u.cur = false)
  (good : streamBad kind space (u.xr rs1).toNat (u.xr rs2).toNat (u.xr rs3).toNat = false) (room : u.streams.length < 16)
  (free : (if kind == 0 then u.wrStop (u.xr rs2).toNat (u.xr rs3).toNat 64 else u.rdStop (u.xr rs2).toNat (u.xr rs3).toNat 64) = none)
include hk hch live good room free

theorem Dev.streamIssue_dev (c : Nat) (master : space = 0 ∨ d.bme (ch.fn k) = true) :
    let o := u.streamOp ch kind space (u.xr rs1).toNat (u.xr rs2).toNat (u.xr rs3).toNat
    d.streamIssue c kind space rs1 rs2 rs3 u = .dev (if space == 0 then (d.setClu c (u.issues o)).streamFirst c k ch o
      else (d.setClu c (u.issues o)).streamSend c k ch o) := by
  have starts : (space != 0 && !false && !d.bme (ch.fn k)) = false := by
    rcases master with h | h <;> simp [h]
  simp only [Dev.streamIssue, good, Nat.not_le.2 room, free, orStop_one_none, Dev.stageChan_of hk hch, live, starts,
    Bool.false_eq_true, if_false]
  rfl

theorem Dev.streamIssue_local (c : Nat) (inside : space = 0) :
    let o := u.streamOp ch kind space (u.xr rs1).toNat (u.xr rs2).toNat (u.xr rs3).toNat
    d.streamIssue c kind space rs1 rs2 rs3 u = .dev ((d.setClu c (u.issues o)).streamFirst c k ch o) := by
  simpa only [inside, beq_self_eq_true, if_true] using Dev.streamIssue_dev hk hch live good room free c (.inl inside)

theorem Dev.streamIssue_host (c : Nat) (outside : space ≠ 0) (master : d.bme (ch.fn k) = true) :
    let o := u.streamOp ch kind space (u.xr rs1).toNat (u.xr rs2).toNat (u.xr rs3).toNat
    d.streamIssue c kind space rs1 rs2 rs3 u = .dev ((d.setClu c (u.issues o)).streamSend c k ch o) := by
  simpa only [beq_iff_eq, outside, if_false] using Dev.streamIssue_dev hk hch live good room free c (.inr master)

theorem Dev.streamIssue_wait (c : Nat) (outside : space ≠ 0) (master : d.bme (ch.fn k) = false) :
    d.streamIssue c kind space rs1 rs2 rs3 u = .wait := by
  have waits : (space != 0 && !false && !d.bme (ch.fn k)) = true := by simp [outside, master]
  simp only [Dev.streamIssue, good, Nat.not_le.2 room, free, orStop_one_none, Dev.stageChan_of hk hch, live, waits,
    Bool.false_eq_true, if_false, if_true]

end

theorem Dev.streamIssue_bad {d : Dev} {u : Clu} {kind space : Nat} {rs1 rs2 rs3 : Fin 32}
    (bad : streamBad kind space (u.xr rs1).toNat (u.xr rs2).toNat (u.xr rs3).toNat = true) (c : Nat) :
    d.streamIssue c kind space rs1 rs2 rs3 u = .fault 0x0B 0 := by
  simp only [Dev.streamIssue, bad, if_true]

/-- Parameters in order (R262). -/
theorem streamBad_false {kind space mem sram len : Nat} (hspace : space < 3) (hacc : kind ≠ 2 ∨ space = 0) (hlen : len % 64 = 0)
    (least : 64 ≤ len) (most : len ≤ 1048576) (hmem : mem % 64 = 0) (hsram : sram % 64 = 0) (hep : space = 2 → mem < 2 ^ 48) :
    streamBad kind space mem sram len = false := by
  simp [streamBad, hlen, hmem, hsram]
  omega

theorem streamBad_true {mem sram len : Nat} (bad : len % 64 ≠ 0 ∨ len < 64 ∨ 1048576 < len ∨ mem % 64 ≠ 0 ∨ sram % 64 ≠ 0)
    (kind space : Nat) : streamBad kind space mem sram len = true := by
  simp [streamBad]
  omega

/-! ## The end of a load from a host -/

theorem Dev.streamUnlock_none {d : Dev} {c : Nat} {o : StreamOp} (unlocked : ∀ l ∈ d.bw.locks, streamLock c o l = false) :
    d.streamUnlock c o = d := by
  have none_ : d.bw.locks.filter (streamLock c o) = [] := by
    rw [List.filter_eq_nil_iff]
    intro l hl
    simp [unlocked l hl]
  rw [Dev.streamUnlock, none_, List.foldl_nil]

/-- The device after a load from a host has ended: its data in SRAM, its tags free. -/
def Dev.loaded (d : Dev) (c : Nat) (o : StreamOp) (bs : List Byte) : Dev :=
  { (d.setClu c ({ d.clu c with streams := (d.clu c).streams.filter (fun x => x.id != o.id) }.wrSram o.sram (slice bs 0 o.len)))
    with tags := d.tags.filter (fun t => !(t.use == .stream c o.id && !t.quarantined)) }

theorem Dev.streamDone_load {d : Dev} {c : Nat} {o : StreamOp} (unlocked : ∀ l ∈ d.bw.locks, streamLock c o l = false)
    (load : o.kind = 0) (bs : List Byte) : d.streamDone c o bs = d.loaded c o bs := by
  simp only [Dev.streamDone, Dev.streamUnlock_none unlocked, Dev.modClu, load, beq_self_eq_true, if_true]
  rfl

theorem Dev.streamEnd_load {d : Dev} {c k : Nat} {ch : Chan} {o : StreamOp} {bs : List Byte} (live : ch.dscFailed o.desc = false)
    (outside : o.space ≠ 0) (load : o.kind = 0) (len : bs.length = o.len)
    (unlocked : ∀ l ∈ d.bw.locks, streamLock c o l = false) : d.streamEnd c k ch o (.data bs) = (d.loaded c o bs).settle := by
  have host : streamHost d o (.data bs) = .done d bs 0 := by simp [streamHost, load, len]
  rw [← Dev.streamDone_load unlocked load]
  simp only [Dev.streamEnd, live, beq_iff_eq, outside, host, Bool.false_eq_true, if_false, if_true]
  split <;> rfl

/-- Settles O5: an issue in order comes down to `streamIssue_dev`, and the end of a load to `streamEnd_load` on a device at rest. -/
theorem streamOperations : Obligations.StreamOperations := by
  refine ⟨fun s c k ch rs1 rs2 rs3 h hk hch live => ⟨fun hlen least most hmem hsram room => ?inOrder, fun bad => ?bad⟩,
    fun s c k ch o bs found hk hch active first live outside load len unlocked => ?ends⟩
  case bad =>
    have fault (kind : Nat) := Dev.streamIssue_bad (d := s.dev) (streamBad_true bad kind 0) c
    exact ⟨ok_stage_fault h (fault 0), ok_stage_fault h (fault 1), ok_stage_fault h (fault 2)⟩
  case inOrder =>
    have good (kind space : Nat) (hspace : space < 3) (hacc : kind ≠ 2 ∨ space = 0) (hep) :=
      streamBad_false hspace hacc hlen least most hmem hsram hep
    have load (space : Nat) (hspace) (hep) := good 0 space hspace (.inl (by decide)) hep
    have store (space : Nat) (hspace) (hep) := good 1 space hspace (.inl (by decide)) hep
    have local_ (kind : Nat) := good kind 0 (by decide) (.inr rfl) nofun
    refine ⟨fun may => ?_, fun may => ⟨fun one => ⟨?_, ?_⟩, ?_, ?_⟩, fun space hspace => ?outside⟩
    · exact ok_stage_one_beat h (Dev.streamIssue_local hk hch live (local_ 0) room (Clu.wrStop_none hsram may) c rfl) (.inl rfl)
    · exact ok_stage_one_beat h (Dev.streamIssue_local hk hch live (local_ 1) room (Clu.rdStop_none hsram may) c rfl) (.inr one)
    · exact ok_stage_one_beat h (Dev.streamIssue_local hk hch live (local_ 2) room (Clu.rdStop_none hsram may) c rfl) (.inr one)
    · exact ok_stage_dev h (Dev.streamIssue_local hk hch live (local_ 1) room (Clu.rdStop_none hsram may) c rfl)
    · exact ok_stage_dev h (Dev.streamIssue_local hk hch live (local_ 2) room (Clu.rdStop_none hsram may) c rfl)
    case outside =>
      have inRange : space < 3 := by omega
      have ep : space = 2 → (((s.dev.clu c).xr rs1).toNat) < 2 ^ 48 := by omega
      have out : space ≠ 0 := by omega
      refine ⟨fun master => ⟨fun may => ?_, fun may => ?_⟩, fun master => ⟨fun may => ?_, fun may => ?_⟩⟩
      · exact ok_stage_dev h (Dev.streamIssue_host hk hch live (load space inRange ep) room (Clu.wrStop_none hsram may) c out master)
      · exact ok_stage_dev h (Dev.streamIssue_host hk hch live (store space inRange ep) room (Clu.rdStop_none hsram may) c out master)
      · exact ok_stage_wait h (Dev.streamIssue_wait hk hch live (load space inRange ep) room (Clu.wrStop_none hsram may) c out master)
      · exact ok_stage_wait h (Dev.streamIssue_wait hk hch live (store space inRange ep) room (Clu.rdStop_none hsram may) c out master)
  case ends =>
    intro t quiet
    have acts : (ch.st == .active && !(s.dev.clu c).earlier o) = true := by rw [active, first]; rfl
    have settled : (s.dev.loaded c o bs).settle = s.dev.loaded c o bs := Dev.settle_quiet quiet
    change execStreamComplete c o.id (.data bs) s = _
    simp only [execStreamComplete, found, hk, hch, acts, if_true, Dev.streamEnd_load live outside load len unlocked, settled]
    rfl

end Sys2Proof.Machine
end

section
/-! Proofs for the chapter "Stage programs": synchronisation and identity (R265), steps and boundaries (R250, R267 to R270). -/

namespace Sys2Proof.Machine

/-! ## Synchronisation and identity -/

section
variable {s : State} {c : Nat} (h : s.dev.stageReady c)
include h

/-- An instruction that leaves its cluster as it is goes on. -/
theorem ok_stage_same {run : Clu → SRes} (hrun : run (s.dev.clu c) = .go (s.dev.clu c)) :
    ok s (s.dev.stage c run) = .next ⟨s.dev.ranOn c (s.dev.clu c), s.pending⟩ := ok_stage_go h hrun rfl rfl

end

section
variable {d : Dev} {u : Clu} {k : Nat} {ch : Chan} (hk : u.chan = some k) (hch : d.chan k = some ch)
include hk hch

theorem Dev.stageSignal_dev {r1 r2 : Fin 32} {y : Nat} (sync : d.stageSync k (u.xr r1) = some y) (stores : u.storesOut = false) :
    d.stageSignal r1 r2 u = .dev (d.signalObj y (u.xr r2).toNat) := by
  simp [Dev.stageSignal, Dev.stageChan_of hk hch, sync, stores]

theorem Dev.stageWait_of {r1 r2 : Fin 32} {y : Nat} {o : SyncObj} (sync : d.stageSync k (u.xr r1) = some y)
    (found : kfind y d.chs.syncs = some o) :
    d.stageWait r1 r2 u = if (u.xr r2).toNat ≤ o.value then .go u else .wait := by
  simp [Dev.stageWait, Dev.stageChan_of hk hch, sync, found]

theorem Dev.stageSync_bad {r1 : Fin 32} (r2 : Fin 32) (bad : d.stageSync k (u.xr r1) = none) :
    d.stageSignal r1 r2 u = .fault 0x06 0 ∧ d.stageWait r1 r2 u = .fault 0x06 0 := by
  simp [Dev.stageSignal, Dev.stageWait, Dev.stageChan_of hk hch, bad]

theorem Dev.stageArgs_go {r1 : Fin 32} (aligned : (u.xr r1).toNat % 16 = 0) (may : u.mayWrite (u.xr r1).toNat 16) :
    d.stageArgs r1 u = .go (u.wrSram (u.xr r1).toNat (leBytes 16 ch.args)) := by
  rw [Dev.stageArgs, Clu.wrStop_none aligned may, orStop_one_none, Dev.stageChan_of hk hch]

/-- The identity values 0 to 6 go into a register. -/
theorem Dev.stageId_go {imm : BitVec 14} (low : imm.toNat < 7) (c : Nat) (r1 : Fin 32) :
    d.stageId c r1 imm u = .go (u.setX r1 (BitVec.ofNat 64 (d.identity u k ch imm.toNat))) := by
  have cycles : imm.toNat ≠ 7 := Nat.ne_of_lt low
  simp [Dev.stageId, Dev.stageChan_of hk hch, cycles, Nat.not_lt.2 (Nat.le_of_lt low)]

theorem Dev.stageId_cycles (c : Nat) (r1 : Fin 32) :
    d.stageId c r1 7 u = .dev (d.drawn.setClu c (u.setX r1 (BitVec.ofNat 64 d.free))) := by
  simp [Dev.stageId, Dev.stageChan_of hk hch]

end

/-- Settles O8: each instruction acts on the object, the arguments or the identity value that its channel gives it. -/
theorem synchronisationAndIdentity : Obligations.SynchronisationAndIdentity := by
  intro s c k ch h hk hch
  refine ⟨fun r1 r2 y sync stores => ok_stage_dev h (Dev.stageSignal_dev hk hch sync stores), fun r1 r2 y o sync found => ?wait,
    fun r1 r2 bad => ⟨ok_stage_fault h (Dev.stageSync_bad hk hch r2 bad).1, ok_stage_fault h (Dev.stageSync_bad hk hch r2 bad).2⟩,
    fun r1 aligned may => ok_stage_wrSram h (Dev.stageArgs_go hk hch aligned may), fun r1 => ?identity⟩
  case wait =>
    have wait := Dev.stageWait_of hk hch (r2 := r2) sync found
    split at wait
    case isTrue reached => rw [if_pos reached]; exact ok_stage_same h wait
    case isFalse short => rw [if_neg short]; exact ok_stage_wait h wait
  case identity =>
    have reads {imm : BitVec 14} (low : imm.toNat < 7) := ok_stage_setX h (Dev.stageId_go hk hch low c r1)
    refine ⟨reads (by decide), reads (by decide), reads (by decide), reads (by decide), reads (by decide), reads (by decide),
      reads (by decide), s.dev.free, ?_⟩
    refine (ok_stage_dev h (Dev.stageId_cycles hk hch c r1)).trans ?_
    exact congrArg (ok s) (Dev.wentOn_setClu (d := s.dev.drawn) (Clu.setX_pc ..) (Clu.setX_insns ..))

/-! ## Steps and boundaries -/

/-- A STEP that is taken (R267). -/
theorem execStep_of_ready {s : State} {c : Nat} (h : s.dev.stageReady c) (dup : DupCheck)
    (builtin : (s.dev.clu c).prog = [] → (s.dev.clu c).steps < 256) :
    execStep c dup s = ok s (if 4096 ≤ (s.dev.clu c).steps then s.dev.stageFault c 0x04 0
      else if s.dev.dupStarved (s.dev.clu c) then
        (if (s.dev.clu c).paused then s.dev else (s.dev.inc K.dupPauses).modClu c (fun v => { v with paused := true }))
      else s.dev.stepOn c dup (s.dev.clu c)) := by
  obtain ⟨on, -, inside⟩ := h
  have takes : ((s.dev.clu c).prog.isEmpty && decide (256 ≤ (s.dev.clu c).steps)) = false := by
    simpa using builtin
  simp only [execStep, on, takes, inside, Bool.not_true, Bool.or_false, Bool.false_eq_true, if_false]

theorem Dev.boundary_clean {d : Dev} {u : Clu} (clean : u.iftDue = false) (c a n : Nat) : d.boundary c a n u = .go { u with steps := 0 } := by
  simp [Dev.boundary, clean]

/-- BND with nothing outstanding that a popped buffer or its size refuses. -/
theorem Dev.stageBnd_refused {d : Dev} {u : Clu} {r1 r2 : Fin 32} (quiet : u.streams = [])
    (bad : (∃ b ∈ u.queue, b.popped = true) ∨ 262144 < (u.xr r2).toNat) (c : Nat) : d.stageBnd c r1 r2 u = .fault 0x0A 0 := by
  have refused : (u.queue.any (fun b => b.popped) || decide (262144 < (u.xr r2).toNat)) = true := by simpa using bad
  simp only [Dev.stageBnd, quiet, List.isEmpty_nil, Bool.not_true, refused, Bool.false_eq_true, if_false, if_true]

theorem Dev.stageBnd_boundary {d : Dev} {u : Clu} {r1 r2 : Fin 32} (quiet : u.streams = []) (unpopped : ∀ b ∈ u.queue, b.popped = false)
    (size : (u.xr r2).toNat ≤ 262144) (aligned : (u.xr r1).toNat % 64 = 0)
    (range : (u.xr r2).toNat = 0 ∨ (u.xr r1).toNat + (u.xr r2).toNat ≤ u.sramLimit) (c : Nat) :
    d.stageBnd c r1 r2 u = d.boundary c (u.xr r1).toNat (u.xr r2).toNat u := by
  have popped : u.queue.any (fun b => b.popped) = false := by simpa using unpopped
  have inSram : (decide (0 < (u.xr r2).toNat) && decide (u.sramLimit < (u.xr r1).toNat + (u.xr r2).toNat)) = false := by
    simp
    omega
  simp [Dev.stageBnd, quiet, popped, Nat.not_lt.2 size, aligned, inSram]

theorem Clu.limit_pc {u : Clu} (outside : u.progLen ≤ u.pc) : u.limit = some 0x01 := by rw [Clu.limit, if_pos outside]

theorem Clu.limit_insns {u : Clu} (inside : u.pc < u.progLen) (beyond : 65536 ≤ u.insns) : u.limit = some 0x05 := by
  rw [Clu.limit, if_neg (Nat.not_le.2 inside), if_pos beyond]

theorem Dev.stage_limit {d : Dev} {c code : Nat} (on : d.stageOn c = true) (awake : (d.clu c).paused = false)
    (beyond : (d.clu c).limit = some code) (run : Clu → SRes) : d.stage c run = d.stageFault c code 0 := by
  simp [Dev.stage, on, awake, beyond]

/-- An uncorrectable error of what an instruction that acts reads (R153). -/
theorem Dev.stageRd_uncorrectable {d : Dev} {c : Nat} (h : d.stageReady c) {run : Clu → SRes}
    (acts : ∃ v, run (d.clu c) = .go v) (word : Clu → Nat) : d.stageRd c .uncorrectable word run = d.sramUncorrectable c := by
  obtain ⟨on, awake, inside⟩ := h
  obtain ⟨v, acts⟩ := acts
  simp [Dev.stageRd, on, awake, inside, acts]

/-- Settles O9: what bars an instruction is tested in the order of `Dev.stage`, and each boundary instruction tests its own
conditions next. -/
theorem stepsAndBoundaries : Obligations.StepsAndBoundaries := by
  refine ⟨fun s c h => ⟨ok_stage_same h rfl, fun dup few builtin fed => ?step, fun dup builtin many => ?builtin, fun dup own many => ?overdue,
    fun r1 r2 => ?bnd, fun imm => ?sfence, fun imm => ok_stage_fault h rfl⟩, fun s c run => ⟨fun off => Dev.stage_off (.inl off) run,
    fun paused => Dev.stage_off (.inr paused) run, fun on awake outside => Dev.stage_limit on awake (Clu.limit_pc outside) run,
    fun on awake inside beyond => Dev.stage_limit on awake (Clu.limit_insns inside beyond) run, fun rd rs1 rs2 => rfl,
    fun h rd rs1 imm => ?uncorrectable⟩⟩
  case step =>
    have steps (run) (hrun : s.dev.stepOn c dup (s.dev.clu c) = run) : exec (.step c dup) s = .next ⟨run, s.pending⟩ := by
      refine (execStep_of_ready h dup builtin).trans ?_
      rw [if_neg (Nat.not_le.2 few), fed, if_neg Bool.false_ne_true, hrun, ok]
    refine ⟨fun alone => steps _ ?_, fun b pair => steps _ ?_⟩
    · rw [Dev.stepOn, alone]
    · rw [Dev.stepOn, pair]
  case builtin =>
    have bars : ((s.dev.clu c).prog.isEmpty && decide (256 ≤ (s.dev.clu c).steps)) = true := by simp [builtin, many]
    change execStep c dup s = _
    simp only [execStep, bars, Bool.or_true, if_true]
    rfl
  case overdue =>
    refine (execStep_of_ready h dup fun builtin => absurd builtin own).trans ?_
    rw [if_pos many, ok]
  case bnd =>
    intro a n quiet
    exact ⟨fun bad => ok_stage_fault h (Dev.stageBnd_refused quiet bad c), fun unpopped size aligned range clean =>
      ok_stage_go h ((Dev.stageBnd_boundary quiet unpopped size aligned range c).trans (Dev.boundary_clean clean c a n)) rfl rfl⟩
  case sfence =>
    by_cases few : (s.dev.clu c).streams.length ≤ imm.toNat
    · rw [if_pos few]
      exact ok_stage_same h (if_pos few)
    · rw [if_neg few]
      exact ok_stage_wait h (if_neg few)
  case uncorrectable =>
    intro a aligned may
    have free : (s.dev.clu c).rdStop ((s.dev.clu c).scAddr rs1 imm) 4 4 = none := Clu.rdStop_none aligned may
    have acts : ∃ v, scLoad 4 rd rs1 imm (s.dev.clu c) = .go v := ⟨_, by rw [scLoad, free, orStop_one_none]⟩
    exact congrArg (ok s) (Dev.stageRd_uncorrectable h acts _)

end Sys2Proof.Machine
end

section
/-! Proofs for the chapter "Stage programs": queues (R264), descriptors and their outcome (R252, R253, R265). -/

namespace Sys2Proof.Machine

/-! ## Clusters put in one after another -/

theorem kput_comm {α : Type} {j k : Nat} (apart : j ≠ k) (v w : α) (m : List (Nat × α)) :
    kput j v (kput k w m) = kput k w (kput j v m) := by
  induction m with
  | nil => simp only [kput]; grind [kput]
  | cons e r ih => obtain ⟨a, b⟩ := e; simp only [kput]; grind [kput]

theorem Dev.setClu_comm (d : Dev) {a c : Nat} (apart : a ≠ c) (x y : Clu) : (d.setClu a x).setClu c y = (d.setClu c y).setClu a x := by
  simp [Dev.setClu, kput_comm apart]

/-! ## Registers read back -/

theorem Clu.xr_setX_self (u : Clu) {r : Fin 32} (nonzero : r ≠ 0) (v : W64) : (u.setX r v).xr r = v := by
  simp [Clu.xr, Clu.setX, nonzero, kget_kset]

theorem Clu.xr_setX_ne (u : Clu) {r q : Fin 32} (other : q ≠ r) (v : W64) : (u.setX r v).xr q = u.xr q := by
  have apart : q.val ≠ r.val := fun e => other (Fin.ext e)
  by_cases zero : r = 0 <;> simp [Clu.xr, Clu.setX, zero, kget_kset, apart]

theorem Clu.setX_frame (u : Clu) (r : Fin 32) (v : W64) : u.setX r v = { u with x := (u.setX r v).x } := by
  unfold Clu.setX
  split <;> rfl

/-! ## The buffer that an operation picks -/

theorem find?_from (u : Clu) (stage : Nat) (p : QBuf → Bool) :
    (u.from stage).find? p = u.queue.find? (fun b => b.stage == stage && p b) := by
  rw [Clu.from, List.find?_filter]
  congr 1
  funext b
  rw [Bool.decide_and, Bool.decide_eq_true, Bool.decide_eq_true]

theorem countBy_cons {α : Type} (p : α → Bool) (a : α) (l : List α) : countBy p (a :: l) = countBy p l + (if p a then 1 else 0) := by
  by_cases h : p a = true <;> simp [countBy, h]

theorem length_modFirst_some (p : QBuf → Bool) (f : QBuf → QBuf) (l : List QBuf) : (modFirst p (fun x => some (f x)) l).length = l.length := by
  induction l with
  | nil => rfl
  | cons b l ih =>
    simp only [modFirst]
    split <;> simp [ih]

section
variable {p : QBuf → Bool} {l : List QBuf} {b : QBuf} (found : l.find? p = some b)
include found

theorem countBy_modFirst_pop (unpopped : ∀ x, p x = true → x.popped = false) :
    countBy (fun x => x.popped) (modFirst p (fun x => some { x with popped := true }) l) = countBy (fun x => x.popped) l + 1 := by
  induction l with
  | nil => cases found
  | cons a l ih =>
    by_cases here : p a = true
    · simp [modFirst, here, countBy_cons, unpopped a here]
    · rw [List.find?_cons_of_neg here] at found
      simp only [modFirst, here, countBy_cons, ih found, Bool.false_eq_true, if_false]
      omega

theorem length_modFirst_none : (modFirst p (fun _ => none) l).length + 1 = l.length := by
  induction l with
  | nil => cases found
  | cons a l ih =>
    by_cases here : p a = true
    · simp [modFirst, here]
    · rw [List.find?_cons_of_neg here] at found
      simp [modFirst, here, ih found]

theorem countBy_modFirst_release (popped : ∀ x, p x = true → x.popped = true) :
    countBy (fun x => x.popped) (modFirst p (fun _ => none) l) + 1 = countBy (fun x => x.popped) l := by
  induction l with
  | nil => cases found
  | cons a l ih =>
    by_cases here : p a = true
    · simp [modFirst, here, countBy_cons, popped a here]
    · rw [List.find?_cons_of_neg here] at found
      simp only [modFirst, here, countBy_cons, ← ih found, Bool.false_eq_true, if_false]
      omega

end

/-! ## The queue operations -/

/-- The cluster with the buffer that QPOP hands out marked popped. -/
def Clu.pops (u : Clu) (stage : Nat) : Clu :=
  { u with queue := modFirst (fun x => x.stage == stage && !x.popped) (fun x => some { x with popped := true }) u.queue }

theorem queuePop_go {u : Clu} {stage : Nat} {r1 : Fin 32} {b : QBuf} (low : r1 ≠ 0) (high : r1 ≠ 31)
    (feeds : u.feeders.contains stage = true) (found : (u.from stage).find? (fun x => !x.popped) = some b) :
    queuePop stage r1 u =
      .go (((u.pops stage).setX r1 (BitVec.ofNat 64 (u.bufAddr b))).setX (r1 + 1) (BitVec.ofNat 64 (b.len + b.tag * 2 ^ 32))) := by
  simp only [queuePop, low, high, feeds, found, decide_false, Bool.or_false, Bool.not_true, Bool.false_eq_true, if_false]
  rfl

theorem queueRel_go {u : Clu} {stage : Nat} {b : QBuf} (found : (u.from stage).find? (fun x => x.popped) = some b)
    (idle : u.busy (u.bufAddr b) 4096 = false) :
    queueRel stage u = .go { u with queue := modFirst (fun x => x.stage == stage && x.popped) (fun _ => none) u.queue } := by
  simp only [queueRel, found, idle, Bool.false_eq_true, if_false]

/-- QSEND with a permitted receiver and size, and credit at every receiver. -/
theorem Dev.queueSend_dev {d : Dev} {u : Clu} {dst k : Nat} {r1 r2 r3 : Fin 32} {ch : Chan} (hk : u.chan = some k)
    (hch : d.chan k = some ch) (feeds : bit (d.outMask ch.recipe u.stage) dst = true) (step : (u.xr r2).toNat % 64 = 0)
    (least : 64 ≤ (u.xr r2).toNat) (most : (u.xr r2).toNat ≤ 4096) (may : u.mayRead (u.xr r1).toNat (u.xr r2).toNat)
    (stores : u.storesOut = false) (any : d.receivers ch u dst ((u.xr r3).toNat % 2 ^ 16) ≠ [])
    (credit : ∀ r ∈ d.receivers ch u dst ((u.xr r3).toNat % 2 ^ 16), ((d.clu r).from u.stage).length < 8) (c : Nat) :
    let key := (u.xr r3).toNat % 2 ^ 16
    let turns := key = 0xFFFF ∧ bit (d.bcastMask ch.recipe u.stage) dst = false
    let rot := if turns then kput dst (kget 0 dst u.rot + 1) u.rot else u.rot
    d.queueSend c dst r1 r2 r3 u = .dev ((d.receivers ch u dst key).foldl
      (fun d r => d.modClu r (fun v => v.receive u.stage ((u.xr r3).toNat / 2 ^ 32) (u.rdSram (u.xr r1).toNat (u.xr r2).toNat)))
      (d.setClu c { u with rot := rot })) := by
  simp only [Nat.reducePow] at any credit
  simp [Dev.queueSend, Dev.stageChan_of hk hch, feeds, step, Nat.not_lt.2 least, Nat.not_lt.2 most,
    Clu.rdStop_none (Nat.mod_one _) may, stores]
  exact ⟨any, credit⟩

/-- Settles O6: QPOP and QREL change the first buffer that they pick, QSEND puts its bytes into each receiver. -/
theorem queueOperations : Obligations.QueueOperations := by
  intro s c h
  refine ⟨fun stage r1 b low high feeds found => ?pop, fun stage b found idle => ?release, fun stage none_ => ?nothing,
    fun stage r1 => ok_stage_setX h rfl, fun dst r k r1 r2 r3 ch hk hch => ?sendOne, fun dst k r1 r2 r3 ch hk hch => ?sendAll⟩
  case pop =>
    have picked := found
    rw [find?_from] at picked
    have next : r1 + 1 ≠ 0 ∧ r1 ≠ r1 + 1 := by omega
    obtain ⟨nextNonzero, apart⟩ := next
    refine ⟨_, ok_stage_go h (queuePop_go low high feeds found) ?_ ?_, ?_, ?_, ?_, fun r other other' => ?_, ?_, ?_⟩
    · rw [Clu.setX_pc, Clu.setX_pc, Clu.pops]
    · rw [Clu.setX_insns, Clu.setX_insns, Clu.pops]
    · rw [Clu.setX_frame, Clu.setX_frame ((s.dev.clu c).pops stage), Clu.pops]
    · rw [Clu.xr_setX_ne _ apart, Clu.xr_setX_self _ low]
    · rw [Clu.xr_setX_self _ nextNonzero]
    · rw [Clu.xr_setX_ne _ other', Clu.xr_setX_ne _ other]
      rfl
    · rw [Clu.setX_frame, Clu.setX_frame ((s.dev.clu c).pops stage)]
      exact countBy_modFirst_pop picked (by simp)
    · rw [Clu.setX_frame, Clu.setX_frame ((s.dev.clu c).pops stage)]
      exact length_modFirst_some ..
  case release =>
    have picked := found
    rw [find?_from] at picked
    exact ⟨_, ok_stage_go h (queueRel_go found idle) rfl rfl, rfl, length_modFirst_none picked,
      countBy_modFirst_release picked (by simp)⟩
  case nothing => exact ok_stage_fault h (by rw [queueRel, none_])
  case sendOne =>
    intro a n feeds step least most may stores key one apart credit
    have any : s.dev.receivers ch (s.dev.clu c) dst (((s.dev.clu c).xr r3).toNat % 2 ^ 16) ≠ [] := by rw [one]; exact List.cons_ne_nil _ _
    have full : ∀ x ∈ s.dev.receivers ch (s.dev.clu c) dst (((s.dev.clu c).xr r3).toNat % 2 ^ 16),
        ((s.dev.clu x).from (s.dev.clu c).stage).length < 8 := by
      rw [one]
      exact fun x hx => List.mem_singleton.1 hx ▸ credit
    have sends := Dev.queueSend_dev hk hch feeds step least most may stores any full c
    simp only [key, false_and, if_false, one, List.foldl_cons, List.foldl_nil] at sends
    refine (ok_stage_dev h sends).trans ?_
    rw [Dev.modClu, Dev.clu_setClu_ne _ _ apart, Dev.setClu_comm _ (Ne.symm apart)]
    exact congrArg (ok s) (Dev.wentOn_setClu (by rw [Dev.clu_setClu_ne _ _ (Ne.symm apart)]) (by rw [Dev.clu_setClu_ne _ _ (Ne.symm apart)]))
  case sendAll =>
    intro a n key rs turns rot feeds step least most may stores any credit
    exact ok_stage_dev h (Dev.queueSend_dev hk hch feeds step least most may stores any credit c)

end Sys2Proof.Machine
end

section
/-! Proofs for the chapter "Stage programs": descriptors in a stage (R252, R265) and their outcome (R253). -/

namespace Sys2Proof.Machine

/-! ## Sorting -/

theorem mem_insertBy {α : Type} (lt : α → α → Bool) {a b : α} {l : List α} : a ∈ insertBy lt b l ↔ a = b ∨ a ∈ l := by
  induction l with
  | nil => simp only [insertBy, List.mem_singleton, List.not_mem_nil, or_false]
  | cons c l ih =>
    unfold insertBy
    split
    · rw [List.mem_cons]
    · rw [List.mem_cons, ih, List.mem_cons, or_left_comm]

theorem mem_sortBy {α : Type} (lt : α → α → Bool) {a : α} {l : List α} : a ∈ sortBy lt l ↔ a ∈ l := by
  induction l with
  | nil => rfl
  | cons b l ih => rw [sortBy, mem_insertBy, ih, List.mem_cons]

theorem pairwise_insertBy_key {α : Type} (key : α → Nat) (a : α) {l : List α} (sorted : l.Pairwise fun a b => key a ≤ key b) :
    (insertBy (fun x y => !decide (key y < key x)) a l).Pairwise fun a b => key a ≤ key b := by
  induction l with
  | nil => exact List.pairwise_singleton _ _
  | cons b l ih =>
    obtain ⟨first, rest⟩ := List.pairwise_cons.1 sorted
    by_cases after : key b < key a
    · rw [insertBy, if_neg (by simpa using after)]
      refine List.pairwise_cons.2 ⟨fun c hc => ?_, ih rest⟩
      rcases (mem_insertBy _).1 hc with rfl | hc
      · exact Nat.le_of_lt after
      · exact first c hc
    · have before : key a ≤ key b := Nat.le_of_not_lt after
      rw [insertBy, if_pos (by simpa using before)]
      refine List.pairwise_cons.2 ⟨fun c hc => ?_, sorted⟩
      rcases List.mem_cons.1 hc with rfl | hc
      · exact before
      · exact Nat.le_trans before (first c hc)

/-- Sorted by a key, the keys rise. -/
theorem pairwise_sortBy_key {α : Type} (key : α → Nat) (l : List α) :
    (sortBy (fun a b => key a < key b) l).Pairwise (fun a b => key a ≤ key b) := by
  induction l with
  | nil => exact List.Pairwise.nil
  | cons a l ih => exact pairwise_insertBy_key key a ih

/-- In a list of rising keys what a search finds has the least key of those that satisfy it. -/
theorem find?_least {α : Type} {key : α → Nat} {p : α → Bool} {l : List α} (rising : l.Pairwise fun a b => key a ≤ key b) {a e : α}
    (found : l.find? p = some a) (mem : e ∈ l) (sat : p e = true) : key a ≤ key e := by
  induction l with
  | nil => cases mem
  | cons b l ih =>
    obtain ⟨first, rest⟩ := List.pairwise_cons.1 rising
    by_cases here : p b = true
    · obtain rfl : b = a := by simpa [here] using found
      rcases List.mem_cons.1 mem with rfl | later
      · exact Nat.le_refl _
      · exact first e later
    · rw [List.find?_cons_of_neg here] at found
      rcases List.mem_cons.1 mem with rfl | later
      · exact absurd sat here
      · exact ih rest found later

/-! ## The outcome of a descriptor -/

/-- The words of the last stage in the order of the ranks. -/
def Dsc.ranked (x : Dsc) : List (Nat × Nat × Nat) := sortBy (fun a b => a.1 < b.1) x.dones

section
variable {x : Dsc} (one : ∀ a ∈ x.dones, ∀ b ∈ x.dones, a.1 = b.1 → a = b)
include one

/-- A word that a search by rank finds is the one of that rank. -/
theorem Dsc.find_rank_zero {e : Nat × Nat × Nat} (found : x.dones.find? (fun e => e.1 == 0) = some e) :
    x.ranked.find? (fun e => e.1 == 0) = some e := by
  have rank : e.1 = 0 := by simpa using List.find?_some found
  have mem : e ∈ x.ranked := (mem_sortBy _).2 (List.mem_of_find?_eq_some found)
  cases search : x.ranked.find? (fun e => e.1 == 0) with
  | none => exact absurd rank (by simpa using List.find?_eq_none.1 search e mem)
  | some b =>
    have rank' : b.1 = 0 := by simpa using List.find?_some search
    have mem' : b ∈ x.dones := (mem_sortBy _).1 (List.mem_of_find?_eq_some search)
    rw [one b mem' e (List.mem_of_find?_eq_some found) (rank'.trans rank.symm)]

/-- The first nonzero word in the order of the ranks is that of the lowest rank. -/
theorem Dsc.find_nonzero {e : Nat × Nat × Nat} (mem : e ∈ x.dones) (nonzero : e.2.1 ≠ 0)
    (lowest : ∀ f ∈ x.dones, f.2.1 ≠ 0 → e.1 ≤ f.1) : x.ranked.find? (fun e => e.2.1 != 0) = some e := by
  have mem' : e ∈ x.ranked := (mem_sortBy _).2 mem
  have sat : (e.2.1 != 0) = true := by simpa using nonzero
  cases search : x.ranked.find? (fun e => e.2.1 != 0) with
  | none => exact absurd sat (List.find?_eq_none.1 search e mem')
  | some b =>
    have hb : b ∈ x.dones := (mem_sortBy _).1 (List.mem_of_find?_eq_some search)
    have least : b.1 ≤ e.1 := find?_least (key := Prod.fst) (pairwise_sortBy_key Prod.fst x.dones) search mem' sat
    have bound := lowest b hb (by simpa using List.find?_some search)
    rw [one b hb e mem (Nat.le_antisymm least bound)]

end

theorem Dsc.find_nonzero_none {x : Dsc} (zero : ∀ e ∈ x.dones, e.2.1 = 0) : x.ranked.find? (fun e => e.2.1 != 0) = none := by
  rw [List.find?_eq_none]
  intro e he
  simp [zero e ((mem_sortBy _).1 he)]

theorem Dsc.outcome_eq (x : Dsc) : x.outcome =
    (let result := ((x.ranked.find? (fun e => e.1 == 0)).map (fun e => e.2.2)).getD 0
     if x.failed != 0 then (x.failed % 256, x.failed / 256, result)
     else match x.ranked.find? (fun e => e.2.1 != 0) with
       | some e => (e.2.1 % 256, e.2.1 / 256, result)
       | none => (if x.overrun then 2 else 0, 0, result)) := rfl

/-! ## The operations -/

section
variable {d : Dev} {u : Clu} {k : Nat} {ch : Chan} (hk : u.chan = some k) (hch : d.chan k = some ch)
include hk hch

theorem Dev.dscNext_go {r1 : Fin 32} {x : Dsc} (empty : u.cur = none) (aligned : (u.xr r1).toNat % 64 = 0)
    (may : u.mayWrite (u.xr r1).toNat 64) (next : ch.nextFor u.stage u.rank = some x) (reached : ch.reached x u.stage = true) :
    d.dscNext r1 u = .go { u.wrSram (u.xr r1).toNat x.bytes with cur := some x.seq } := by
  simp [Dev.dscNext, empty, Clu.wrStop_none aligned may, Dev.stageChan_of hk hch, next, reached]

theorem Dev.dscPass_dev {seq : Nat} (holds : u.cur = some seq) (stores : u.storesOut = false) (inner : u.stage + 1 ≠ ch.stages.length)
    (c : Nat) : d.dscPass c u =
      .dev ((d.modDsc k seq (fun x => { x with passed := x.passed ++ [(u.stage, u.rank)] })).setClu c { u with cur := none }) := by
  simp [Dev.dscPass, Dev.stageChan_of hk hch, holds, stores, inner]

theorem Dev.dscDone_dev {r1 : Fin 32} {seq : Nat} (holds : u.cur = some seq) (stores : u.storesOut = false)
    (last : u.stage + 1 = ch.stages.length) (word : doneBad (u.xr r1).toNat = false) (c : Nat) (r2 : Fin 32) :
    d.dscDone c r1 r2 u = .dev (((d.modDsc k seq (fun x =>
      { x with dones := x.dones ++ [(u.rank, (u.xr r1).toNat, (u.xr r2).toNat)] })).setClu c { u with cur := none }).dscFinish
        k seq (ch.stages.getD u.stage []).length) := by
  simp [Dev.dscDone, Dev.stageChan_of hk hch, holds, stores, last, word]

theorem Dev.dscStat_go (r1 : Fin 32) {st : Nat}
    (reads : ((u.cur.bind (fun s => ch.fetched.find? (fun x => x.seq == s))).map (fun x => x.failed % 256)).getD 0 = st) :
    d.dscStat r1 u = .go (u.setX r1 (BitVec.ofNat 64 st)) := by
  rw [Dev.dscStat, Dev.stageChan_of hk hch, reads]

/-- Without a descriptor DPASS and DDONE fault. -/
theorem Dev.dscOrder_empty (empty : u.cur = none) (c : Nat) (r1 r2 : Fin 32) :
    d.dscPass c u = .fault 0x07 0 ∧ d.dscDone c r1 r2 u = .fault 0x07 0 := by
  simp [Dev.dscPass, Dev.dscDone, Dev.stageChan_of hk hch, empty]

/-- DPASS is for the stages before the last, DDONE for the last. -/
theorem Dev.dscOrder_stage {seq : Nat} (holds : u.cur = some seq) (c : Nat) (r1 r2 : Fin 32) :
    (u.stage + 1 = ch.stages.length → d.dscPass c u = .fault 0x07 0) ∧
    (u.stage + 1 ≠ ch.stages.length → d.dscDone c r1 r2 u = .fault 0x07 0) ∧
    (u.stage + 1 = ch.stages.length → doneBad (u.xr r1).toNat = true → d.dscDone c r1 r2 u = .fault 0x08 0) := by
  simp +contextual [Dev.dscPass, Dev.dscDone, Dev.stageChan_of hk hch, holds]

end

/-- Settles O7: each operation tests what its cluster holds, and an outcome reads the last stage's words by rank. -/
theorem descriptorOperations : Obligations.DescriptorOperations := by
  refine ⟨fun s c k ch h hk hch => ⟨fun r1 x empty aligned may next reached => ?next, fun seq holds stores inner => ?pass,
    fun r1 r2 seq holds stores last word => ?done, fun r1 seq x holds found => ?stat, fun r1 r2 seq holds => ?stages,
    fun r1 r2 => ⟨fun empty => ?idle, fun holds => ?twice, fun empty => ?empty⟩⟩, fun x r0 zero one => ?outcome⟩
  case next => exact ok_stage_go h (Dev.dscNext_go hk hch empty aligned may next reached) rfl rfl
  case pass =>
    refine (ok_stage_dev h (Dev.dscPass_dev hk hch holds stores inner c)).trans ?_
    exact congrArg (ok s) (Dev.wentOn_setClu rfl rfl)
  case done => exact ok_stage_dev h (Dev.dscDone_dev hk hch holds stores last word c r2)
  case stat => exact ok_stage_setX h (Dev.dscStat_go hk hch r1 (by simp [holds, found]))
  case stages =>
    obtain ⟨pass, done, word⟩ := Dev.dscOrder_stage hk hch holds c r1 r2
    exact ⟨fun last => ok_stage_fault h (pass last), fun inner => ok_stage_fault h (done inner),
      fun last bad => ok_stage_fault h (word last bad)⟩
  case idle => exact ok_stage_setX h (Dev.dscStat_go hk hch r1 (by simp [empty]))
  case twice =>
    have second : (s.dev.clu c).cur.isSome = true := Option.isSome_iff_ne_none.2 holds
    exact ok_stage_fault h (by rw [Dev.dscNext, if_pos second])
  case empty =>
    obtain ⟨pass, done⟩ := Dev.dscOrder_empty hk hch empty c r1 r2
    exact ⟨ok_stage_fault h pass, ok_stage_fault h done⟩
  case outcome =>
    obtain ⟨e, found, rfl⟩ := Option.map_eq_some_iff.1 zero
    have rank0 := Dsc.find_rank_zero one found
    refine ⟨?_, fun failed => ?_, fun clean zeros => ?_, fun clean f hf nonzero lowest => ?_⟩
    · rw [Dsc.outcome_eq, rank0]
      dsimp only
      split
      · rfl
      · split <;> rfl
    · simp [Dsc.outcome_eq, failed]
    · simp [Dsc.outcome_eq, clean, Dsc.find_nonzero_none zeros]
    · simp [Dsc.outcome_eq, clean, Dsc.find_nonzero one hf nonzero lowest]

end Sys2Proof.Machine
end

section
/-! O18: a signal on a counter. -/
namespace Sys2Proof.Machine

/-- The starts that a signal allows change nothing but the table of channels. -/
theorem Dev.startPart_frame (d : Dev) (p : Nat) :
    d.startPart p = { d with chs := { d.chs with chans := (d.startPart p).chs.chans } } := by
  have fold : ∀ (l : List (Nat × Chan)) (t : Dev), t = { d with chs := { d.chs with chans := t.chs.chans } } →
      l.foldl (fun d e => d.startChan e.1) t =
        { d with chs := { d.chs with chans := (l.foldl (fun d e => d.startChan e.1) t).chs.chans } } := by
    intro l
    induction l with
    | nil => exact fun _ h => h
    | cons e l ih => exact fun t h => ih _ (by rw [h]; rfl)
  exact fold _ d rfl

@[simp] theorem Dev.startPart_syncs (d : Dev) (p : Nat) : (d.startPart p).chs.syncs = d.chs.syncs := by
  rw [Dev.startPart_frame]

@[simp] theorem Dev.startPart_od (d : Dev) (p : Nat) : (d.startPart p).od = d.od := by
  rw [Dev.startPart_frame]

theorem Dev.startPart_rd (d : Dev) (p k : Nat) : (d.startPart p).rd k = d.rd k := by
  rw [Dev.startPart_frame]
  rfl

/-- A signal on an object that nothing arms and that has no notify write. -/
theorem Dev.signalObj_plain {d : Dev} {k n : Nat} {o : SyncObj} (ho : kfind k d.chs.syncs = some o) (hloc : o.loc = 3)
    (harm : o.arm = none) :
    d.signalObj k n =
      let d1 := if o.value + n < 2 ^ 64 then d else d.inc K.syncSaturated
      ({ d1 with chs := { d1.chs with syncs := kput k { o with value := satN 64 (o.value + n) } d1.chs.syncs } }).startPart
        (ctxPart k) := by
  simp only [Dev.signalObj, ho, Dev.syncReached, kfind_kput_self, harm, Dev.notifyWrite, hloc]

/-- Settles O18: without notify write and arm a signal is the addition, the count of a saturation and the starts. -/
theorem signalSaturates : Obligations.SignalSaturates := by
  unfold Obligations.SignalSaturates
  intro d k n o ho hloc harm hv
  dsimp only
  rw [Dev.signalObj_plain ho hloc harm]
  by_cases h : o.value + n < 2 ^ 64
  · simp only [if_pos h]
    refine ⟨?_, fun j hj => ?_, ?_, ?_⟩
    · rw [Dev.startPart_syncs, kfind_kput_self]
      exact congrArg some (by rw [satN, if_pos h])
    · rw [Dev.startPart_syncs, kfind_kput_ne _ _ hj]
    · exact Dev.startPart_rd _ _ _
    · rw [Dev.startPart_frame]
  · simp only [if_neg h]
    refine ⟨?_, fun j hj => ?_, ?_, ?_⟩
    · rw [Dev.startPart_syncs, kfind_kput_self]
      exact congrArg some (by rw [satN, if_neg h])
    · rw [Dev.startPart_syncs, kfind_kput_ne _ _ hj, Dev.inc_chs]
    · exact (Dev.startPart_rd _ _ _).trans (Dev.rd_wr_self _ _ _)
    · rw [Dev.startPart_frame]
      simp only [Dev.inc_chs]
      rfl

/-! ## Commands on the object or the channel of a handle -/

theorem Dev.onSync_some {d : Dev} {h : Adm} {handle k : Nat} {o : SyncObj} (hk : d.syncOf h.fn.num handle = some k)
    (ho : kfind k d.chs.syncs = some o) (run : Dev → Nat → SyncObj → Dev) : d.onSync h handle run = run d k o := by
  simp only [Dev.onSync, hk, ho]

theorem Dev.onSync_none {d : Dev} {h : Adm} {handle : Nat} (hk : d.syncOf h.fn.num handle = none)
    (run : Dev → Nat → SyncObj → Dev) : d.onSync h handle run = d.adminBadHandle h := by
  simp only [Dev.onSync, hk]

/-- A command on a live synchronisation object whose turn has come. -/
theorem Dev.admin_onSync {d : Dev} {h : Adm} {served : Bool} (ht : d.admTurn h served) {handle k : Nat} {o : SyncObj}
    (hk : (d.admFetch h).syncOf h.fn.num handle = some k) (ho : kfind k (d.admFetch h).chs.syncs = some o)
    (run : Adm → Dev → Nat → SyncObj → Dev) :
    d.admin h served (fun d h => d.onSync h handle (run h)) = run (d.admRun h) (d.admFetch h) k o :=
  (Dev.admin_turn ht _).trans (Dev.onSync_some (h := d.admRun h) hk ho (run (d.admRun h)))

/-- The same on a handle that names none. -/
theorem Dev.admin_onSync_bad {d : Dev} {h : Adm} {served : Bool} (ht : d.admTurn h served) {handle : Nat}
    (hk : (d.admFetch h).syncOf h.fn.num handle = none) (run : Adm → Dev → Nat → SyncObj → Dev) :
    d.admin h served (fun d h => d.onSync h handle (run h)) = (d.admFetch h).adminBadHandle (d.admRun h) :=
  (Dev.admin_turn ht _).trans (Dev.onSync_none (h := d.admRun h) hk (run (d.admRun h)))

theorem Dev.syncReached_below {d : Dev} {k n : Nat} {o : SyncObj} (ho : kfind k d.chs.syncs = some o) (harm : o.arm = some n)
    (hn : o.value < n) : d.syncReached k = d := by
  simp only [Dev.syncReached, ho, harm, if_neg (Nat.not_le.mpr hn)]

theorem Dev.syncReached_reached {d : Dev} {k n : Nat} {o : SyncObj} (ho : kfind k d.chs.syncs = some o) (harm : o.arm = some n)
    (hn : n ≤ o.value) :
    d.syncReached k = ({ d with chs := { d.chs with syncs := kput k { o with arm := none } d.chs.syncs } }).post (ctxPart k)
      ⟨0x03, 0, 0, 0, d.syHandle k⟩ := by
  simp only [Dev.syncReached, ho, harm, if_pos hn]

/-- Settles O17: every command on a live object is its effect on the device that fetched it. -/
theorem synchronisationCommands : Obligations.SynchronisationCommands := by
  unfold Obligations.SynchronisationCommands
  intro s h
  dsimp only
  refine ⟨fun loc init addr ep i sp ht hc hi => ?alloc, fun handle k o hk ho => ⟨fun ht => ⟨?query, ?awaited, ?free⟩,
    fun ht => ⟨?signal, ?arm, ?armed⟩⟩, fun handle hk => ⟨fun ht => ⟨?badQuery, ?badFree⟩, fun ht => ⟨?badSignal, ?badArm⟩⟩⟩
  case alloc =>
    refine congrArg (ok s) ((Dev.admin_turn ht _).trans ?_)
    have hc' : (s.dev.admFetch h).syncAllocCheck (s.dev.admRun h) loc addr ep = none := hc
    rw [hc', Dev.admTry_none]
    have hi' : ((s.dev.admFetch h).sySp (s.dev.admRun h).fn.num).issue = some (i, sp) := hi
    simp only [Dev.syncAllocDo, hi']
    rfl
  case query => exact congrArg (ok s) (Dev.admin_onSync ht hk ho (fun h d _ x => d.adminOk h x.value))
  case awaited =>
    intro hw
    exact congrArg (ok s) ((Dev.admin_onSync ht hk ho (fun h d k _ =>
      if d.syncAwaited handle then d.adminRefuse h 0x0008 else d.syncFreeDo h k)).trans (if_pos hw))
  case free =>
    intro hw
    refine ⟨_, congrArg (ok s) ((Dev.admin_onSync ht hk ho (fun h d k _ =>
      if d.syncAwaited handle then d.adminRefuse h 0x0008 else d.syncFreeDo h k)).trans (if_neg (by simp only [hw]; decide))),
      kfind_kdel_self _ _, fun j hj => kfind_kdel_ne _ hj, rfl⟩
  case signal =>
    exact fun n => congrArg (ok s) (Dev.admin_onSync ht hk ho (fun h d k _ => ((d.signalObj k n).adminOk h 0).settle))
  case arm =>
    intro n hn
    refine congrArg (ok s) ((Dev.admin_onSync ht hk ho (fun h d k x => (Dev.syncReached { d with
      chs := { d.chs with syncs := kput k { x with arm := some n } d.chs.syncs } } k).adminOk h 0)).trans ?_)
    rw [Dev.syncReached_below (o := { o with arm := some n }) (kfind_kput_self _ _ _) rfl hn]
    rfl
  case armed =>
    intro n hn
    refine congrArg (ok s) ((Dev.admin_onSync ht hk ho (fun h d k x => (Dev.syncReached { d with
      chs := { d.chs with syncs := kput k { x with arm := some n } d.chs.syncs } } k).adminOk h 0)).trans ?_)
    rw [Dev.syncReached_reached (o := { o with arm := some n }) (kfind_kput_self _ _ _) rfl hn]
    rfl
  case badQuery => exact congrArg (ok s) (Dev.admin_onSync_bad ht hk (fun h d _ x => d.adminOk h x.value))
  case badFree =>
    exact congrArg (ok s) (Dev.admin_onSync_bad ht hk (fun h d k _ =>
      if d.syncAwaited handle then d.adminRefuse h 0x0008 else d.syncFreeDo h k))
  case badSignal =>
    exact fun n => congrArg (ok s) (Dev.admin_onSync_bad ht hk (fun h d k _ => ((d.signalObj k n).adminOk h 0).settle))
  case badArm =>
    exact fun n => congrArg (ok s) (Dev.admin_onSync_bad ht hk (fun h d k x => (Dev.syncReached { d with
      chs := { d.chs with syncs := kput k { x with arm := some n } d.chs.syncs } } k).adminOk h 0))

end Sys2Proof.Machine
end

section
/-! What the posting of events, the completion of admin commands and the log of a pair leave unchanged: a part of the device that
does not depend on what they write is kept. -/
namespace Sys2Proof.Machine

variable {β : Type}

/-! ## Events -/

/-- A part of the device that the queues of events of the functions of a partition do not touch. -/
structure EvBlindAt (n : Nat) (part : Dev → β) : Prop where
  setFn : ∀ (d : Dev) (f : FnId) (x : Fn), part (d.setFn f x) = part d
  emit : ∀ (d : Dev) (o : Out), part (d.emit o) = part d
  posted : ∀ d : Dev, part (d.inc (K.ofPart K.eventsPosted n)) = part d
  lost : ∀ d : Dev, part (d.inc (K.ofPart K.eventsLost n)) = part d

namespace EvBlindAt

variable {n : Nat} {part : Dev → β} (hp : EvBlindAt n part)
include hp

theorem updWire (d : Dev) (f : FnId) : part (d.updWire f) = part d := by
  unfold Dev.updWire
  dsimp only
  split
  · rfl
  · rw [hp.emit, hp.setFn]

theorem writeEv (d : Dev) (port : Nat) (e : Ev) : part (d.writeEv ⟨port, n⟩ e) = part d := by
  unfold Dev.writeEv
  dsimp only
  rw [hp.posted, hp.emit, hp.setFn]

theorem drainEv (port fuel : Nat) (d : Dev) : part (Dev.drainEv ⟨port, n⟩ fuel d) = part d := by
  induction fuel generalizing d with
  | zero => rfl
  | succ fuel ih =>
    unfold Dev.drainEv
    split
    · rfl
    · dsimp only
      split
      · rw [ih, hp.writeEv, hp.setFn]
      · split
        · rfl
        · rw [ih, hp.writeEv, hp.setFn]

theorem pumpEv (d : Dev) (port : Nat) : part (d.pumpEv ⟨port, n⟩) = part d := by
  rw [Dev.pumpEv, hp.updWire, hp.drainEv]

theorem giveEv (d : Dev) (port : Nat) (e : Ev) : part (d.giveEv ⟨port, n⟩ e) = part d := by
  unfold Dev.giveEv
  dsimp only
  rw [hp.pumpEv]
  split
  · rw [hp.setFn, hp.pumpEv]
  · rw [hp.lost, hp.setFn, hp.pumpEv]

theorem post (d : Dev) (e : Ev) : part (d.post n e) = part d := by
  unfold Dev.post
  split
  · exact hp.giveEv ..
  · dsimp only
    split
    · exact hp.giveEv ..
    · exact hp.lost ..

theorem postChan (d : Dev) (port : Nat) (e : Ev) : part (d.postChan n port e) = part d := by
  unfold Dev.postChan
  split
  · exact hp.giveEv ..
  · exact hp.post ..

end EvBlindAt

/-- A part of the device that no queue of events touches. -/
structure EvBlind (part : Dev → β) : Prop where
  setFn : ∀ (d : Dev) (f : FnId) (x : Fn), part (d.setFn f x) = part d
  emit : ∀ (d : Dev) (o : Out), part (d.emit o) = part d
  posted : ∀ (d : Dev) (n : Nat), part (d.inc (K.ofPart K.eventsPosted n)) = part d
  lost : ∀ (d : Dev) (n : Nat), part (d.inc (K.ofPart K.eventsLost n)) = part d

namespace EvBlind

variable {part : Dev → β} (hp : EvBlind part)
include hp

theorem of (n : Nat) : EvBlindAt n part := ⟨hp.setFn, hp.emit, fun d => hp.posted d n, fun d => hp.lost d n⟩

theorem updWire (d : Dev) (f : FnId) : part (d.updWire f) = part d := (hp.of f.num).updWire d f

theorem writeEv (d : Dev) (f : FnId) (e : Ev) : part (d.writeEv f e) = part d := (hp.of f.num).writeEv d f.port e

theorem pumpEv (d : Dev) (f : FnId) : part (d.pumpEv f) = part d := (hp.of f.num).pumpEv d f.port

theorem giveEv (d : Dev) (f : FnId) (e : Ev) : part (d.giveEv f e) = part d := (hp.of f.num).giveEv d f.port e

theorem post (d : Dev) (n : Nat) (e : Ev) : part (d.post n e) = part d := (hp.of n).post d e

theorem postChan (d : Dev) (n port : Nat) (e : Ev) : part (d.postChan n port e) = part d := (hp.of n).postChan d port e

theorem postAll (d : Dev) (e : Ev) : part (d.postAll e) = part d := by
  refine foldl_keeps part (fun t n => ?_) _ d
  split
  · exact hp.post ..
  · rfl

theorem adminDone (d : Dev) (h : Adm) (st dt r : Nat) : part (d.adminDone h st dt r) = part d := by
  unfold Dev.adminDone
  dsimp only
  split
  · rfl
  split
  · exact hp.setFn ..
  split
  · exact hp.setFn ..
  · rw [hp.emit, hp.setFn]

theorem adminOk (d : Dev) (h : Adm) (r : Nat) : part (d.adminOk h r) = part d := hp.adminDone ..

theorem adminRefuse (d : Dev) (h : Adm) (dt : Nat) : part (d.adminRefuse h dt) = part d := hp.adminDone ..

theorem adminBadHandle (hb : ∀ d : Dev, part (d.inc K.badHandles) = part d) (d : Dev) (h : Adm) :
    part (d.adminBadHandle h) = part d := by
  rw [Dev.adminBadHandle, hp.adminDone, hb]

end EvBlind

theorem evBlind_chs : EvBlind Dev.chs := ⟨fun _ _ _ => rfl, fun _ _ => rfl, fun _ _ => rfl, fun _ _ => rfl⟩
theorem evBlind_mm : EvBlind Dev.mm := ⟨fun _ _ _ => rfl, fun _ _ => rfl, fun _ _ => rfl, fun _ _ => rfl⟩
theorem evBlind_cl : EvBlind Dev.cl := ⟨fun _ _ _ => rfl, fun _ _ => rfl, fun _ _ => rfl, fun _ _ => rfl⟩

/-- An entry that no event counts in. -/
theorem evBlind_rd {k : Nat} (hp : ∀ n : Nat, k ≠ K.ofPart K.eventsPosted n) (hl : ∀ n : Nat, k ≠ K.ofPart K.eventsLost n) :
    EvBlind (fun d => d.rd k) :=
  ⟨fun _ _ _ => rfl, fun _ _ => rfl, fun d n => Dev.rd_inc_ne d (hp n), fun d n => Dev.rd_inc_ne d (hl n)⟩

/-- The entries below those of the partitions. -/
theorem evBlind_rd_below {k : Nat} (h : k < K.eventsPosted) : EvBlind (fun d => d.rd k) := by
  have hlt : K.eventsPosted < K.eventsLost := by decide
  refine evBlind_rd (fun n => ?_) (fun n => ?_)
  · simp only [K.ofPart]
    omega
  · simp only [K.ofPart]
    omega

@[simp] theorem Dev.post_chs (d : Dev) (n : Nat) (e : Ev) : (d.post n e).chs = d.chs := evBlind_chs.post ..
@[simp] theorem Dev.postChan_chs (d : Dev) (n port : Nat) (e : Ev) : (d.postChan n port e).chs = d.chs := evBlind_chs.postChan ..
@[simp] theorem Dev.adminDone_chs (d : Dev) (h : Adm) (st dt r : Nat) : (d.adminDone h st dt r).chs = d.chs :=
  evBlind_chs.adminDone ..
@[simp] theorem Dev.adminOk_chs (d : Dev) (h : Adm) (r : Nat) : (d.adminOk h r).chs = d.chs := evBlind_chs.adminOk ..
@[simp] theorem Dev.adminBadHandle_chs (d : Dev) (h : Adm) : (d.adminBadHandle h).chs = d.chs := 
  evBlind_chs.adminBadHandle (fun _ => rfl) ..

/-! ## The log of a pair -/

/-- A part of the device that frames sent to the partner do not touch. -/
structure LogBlind (part : Dev → β) : Prop where
  pr : ∀ (d : Dev) (x : Pr), part { d with pr := x } = part d
  emit : ∀ (d : Dev) (o : Out), part (d.emit o) = part d
  wr : ∀ (d : Dev) (k v : Nat), part (d.wr k v) = part d
  drawn : ∀ d : Dev, part d.drawn = part d

namespace LogBlind

variable {part : Dev → β} (hp : LogBlind part)
include hp

theorem add (d : Dev) (k n : Nat) : part (d.add k n) = part d := hp.wr d k _

theorem linkCodec (d : Dev) (port n : Nat) (cipher : Bool) : part (d.linkCodec port n cipher).1 = part d := by
  unfold Dev.linkCodec
  split
  · dsimp only
    rw [hp.drawn, hp.add, hp.add]
  · rfl

theorem ringOut (d : Dev) (port op id : Nat) (recs : List LogRec) (payload : List Byte) (cipher : Bool) :
    part (d.ringOut port op id recs payload cipher) = part d := by
  unfold Dev.ringOut
  dsimp only
  rw [hp.emit, hp.pr, hp.linkCodec]

theorem logSend (d : Dev) (recs : List LogRec) : part (d.logSend recs) = part d := by
  rw [Dev.logSend, hp.ringOut, hp.add, hp.pr]

theorem logState (d : Dev) (p : Nat) (b : LogBody) : part (d.logState p b) = part d := by
  unfold Dev.logState
  split
  · exact hp.logSend ..
  · rfl

theorem logChan (d : Dev) (k : Nat) : part (d.logChan k) = part d := by
  unfold Dev.logChan
  split
  · split
    · exact hp.logState ..
    · rfl
  · rfl

end LogBlind

theorem logBlind_chs : LogBlind Dev.chs := ⟨fun _ _ => rfl, fun _ _ => rfl, fun _ _ _ => rfl, fun _ => rfl⟩

@[simp] theorem Dev.logState_chs (d : Dev) (p : Nat) (b : LogBody) : (d.logState p b).chs = d.chs := logBlind_chs.logState ..
@[simp] theorem Dev.logChan_chs (d : Dev) (k : Nat) : (d.logChan k).chs = d.chs := logBlind_chs.logChan ..

/-! ## Clusters and discarded blocks -/

/-- The device but for its clusters. -/
def Dev.sansClusters (d : Dev) : Dev := { d with cl := [] }

theorem Dev.placePipe_sansClusters (d : Dev) (k recipe : Nat) (stages : List (List Nat)) :
    (d.placePipe k recipe stages).sansClusters = d.sansClusters := by
  refine foldl_keeps Dev.sansClusters (fun t sl => foldl_keeps Dev.sansClusters (fun u lr => ?_) _ t) _ d
  dsimp only
  split
  · rfl
  · rfl

theorem Dev.placePipe_frame (d : Dev) (k recipe : Nat) (stages : List (List Nat)) :
    d.placePipe k recipe stages = { d with cl := (d.placePipe k recipe stages).cl } :=
  congrArg (fun t : Dev => { t with cl := (d.placePipe k recipe stages).cl }) (Dev.placePipe_sansClusters d k recipe stages)

@[simp] theorem Dev.placePipe_chs (d : Dev) (k recipe : Nat) (stages : List (List Nat)) :
    (d.placePipe k recipe stages).chs = d.chs := by
  rw [Dev.placePipe_frame]

@[simp] theorem Dev.testDue_chs (d : Dev) (n : Nat) : (d.testDue n).chs = d.chs := by
  unfold Dev.testDue
  dsimp only
  split
  · rfl
  · rfl

@[simp] theorem Dev.endWindow_chs (d : Dev) (n : Nat) : (d.endWindow n).chs = d.chs := by
  unfold Dev.endWindow
  split
  · exact Dev.testDue_chs ..
  · rfl

@[simp] theorem Dev.clearPipe_chs (d : Dev) (c : Chan) : (d.clearPipe c).chs = d.chs := by
  refine foldl_keeps Dev.chs (fun t n => ?_) _ d
  dsimp only
  rw [Dev.testDue_chs, Dev.setClu_chs, Dev.endWindow_chs]

@[simp] theorem Dev.setPage_chs (d : Dev) (k : Nat) (x : Page) : (d.setPage k x).chs = d.chs := rfl

@[simp] theorem Dev.setValid_chs (d : Dev) (k v : Nat) : (d.setValid k v).chs = d.chs := by
  unfold Dev.setValid
  dsimp only
  split
  · rfl
  split
  · rfl
  split
  · rfl
  · rfl

@[simp] theorem Dev.dropPage_chs (d : Dev) (k : Nat) : (d.dropPage k).chs = d.chs := by
  unfold Dev.dropPage
  dsimp only
  split
  · rfl
  · rfl

@[simp] theorem Dev.discardBlocks_chs (d : Dev) (p first count : Nat) : (d.discardBlocks p first count).chs = d.chs := by
  refine (foldl_keeps Dev.chs (fun t e => ?_) _ _).trans rfl
  dsimp only
  split
  · exact Dev.dropPage_chs ..
  · rw [Dev.setPage_chs, Dev.setValid_chs]

@[simp] theorem Dev.clearResidue_chs (d : Dev) (k : Nat) (c : Chan) : (d.clearResidue k c).chs = d.chs := by
  unfold Dev.clearResidue
  dsimp only
  split
  · split
    · exact Dev.discardBlocks_chs ..
    · rfl
  · rfl

@[simp] theorem Dev.residueGone_chs (d : Dev) (k : Nat) : (d.residueGone k).chs = d.chs := by
  unfold Dev.residueGone
  split
  · exact Dev.clearResidue_chs ..
  · rfl

@[simp] theorem Dev.dropFetch_chs (d : Dev) (k : Nat) : (d.dropFetch k).chs = d.chs := rfl

@[simp] theorem Dev.fetchRead_chs (d : Dev) (k : Nat) (c : Chan) : (d.fetchRead k c).chs = d.chs := by
  unfold Dev.fetchRead
  split
  · rfl
  · dsimp only
    split
    · rfl
    · split
      · rfl
      · rfl
    · rfl

@[simp] theorem Dev.fetchOn_chs (d : Dev) (k : Nat) : (d.fetchOn k).chs = d.chs := by
  unfold Dev.fetchOn
  split
  · exact Dev.fetchRead_chs ..
  · rfl

end Sys2Proof.Machine
end

section
/-! O16: the commands of channels, halts, destructions and restarts. -/
namespace Sys2Proof.Machine

/-! ## Commands on the channel of a handle -/

/-- A command on a live channel whose turn has come. -/
theorem Dev.admin_onChan {d : Dev} {h : Adm} {served : Bool} (ht : d.admTurn h served) {handle k : Nat} {c : Chan}
    (hk : (d.admFetch h).chanOf h.fn.num handle = some k) (hc : (d.admFetch h).chan k = some c)
    (run : Adm → Dev → Nat → Chan → Dev) :
    d.admin h served (fun d h => d.onChan h handle (run h)) = run (d.admRun h) (d.admFetch h) k c := by
  refine (Dev.admin_turn ht _).trans ?_
  have hk' : (d.admFetch h).chanOf (d.admRun h).fn.num handle = some k := hk
  simp only [Dev.onChan, hk', hc]

/-- The same on a handle that names none. -/
theorem Dev.admin_onChan_bad {d : Dev} {h : Adm} {served : Bool} (ht : d.admTurn h served) {handle : Nat}
    (hk : (d.admFetch h).chanOf h.fn.num handle = none) (run : Adm → Dev → Nat → Chan → Dev) :
    d.admin h served (fun d h => d.onChan h handle (run h)) = (d.admFetch h).adminBadHandle (d.admRun h) := by
  refine (Dev.admin_turn ht _).trans ?_
  have hk' : (d.admFetch h).chanOf (d.admRun h).fn.num handle = none := hk
  simp only [Dev.onChan, hk']

/-- A command on a channel that is not ENDING. -/
theorem Dev.admin_onLive {d : Dev} {h : Adm} {served : Bool} (ht : d.admTurn h served) {handle k : Nat} {c : Chan}
    (hk : (d.admFetch h).chanOf h.fn.num handle = some k) (hc : (d.admFetch h).chan k = some c) (hst : c.st ≠ .ending)
    (run : Adm → Dev → Nat → Chan → Dev) :
    d.admin h served (fun d h => d.onLive h handle (run h)) = run (d.admRun h) (d.admFetch h) k c :=
  (Dev.admin_onChan ht hk hc _).trans (if_neg (by simpa using hst))

/-- The same on one that is. -/
theorem Dev.admin_onLive_ending {d : Dev} {h : Adm} {served : Bool} (ht : d.admTurn h served) {handle k : Nat} {c : Chan}
    (hk : (d.admFetch h).chanOf h.fn.num handle = some k) (hc : (d.admFetch h).chan k = some c) (hst : c.st = .ending)
    (run : Adm → Dev → Nat → Chan → Dev) :
    d.admin h served (fun d h => d.onLive h handle (run h)) = (d.admFetch h).adminRefuse (d.admRun h) 0x0008 :=
  (Dev.admin_onChan ht hk hc _).trans (if_pos (by simp [hst]))

@[simp] theorem Dev.admFetch_chs (d : Dev) (h : Adm) : (d.admFetch h).chs = d.chs := by
  rw [Dev.admFetch_frame]

theorem Dev.admFetch_chanOf (d : Dev) (h : Adm) (p handle : Nat) : (d.admFetch h).chanOf p handle = d.chanOf p handle := by
  simp only [Dev.chanOf, Dev.chSp, Dev.chan, Dev.admFetch_chs]
  rfl

theorem Dev.admFetch_chan (d : Dev) (h : Adm) (k : Nat) : (d.admFetch h).chan k = d.chan k := by
  simp only [Dev.chan, Dev.admFetch_chs]

theorem Dev.chanCmdWaits_bad {d : Dev} {h : Adm} {handle : Nat} (hk : (d.admFetch h).chanOf h.fn.num handle = none) :
    d.chanCmdWaits h handle = false := by
  rw [Dev.admFetch_chanOf] at hk
  simp only [Dev.chanCmdWaits, hk]

theorem Dev.chanCmdWaits_ending {d : Dev} {h : Adm} {handle k : Nat} {c : Chan}
    (hk : (d.admFetch h).chanOf h.fn.num handle = some k) (hc : (d.admFetch h).chan k = some c) (hst : c.st = .ending) :
    d.chanCmdWaits h handle = false := by
  rw [Dev.admFetch_chanOf] at hk
  rw [Dev.admFetch_chan] at hc
  simp [Dev.chanCmdWaits, hk, hc, hst]

/-! ## A channel with nothing in flight -/

theorem Dev.chan_setChan_self (d : Dev) (k : Nat) (c : Chan) : (d.setChan k c).chan k = some c := kfind_kput_self ..
theorem Dev.chan_setChan_ne (d : Dev) {j k : Nat} (c : Chan) (h : j ≠ k) : (d.setChan k c).chan j = d.chan j := kfind_kput_ne _ _ h
theorem Dev.chan_modChan_self (d : Dev) (k : Nat) (f : Chan → Chan) : (d.modChan k f).chan k = (d.chan k).map f :=
  kfind_kmod_self ..
theorem Dev.chan_modChan_ne (d : Dev) {j k : Nat} (f : Chan → Chan) (h : j ≠ k) : (d.modChan k f).chan j = d.chan j :=
  kfind_kmod_ne _ _ h
theorem Dev.chan_congr {d t : Dev} (h : t.chs = d.chs) (k : Nat) : t.chan k = d.chan k := by rw [Dev.chan, h, Dev.chan]

/-- The completions of admin commands change no channel. -/
theorem Dev.foldl_adminOk_chs (l : List (Bool × Adm)) (d : Dev) : (l.foldl (fun d e => d.adminOk e.2 0) d).chs = d.chs :=
  foldl_keeps Dev.chs (fun t e => Dev.adminOk_chs t e.2 0) l d

theorem Dev.cqSendN_empty {d : Dev} {k : Nat} {c : Chan} (hc : d.chan k = some c) (hq : c.cqes = []) (n : Nat) :
    Dev.cqSendN n d k = d := by
  cases n with
  | zero => rfl
  | succ n => simp only [Dev.cqSendN, hc, hq]

theorem Dev.startChan_not_active {d : Dev} {k : Nat} {c : Chan} (hc : d.chan k = some c) (hst : c.st ≠ .active) :
    (d.startChan k).chan k = some c := by
  rw [Dev.startChan, Dev.chan_modChan_self, hc, Option.map_some, if_neg (by simpa using hst)]

theorem Dev.startChan_ne (d : Dev) {j k : Nat} (h : j ≠ k) : (d.startChan k).chan j = d.chan j := Dev.chan_modChan_ne _ _ h

/-- A halt of a channel with nothing in flight. -/
theorem Dev.haltBody_empty {d : Dev} {k : Nat} {c : Chan} (hc : d.chan k = some c) (hst : c.st = .active)
    (hf : c.fetched = []) (hl : d.stageLocks k = []) (cause : Option Nat) (status detail : Nat) :
    d.haltBody k cause status detail =
      (((((d.setChan k { c with st := .halted, lastHalt := status }).dropFetch k).clearPipe c).clearResidue k c).inc
        K.channelHalts).modChan k (fun x => { x with haltEv := some ⟨0x02, status, detail, 0, d.chHandle k + 0 * 2 ^ 32⟩ }) := by
  have hna : (ChSt.active != ChSt.active) = false := rfl
  cases cause with
  | none => simp only [Dev.haltBody, hc, hst, hl, hf, hna, List.foldl_nil, Option.map_none, Option.getD_none,
      Bool.false_eq_true, if_false]
  | some n => simp only [Dev.haltBody, hc, hst, hl, hf, hna, List.foldl_nil, List.find?_nil, Option.map_none, Option.getD_none,
      Bool.false_eq_true, if_false]

theorem Dev.haltBody_chan_empty {d : Dev} {k : Nat} {c : Chan} (hc : d.chan k = some c) (hst : c.st = .active)
    (hf : c.fetched = []) (hl : d.stageLocks k = []) (cause : Option Nat) (status detail : Nat) :
    (d.haltBody k cause status detail).chan k = some { c with
        st := .halted, lastHalt := status, haltEv := some ⟨0x02, status, detail, 0, d.chHandle k + 0 * 2 ^ 32⟩ } ∧
      ∀ j : Nat, j ≠ k → (d.haltBody k cause status detail).chan j = d.chan j := by
  have hbase : ∀ t : Dev, (((t.dropFetch k).clearPipe c).clearResidue k c |>.inc K.channelHalts).chs = t.chs := by
    intro t
    simp
  rw [Dev.haltBody_empty hc hst hf hl]
  constructor
  · rw [Dev.chan_modChan_self, Dev.chan_congr (hbase _), Dev.chan_setChan_self]
    rfl
  · intro j hj
    rw [Dev.chan_modChan_ne _ _ hj, Dev.chan_congr (hbase _), Dev.chan_setChan_ne _ _ hj]

/-- What follows the completions of a HALTED channel when none is left: its halt event is posted and the CH_RESET commands complete. -/
theorem Dev.cqIdle_halted {d : Dev} {k : Nat} {c : Chan} (hc : d.chan k = some c) (hst : c.st = .halted) (hq : c.cqes = []) :
    (d.cqIdle k).chan k = some { c with haltEv := none, ends := c.ends.filter (fun e => e.1) } ∧
      ∀ j : Nat, j ≠ k → (d.cqIdle k).chan j = d.chan j := by
  have hne : (ChSt.halted == ChSt.ending) = false := rfl
  simp only [Dev.cqIdle, hc, hq, hst, List.isEmpty_nil, Bool.not_true, Bool.false_eq_true, if_false, hne]
  rw [Dev.chan_congr (Dev.foldl_adminOk_chs _ _)]
  constructor
  · rw [Dev.chan_modChan_self]
    cases he : c.haltEv with
    | none => simp only [hc, Option.map_some, hst, hq, he]
    | some e =>
      simp only [Dev.chan_congr (Dev.logChan_chs _ _), Dev.chan_congr (Dev.postChan_chs _ _ _ _), Dev.chan_setChan_self,
        Option.map_some]
  · intro j hj
    rw [Dev.chan_congr (Dev.foldl_adminOk_chs _ _), Dev.chan_modChan_ne _ _ hj]
    cases c.haltEv with
    | none => rfl
    | some e =>
      simp only [Dev.chan_congr (Dev.logChan_chs _ _), Dev.chan_congr (Dev.postChan_chs _ _ _ _), Dev.chan_setChan_ne _ _ hj]

/-- The pump of a HALTED channel with no completion to write. -/
theorem Dev.cqPump_halted {d : Dev} {k : Nat} {c : Chan} (hc : d.chan k = some c) (hst : c.st = .halted) (hq : c.cqes = []) :
    (d.cqPump k).chan k = some { c with haltEv := none, ends := c.ends.filter (fun e => e.1) } ∧
      ∀ j : Nat, j ≠ k → (d.cqPump k).chan j = d.chan j := by
  obtain ⟨hself, hne⟩ := Dev.cqIdle_halted hc hst hq
  simp only [Dev.cqPump, hc, Dev.cqSendN_empty hc hq]
  constructor
  · rw [Dev.chan_congr (Dev.fetchOn_chs _ _)]
    exact Dev.startChan_not_active hself (by simp [hst])
  · intro j hj
    rw [Dev.chan_congr (Dev.fetchOn_chs _ _), Dev.startChan_ne _ hj, hne j hj]

/-! ## Destruction -/

theorem Dev.freeChan_chan {d : Dev} (k : Nat) : (d.freeChan k).chan k = none := by
  cases hc : d.chan k with
  | none => simp only [Dev.freeChan, hc]
  | some c =>
    simp only [Dev.freeChan, hc]
    have hends : ∀ t : Dev, (c.ends.foldl (fun d e => if e.1 then d.adminOk e.2 0 else d.adminBadHandle e.2) t).chs = t.chs := by
      intro t
      refine foldl_keeps Dev.chs (fun t e => ?_) _ t
      split
      · exact Dev.adminOk_chs ..
      · exact Dev.adminBadHandle_chs ..
    rw [Dev.chan_congr (hends _)]
    cases c.restart with
    | none => cases c.newPort with
      | none => exact kfind_kdel_self ..
      | some x => exact (Dev.chan_congr (Dev.adminBadHandle_chs _ _) k).trans (kfind_kdel_self ..)
    | some y => cases c.newPort with
      | none => exact (Dev.chan_congr (Dev.adminBadHandle_chs _ _) k).trans (kfind_kdel_self ..)
      | some x =>
        exact (Dev.chan_congr (Dev.adminBadHandle_chs _ _) k).trans
          ((Dev.chan_congr (Dev.adminBadHandle_chs _ _) k).trans (kfind_kdel_self ..))

/-- An ENDING channel whose last completion is written is freed. -/
theorem Dev.cqIdle_ending {d : Dev} {k : Nat} {c : Chan} (hc : d.chan k = some c) (hst : c.st = .ending) (hq : c.cqes = []) :
    (d.cqIdle k).chan k = none := by
  simp only [Dev.cqIdle, hc, hq, hst, List.isEmpty_nil, Bool.not_true, Bool.false_eq_true, if_false, beq_self_eq_true, if_true]
  exact Dev.freeChan_chan k

theorem Dev.cqPump_ending {d : Dev} {k : Nat} {c : Chan} (hc : d.chan k = some c) (hst : c.st = .ending) (hq : c.cqes = []) :
    (d.cqPump k).chan k = none := by
  simp only [Dev.cqPump, hc, Dev.cqSendN_empty hc hq]
  rw [Dev.chan_congr (Dev.fetchOn_chs _ _), Dev.startChan, Dev.chan_modChan_self, Dev.cqIdle_ending hc hst hq]
  rfl

/-- A halt leaves a channel with nothing in flight without completions to write. -/
theorem Dev.haltBody_no_cqes {d : Dev} {k : Nat} {c : Chan} (hc : d.chan k = some c) (hf : c.fetched = []) (hq : c.cqes = [])
    (hl : d.stageLocks k = []) (status detail : Nat) :
    ∃ c' : Chan, (d.haltBody k none status detail).chan k = some c' ∧ c'.cqes = [] := by
  by_cases hst : c.st = .active
  · exact ⟨_, (Dev.haltBody_chan_empty hc hst hf hl none status detail).1, hq⟩
  · refine ⟨c, ?_, hq⟩
    simp only [Dev.haltBody, hc]
    rw [if_pos (by simpa using hst)]
    exact hc

theorem Dev.destroyChan_empty {d : Dev} {k : Nat} {c : Chan} (a : Adm) (hc : d.chan k = some c) (hst : c.st ≠ .ending)
    (hf : c.fetched = []) (hq : c.cqes = []) (hl : d.stageLocks k = []) : (d.destroyChan k a).chan k = none := by
  obtain ⟨c', hc', hq'⟩ := Dev.haltBody_no_cqes hc hf hq hl 0x30 0
  have hany : (d.chan k).any (fun c => c.st == .ending) = false := by simpa [hc] using hst
  simp only [Dev.destroyChan, hany, Bool.false_eq_true, if_false]
  refine Dev.cqPump_ending (c := { c' with st := .ending, ends := c'.ends ++ [(true, a)] }) ?_ rfl hq'
  rw [Dev.chan_modChan_self, Dev.chan_congr (Dev.residueGone_chs _ _), hc']
  rfl

/-! ## The main theorem -/

/-- The fields of what CH_QUERY answers. -/
theorem Chan.query_fields {c : Chan} (hsq : c.sqHead < 2 ^ 16) (hn : c.fetched.length + c.cqes.length < 2 ^ 16)
    (hl : c.lastHalt < 256) (hcls : c.cls < 256) :
    fld c.query 0 16 = c.sqHead ∧ fld c.query 16 16 = c.fetched.length + c.cqes.length ∧ fld c.query 32 8 = c.st.code ∧
    fld c.query 40 8 = c.lastHalt ∧ fld c.query 48 8 = c.cls ∧ c.query / 2 ^ 56 = c.policy := by
  have hst : c.st.code < 256 := by
    cases c.st <;> decide
  simp only [Chan.query, Chan.inFlight, fld, Nat.reducePow] at *
  omega

/-- A device with what the log of a pair and the clusters hold taken from another. -/
def Dev.logOf (b d : Dev) : Dev := { d with cl := b.cl, pr := b.pr, od := b.od, out := b.out, fresh := b.fresh }

theorem logBlind_logOf (b : Dev) : LogBlind (Dev.logOf b) := ⟨fun _ _ => rfl, fun _ _ => rfl, fun _ _ _ => rfl, fun _ => rfl⟩

/-- A pipeline placed and a channel logged change the clusters and what the log of a pair holds. -/
theorem Dev.logChan_placePipe_frame (d : Dev) (k recipe : Nat) (stages : List (List Nat)) (j : Nat) :
    let t := (d.placePipe k recipe stages).logChan j
    t = { d with cl := t.cl, pr := t.pr, od := t.od, out := t.out, fresh := t.fresh } := by
  intro t
  have hlog : Dev.logOf d t = Dev.logOf d (d.placePipe k recipe stages) := (logBlind_logOf d).logChan _ j
  have hpipe : Dev.logOf d (d.placePipe k recipe stages) = d := by
    rw [Dev.placePipe_frame]
    rfl
  have both : Dev.logOf t (Dev.logOf d t) = Dev.logOf t d := congrArg (Dev.logOf t) (hlog.trans hpipe)
  exact both

/-- CH_CREATE that nothing refuses. -/
theorem Dev.chCreateDo_issued {d : Dev} {h : Adm} {a : ChArgs} {i : Nat} {sp : IdxSpace} (hi : (d.chSp h.fn.num).issue = some (i, sp)) :
    d.chCreateDo h a =
      ((({ d with chs := { d.chs with
          chSpace := kput h.fn.num sp d.chs.chSpace
          chans := kput (ctxKey h.fn.num i) (newChan a h.fn.port (d.newStages a)) d.chs.chans } }).placePipe
        (ctxKey h.fn.num i) a.recipe (d.newStages a)).logChan (ctxKey h.fn.num i)).adminOk h (mkHandle h.fn.num (sp.gen i) i) := by
  simp only [Dev.chCreateDo, hi]

theorem Dev.chRestartCheck_none {d : Dev} {k : Nat} {c : Chan} {flags : Nat} (hf : flags < 2) (hst : c.st = .halted)
    (hfe : d.fenced (ctxPart k) = false) (hb : d.bme (c.fn k) = true) (hr : (d.refillStages d.freeLogical c.stages).isSome = true) :
    d.chRestartCheck k c flags = none := by
  simp [Dev.chRestartCheck, hst, hfe, hb, Option.isSome_iff_ne_none.mp hr]
  omega

theorem Dev.chRestartCheck_active {d : Dev} {k : Nat} {c : Chan} {flags : Nat} (hf : flags < 2) (hst : c.st = .active) :
    d.chRestartCheck k c flags = some (0x11, 0x0008) := by
  simp [Dev.chRestartCheck, hst]
  omega

theorem execChReset_eq {s : State} {h : Adm} {handle : Nat} (hw : s.dev.chanCmdWaits h handle = false) :
    exec (.chReset h handle) s = ok s (s.dev.admin h false (fun d h => d.onLive h handle (fun d k _ => (d.resetChan k h).settle))) :=
  congrArg (ok s) (if_neg (by simp [hw]))

theorem execChRestart_eq {s : State} {h : Adm} {handle : Nat} (flags : Nat) (hw : s.dev.chanCmdWaits h handle = false) :
    exec (.chRestart h handle flags) s =
      ok s (s.dev.admin h false (fun d h => d.onLive h handle (fun d k c => d.chRestart h flags k c))) :=
  congrArg (ok s) (if_neg (by simp [hw]))

theorem execChModify_eq {s : State} {h : Adm} {handle : Nat} (cls policy mask port : Nat) (hw : s.dev.chanCmdWaits h handle = false) :
    exec (.chModify h handle cls policy mask port) s =
      ok s (s.dev.admin h false (fun d h => d.onLive h handle (fun d k c =>
        d.admTry h (d.chModifyCheck k c cls policy mask port) (fun d => d.chModifyDo h k c cls policy mask port)))) :=
  congrArg (ok s) (if_neg (by simp [hw]))

theorem execChQuery_eq {s : State} {h : Adm} {handle : Nat} (hw : s.dev.chanCmdWaits h handle = false) :
    exec (.chQuery h handle) s = ok s (s.dev.admin h true (fun d h => d.onLive h handle (fun d _ c => d.adminOk h c.query))) :=
  congrArg (ok s) (if_neg (by simp [hw]))

/-- What CH_CREATE leaves: the context, its index space and its pipeline. -/
theorem execChCreate_created {s : State} {h : Adm} {a : ChArgs} {i : Nat} {sp : IdxSpace} (hw : s.dev.chCreateWaits h a = false)
    (ht : s.dev.admTurn h false) (hc : (s.dev.admFetch h).chCreateCheck h a = none)
    (hi : ((s.dev.admFetch h).chSp h.fn.num).issue = some (i, sp)) :
    let d := s.dev.admFetch h
    ∃ t : Dev, exec (.chCreate h a) s =
        ok s (t.adminDone (s.dev.admRun h) 0 0 (mkHandle h.fn.num (sp.gen i) i)) ∧
      t.chan (ctxKey h.fn.num i) = some (newChan a h.fn.port (d.newStages a)) ∧ t.chSp h.fn.num = sp ∧
      (∀ k : Nat, k ≠ ctxKey h.fn.num i → t.chan k = d.chan k) ∧
      t = { d with chs := t.chs, cl := t.cl, pr := t.pr, od := t.od, out := t.out, fresh := t.fresh } := by
  intro d
  have hc' : d.chCreateCheck (s.dev.admRun h) a = none := hc
  have hi' : (d.chSp (s.dev.admRun h).fn.num).issue = some (i, sp) := hi
  refine ⟨_, congrArg (ok s) ((if_neg (by simp [hw])).trans ((Dev.admin_turn ht _).trans
    ((congrArg (fun x => d.admTry (s.dev.admRun h) x _) hc').trans (Dev.chCreateDo_issued hi')))), ?_, ?_, fun k hk => ?_, ?_⟩
  · rw [Dev.chan_congr (Dev.logChan_chs _ _), Dev.chan_congr (Dev.placePipe_chs _ _ _ _)]
    exact kfind_kput_self ..
  · rw [Dev.chSp, Dev.logChan_chs, Dev.placePipe_chs]
    exact kget_kput_self ..
  · rw [Dev.chan_congr (Dev.logChan_chs _ _), Dev.chan_congr (Dev.placePipe_chs _ _ _ _)]
    exact kfind_kput_ne _ _ hk
  · rw [Dev.logChan_placePipe_frame]

/-- A restarted channel. -/
theorem Dev.chRestartDo_chan (d : Dev) (h : Adm) (k : Nat) (c : Chan) (rewind : Bool) :
    let stages := (d.refillStages d.openLogical c.stages).getD c.stages
    let c1 := { c with st := .active, stages := stages, logical := stages.flatten, restart := none }
    (d.chRestartDo h k c rewind).chan k =
      some (if rewind then { c1 with sqHead := 0, sqTail := 0, cqTail := 0, cqHead := 0, phase := true } else c1) := by
  intro stages c1
  exact (Dev.chan_congr ((Dev.fetchOn_chs _ _).trans ((Dev.adminOk_chs _ _ _).trans ((Dev.logChan_chs _ _).trans
    (Dev.placePipe_chs _ _ _ _)))) k).trans (Dev.chan_setChan_self _ _ _)

theorem Chan.inFlight_eq_zero {c : Chan} : c.inFlight = 0 ↔ c.fetched = [] ∧ c.cqes = [] := by
  simp [Chan.inFlight]

theorem Dev.setChan_setChan (d : Dev) (k : Nat) (c c' : Chan) : (d.setChan k c).setChan k c' = d.setChan k c' :=
  congrArg (fun l => { d with chs := { d.chs with chans := l } }) (kput_kput_self k c c' d.chs.chans)

/-- The commands on a live channel that is not ENDING. -/
theorem chanCommands_live {s : State} {h : Adm} {handle k : Nat} {c : Chan}
    (hk : (s.dev.admFetch h).chanOf h.fn.num handle = some k) (hc : (s.dev.admFetch h).chan k = some c) (hst : c.st ≠ .ending)
    (hw : s.dev.chanCmdWaits h handle = false) :
    let d := s.dev.admFetch h
    let r := s.dev.admRun h
    (s.dev.admTurn h true → exec (.chQuery h handle) s = ok s (d.adminDone r 0 0 c.query)) ∧
    (s.dev.admTurn h false →
      exec (.chReset h handle) s = ok s ((d.resetChan k r).settle) ∧
      (∀ flags : Nat, exec (.chRestart h handle flags) s = ok s (d.chRestart r flags k c)) ∧
      (∀ cls policy mask port : Nat, exec (.chModify h handle cls policy mask port) s =
        ok s (d.admTry r (d.chModifyCheck k c cls policy mask port) (fun d => d.chModifyDo r k c cls policy mask port)))) := by
  intro d r
  refine ⟨fun ht => ?_, fun ht => ⟨?_, fun flags => ?_, fun cls policy mask port => ?_⟩⟩
  · exact (execChQuery_eq hw).trans (congrArg (ok s) (Dev.admin_onLive ht hk hc hst (fun h d _ c => d.adminOk h c.query)))
  · exact (execChReset_eq hw).trans (congrArg (ok s) (Dev.admin_onLive ht hk hc hst (fun h d k _ => (d.resetChan k h).settle)))
  · exact (execChRestart_eq flags hw).trans
      (congrArg (ok s) (Dev.admin_onLive ht hk hc hst (fun h d k c => d.chRestart h flags k c)))
  · exact (execChModify_eq cls policy mask port hw).trans (congrArg (ok s) (Dev.admin_onLive ht hk hc hst
      (fun h d k c => d.admTry h (d.chModifyCheck k c cls policy mask port) (fun d => d.chModifyDo h k c cls policy mask port))))

/-- The commands on an ENDING channel: each is refused. -/
theorem chanCommands_ending {s : State} {h : Adm} {handle k : Nat} {c : Chan}
    (hk : (s.dev.admFetch h).chanOf h.fn.num handle = some k) (hc : (s.dev.admFetch h).chan k = some c) (hst : c.st = .ending) :
    let refused := ok s ((s.dev.admFetch h).adminDone (s.dev.admRun h) 0x11 0x0008 0)
    (s.dev.admTurn h true → exec (.chQuery h handle) s = refused) ∧
    (s.dev.admTurn h false → exec (.chReset h handle) s = refused ∧
      (∀ flags : Nat, exec (.chRestart h handle flags) s = refused) ∧
      (∀ cls policy mask port : Nat, exec (.chModify h handle cls policy mask port) s = refused)) := by
  have hw := Dev.chanCmdWaits_ending hk hc hst
  refine ⟨fun ht => ?_, fun ht => ⟨?_, fun flags => ?_, fun cls policy mask port => ?_⟩⟩
  · exact (execChQuery_eq hw).trans (congrArg (ok s) (Dev.admin_onLive_ending ht hk hc hst (fun h d _ c => d.adminOk h c.query)))
  · exact (execChReset_eq hw).trans
      (congrArg (ok s) (Dev.admin_onLive_ending ht hk hc hst (fun h d k _ => (d.resetChan k h).settle)))
  · exact (execChRestart_eq flags hw).trans
      (congrArg (ok s) (Dev.admin_onLive_ending ht hk hc hst (fun h d k c => d.chRestart h flags k c)))
  · exact (execChModify_eq cls policy mask port hw).trans (congrArg (ok s) (Dev.admin_onLive_ending ht hk hc hst
      (fun h d k c => d.admTry h (d.chModifyCheck k c cls policy mask port) (fun d => d.chModifyDo h k c cls policy mask port))))

/-- The commands on a handle that names no channel. -/
theorem chanCommands_bad {s : State} {h : Adm} {handle : Nat} (hk : (s.dev.admFetch h).chanOf h.fn.num handle = none) :
    let bad := ok s ((s.dev.admFetch h).adminBadHandle (s.dev.admRun h))
    (s.dev.admTurn h true → exec (.chDestroy h handle) s = bad ∧ exec (.chQuery h handle) s = bad) ∧
    (s.dev.admTurn h false → exec (.chReset h handle) s = bad ∧ (∀ flags, exec (.chRestart h handle flags) s = bad) ∧
      (∀ cls policy mask port, exec (.chModify h handle cls policy mask port) s = bad)) := by
  have hw := Dev.chanCmdWaits_bad hk
  refine ⟨fun ht => ⟨?_, ?_⟩, fun ht => ⟨?_, fun flags => ?_, fun cls policy mask port => ?_⟩⟩
  · exact congrArg (ok s) (Dev.admin_onChan_bad ht hk (fun h d k _ => (d.destroyChan k h).settle))
  · exact (execChQuery_eq hw).trans (congrArg (ok s) (Dev.admin_onChan_bad ht hk _))
  · exact (execChReset_eq hw).trans (congrArg (ok s) (Dev.admin_onChan_bad ht hk _))
  · exact (execChRestart_eq flags hw).trans (congrArg (ok s) (Dev.admin_onChan_bad ht hk _))
  · exact (execChModify_eq cls policy mask port hw).trans (congrArg (ok s) (Dev.admin_onChan_bad ht hk _))

/-- Settles O16: the commands on a live, on an ENDING and on no channel; the halt, the destruction and the restart of one. -/
theorem channelCommands : Obligations.ChannelCommands := by
  unfold Obligations.ChannelCommands
  refine ⟨fun s h => ⟨?created, ?refused, ?live, ?bad, ?bind⟩, ?halt, ?destroy, ?restart, ?query⟩
  case created => exact fun a i sp hw ht hc hi => execChCreate_created hw ht hc hi
  case refused =>
    intro a st dt hw ht hc
    have hc' : (s.dev.admFetch h).chCreateCheck (s.dev.admRun h) a = some (st, dt) := hc
    exact congrArg (ok s) ((if_neg (by simp [hw])).trans ((Dev.admin_turn ht _).trans
      (congrArg (fun x => (s.dev.admFetch h).admTry (s.dev.admRun h) x _) hc')))
  case live =>
    intro handle k c hk hc
    refine ⟨fun ht => congrArg (ok s) (Dev.admin_onChan ht hk hc (fun h d k _ => (d.destroyChan k h).settle)),
      fun hst => chanCommands_ending hk hc hst, fun hst hw => ?_⟩
    obtain ⟨hquery, hrest⟩ := chanCommands_live hk hc hst hw
    refine ⟨hquery, fun ht => ?_⟩
    obtain ⟨hreset, hrestart, hmodify⟩ := hrest ht
    refine ⟨hreset, fun flags hf hh hfe hb hr => ?_, fun flags hf ha => ?_, fun cls policy mask port hm => ?_⟩
    · have hcheck := Dev.chRestartCheck_none hf hh hfe hb hr
      refine ⟨fun hwait => (hrestart flags).trans (congrArg (ok s) ?_), fun hwait => (hrestart flags).trans (congrArg (ok s) ?_)⟩
      · rw [Dev.chRestart, hcheck, Dev.admTry_none, if_neg (by simp [hwait])]
      · rw [Dev.chRestart, hcheck, Dev.admTry_none, if_pos hwait]
    · refine (hrestart flags).trans (congrArg (ok s) ?_)
      rw [Dev.chRestart, Dev.chRestartCheck_active hf ha, Dev.admTry_some]
    · have hdo := (hmodify cls policy mask port).trans (congrArg (ok s)
        (congrArg (fun x => (s.dev.admFetch h).admTry (s.dev.admRun h) x _) hm))
      refine ⟨fun hp => hdo.trans (congrArg (ok s) ?_), fun hp hfe hq => hdo.trans (congrArg (ok s) ?_),
        fun hp hfe => hdo.trans (congrArg (ok s) ?_)⟩
      · exact if_pos (by simp [hp])
      · exact (if_neg (by simp [hp])).trans (if_pos (by simp [Chan.inFlight_eq_zero, hfe, hq]))
      · refine (if_neg (by simp [hp])).trans ((if_neg (by simp [Chan.inFlight_eq_zero, hfe])).trans ?_)
        rw [Dev.setChan_setChan]
  case bad => exact fun handle hk => chanCommands_bad hk
  case bind =>
    intro handle port c hc hp hf hq
    refine congrArg (ok s) ?_
    simp only [Dev.portBind, hc, hp]
    exact if_pos (by simp [Chan.inFlight_eq_zero, hf, hq])
  case halt =>
    intro d k c cause status detail hc
    refine ⟨fun hst => ?_, fun hst hf hq hl => ?_⟩
    · simp only [Dev.haltBody, hc]
      exact if_pos (by simpa using hst)
    · obtain ⟨hself, hne⟩ := Dev.haltBody_chan_empty hc hst hf hl cause status detail
      obtain ⟨hself', hne'⟩ := Dev.cqPump_halted hself rfl hq
      exact ⟨hself', fun j hj => (hne' j hj).trans (hne j hj)⟩
  case destroy => exact fun d k c a hc hst hf hq hl => Dev.destroyChan_empty a hc hst hf hq hl
  case restart =>
    intro d h k c rewind
    refine ⟨_, Dev.chRestartDo_chan d h k c rewind, ?_⟩
    cases rewind <;> simp
  case query => exact fun c hsq hn hl hcls => Chan.query_fields hsq hn hl hcls

end Sys2Proof.Machine
end

section
/-! O48 and O49: the checks of a write of the dictionary, and the SEQ of a session. -/
namespace Sys2Proof.Machine

/-! ## The order of the checks -/

/-- The checks of Table 14.4 in their order: what each result says of them. -/
theorem Dev.odRefuse_table (d : Dev) (r : Role) (me : Option Nat) (idx sub len v : Nat) :
    let o := d.odRefuse r me idx sub len v
    let found := idxExists idx = true ∧ subExists idx sub = true ∧ d.unavailable idx = false
    let writes := found ∧ roleMayWrite r idx sub = true ∧ entryAcc idx sub ≠ .const ∧ entryAcc idx sub ≠ .ro
    (o = some 1 ↔ idxExists idx = false) ∧
    (o = some 2 ↔ idxExists idx = true ∧ subExists idx sub = false) ∧
    (o = some 3 ↔ idxExists idx = true ∧ subExists idx sub = true ∧ d.unavailable idx = true) ∧
    (o = some 4 ↔ found ∧ roleMayWrite r idx sub = false) ∧
    (o = some 5 ↔ found ∧ roleMayWrite r idx sub = true ∧ (entryAcc idx sub = .const ∨ entryAcc idx sub = .ro)) ∧
    (o = some 6 ↔ writes ∧ (entryTy idx sub).fits len = false) ∧
    (o = some 9 ↔ writes ∧ (entryTy idx sub).fits len = true ∧ d.segBusy me idx sub = true) ∧
    (o = some 7 ↔ writes ∧ (entryTy idx sub).fits len = true ∧ d.segBusy me idx sub = false ∧ rangeBad idx sub v = true) ∧
    (o = none ↔ writes ∧ (entryTy idx sub).fits len = true ∧ d.segBusy me idx sub = false ∧ rangeBad idx sub v = false) := by
  dsimp only [Dev.odRefuse]
  cases idxExists idx with
  | false => simp
  | true => cases subExists idx sub with
    | false => simp
    | true => cases d.unavailable idx with
      | true => simp
      | false => cases roleMayWrite r idx sub with
        | false => simp
        | true =>
          by_cases hacc : entryAcc idx sub = .const ∨ entryAcc idx sub = .ro
          · simp [hacc]
            grind
          · simp only [not_or] at hacc
            cases (entryTy idx sub).fits len with
            | false => simp [hacc]
            | true => cases d.segBusy me idx sub with
              | true => simp [hacc]
              | false => cases rangeBad idx sub v with
                | true => simp [hacc]
                | false => simp [hacc]

theorem Dev.odTry_refused {d : Dev} {r : Role} {me : Option Nat} {idx sub c : Nat} {bs : List Byte}
    (h : d.odRefuse r me idx sub bs.length (leNat bs) = some c) : d.odTry r me idx sub bs = (d, c) := by
  simp only [Dev.odTry, h]

/-- What the end of a mailbox operation leaves. -/
theorem Dev.mbEnd_frame (d : Dev) (f : FnId) (op idx sub code : Nat) (g : Mbox → Mbox) :
    ((d.mbEnd f op idx sub code g).fn f).mb.status = code * 256 ∧
    (d.mbEnd f op idx sub code g).out = d.out ++ [.mbox f code] ∧
    d.mbEnd f op idx sub code g = { d with fns := (d.mbEnd f op idx sub code g).fns, out := d.out ++ [.mbox f code] } := by
  refine ⟨?_, rfl, rfl⟩
  rw [Dev.mbEnd, Dev.fn_emit, Dev.fn_setFn_self]

/-- The registers of a mailbox with the value of a WRITE in MB_DATA. -/
def Mbox.written (bs : List Byte) (y : Mbox) : Mbox :=
  { y with data := overlay (if y.data.isEmpty then zeros 3840 else y.data) 0 bs, count := bs.length }

/-- A mailbox WRITE that nothing bars ends with what the write answers. -/
theorem Dev.mbWriteRun_tried {d : Dev} {f : FnId} {idx sub : Nat} {bs : List Byte} (hlen : bs.length ≤ 3840)
    (hbar : d.mbBarred f false idx = none) :
    d.mbWriteRun f idx sub bs =
      let r := d.odTry (d.mbRole f) none idx sub bs
      if r.2 == resultWaits then r.1.askedBy (.mbox f)
      else if r.2 == 0 then r.1.mbEnd f 0x11 idx sub 0 (fun y => { Mbox.written bs y with entryLen := bs.length })
      else r.1.mbEnd f 0x11 idx sub r.2 (Mbox.written bs) := by
  simp only [Dev.mbWriteRun, if_neg (Nat.not_lt.mpr hlen), hbar]
  rfl

/-- Settles O48: the checks in their order, and their code in the answer of each way in. -/
theorem dictionaryChecks : Obligations.DictionaryChecks := by
  unfold Obligations.DictionaryChecks
  refine ⟨Dev.odRefuse_table, fun s idx sub c bs => ⟨fun r hs hc => ?_, fun m x hx hlen hprov hc9 hc => ?_,
    fun f hf hs hlen hbar hc0 hc9 hc => ?_⟩⟩
  · exact congrArg (ok s) (Dev.entryWrite_refused hs hc (fun d => d.odWrite r idx sub bs))
  · refine congrArg (ok s) ((Dev.asked_turn hx _).trans ?_)
    have hw : (c == resultWaits) = false := by simp only [resultWaits, beq_eq_false_iff_ne]; omega
    simp [Nat.not_lt.mpr hlen, hprov, Dev.writeEntry, Dev.odTry_refused hc, hw]
  · have hrun : exec (.mbWrite f idx sub bs) s = ok s (s.dev.mbEnd f 0x11 idx sub c (Mbox.written bs)) := by
      refine congrArg (ok s) ((Dev.mbOp_open hf _).trans ?_)
      rw [if_pos hs, Dev.mbWriteRun_tried hlen hbar, Dev.odTry_refused hc]
      simp [hc0, Nat.ne_of_lt hc9, resultWaits]
    obtain ⟨hstatus, -, hframe⟩ := Dev.mbEnd_frame s.dev f 0x11 idx sub c (Mbox.written bs)
    exact ⟨_, hrun, hstatus, hframe⟩

/-! ## The SEQ of a session -/

/-- The session that a message finds open, with its MAC good. -/
theorem Dev.withSession_open {d : Dev} {m : MsgHdr} {x : Session} (hx : d.session m.sess = some x) (ht : d.transportUp x.tr = true)
    (ho : x.isOpen = true) (hm : m.macOk = true) (f : Session → Dev) : d.withSession m f = f x := by
  simp [Dev.withSession, hx, ht, ho, hm]

/-- An answer is kept as the last of its session. -/
theorem Dev.session_answer {d : Dev} {m : MsgHdr} {x : Session} (hx : d.session m.sess = some x) (a : Answer) :
    (d.answer m a).session m.sess = some { x with lastSeq := m.seq, lastAns := a } :=
  Dev.session_setSession hx (fun y => { y with lastSeq := m.seq, lastAns := a }) (fun _ => rfl)

/-- A notification that is queued carries the next number of the series. -/
theorem Session.notify_series {x : Session} {cls idx sub data : Nat} {e : Ntf} (he : (x.notify cls idx sub data).2 = some e) :
    e.seq = x.nextNtf ∧ (x.notify cls idx sub data).1.nextNtf = x.nextNtf + 1 := by
  revert he
  unfold Session.notify
  split
  · exact fun he => absurd he (by simp)
  split
  · exact fun he => absurd he (by simp)
  · intro he
    simp only [Option.some.injEq] at he
    exact ⟨by rw [← he], rfl⟩

/-- Settles O49: a request by its SEQ, and the series of notifications. -/
theorem sessionSequence : Obligations.SessionSequence := by
  unfold Obligations.SessionSequence
  refine ⟨fun d m x run hx ht ho hm => ⟨fun hb hs => ?next, fun hb hs h0 => ?last, fun hb hn hl => ?other, fun hb => ?busy,
    fun a => ⟨_, Dev.session_answer hx a, rfl, rfl⟩⟩, fun s m idx sub n bs => ?asks, fun x cls idx sub data e he => ?series,
    fun n slot t fabric => rfl⟩
  case next =>
    rw [Dev.asked, Dev.withSession_open hx ht ho hm]
    simp [hb, hs]
  case last =>
    rw [Dev.asked, Dev.withSession_open hx ht ho hm]
    simp [hb, hs, h0]
  case other =>
    rw [Dev.asked, Dev.withSession_open hx ht ho hm]
    simp [hb, hn, hl]
  case busy =>
    rw [Dev.asked, Dev.withSession_open hx ht ho hm]
    exact if_pos hb
  case asks =>
    exact ⟨⟨_, rfl⟩, ⟨_, rfl⟩, ⟨_, rfl⟩, ⟨_, rfl⟩, ⟨_, rfl⟩, ⟨_, rfl⟩, fun _ => ⟨_, rfl⟩, ⟨_, rfl⟩, ⟨_, rfl⟩, ⟨_, rfl⟩, ⟨_, rfl⟩⟩
  case series =>
    exact Session.notify_series he

end Sys2Proof.Machine
end

section
/-! O50 and O51: the life of sessions and their entry operations. -/
namespace Sys2Proof.Machine

/-- The session found by a number carries it. -/
theorem Dev.session_num {d : Dev} {n : Nat} {x : Session} (h : d.session n = some x) : x.num = n := by
  simpa using List.find?_some h

/-- Settles O50: each command of a session is its effect on the table of sessions and its answer. -/
theorem sessionCommands : Obligations.SessionCommands := by
  unfold Obligations.SessionCommands
  intro s
  dsimp only
  refine ⟨fun t role slot ht => ⟨fun hr hf => ?opened, fun hr hf => ?full⟩,
    fun n proof x hx ht => ⟨fun ho => ?authOpen, fun ho hg => ?authGood, fun ho hg => ?authBad⟩,
    fun n x hx => ⟨?timeout, rfl, rfl, fun ht => ?resend⟩,
    fun m x hx => ⟨congrArg (ok s) (Dev.asked_turn hx _), congrArg (ok s) (Dev.asked_turn hx _),
      fun mask => congrArg (ok s) (Dev.asked_turn hx _)⟩,
    fun m x seq hx ht ho hm => congrArg (ok s) (Dev.withSession_open hx ht ho hm _), fun m hx hs => ?unknown, rfl, rfl, rfl⟩
  case opened =>
    refine congrArg (ok s) ((if_pos ht).trans ((if_neg ?_).trans (if_neg (by simp [hf]))))
    rcases hr with rfl | rfl <;> decide
  case full =>
    refine congrArg (ok s) ((if_pos ht).trans ((if_neg ?_).trans (if_pos (by simp [hf]))))
    rcases hr with rfl | rfl <;> decide
  case authOpen =>
    refine congrArg (ok s) ?_
    simp [hx, ht, ho]
  case authGood =>
    refine congrArg (ok s) ?_
    simp [hx, ht, ho, hg, Dev.authSession, Dev.session_num hx]
  case authBad =>
    refine congrArg (ok s) ?_
    simp [hx, ht, ho, hg, Dev.authSession, Dev.authFail, Dev.session_num hx]
  case timeout =>
    refine congrArg (ok s) ?_
    simp only [hx]
    rfl
  case resend =>
    refine congrArg (ok s) ?_
    simp [hx, ht]
  case unknown =>
    refine congrArg (ok s) ?_
    simp [Dev.asked, Dev.withSession, hx, hs]

/-! ## Entry operations -/

/-- A READ whose length is in range runs its entry's checks. -/
theorem execEnwaryRead_refused {s : State} {m : MsgHdr} {x : Session} (hx : s.dev.sessTurn m x) {len : Nat} (h1 : 1 ≤ len)
    (h2 : len ≤ 1024) {idx sub c : Nat} (hc : s.dev.readRefuse x.role idx sub = some c) (off : Nat) :
    exec (.enwaryRead m idx sub off len) s = ok s (s.dev.refuseOp m c idx sub) := by
  refine congrArg (ok s) ((Dev.asked_turn hx _).trans ((if_neg ?_).trans ?_))
  · simp
    omega
  · simp only [hc]

theorem execEnwaryRead_passed {s : State} {m : MsgHdr} {x : Session} (hx : s.dev.sessTurn m x) (hp : s.dev.provisioning x = false)
    {len : Nat} (h1 : 1 ≤ len) (h2 : len ≤ 1024) {idx sub : Nat} (hc : s.dev.readRefuse x.role idx sub = none) (off : Nat) :
    exec (.enwaryRead m idx sub off len) s = ok s (s.dev.readEntry m x idx sub off len) := by
  refine congrArg (ok s) ((Dev.asked_turn hx _).trans ((if_neg ?_).trans ?_))
  · simp
    omega
  · simp only [hc, hp, Bool.false_eq_true, if_false]

theorem Dev.writeEntry_now {d : Dev} {m : MsgHdr} {x : Session} {idx sub : Nat} {bs : List Byte}
    (hw : (d.odTry x.role (some x.num) idx sub bs).2 ≠ resultWaits) (a : List Byte) :
    d.writeEntry m x idx sub bs a =
      (d.odTry x.role (some x.num) idx sub bs).1.answer m ⟨(d.odTry x.role (some x.num) idx sub bs).2, a⟩ :=
  if_neg (by simpa using hw)

/-- Settles O51: each entry operation of a session whose turn has come. -/
theorem sessionEntries : Obligations.SessionEntries := by
  unfold Obligations.SessionEntries
  intro s m x idx sub
  dsimp only
  intro hx hp
  refine ⟨fun off len h1 h2 => ⟨fun c hc => ?refused, fun hr h0 => ?first, fun v hr h0 hv => ?later, fun hr h0 hv => ?none⟩,
    fun len hl => ?length, fun hc => ?clear, fun c hc => ?noClear, fun hi hs => ?describe, fun hi => ?noDescribe,
    fun first => congrArg (ok s) (Dev.asked_turn hx _), fun bs hl hw => ?write,
    fun total => ⟨fun hg => ?begin, fun c hg => ?noBegin⟩,
    fun g bs hg h1 h2 => ⟨fun hfit => ?data, fun off ho => ?order⟩, fun g crc hg => ⟨fun hn => ?short, fun he hw => ?whole⟩⟩
  case refused => exact execEnwaryRead_refused hx h1 h2 hc off
  case first =>
    rw [execEnwaryRead_passed hx hp h1 h2 hr, h0]
    rfl
  case later =>
    rw [execEnwaryRead_passed hx hp h1 h2 hr]
    simp [Dev.readEntry, h0, hv, readAnswer, ok]
  case none =>
    rw [execEnwaryRead_passed hx hp h1 h2 hr]
    simp [Dev.readEntry, h0, hv, Dev.refuseOp, ok]
  case length =>
    refine congrArg (ok s) ((Dev.asked_turn hx _).trans (if_pos ?_))
    simpa using hl
  case clear =>
    refine congrArg (ok s) ((Dev.asked_turn hx _).trans ?_)
    simp only [hc, hp, Bool.false_eq_true, if_false]
    rfl
  case noClear =>
    refine congrArg (ok s) ((Dev.asked_turn hx _).trans ?_)
    simp only [hc]
    rfl
  case describe =>
    refine congrArg (ok s) ((Dev.asked_turn hx _).trans ?_)
    simp [describeRefuse, hi, hs]
  case noDescribe =>
    refine congrArg (ok s) ((Dev.asked_turn hx _).trans ?_)
    simp [describeRefuse, hi, Dev.refuseOp]
  case write =>
    refine congrArg (ok s) ((Dev.asked_turn hx _).trans ?_)
    simp only [if_neg (Nat.not_lt.mpr hl), hp, Bool.false_and, Bool.false_eq_true, if_false]
    exact Dev.writeEntry_now hw _
  case begin =>
    refine congrArg (ok s) ((Dev.asked_turn hx _).trans ?_)
    simp only [hg]
  case noBegin =>
    refine congrArg (ok s) ((Dev.asked_turn hx _).trans ?_)
    simp only [hg]
    rfl
  case data =>
    refine congrArg (ok s) ((Dev.asked_turn hx _).trans ?_)
    simp [hg, Nat.not_lt.mpr h2, Nat.not_lt.mpr hfit, List.ne_nil_of_length_pos h1]
  case order =>
    refine congrArg (ok s) ((Dev.asked_turn hx _).trans ?_)
    simp [hg, Nat.not_lt.mpr h2, ho, List.ne_nil_of_length_pos h1]
    rfl
  case short =>
    refine congrArg (ok s) ((Dev.asked_turn hx _).trans ?_)
    simp [hg, hn]
    rfl
  case whole =>
    refine congrArg (ok s) ((Dev.asked_turn hx _).trans ?_)
    simp only [hg]
    exact (if_neg (by simp [he])).trans (Dev.writeEntry_now hw _)

end Sys2Proof.Machine
end

section
/-! O52: the mailbox of a function and writes of registers. -/
namespace Sys2Proof.Machine

/-! ## Operations of the mailbox -/

/-- A mailbox operation that Larkspur serves. -/
theorem Dev.mbOp_served {d : Dev} {f : FnId} (h : d.mbOpen f) (hs : d.served = true) (run : Dev → Dev) : d.mbOp f run = run d :=
  (Dev.mbOp_open h run).trans (if_pos hs)

/-- The entries that a partition writes are not cleared by reading them. -/
theorem entryAcc_partition (p : Nat) (hp : p < 64) : entryAcc (0x800 + p) 0x0B ≠ .rwc ∧ entryAcc (0x800 + p) 0x0D ≠ .rwc := by
  have hall : ∀ q : Fin 64, entryAcc (0x800 + q.val) 0x0B ≠ .rwc ∧ entryAcc (0x800 + q.val) 0x0D ≠ .rwc := by
    decide
  exact hall ⟨p, hp⟩

theorem mbRole_no_clear {d : Dev} {f : FnId} {idx sub : Nat} (hf : f.num < 64) (hw : roleMayWrite (d.mbRole f) idx sub = true) :
    entryAcc idx sub ≠ .rwc := by
  unfold Dev.mbRole at hw
  split at hw
  · exact absurd hw Bool.false_ne_true
  · simp only [roleMayWrite, partWrites, Bool.and_eq_true, Bool.or_eq_true, beq_iff_eq] at hw
    obtain ⟨rfl, rfl | rfl⟩ := hw
    · exact (entryAcc_partition f.num hf).1
    · exact (entryAcc_partition f.num hf).2

/-- No READ_CLEAR of a mailbox passes its checks. -/
theorem Dev.clearRefuse_mbRole (d : Dev) (f : FnId) (idx sub : Nat) (hf : f.num < 64) :
    ∃ c : Nat, 1 ≤ c ∧ c ≤ 5 ∧ d.clearRefuse (d.mbRole f) none idx sub = some c := by
  unfold Dev.clearRefuse
  split
  · exact ⟨1, by decide, by decide, rfl⟩
  split
  · exact ⟨2, by decide, by decide, rfl⟩
  split
  · exact ⟨3, by decide, by decide, rfl⟩
  split
  · exact ⟨4, by decide, by decide, rfl⟩
  next hw =>
    have hacc : (entryAcc idx sub != .rwc) = true := bne_iff_ne.mpr (mbRole_no_clear hf (by simpa using hw))
    exact ⟨5, by decide, by decide, if_pos hacc⟩

/-! ## Registers -/

/-- A write of exactly a register's bytes gives it their value. -/
theorem patch_whole (old reg : Nat) (bs : List Byte) (hb : bs ≠ []) : patch old bs.length reg reg bs = some (leNat bs) := by
  have hpos : 0 < bs.length := List.length_pos_iff.2 hb
  have hbytes : (List.range bs.length).map (fun i => if reg ≤ reg + i ∧ reg + i < reg + bs.length
      then bs.getD (reg + i - reg) 0 else (leBytes bs.length old).getD i 0) = bs := by
    refine List.ext_getElem (by simp) (fun i h1 h2 => ?_)
    simp [h2]
  rw [patch, hbytes, if_pos (by simp; omega)]

theorem patch_apart {old size reg off : Nat} {bs : List Byte} (h : off + bs.length ≤ reg ∨ reg + size ≤ off) :
    patch old size reg off bs = none := by
  refine if_neg ?_
  simp
  omega

theorem patchWith_apart {α : Type} {old size reg off : Nat} {bs : List Byte} (h : off + bs.length ≤ reg) (f : Nat → α → α) (x : α) :
    patchWith old size reg off bs f x = x := by
  rw [patchWith, patch_apart (Or.inl h)]

/-- The base of the admin submission queue written while the queue is off. -/
theorem AdmQ.regs_asqBase {q : AdmQ} (he : q.enable = false) {v : Nat} (hv : v < 2 ^ 64) :
    AdmQ.regs 0x1000 (leBytes 8 v) q = { q with asqBase := v } := by
  have hlen : (leBytes 8 v).length = 8 := length_leBytes 8 v
  have hbase : patch q.asqBase 8 0x1000 0x1000 (leBytes 8 v) = some v := by
    have h := patch_whole q.asqBase 0x1000 (leBytes 8 v) (List.ne_nil_of_length_pos (by omega))
    rw [hlen, leNat_leBytes, Nat.mod_eq_of_lt (by omega)] at h
    exact h
  have hbelow : ∀ reg : Nat, 0x1008 ≤ reg → 0x1000 + (leBytes 8 v).length ≤ reg := fun reg h => by omega
  simp only [AdmQ.regs, he, Bool.false_eq_true, if_false]
  rw [patchWith_apart (hbelow _ (by decide)), patchWith_apart (hbelow _ (by decide)), patchWith_apart (hbelow _ (by decide)),
    patchWith, hbase]
  dsimp only
  rw [he]

/-- The same through BAR0. -/
theorem Dev.registerWrite_asqBase {d : Dev} {f : FnId} (hb : d.barOpen f) (he : (d.fn f).aq.enable = false) {v : Nat}
    (hv : v < 2 ^ 64) :
    d.registerWrite (.bar0 f 0x1000) (leBytes 8 v) = d.setFn f { d.fn f with aq := { (d.fn f).aq with asqBase := v } } := by
  have hnat : naturalWrite 0x1000 (leBytes 8 v) = true := by
    simp only [naturalWrite, length_leBytes]
    decide
  have hregs : d.bar0Regs f 0x1000 (leBytes 8 v) = d.setFn f { d.fn f with aq := { (d.fn f).aq with asqBase := v } } := by
    rw [← AdmQ.regs_asqBase he hv]
    exact (if_neg (by simp [hnat])).trans (if_pos ⟨by decide, by decide⟩)
  obtain ⟨hup, hmse, hop⟩ := hb
  refine Eq.trans ?_ hregs
  simp [Dev.registerWrite, Dev.barPut, Dev.bar0Open, hup, hmse, hop]

theorem Dev.mbBarred_placeholder {d : Dev} {f : FnId} {idx : Nat} (hm : d.su.modState ≠ 3) (hp : d.placeholder f = true)
    (hi : idx ≠ 0x100) (read : Bool) : d.mbBarred f read idx = some 1 := by
  simp [Dev.mbBarred, hm, hp, hi]

/-- Settles O52: each mailbox operation by what bars it and what its entry answers; registers by what a write touches. -/
theorem mailboxAndRegisters : Obligations.MailboxAndRegisters := by
  unfold Obligations.MailboxAndRegisters
  intro s f idx sub
  dsimp only
  refine ⟨fun hf hs => ⟨fun h1 h2 => ⟨fun c hc => ?barred, fun hb hr => ?read⟩, fun h0 => ?empty,
      fun bs hl hb => ⟨fun hw => ?written, fun h0 hw => ?refused⟩, fun c hc => ?barClear, fun hn hb => ?clear, fun hb hi hsub => ?describe⟩,
    fun op c g => ⟨(Dev.mbEnd_frame ..).1, rfl⟩,
    fun hm hp hi => ⟨Dev.mbBarred_placeholder hm hp hi true, Dev.mbBarred_placeholder hm hp hi false⟩,
    fun r bs hmay => congrArg (ok s) (Dev.entryWrite_may hmay (fun d => d.odWrite r idx sub bs)), fun v hb he hv => ?asq,
    fun off bs => ⟨fun h => congrArg (ok s) (if_pos h), fun h => congrArg (ok s) (if_neg (by simp [h])),
      fun h => congrArg (ok s) (if_pos h), fun h => congrArg (ok s) (if_neg (by simp [h]))⟩⟩
  case barred =>
    refine congrArg (ok s) ((Dev.mbOp_served hf hs _).trans ((if_neg ?_).trans ?_))
    · simp
      omega
    · simp only [hc]
  case read =>
    refine congrArg (ok s) ((Dev.mbOp_served hf hs _).trans ((if_neg ?_).trans ?_))
    · simp
      omega
    · simp only [hb, hr]
  case empty => exact congrArg (ok s) ((Dev.mbOp_served hf hs _).trans (if_pos (by simp [h0])))
  case written =>
    refine congrArg (ok s) ((Dev.mbOp_served hf hs _).trans ((Dev.mbWriteRun_tried hl hb).trans ?_))
    simp only [hw, resultWaits]
    rfl
  case refused =>
    refine congrArg (ok s) ((Dev.mbOp_served hf hs _).trans ((Dev.mbWriteRun_tried hl hb).trans ?_))
    exact (if_neg (by simpa using hw)).trans (if_neg (by simpa using h0))
  case barClear =>
    refine congrArg (ok s) ((Dev.mbOp_served hf hs _).trans ?_)
    simp only [Dev.mbClearRun, hc]
  case clear =>
    obtain ⟨c, h1, h5, hc⟩ := s.dev.clearRefuse_mbRole f idx sub hn
    refine ⟨c, h1, h5, hc, congrArg (ok s) ((Dev.mbOp_served hf hs _).trans ?_)⟩
    simp only [Dev.mbClearRun, hb, hc]
  case describe =>
    refine congrArg (ok s) ((Dev.mbOp_served hf hs _).trans ?_)
    simp [Dev.mbDescribeRun, hb, describeRefuse, hi, hsub]
  case asq =>
    refine ⟨_, congrArg (ok s) (Dev.registerWrite_asqBase hb he hv), ?_, rfl⟩
    rw [Dev.fn_setFn_self]

end Sys2Proof.Machine
end

section
/-! O53: MCTP control, PLDM and SPDM. -/
namespace Sys2Proof.Machine

theorem Dev.whenServed_on {d : Dev} (h : d.served = true) (f : Dev → Dev) : d.whenServed f = f d := if_pos h

theorem Dev.whenServed_off {d : Dev} (h : d.served = false) (f : Dev → Dev) : d.whenServed f = d := if_neg (by simp [h])

theorem Dev.spdmAt_reached {d : Dev} (h : d.served = true) {need : Nat} (hn : need ≤ d.mg.spdm) (cmd : Nat) (f : Dev → Dev) :
    d.spdmAt need cmd f = f d := (Dev.whenServed_on h _).trans (if_pos hn)

theorem Dev.spdmAt_early {d : Dev} (h : d.served = true) {need : Nat} (hn : d.mg.spdm < need) (cmd : Nat) (f : Dev → Dev) :
    d.spdmAt need cmd f = d.mctp 5 cmd 4 [] := (Dev.whenServed_on h _).trans (if_neg (by omega))

theorem eidGood_of {e : Nat} (h1 : 1 ≤ e) (h2 : e ≤ 254) : eidGood e = true := by
  simp only [eidGood, Bool.and_eq_true, bne_iff_ne, decide_eq_true_eq]
  omega

/-- A sensor of the repository is answered. -/
theorem sensor_known {i : Nat} (h1 : 1 ≤ i) (h2 : i ≤ 10) : (i == 0 || decide (10 < i)) = false := by
  simp
  omega

/-- Settles O53: each command that Larkspur serves is its answer; one that SPDM is not ready for is UnexpectedRequest. -/
theorem managementNetwork : Obligations.ManagementNetwork := by
  unfold Obligations.ManagementNetwork
  intro s
  dsimp only
  refine ⟨fun h => ?_, fun h => ⟨congrArg (ok s) (Dev.whenServed_off h _), congrArg (ok s) (Dev.whenServed_off h _),
    congrArg (ok s) (Dev.whenServed_off h _)⟩⟩
  have plain : ∀ f : Dev → Dev, ok s (s.dev.whenServed f) = ok s (f s.dev) := fun f => congrArg (ok s) (Dev.whenServed_on h f)
  refine ⟨fun a => plain _, fun op e hop h1 h2 => (plain _).trans ?setEid, fun op => (plain _).trans ?badEid, plain _, plain _,
    plain _, plain _, plain _, plain _, plain _, fun t h1 h2 => (plain _).trans ?setTid, fun t ht => (plain _).trans ?version,
    plain _, plain _, ⟨_, plain _, rfl⟩, fun i h1 h2 => (plain _).trans ?record, fun i h1 => (plain _).trans ?noRecord,
    fun i h1 h2 => ⟨⟨_, (plain _).trans (congrArg (ok s) (if_neg (by simp [sensor_known h1 h2]))), rfl⟩,
      ⟨_, (plain _).trans (congrArg (ok s) (if_neg (by simp [sensor_known h1 h2]))), ?ratings⟩⟩, plain _,
    fun e h1 h2 => (plain _).trans ?receiver, plain _, fun hs => congrArg (ok s) (Dev.spdmAt_reached h hs 0xE1 _),
    fun hs => congrArg (ok s) (Dev.spdmAt_reached h hs 0xE3 _),
    fun hs => ⟨congrArg (ok s) (Dev.spdmAt_reached h hs 0x81 _), fun off len ho => ?certificate,
      fun n => ⟨_, congrArg (ok s) (Dev.spdmAt_reached h hs 0x83 _)⟩, fun op n sign hop => ⟨_, congrArg (ok s)
        ((Dev.spdmAt_reached h hs 0xE0 _).trans (if_neg ?measured))⟩⟩,
    fun hs => ⟨congrArg (ok s) (Dev.spdmAt_early h hs 0x81 _), fun op n sign => congrArg (ok s) (Dev.spdmAt_early h hs 0xE0 _)⟩⟩
  case setEid =>
    refine congrArg (ok s) ((if_pos ?_).trans ?_)
    · simp [hop, eidGood_of h1 h2]
    · simp [Dev.setEid]
  case badEid => exact congrArg (ok s) (if_neg (by simp [eidGood]))
  case setTid => exact congrArg (ok s) (if_pos (eidGood_of h1 h2))
  case version => exact congrArg (ok s) (if_pos (by simpa using ht))
  case record =>
    refine congrArg (ok s) ?_
    have h0 : (i == 0) = false := by simp; omega
    simp [h0, h2]
  case noRecord =>
    refine congrArg (ok s) ?_
    have h0 : (i == 0) = false := by simp; omega
    simp [h0, Nat.not_le.mpr h1]
  case ratings => simp [length_leBytes, show List.range 6 = [0, 1, 2, 3, 4, 5] from rfl]
  case receiver =>
    refine congrArg (ok s) ?_
    simp [eidGood_of h1 h2]
  case certificate =>
    refine congrArg (ok s) ((Dev.spdmAt_reached h hs 0x82 _).trans (if_neg ?_))
    simpa using ho
  case measured =>
    rcases hop with hop | rfl
    · by_cases h0 : op = 0
      · simp [h0]
      · have h1 : 1 ≤ op := Nat.pos_of_ne_zero h0
        have h255 : op ≠ 255 := by omega
        simp [h1, hop, h255]
    · decide

end Sys2Proof.Machine
end

section
/-! What a reset of the module does to each part of the device: notifications, waiting writers of ENABLE and the crosspoint leave
everything else unchanged, and what follows is written out by the reset itself. -/
namespace Sys2Proof.Machine

variable {β : Type}

/-- A part of the device that notifications and answers to waiting writers do not touch. -/
structure NoteBlind (part : Dev → β) : Prop where
  mg : ∀ (d : Dev) (x : Mg), part { d with mg := x } = part d
  emit : ∀ (d : Dev) (o : Out), part (d.emit o) = part d
  dropped : ∀ d : Dev, part (d.inc K.notifyDropped) = part d

namespace NoteBlind

variable {part : Dev → β} (hp : NoteBlind part)
include hp

theorem notifyOne (cls idx sub data : Nat) (d : Dev) (x : Session) : part (Dev.notifyOne cls idx sub data d x) = part d := by
  unfold Dev.notifyOne
  dsimp only
  split
  · rw [hp.emit, hp.mg]
  · split
    · rw [hp.dropped, hp.mg]
    · rw [hp.mg]

theorem notify (d : Dev) (cls idx sub data : Nat) : part (d.notify cls idx sub data) = part d :=
  foldl_keeps part (hp.notifyOne cls idx sub data) _ d

theorem askerAnswer (hfn : ∀ (d : Dev) (f : FnId) (x : Fn), part (d.setFn f x) = part d) (d : Dev) (p code : Nat) (a : Asker) :
    part (d.askerAnswer p code a) = part d := by
  cases a with
  | row => exact hp.emit ..
  | mbox f => exact (hp.emit ..).trans (hfn ..)
  | sess n seq => exact (hp.emit ..).trans (hp.mg ..)

theorem dropKeyWaits (hfn : ∀ (d : Dev) (f : FnId) (x : Fn), part (d.setFn f x) = part d) (d : Dev) (p : Nat → Bool) :
    part (d.dropKeyWaits p) = part { d with su := { d.su with keyWaits := d.su.keyWaits.filter (fun e => !p e.1) } } :=
  by
  unfold Dev.dropKeyWaits
  exact foldl_keeps part (fun t (e : Nat × Asker) => hp.askerAnswer hfn t e.1 0x08 e.2) _ _

theorem baySignal (hb : ∀ (d : Dev) (b : Nat) (x : Bay), part (d.setBay b x) = part d) (d : Dev) (b bitNo enable : Nat) :
    part (d.baySignal b bitNo enable) = part d := by
  unfold Dev.baySignal
  dsimp only
  split
  · rw [hp.notify, hb]
  · exact hb ..

end NoteBlind

/-- A part of the device that the crosspoint and the trainings of links do not touch. -/
structure LinkBlind (part : Dev → β) : Prop where
  port : ∀ (d : Dev) (p : Nat) (x : Port), part (d.setPort p x) = part d
  emit : ∀ (d : Dev) (o : Out), part (d.emit o) = part d
  closed : ∀ (d : Dev) (v : Nat), part (d.wr K.bypassClosed v) = part d
  downs : ∀ (d : Dev) (p : Nat), p = 22 ∨ p = 23 → part (d.inc (K.linkDowns + p)) = part d

namespace LinkBlind

variable {part : Dev → β} (hp : LinkBlind part)
include hp

theorem startTraining (d : Dev) (p : Nat) : part (d.startTraining p) = part d := by
  unfold Dev.startTraining
  dsimp only
  split
  · rfl
  split
  · exact hp.port ..
  · rw [hp.emit, hp.port]

/-- A ring port whose link the crosspoint breaks. -/
theorem broken (d : Dev) (p : Nat) (h : p = 22 ∨ p = 23) :
    part ((if d.linkUp p then d.inc (K.linkDowns + p) else d).setPort p
      (((if d.linkUp p then d.inc (K.linkDowns + p) else d).port p).drop .down)) = part d := by
  rw [hp.port]
  split
  · exact hp.downs d p h
  · rfl

theorem updBypass (d : Dev) : part d.updBypass = part d := by
  unfold Dev.updBypass
  dsimp only
  split
  · rfl
  split
  · rw [hp.startTraining, hp.startTraining, List.foldl_cons, List.foldl_cons, List.foldl_nil, hp.port, hp.port, hp.emit, hp.closed]
  · rw [List.foldl_cons, List.foldl_cons, List.foldl_nil, hp.broken _ 23 (.inr rfl), hp.broken _ 22 (.inl rfl), hp.emit, hp.closed]

end LinkBlind

theorem noteBlind_su : NoteBlind Dev.su := ⟨fun _ _ => rfl, fun _ _ => rfl, fun _ => rfl⟩
theorem linkBlind_su : LinkBlind Dev.su := ⟨fun _ _ _ => rfl, fun _ _ => rfl, fun _ _ => rfl, fun _ _ _ => rfl⟩
theorem noteBlind_mm : NoteBlind Dev.mm := ⟨fun _ _ => rfl, fun _ _ => rfl, fun _ => rfl⟩
theorem linkBlind_mm : LinkBlind Dev.mm := ⟨fun _ _ _ => rfl, fun _ _ => rfl, fun _ _ => rfl, fun _ _ _ => rfl⟩

/-- An entry that neither a notification nor the crosspoint counts in. -/
theorem noteBlind_rd {k : Nat} (h : k ≠ K.notifyDropped) : NoteBlind (fun d => d.rd k) :=
  ⟨fun _ _ => rfl, fun _ _ => rfl, fun d => Dev.rd_inc_ne d h⟩

theorem linkBlind_rd {k : Nat} (h1 : k ≠ K.bypassClosed) (h2 : k ≠ K.linkDowns + 22) (h3 : k ≠ K.linkDowns + 23) :
    LinkBlind (fun d => d.rd k) := by
  refine ⟨fun _ _ _ => rfl, fun _ _ => rfl, fun d v => Dev.rd_wr_ne d v h1, fun d p hp => ?_⟩
  rcases hp with rfl | rfl
  · exact Dev.rd_inc_ne d h2
  · exact Dev.rd_inc_ne d h3

/-! ## The state of the module -/

theorem Dev.setModule_su (d : Dev) (v : Nat) : (d.setModule v).su = { d.su with modState := v } := by
  unfold Dev.setModule
  split
  next h =>
    have h' : d.su.modState = v := by simpa using h
    rw [← h']
  next => exact noteBlind_su.notify ..

theorem NoteBlind.setModule {part : Dev → β} (hp : NoteBlind part) (hsu : ∀ (d : Dev) (x : Su), part { d with su := x } = part d)
    (d : Dev) (v : Nat) : part (d.setModule v) = part d := by
  unfold Dev.setModule
  split
  · rfl
  · rw [hp.notify, hsu]

/-- What a reset leaves of the start-up state. -/
theorem Dev.moduleReset_su (d : Dev) :
    d.moduleReset.su = { d.su with
      modState := 0, stage := 0, keyWaits := [], upd := none, rcmd := 0, rarg0 := 0, rarg1 := 0, rresult := 0, rbuf := [],
      romOpen := false, pairPeer := [], keys := [], entropyBad := false, recRestart := false } := by
  have hkeys : ((d.setModule 0).dropKeyWaits (fun _ => true)).su = { d.su with modState := 0, keyWaits := [] } := by
    rw [noteBlind_su.dropKeyWaits (fun _ _ _ => rfl)]
    simp [Dev.setModule_su]
  simp only [Dev.moduleReset, linkBlind_su.updBypass, hkeys]

/-- The memory that a reset leaves: what flash has retired. -/
theorem Dev.moduleReset_mm (d : Dev) : d.moduleReset.mm = { Mm.reset with flashRetired := d.mm.flashRetired } := by
  have hmm : ∀ t : Dev, (t.updBypass).mm = t.mm := linkBlind_mm.updBypass
  simp only [Dev.moduleReset, hmm]
  rw [noteBlind_mm.dropKeyWaits (fun _ _ _ => rfl)]
  dsimp only
  rw [noteBlind_mm.setModule (fun _ _ => rfl)]

/-- An entry that persists, and that neither a notification nor the crosspoint counts in, keeps its value across a reset. -/
theorem Dev.moduleReset_rd {k : Nat} (d : Dev) (hk : persists k = true) (h0 : k ≠ K.notifyDropped) (h1 : k ≠ K.bypassClosed)
    (h2 : k ≠ K.linkDowns + 22) (h3 : k ≠ K.linkDowns + 23) : d.moduleReset.rd k = d.rd k := by
  have hfilter : ∀ (t : Dev) (u : Dev), u.od = t.od.filter (fun e => persists e.1) → u.rd k = t.rd k := by
    intro t u hu
    rw [Dev.rd, hu, kfind_filter_of (fun _ => hk), Dev.rd]
  rw [hfilter _ d.moduleReset rfl]
  refine ((linkBlind_rd h1 h2 h3).updBypass _).trans ?_
  refine ((noteBlind_rd h0).dropKeyWaits (fun _ _ _ => rfl) _ _).trans ?_
  exact (noteBlind_rd h0).setModule (fun _ _ => rfl) d 0

end Sys2Proof.Machine
end

section
/-! O54: starts, failed starts, PERST# and the stages. -/
namespace Sys2Proof.Machine

variable {β : Type}

/-! ## The beginning of a start -/

/-- A part of the device that the choice of what a start runs does not touch. -/
structure StartBlind (part : Dev → β) : Prop where
  su : ∀ (d : Dev) (x : Su), part { d with su := x } = part d
  mg : ∀ (d : Dev) (x : Mg), part { d with mg := x } = part d
  wr : ∀ (d : Dev) (k v : Nat), part (d.wr k v) = part d
  emit : ∀ (d : Dev) (o : Out), part (d.emit o) = part d
  drawn : ∀ d : Dev, part d.drawn = part d

namespace StartBlind

variable {part : Dev → β} (hp : StartBlind part)
include hp

theorem note : NoteBlind part := ⟨hp.mg, hp.emit, fun d => hp.wr d _ _⟩

theorem inc (d : Dev) (k : Nat) : part (d.inc k) = part d := hp.wr d k _

theorem slotTo (d : Dev) (n : Nat) (st : SlotSt) : part (d.slotTo n st) = part d := hp.su ..

theorem chooseSlot (d : Dev) : part d.chooseSlot.1 = part d := by
  unfold Dev.chooseSlot
  split
  · dsimp only
    split
    · exact hp.slotTo ..
    · rfl
  · split
    · exact hp.slotTo ..
    · rfl

theorem course (d : Dev) : part d.course.1 = part d := by
  unfold Dev.course
  split
  · rfl
  split
  · rfl
  dsimp only
  split
  · exact hp.chooseSlot d
  split
  · exact (hp.wr ..).trans (hp.chooseSlot d)
  · exact hp.chooseSlot d

theorem runImage (d : Dev) (img : Option (Nat × Nat)) : part (d.runImage img) = part d := by
  unfold Dev.runImage
  split
  · rfl
  · exact (hp.mg { d with su := { d.su with lark := img } } _).trans (hp.su ..)

theorem setModule (d : Dev) (v : Nat) : part (d.setModule v) = part d := hp.note.setModule hp.su d v

end StartBlind

theorem startBlind_mm : StartBlind Dev.mm := ⟨fun _ _ => rfl, fun _ _ => rfl, fun _ _ _ => rfl, fun _ _ => rfl, fun _ => rfl⟩

/-- The device with the slot of an update under way empty. -/
def Dev.updateDropped (d : Dev) : Dev :=
  match d.su.upd with
  | some u => d.setImgSlot u.slot Slot.reset
  | none => d

/-- What a start keeps of the reset that it begins with. -/
theorem StartBlind.beginStart {part : Dev → β} (hp : StartBlind part) (d : Dev) :
    part d.beginStart = part d.updateDropped.moduleReset := by
  unfold Dev.beginStart
  have hbody : ∀ (t : Dev) (b : Bool), part (if b then t.emit (.pin 1 false) else t) = part t := by
    intro t b
    cases b with
    | true => exact hp.emit ..
    | false => rfl
  dsimp only
  have hset : ∀ (t : Dev) (v : Nat), part ((((t.wr K.memDerate 0).wr K.mclkDiv v).wr K.thermalTripped 0).course.1) = part t := by
    intro t v
    rw [hp.course, hp.wr, hp.wr, hp.wr]
  rw [hbody, hp.setModule, hp.su, hp.su, hp.drawn]
  split
  · rw [hp.runImage, hp.inc, hp.inc, hp.wr, hset]
    rfl
  · rw [hp.runImage, hp.inc, hp.wr, hset]
    rfl

/-- What a start keeps of its reset: nothing of the queues and functions that were. -/
theorem Dev.beginStart_emptied (d : Dev) :
    d.beginStart.mm = { Mm.reset with flashRetired := d.mm.flashRetired } ∧ d.beginStart.chs = Chs.reset ∧
    d.beginStart.coh = Coh.reset ∧ d.beginStart.fns = [] ∧ d.beginStart.tags = [] := by
  have hmm : d.updateDropped.mm = d.mm := by
    unfold Dev.updateDropped
    split
    · rfl
    · rfl
  refine ⟨?_, StartBlind.beginStart (part := Dev.chs) ?_ d, StartBlind.beginStart (part := Dev.coh) ?_ d,
    StartBlind.beginStart (part := Dev.fns) ?_ d, StartBlind.beginStart (part := Dev.tags) ?_ d⟩
  · rw [startBlind_mm.beginStart, Dev.moduleReset_mm, hmm]
  all_goals exact ⟨fun _ _ => rfl, fun _ _ => rfl, fun _ _ _ => rfl, fun _ _ => rfl, fun _ => rfl⟩

/-- A start shows MODULE_STATE 1 and its first stage. -/
theorem Dev.beginStart_su (d : Dev) :
    d.beginStart.su.modState = 1 ∧ d.beginStart.su.stage = 1 ∧ d.beginStart.su.retry = false := by
  have hif : ∀ (b : Bool) (t : Dev), (if b then t.emit (.pin 1 false) else t).su = t.su := by
    intro b t
    cases b with
    | true => rfl
    | false => rfl
  simp only [Dev.beginStart, hif, Dev.setModule_su, and_self]

/-! ## A start that fails, and PERST# -/

/-- The device of a failed start before its reset. -/
def Dev.failed (d : Dev) (reason : Nat) : Dev :=
  let n := d.su.runSlot
  let d1 := d.wr K.lastFailReason reason
  if d.su.snow then d1
  else if !d.su.snow && d1.slotIs n .trial then d1.slotTo n .failedTrial
  else if reason == 3 || reason == 4 then
    (let d2 := d1.slotTo n .invalid
     if d2.slotIs (1 - n) .valid then d2.wr K.activeSlot (1 - n) else d2)
  else d1

theorem Dev.failed_reason (d : Dev) (reason : Nat) : (d.failed reason).rd K.lastFailReason = reason := by
  have hwr : (d.wr K.lastFailReason reason).rd K.lastFailReason = reason := Dev.rd_wr_self ..
  unfold Dev.failed
  dsimp only
  split
  · exact hwr
  split
  · exact hwr
  split
  · split
    · exact (Dev.rd_wr_ne _ _ (by decide)).trans hwr
    · exact hwr
  · exact hwr

/-- A failed start resets the module and waits for its retry. -/
theorem Dev.startFail_reset (d : Dev) (reason : Nat) : ∃ trial : Bool,
    d.startFail reason = { (d.failed reason).moduleReset with
      su := { (d.failed reason).moduleReset.su with retry := true, priorFailed := true, priorTrial := trial } } := ⟨_, rfl⟩

theorem Dev.startFail_facts (d : Dev) (c : Nat) :
    (d.startFail c).su.retry = true ∧ (d.startFail c).su.priorFailed = true ∧ (d.startFail c).rd K.lastFailReason = c ∧
    (d.startFail c).su.modState = 0 ∧ (d.startFail c).ports = [] := by
  obtain ⟨trial, h⟩ := d.startFail_reset c
  rw [h]
  refine ⟨rfl, rfl, ?_, ?_, rfl⟩
  · exact (Dev.moduleReset_rd (d.failed c) (by decide) (by decide) (by decide) (by decide) (by decide)).trans (Dev.failed_reason d c)
  · exact congrArg Su.modState (Dev.moduleReset_su (d.failed c))

theorem Dev.perstOn_facts (d : Dev) : d.perstOn.su.modState = 0 ∧ d.perstOn.su.perst = true ∧ d.perstOn.fns = [] := by
  refine ⟨?_, ?_, rfl⟩
  · exact congrArg Su.modState (Dev.moduleReset_su _)
  · exact congrArg Su.perst (Dev.moduleReset_su _)

/-! ## The stages -/

theorem evBlind_su : EvBlind Dev.su := ⟨fun _ _ _ => rfl, fun _ _ => rfl, fun _ _ => rfl, fun _ _ => rfl⟩

@[simp] theorem Dev.startTraining_su (d : Dev) (p : Nat) : (d.startTraining p).su = d.su := linkBlind_su.startTraining d p
@[simp] theorem Dev.updBypass_su (d : Dev) : d.updBypass.su = d.su := linkBlind_su.updBypass d

theorem Dev.stagePackage_su (d : Dev) (bad : List Nat) : (d.stagePackage bad).su = d.su := by
  unfold Dev.stagePackage
  dsimp only
  refine (foldl_keeps Dev.su (fun t (e : Nat × Nat) => Dev.setClu_su t e.2 _) _ _).trans ?_
  exact foldl_keeps Dev.su (fun t c => Dev.setClu_su t c _) _ d

theorem Dev.setReady_su (d : Dev) (b : Nat) (v : Bool) : (d.setReady b v).su = d.su := by
  unfold Dev.setReady
  dsimp only
  split
  · rfl
  · exact noteBlind_su.baySignal (fun _ _ _ => rfl) ..

theorem Dev.stageBay_su (d : Dev) (b : Nat) : (d.stageBay b).su = d.su := by
  unfold Dev.stageBay
  split
  · rfl
  · exact Dev.setReady_su ..

theorem Dev.chargeTier_su (d : Dev) (t : Tier) (w : Bool) (c n : Nat) : (d.chargeTier t w c n).su = d.su := by
  unfold Dev.chargeTier
  split
  · rfl
  · rfl

theorem Dev.relocate_su (d : Dev) (f : Nat) : (d.relocate f).su = d.su := by
  unfold Dev.relocate
  split
  · rfl
  · exact (evBlind_su.post ..).trans ((Dev.chargeTier_su ..).trans (Dev.chargeTier_su ..))

theorem Dev.finishDeadhead_su (d : Dev) : d.finishDeadhead.su = d.su := by
  unfold Dev.finishDeadhead
  refine foldl_keeps Dev.su (fun t (e : Nat) => ?_) _ d
  dsimp only
  split
  · exact Dev.relocate_su ..
  · rfl

theorem Dev.stageOperational_facts (d : Dev) :
    d.stageOperational.su.modState = 2 ∧ d.stageOperational.su.stage = 7 ∧ d.stageOperational.rd K.startFailCount = 0 := by
  have hcount : ∀ (b : Bool) (t : Dev) (n : Nat), t.rd K.startFailCount = 0 →
      (if b then (t.slotTo n .valid).wr K.activeSlot n else t).rd K.startFailCount = 0 := by
    intro b t n ht
    cases b with
    | true => exact (Dev.rd_wr_ne _ _ (by decide)).trans ht
    | false => exact ht
  refine ⟨?_, ?_, ?_⟩
  · simp only [Dev.stageOperational, Dev.setModule_su]
  · simp only [Dev.stageOperational, Dev.setModule_su]
  · unfold Dev.stageOperational
    refine ((noteBlind_rd (by decide)).setModule (fun _ _ => rfl) _ 2).trans ?_
    exact hcount _ _ _ ((Dev.rd_wr_ne _ _ (by decide)).trans (Dev.rd_wr_self ..))

theorem Dev.stageDone_facts (d : Dev) (l : List Nat) :
    (d.su.stage = 1 → d.su.snow = false → (d.stageDone l).su.mains = true ∧ (d.stageDone l).su.stage = 2) ∧
    (d.su.stage = 1 → d.su.snow = true → (d.stageDone l).su.modState = 3 ∧ (d.stageDone l).su.romOpen = true) ∧
    (d.su.stage = 2 → (d.stageDone l).su.stage = 3) ∧ (d.su.stage = 3 → (d.stageDone l).su.stage = 4) ∧
    (d.su.stage = 4 → (d.stageDone l).su.stage = 5) ∧ (d.su.stage = 5 → (d.stageDone l).su.stage = 6) ∧
    (d.su.stage = 6 → (d.stageDone l).su.modState = 2 ∧ (d.stageDone l).su.stage = 7 ∧
      (d.stageDone l).rd K.startFailCount = 0) := by
  refine ⟨fun h hs => ?power, fun h hs => ?snow, fun h => ?ports, fun h => ?package, fun h => ?memory, fun h => ?services,
    fun h => ?operational⟩
  case power => simp [Dev.stageDone, h, hs]
  case snow => simp [Dev.stageDone, h, hs, Dev.setModule_su]
  case ports =>
    simp only [Dev.stageDone, h]
    rw [foldl_keeps Dev.su Dev.startTraining_su]
  case package => simp only [Dev.stageDone, h, Dev.stagePackage_su]
  case memory =>
    simp only [Dev.stageDone, h]
    rw [foldl_keeps Dev.su Dev.stageBay_su, h]
  case services =>
    simp only [Dev.stageDone, h, Dev.updBypass_su, Dev.stageServices, Dev.finishDeadhead_su]
  case operational =>
    have hrun : d.stageDone l = d.stageOperational := by simp only [Dev.stageDone, h]
    rw [hrun]
    exact d.stageOperational_facts

/-- Settles O54: each command by the state it meets, and what a start, a failure and a stage leave. -/
theorem startCourse : Obligations.StartCourse := by
  unfold Obligations.StartCourse
  intro s role
  dsimp only
  refine ⟨fun hp => ⟨congrArg (ok s) (if_pos hp), ?deassert⟩, fun hp => ⟨congrArg (ok s) (if_neg (by simp [hp])), ?released⟩,
    fun hm => ⟨fun h1 hp => ?restart, fun h => ?busy⟩, fun hm => ?failCount, fun h1 => ?starting, fun h1 => ?idle,
    fun hr hp hs => congrArg (ok s) (if_pos (by simp [hr, hp, hs])), fun hr => congrArg (ok s) (if_neg (by simp [hr])), ?begun,
    fun c => Dev.startFail_facts s.dev c, Dev.perstOn_facts s.dev, fun l => Dev.stageDone_facts s.dev l⟩
  case deassert =>
    refine congrArg (ok s) ?_
    simp [hp]
  case released =>
    refine congrArg (ok s) ?_
    simp [hp]
  case restart =>
    refine congrArg (ok s) ((Dev.scalarWrite_may hm (fun d => d.wRestart 1)).trans ?_)
    have hb : (s.dev.starting || s.dev.su.perst) = false := by simp [Dev.starting, h1, hp]
    simp only [Dev.wRestart, hb]
    rfl
  case busy =>
    refine congrArg (ok s) ((Dev.scalarWrite_may hm (fun d => d.wRestart 1)).trans ?_)
    have hb : (s.dev.starting || s.dev.su.perst) = true := by simpa [Dev.starting] using h
    simp only [Dev.wRestart, hb]
    rfl
  case failCount => exact congrArg (ok s) (Dev.scalarWrite_may hm (fun d => d.wStartFailCount 0))
  case starting =>
    have hs : s.dev.starting = true := by simp [Dev.starting, h1]
    exact ⟨fun c => congrArg (ok s) (if_neg (by simp [hs])), fun l => congrArg (ok s) (if_neg (by simp [hs])),
      congrArg (ok s) (if_pos hs), congrArg (ok s) (if_pos hs)⟩
  case idle =>
    have hs : s.dev.starting = false := by simp [Dev.starting, h1]
    exact ⟨congrArg (ok s) (if_neg (by simp [hs])), congrArg (ok s) (if_neg (by simp [hs])),
      fun r => congrArg (ok s) (if_pos (by simp [hs]))⟩
  case begun =>
    obtain ⟨hmod, hstage, hretry⟩ := s.dev.beginStart_su
    obtain ⟨hmm, hchs, hcoh, hfns, htags⟩ := s.dev.beginStart_emptied
    exact ⟨hmod, hstage, hretry, hmm, hchs, hcoh, hfns, htags⟩

end Sys2Proof.Machine
end

section
/-! O56: power and thermal events. -/
namespace Sys2Proof.Machine

variable {β : Type}

/-! ## The main rails -/

theorem Dev.railsDown_idle {d : Dev} (hm : d.su.mains = false) (hs : d.su.modState ≠ 1) : d.railsDown = d :=
  if_pos (by simp [Dev.starting, hm, hs])

/-- What is left when the main rails go down. -/
theorem Dev.railsDown_facts {d : Dev} (hm : d.su.mains = true) :
    d.railsDown.su.mains = false ∧ d.railsDown.su.modState = 0 ∧ d.railsDown.fns = [] ∧ d.railsDown.su.retry = false := by
  have hdown : d.railsDown = _ := if_neg (by simp [hm])
  rw [hdown]
  dsimp only
  rw [if_pos hm, Dev.moduleReset_su]
  exact ⟨rfl, rfl, rfl, rfl⟩

theorem Dev.railsDown_standby (d : Dev) : d.railsDown.su.standby = d.su.standby := by
  unfold Dev.railsDown
  split
  · rfl
  · dsimp only
    rw [Dev.moduleReset_su]
    split
    · rfl
    · rfl

theorem noteBlind_er : NoteBlind Dev.er := ⟨fun _ _ => rfl, fun _ _ => rfl, fun _ => rfl⟩
theorem linkBlind_er : LinkBlind Dev.er := ⟨fun _ _ _ => rfl, fun _ _ => rfl, fun _ _ => rfl, fun _ _ _ => rfl⟩

theorem Dev.moduleReset_nor (d : Dev) : d.moduleReset.er.nor = d.er.nor := by
  have her : ∀ t : Dev, t.updBypass.er = t.er := linkBlind_er.updBypass
  simp only [Dev.moduleReset, her]
  rw [noteBlind_er.dropKeyWaits (fun _ _ _ => rfl)]
  dsimp only
  rw [noteBlind_er.setModule (fun _ _ => rfl)]

/-- Standby power lost ends what Larkspur holds; the log of SPI NOR is what is left of the log. -/
theorem execStandbyPowerLoss_facts (s : State) : ∃ t : Dev, exec .standbyPowerLoss s = ok s t ∧
    (s.dev.su.standby = true → t.mg = Mg.reset ∧ t.pw = Pw.reset ∧ t.su.standby = false ∧ t.served = false ∧
      (s.dev.su.mains = false → s.dev.su.modState ≠ 1 → t.er.log = s.dev.er.nor)) := by
  refine ⟨_, rfl, fun hs => ?_⟩
  rw [← Dev.railsDown_standby] at hs
  rw [if_neg (by simp [hs])]
  refine ⟨rfl, rfl, rfl, rfl, fun hm h1 => ?_⟩
  rw [Dev.railsDown_idle hm h1]
  exact Dev.moduleReset_nor s.dev

/-! ## The throttle level -/

theorem Dev.throttleLevel_le (d : Dev) : d.throttleLevel ≤ 3 := Nat.min_le_left ..

theorem le_foldl_max {α : Type} (f : α → Nat) (l : List α) (n : Nat) : n ≤ l.foldl (fun m e => Max.max m (f e)) n := by
  induction l generalizing n with
  | nil => exact Nat.le_refl n
  | cons e l ih => exact Nat.le_trans (Nat.le_max_left n (f e)) (ih _)

theorem Dev.throttleForce_le (d : Dev) (h : d.rd K.throttleForce ≤ 3) : d.rd K.throttleForce ≤ d.throttleLevel :=
  Nat.le_min.mpr ⟨h, Nat.le_trans (Nat.le_max_right ..) (le_foldl_max ..)⟩

/-- What the throttle level is brought in line by: two entries. -/
structure ThrottleBlind (part : Dev → β) : Prop where
  level : ∀ (d : Dev) (v : Nat), part (d.wr K.throttleLevel v) = part d
  events : ∀ d : Dev, part (d.inc K.throttleEvents) = part d

theorem ThrottleBlind.updThrottle {part : Dev → β} (hp : ThrottleBlind part) (d : Dev) : part d.updThrottle = part d := by
  unfold Dev.updThrottle
  dsimp only
  split
  · rw [hp.events, hp.level]
  · exact hp.level ..

theorem throttleBlind_pw : ThrottleBlind Dev.pw := ⟨fun _ _ => rfl, fun _ => rfl⟩
theorem throttleBlind_mm : ThrottleBlind Dev.mm := ⟨fun _ _ => rfl, fun _ => rfl⟩
theorem throttleBlind_su : ThrottleBlind Dev.su := ⟨fun _ _ => rfl, fun _ => rfl⟩

theorem throttleBlind_level : ThrottleBlind Dev.throttleLevel := by
  refine ⟨fun d v => ?_, fun d => ?_⟩
  · simp only [Dev.throttleLevel, Dev.rd_wr_ne d v (by decide : K.throttleForce ≠ K.throttleLevel), Dev.wr_pw]
  · simp only [Dev.throttleLevel, Dev.rd_inc_ne d (by decide : K.throttleForce ≠ K.throttleEvents), Dev.inc_pw]

/-- The entry reads the level once it is in line. -/
theorem Dev.updThrottle_level (d : Dev) : d.updThrottle.rd K.throttleLevel = d.updThrottle.throttleLevel := by
  rw [throttleBlind_level.updThrottle]
  unfold Dev.updThrottle
  dsimp only
  split
  · exact (Dev.rd_inc_ne _ (by decide)).trans (Dev.rd_wr_self ..)
  · exact Dev.rd_wr_self ..

/-! ## Power windows -/

/-- The power state that a window leaves. -/
theorem Dev.powerWindow_pw (d : Dev) (w : Nat) :
    (d.powerWindow w).sensor 9 = some (.reads (1000 * w)) ∧
    (d.rd K.powerCap < w → (d.powerWindow w).pw.demand = Min.min 3 (d.pw.demand + 1) ∧ (d.powerWindow w).pw.lowWins = 0) ∧
    (w ≤ d.rd K.powerCap → d.rd K.powerCap * 95 ≤ w * 100 →
      (d.powerWindow w).pw.demand = d.pw.demand ∧ (d.powerWindow w).pw.lowWins = 0) ∧
    (w * 100 < d.rd K.powerCap * 95 → d.pw.lowWins < 9 →
      (d.powerWindow w).pw.demand = d.pw.demand ∧ (d.powerWindow w).pw.lowWins = d.pw.lowWins + 1) ∧
    (w * 100 < d.rd K.powerCap * 95 → 9 ≤ d.pw.lowWins →
      (d.powerWindow w).pw.demand = d.pw.demand - 1 ∧ (d.powerWindow w).pw.lowWins = 0) := by
  unfold Dev.sensor Dev.powerWindow
  dsimp only
  rw [throttleBlind_pw.updThrottle]
  dsimp only
  refine ⟨?_, fun h => ?_, fun h1 h2 => ?_, fun h1 h2 => ?_, fun h1 h2 => ?_⟩
  · split
    · exact kfind_kput_self ..
    split
    · exact kfind_kput_self ..
    split
    · exact kfind_kput_self ..
    · exact kfind_kput_self ..
  · rw [if_pos h]
    exact ⟨rfl, rfl⟩
  · rw [if_neg (Nat.not_lt.mpr h1), if_pos (by simpa using h2)]
    exact ⟨rfl, rfl⟩
  · rw [if_neg (by omega), if_neg (by simpa using h1), if_pos h2]
    exact ⟨rfl, rfl⟩
  · rw [if_neg (by omega), if_neg (by simpa using h1), if_neg (Nat.not_lt.mpr h2)]
    exact ⟨rfl, rfl⟩

/-! ## Sensors -/

/-- The device after a crossing is reported and the throttle level follows. -/
def Dev.sensorTook (d : Dev) (i : Nat) (v : SensorVal) : Dev :=
  let old := match d.sensor i with
    | some x => sensorState i x
    | none => 1
  let st := sensorState i v
  let d1 := { d with pw := { d.pw with sens := kput i v d.pw.sens } }
  (if st == old then d1 else (d1.sensorEvent i st (d1.readingF32 v)).drawn).updThrottle

theorem Dev.sensorReads_eq (d : Dev) (i : Nat) (v : SensorVal) :
    d.sensorReads i v = (if sensorShutdown i v && (d.sensorTook i v).su.mains
      then (d.sensorTook i v).railsDown.wr K.thermalTripped 1 else d.sensorTook i v).thermPin (d.thermalAlarm || d.flag K.thermalTripped) :=
  rfl

/-- A part that neither the throttle level nor a report touches. -/
theorem Dev.sensorTook_part {part : Dev → β} (ht : ThrottleBlind part) (hn : NoteBlind part) (hd : ∀ d : Dev, part d.drawn = part d)
    (d : Dev) (i : Nat) (v : SensorVal) :
    part (d.sensorTook i v) = part { d with pw := { d.pw with sens := kput i v d.pw.sens } } := by
  have hreport : ∀ (b : Bool) (t : Dev) (st r : Nat), part (if b then t else (t.sensorEvent i st r).drawn) = part t := by
    intro b t st r
    cases b with
    | true => rfl
    | false =>
      refine (hd _).trans ((hn.notify ..).trans ?_)
      split
      · exact hn.emit ..
      · rfl
  exact (ht.updThrottle _).trans (hreport ..)

/-- The pin changes nothing but what leaves the device. -/
theorem Dev.thermPin_part {part : Dev → β} (he : ∀ (d : Dev) (o : Out), part (d.emit o) = part d) (d : Dev) (b : Bool) :
    part (d.thermPin b) = part d := by
  unfold Dev.thermPin
  dsimp only
  split
  · rfl
  · exact he ..

theorem Dev.sensorReads_quiet {d : Dev} {i : Nat} {v : SensorVal} (h : sensorShutdown i v = false) :
    (d.sensorReads i v).sensor i = some v ∧ (d.sensorReads i v).mm = d.mm ∧
    (d.sensorReads i v).rd K.throttleLevel = (d.sensorReads i v).throttleLevel := by
  rw [Dev.sensorReads_eq, if_neg (by simp [h])]
  refine ⟨?_, ?_, ?_⟩
  · rw [Dev.sensor, Dev.thermPin_part (part := Dev.pw) (fun _ _ => rfl),
      Dev.sensorTook_part throttleBlind_pw ⟨fun _ _ => rfl, fun _ _ => rfl, fun _ => rfl⟩ (fun _ => rfl)]
    exact kfind_kput_self ..
  · rw [Dev.thermPin_part (part := Dev.mm) (fun _ _ => rfl),
      Dev.sensorTook_part throttleBlind_mm noteBlind_mm (fun _ => rfl)]
  · rw [Dev.thermPin_part (part := fun d => d.rd K.throttleLevel) (fun _ _ => rfl),
      Dev.thermPin_part (part := Dev.throttleLevel) (fun _ _ => rfl)]
    exact Dev.updThrottle_level _

theorem Dev.sensorReads_shutdown {d : Dev} {i : Nat} {v : SensorVal} (h : sensorShutdown i v = true) (hm : d.su.mains = true) :
    (d.sensorReads i v).su.mains = false ∧ (d.sensorReads i v).flag K.thermalTripped = true := by
  have hmains : (d.sensorTook i v).su.mains = true := by
    rw [Dev.sensorTook_part throttleBlind_su noteBlind_su (fun _ => rfl)]
    exact hm
  rw [Dev.sensorReads_eq, if_pos (by simp [h, hmains])]
  obtain ⟨hdown, -, -, -⟩ := Dev.railsDown_facts hmains
  refine ⟨?_, ?_⟩
  · rw [Dev.thermPin_part (part := Dev.su) (fun _ _ => rfl)]
    exact hdown
  · rw [Dev.thermPin_part (part := fun d => d.flag K.thermalTripped) (fun _ _ => rfl), Dev.flag, Dev.rd_wr_self]
    rfl

/-- Settles O56: rails, standby power, windows, the forced throttle and sensors, each by what it leaves. -/
theorem powerEvents : Obligations.PowerEvents := by
  unfold Obligations.PowerEvents
  intro s role
  dsimp only
  refine ⟨rfl, rfl, fun hm => Dev.railsDown_facts hm, fun hm h1 => Dev.railsDown_idle hm h1, execStandbyPowerLoss_facts s,
    fun hs => ⟨_, congrArg (ok s) (if_neg (by simp [hs])), rfl, rfl, rfl, rfl⟩, fun hs => congrArg (ok s) (if_pos hs),
    fun w hm => ?window, fun v hmay hv => ⟨?force, (Dev.updThrottle_level _).trans (throttleBlind_level.updThrottle _), ?forced⟩,
    fun i v hs h1 h10 => ⟨congrArg (ok s) (if_pos (by simp [hs, h1, h10])), fun h => Dev.sensorReads_quiet h,
      fun h hm => Dev.sensorReads_shutdown h hm⟩, Dev.throttleLevel_le s.dev⟩
  case window =>
    obtain ⟨h9, hup, hmid, hlow, hdown⟩ := s.dev.powerWindow_pw w
    exact ⟨_, congrArg (ok s) (if_pos hm), h9, hup, hmid, hlow, hdown, Dev.updThrottle_level _, throttleBlind_mm.updThrottle _⟩
  case force =>
    refine congrArg (ok s) ((Dev.scalarWrite_may hmay (fun d => d.wThrottleForce v)).trans ?_)
    rw [Dev.wThrottleForce, if_neg (Nat.not_lt.mpr hv)]
    rfl
  case forced =>
    have hrd : (s.dev.wr K.throttleForce v).rd K.throttleForce = v := Dev.rd_wr_self ..
    have hle := Dev.throttleForce_le (s.dev.wr K.throttleForce v) (by rw [hrd]; exact hv)
    rwa [hrd] at hle

end Sys2Proof.Machine
end

section
/-! O55: updates, recovery, credentials and the entropy source. -/
namespace Sys2Proof.Machine

variable {β : Type}

/-! ## Slots -/

theorem Dev.imgSlot_setImgSlot_self (d : Dev) (n : Nat) (x : Slot) : (d.setImgSlot n x).imgSlot n = x := by
  unfold Dev.imgSlot Dev.setImgSlot
  split
  · rfl
  · rfl

theorem Dev.imgSlot_congr {d t : Dev} (ha : t.su.slotA = d.su.slotA) (hb : t.su.slotB = d.su.slotB) (n : Nat) :
    t.imgSlot n = d.imgSlot n := by
  rw [Dev.imgSlot, ha, hb, Dev.imgSlot]

theorem Dev.setImgSlot_upd (d : Dev) (n : Nat) (x : Slot) : (d.setImgSlot n x).su.upd = d.su.upd := by
  unfold Dev.setImgSlot
  dsimp only
  split
  · rfl
  · rfl

theorem Dev.setImgSlot_rresult (d : Dev) (n : Nat) (x : Slot) : (d.setImgSlot n x).su.rresult = d.su.rresult := by
  unfold Dev.setImgSlot
  dsimp only
  split
  · rfl
  · rfl

theorem Dev.setImgSlot_rcmd (d : Dev) (n : Nat) (x : Slot) : (d.setImgSlot n x).su.rcmd = d.su.rcmd := by
  unfold Dev.setImgSlot
  dsimp only
  split
  · rfl
  · rfl

/-! ## Updates -/

/-- What the beginning of an update leaves. -/
theorem Dev.eraseSlot_facts (d : Dev) (n len : Nat) :
    (d.eraseSlot n len).su.upd = some ⟨n, len, false, 0⟩ ∧ (d.eraseSlot n len).imgSlot n = Slot.reset :=
  ⟨rfl, Dev.imgSlot_setImgSlot_self d n Slot.reset⟩

/-- Data that follow what the slot holds are appended. -/
theorem Dev.imgWrite_taken {d : Dev} {u : Upd} (hu : d.su.upd = some u) (he : u.erased = true) {bs : List Byte}
    (hl : u.off + bs.length ≤ u.len) :
    (d.imgWrite u.off bs).2 = 0 ∧ (d.imgWrite u.off bs).1.su.upd = some { u with off := u.off + bs.length } ∧
    ((d.imgWrite u.off bs).1.imgSlot u.slot).bytes = (d.imgSlot u.slot).bytes ++ bs ∧
    (d.imgWrite u.off bs).1.su.rresult = d.su.rresult := by
  have hbad : (u.off != u.off || decide (u.len < u.off + bs.length)) = false := by simpa using hl
  simp only [Dev.imgWrite, hu, he, hbad, Bool.not_true, Bool.false_eq_true, if_false]
  refine ⟨trivial, trivial, ?_, ?_⟩
  · exact congrArg Slot.bytes (Dev.imgSlot_setImgSlot_self d u.slot _)
  · exact Dev.setImgSlot_rresult d u.slot _

theorem Dev.imgWrite_none {d : Dev} (hu : d.su.upd = none) (off : Nat) (bs : List Byte) : d.imgWrite off bs = (d, 6) := by
  simp only [Dev.imgWrite, hu]

theorem Dev.imgWrite_erasing {d : Dev} {u : Upd} (hu : d.su.upd = some u) (he : u.erased = false) (off : Nat) (bs : List Byte) :
    d.imgWrite off bs = (d, 6) := by
  simp [Dev.imgWrite, hu, he]

theorem Dev.imgWrite_gap {d : Dev} {u : Upd} (hu : d.su.upd = some u) (he : u.erased = true) {off : Nat} {bs : List Byte}
    (h : off ≠ u.off ∨ u.len < off + bs.length) : d.imgWrite off bs = (d, 5) := by
  simp [Dev.imgWrite, hu, he, h]

theorem Dev.imgCommit_none {d : Dev} (hu : d.su.upd = none) : d.imgCommit = (d, 6) := by
  simp only [Dev.imgCommit, hu]

theorem Dev.imgCommit_fails {d : Dev} {u : Upd} (hu : d.su.upd = some u) (he : u.erased = true)
    (hv : verifyImage (d.imgSlot u.slot).bytes u.len (d.rd K.minSvn) ≠ 0) :
    d.imgCommit = (d, verifyImage (d.imgSlot u.slot).bytes u.len (d.rd K.minSvn)) := by
  simp [Dev.imgCommit, hu, he, hv]

/-- A commit of an image that passes. -/
theorem Dev.imgCommit_passes {d : Dev} {u : Upd} (hu : d.su.upd = some u) (he : u.erased = true)
    (hv : verifyImage (d.imgSlot u.slot).bytes u.len (d.rd K.minSvn) = 0) :
    d.imgCommit.2 = 0 ∧ (d.imgCommit.1.imgSlot u.slot).st = .pending ∧ d.imgCommit.1.su.upd = none ∧
    d.imgCommit.1.rd K.startFailCount = 0 ∧ d.imgCommit.1.mm = d.mm ∧ d.imgCommit.1.su.rresult = d.su.rresult := by
  simp only [Dev.imgCommit, hu, he, hv, Bool.not_true, Bool.false_eq_true, if_false, bne_self_eq_false]
  refine ⟨trivial, ?_, ?_, ?_, evBlind_mm.postAll .., ?_⟩
  · rw [Dev.imgSlot, evBlind_su.postAll]
    exact congrArg Slot.st (Dev.imgSlot_setImgSlot_self d u.slot _)
  · rw [evBlind_su.postAll]
  · rw [(evBlind_rd_below (by decide)).postAll]
    exact Dev.rd_wr_self ..
  · rw [evBlind_su.postAll]
    exact Dev.setImgSlot_rresult d u.slot _

/-! ## Recovery -/

theorem Dev.recovery_barred {d : Dev} (h : d.su.modState ≠ 3 ∨ bit d.su.rresult 0 = true) (cmd : Nat) (f : Dev → Dev × Nat) :
    d.recovery cmd f = d := if_pos (by simpa using h)

theorem Dev.recovery_taken {d : Dev} (h3 : d.su.modState = 3) (hb : bit d.su.rresult 0 = false) (cmd : Nat) (f : Dev → Dev × Nat) :
    d.recovery cmd f =
      let r := f { d with su := { d.su with rcmd := cmd } }
      { r.1 with su := { r.1.su with rresult := r.1.su.rresult % 2 + r.2 * 256 } } := if_neg (by simp [h3, hb])

theorem Dev.recBegin_good {d : Dev} (h1 : d.su.rarg1 ≤ 1) (h2 : 5248 ≤ d.su.rarg0) (h4 : d.su.rarg0 ≤ 58720256) :
    d.recBegin = ({ d.eraseSlot d.su.rarg1 d.su.rarg0 with
      su := { (d.eraseSlot d.su.rarg1 d.su.rarg0).su with rresult := 1 } }, 0) :=
  (if_neg (by omega)).trans (if_neg (by simp; omega))

theorem bit_zero_false {n : Nat} (h : bit n 0 = false) : n % 2 = 0 := by
  simp [bit] at h
  omega

theorem Dev.recovery_begin {d : Dev} (h3 : d.su.modState = 3) (hb : bit d.su.rresult 0 = false) (h1 : d.su.rarg1 ≤ 1)
    (h2 : 5248 ≤ d.su.rarg0) (h4 : d.su.rarg0 ≤ 58720256) :
    let t := d.recovery 1 Dev.recBegin
    t.su.upd = some ⟨d.su.rarg1, d.su.rarg0, false, 0⟩ ∧ t.su.rresult = 1 ∧ t.su.rcmd = 1 := by
  intro t
  have ht : t = _ := Dev.recovery_taken h3 hb 1 Dev.recBegin
  rw [ht, Dev.recBegin_good (d := { d with su := { d.su with rcmd := 1 } }) h1 h2 h4]
  dsimp only
  exact ⟨rfl, by decide, Dev.setImgSlot_rcmd ..⟩

theorem Dev.recovery_write {d : Dev} (h3 : d.su.modState = 3) (hb : bit d.su.rresult 0 = false) {u : Upd} (hu : d.su.upd = some u)
    (he : u.erased = true) (h1 : d.su.rarg1 ≤ 983040) (h2 : d.su.rarg0 = u.off) (h4 : u.off + d.su.rarg1 ≤ u.len) :
    let t := d.recovery 2 Dev.recWrite
    (t.imgSlot u.slot).bytes = (d.imgSlot u.slot).bytes ++ d.rbufBytes d.su.rarg1 ∧ t.su.rresult = 0 := by
  intro t
  let e : Dev := { d with su := { d.su with rcmd := 2 } }
  have hlen : u.off + (e.rbufBytes d.su.rarg1).length ≤ u.len := by simpa [Dev.rbufBytes] using h4
  obtain ⟨h0, -, hbytes, hres⟩ := Dev.imgWrite_taken (d := e) hu he hlen
  have hrun : e.recWrite = e.imgWrite u.off (e.rbufBytes d.su.rarg1) := by
    rw [← h2]
    exact if_neg (Nat.not_lt.mpr h1)
  have ht : t = _ := Dev.recovery_taken h3 hb 2 Dev.recWrite
  have he' : t = { (e.imgWrite u.off (e.rbufBytes d.su.rarg1)).1 with
      su := { (e.imgWrite u.off (e.rbufBytes d.su.rarg1)).1.su with rresult := e.su.rresult % 2 + 0 * 256 } } := by
    rw [ht, ← hres, ← h0, ← hrun]
  rw [he']
  exact ⟨hbytes, by simpa using bit_zero_false hb⟩

theorem Dev.recovery_commit {d : Dev} (h3 : d.su.modState = 3) (hb : bit d.su.rresult 0 = false) {u : Upd} (hu : d.su.upd = some u)
    (he : u.erased = true) (hv : verifyImage (d.imgSlot u.slot).bytes u.len (d.rd K.minSvn) = 0) :
    let t := d.recovery 3 Dev.imgCommit
    (t.imgSlot u.slot).st = .pending ∧ t.rd K.startFailCount = 0 ∧ t.su.rresult = 0 := by
  intro t
  let e : Dev := { d with su := { d.su with rcmd := 3 } }
  obtain ⟨h0, hst, -, hcount, -, hres⟩ := Dev.imgCommit_passes (d := e) hu he hv
  have ht : t = _ := Dev.recovery_taken h3 hb 3 Dev.imgCommit
  have he' : t = { e.imgCommit.1 with su := { e.imgCommit.1.su with rresult := e.su.rresult % 2 + 0 * 256 } } := by
    rw [ht, ← hres, ← h0]
  rw [he']
  exact ⟨hst, (Dev.rd_congr (d := e.imgCommit.1) rfl _).trans hcount, by simpa using bit_zero_false hb⟩

/-- Settles O55: updates, commits, recovery commands and credentials, each by the state that it meets. -/
theorem imagesAndRecovery : Obligations.ImagesAndRecovery := by
  unfold Obligations.ImagesAndRecovery
  intro s role
  dsimp only
  refine ⟨fun len hm h1 h2 => ⟨fun ht => ?trial, fun ht => ?begin⟩, fun u hu he => ?erased, fun hu => ?noErase,
    fun bs hm => ⟨fun hu => ?noData, fun u hu he => ?early, fun u hu he => ⟨fun hg => ?gap, fun ho hl hs => ?data⟩⟩,
    fun hm => ⟨fun hu => ?noCommit, fun u hu he => ⟨fun hv => ?bad, fun hv => ?commit⟩⟩,
    fun hm => ⟨fun ho ht => ?confirm, fun h => ?noConfirm⟩, fun v hm => ⟨fun h => ?svnBad, fun h1 h2 => ?svn⟩,
    fun h3 hb => ⟨fun h1 h2 h4 => ?recBegin, fun u hu he hs h1 h2 h4 => ?recWrite, fun u hu he hv => ?recCommit, ?recRestart, ?clear⟩,
    fun h => ⟨congrArg (ok s) (Dev.recovery_barred h _ _), congrArg (ok s) (Dev.recovery_barred h _ _),
      congrArg (ok s) (Dev.recovery_barred h _ _), congrArg (ok s) (Dev.recovery_barred h _ _),
      congrArg (ok s) (Dev.recovery_barred h _ _)⟩, rfl,
    fun n bs hm => ⟨fun hl hr => ?cred, fun hn => ?credGone, fun hn hl => ?credBad⟩, fun bs hm => ?peer,
    fun hm => congrArg (ok s) (if_pos hm), fun hm => congrArg (ok s) (if_neg (by simp [hm]))⟩
  case trial =>
    refine congrArg (ok s) ((Dev.scalarWrite_may hm (fun d => d.wUpdateBegin len)).trans ?_)
    simp only [Dev.wUpdateBegin, ht]
    rw [if_neg (by simp; omega)]
    rfl
  case begin =>
    have hrun : s.dev.wUpdateBegin len = ((s.dev.eraseSlot (1 - s.dev.active) len).wr K.updateState 1, 0) := by
      simp only [Dev.wUpdateBegin, ht]
      exact if_neg (by simp; omega)
    refine ⟨_, congrArg (ok s) ((Dev.scalarWrite_may hm (fun d => d.wUpdateBegin len)).trans (congrArg Dev.answered hrun)), rfl,
      Dev.imgSlot_setImgSlot_self .., Dev.rd_wr_self .., rfl⟩
  case erased =>
    have hrun : exec .updateEraseDone s = ok s { s.dev.wr K.updateState 2 with su := { s.dev.su with
        upd := some { u with erased := true }, rresult := s.dev.su.rresult / 2 * 2 } } := by
      refine congrArg (ok s) ?_
      simp only [hu, he, Bool.false_eq_true, if_false]
    refine ⟨_, hrun, rfl, Dev.rd_wr_self .., ?_⟩
    simp [bit]
  case noErase =>
    refine congrArg (ok s) ?_
    simp only [hu]
  case noData =>
    refine congrArg (ok s) ((Dev.entryWrite_may hm (fun d => d.wUpdateData bs)).trans ?_)
    simp only [Dev.wUpdateData, Dev.imgWrite_none hu]
    rfl
  case early =>
    refine congrArg (ok s) ((Dev.entryWrite_may hm (fun d => d.wUpdateData bs)).trans ?_)
    simp only [Dev.wUpdateData, Dev.imgWrite_erasing hu he]
    rfl
  case gap =>
    refine congrArg (ok s) ((Dev.entryWrite_may hm (fun d => d.wUpdateData bs)).trans ?_)
    simp only [Dev.wUpdateData, Dev.imgWrite_gap hu he hg]
    rfl
  case data =>
    obtain ⟨h0, hupd, hbytes, -⟩ := Dev.imgWrite_taken hu he hl
    have hrun : s.dev.wUpdateData bs = ((s.dev.imgWrite u.off bs).1.wr K.updateOffset (u.off + bs.length), 0) := by
      simp only [Dev.wUpdateData, ho, h0]
      rfl
    exact ⟨_, congrArg (ok s) ((Dev.entryWrite_may hm (fun d => d.wUpdateData bs)).trans (congrArg Dev.answered hrun)),
      Dev.rd_wr_self .., hupd, hbytes⟩
  case noCommit =>
    refine congrArg (ok s) ((Dev.scalarWrite_may hm (fun d => d.wUpdateCommit 1)).trans ?_)
    simp only [Dev.wUpdateCommit, Dev.imgCommit_none hu]
    rfl
  case bad =>
    refine congrArg (ok s) ((Dev.scalarWrite_may hm (fun d => d.wUpdateCommit 1)).trans ?_)
    have h0 : (verifyImage (s.dev.imgSlot u.slot).bytes u.len (s.dev.rd K.minSvn) == 0) = false := by simpa using hv
    simp only [Dev.wUpdateCommit, Dev.imgCommit_fails hu he hv, h0]
    rfl
  case commit =>
    obtain ⟨h0, hst, hupd, hcount, hmm, -⟩ := Dev.imgCommit_passes hu he hv
    have hrun : s.dev.wUpdateCommit 1 = ((s.dev.imgCommit.1.wr K.updateState 4).wr K.updateResult 0, 0) := by
      simp only [Dev.wUpdateCommit, h0]
      rfl
    refine ⟨_, congrArg (ok s) ((Dev.scalarWrite_may hm (fun d => d.wUpdateCommit 1)).trans (congrArg Dev.answered hrun)),
      hst, hupd, ?_, Dev.rd_wr_self .., ?_, hmm⟩
    · exact (Dev.rd_wr_ne _ _ (by decide)).trans ((Dev.rd_wr_ne _ _ (by decide)).trans hcount)
    · exact (Dev.rd_wr_ne _ _ (by decide)).trans (Dev.rd_wr_self ..)
  case confirm =>
    refine congrArg (ok s) ((Dev.scalarWrite_may hm (fun d => d.wImageConfirm 1)).trans ?_)
    simp only [Dev.wImageConfirm, ho, ht]
    rfl
  case noConfirm =>
    refine congrArg (ok s) ((Dev.scalarWrite_may hm (fun d => d.wImageConfirm 1)).trans ?_)
    have hbad : (1 != 1 || !s.dev.operational || !s.dev.slotIs s.dev.su.runSlot .trial) = true := by simpa using h
    simp only [Dev.wImageConfirm, hbad]
    rfl
  case svnBad =>
    refine congrArg (ok s) ((Dev.scalarWrite_may hm (fun d => d.wMinSvn v)).trans ?_)
    have hbad : (decide (v < s.dev.rd K.minSvn) || (decide (s.dev.rd K.minSvn < v) && decide (s.dev.runningSvn < v))) = true := by
      simpa using h
    simp only [Dev.wMinSvn, hbad]
    rfl
  case svn =>
    refine congrArg (ok s) ((Dev.scalarWrite_may hm (fun d => d.wMinSvn v)).trans ?_)
    have hbad : (decide (v < s.dev.rd K.minSvn) || (decide (s.dev.rd K.minSvn < v) && decide (s.dev.runningSvn < v))) = false := by
      simp
      omega
    simp only [Dev.wMinSvn, hbad]
    rfl
  case recBegin => exact ⟨_, rfl, Dev.recovery_begin h3 hb h1 h2 h4⟩
  case recWrite => exact ⟨_, rfl, Dev.recovery_write h3 hb hu he h1 h2 h4⟩
  case recCommit => exact ⟨_, rfl, Dev.recovery_commit h3 hb hu he hv⟩
  case recRestart =>
    exact ⟨_, congrArg (ok s) (Dev.recovery_taken h3 hb _ _), rfl, rfl⟩
  case clear =>
    refine ⟨_, congrArg (ok s) (Dev.recovery_taken h3 hb 5 (fun d => (d.wr K.startFailCount 0, 0))), ?_, rfl, rfl⟩
    exact (Dev.rd_congr (d := s.dev.wr K.startFailCount 0) rfl _).trans (Dev.rd_wr_self ..)
  case cred =>
    refine congrArg (ok s) ((Dev.entryWrite_may hm (fun d => d.wCredSlot n bs)).trans ?_)
    have hne : bs.isEmpty = false := by
      cases bs with
      | nil => simp at hl
      | cons => rfl
    have hrole : (bs.length == 98 && (leAt bs 0 1 == 1 || leAt bs 0 1 == 2)) = true := by simpa [hl] using hr
    simp only [Dev.wCredSlot, hrole, hne]
    rfl
  case credGone =>
    subst hn
    exact congrArg (ok s) (Dev.entryWrite_may hm (fun d => d.wCredSlot n []))
  case credBad =>
    refine congrArg (ok s) ((Dev.entryWrite_may hm (fun d => d.wCredSlot n bs)).trans ?_)
    have hbad : (!(bs.isEmpty || (bs.length == 98 && (leAt bs 0 1 == 1 || leAt bs 0 1 == 2)))) = true := by simp [hl, hn]
    simp only [Dev.wCredSlot, hbad]
    rfl
  case peer =>
    refine congrArg (ok s) ((Dev.entryWrite_may hm (fun d => d.wPairPeer bs)).trans ?_)
    cases hp : Config.peerOk bs with
    | true =>
      simp only [Dev.wPairPeer, hp]
      rfl
    | false =>
      simp only [Dev.wPairPeer, hp]
      rfl

end Sys2Proof.Machine
end

section
/-! O41: the CXL mailbox. -/
namespace Sys2Proof.Machine

theorem Dev.cxlMb_served {d : Dev} {port : Nat} (hs : d.cxlServed port = true) (hm : d.mse ⟨port, 0⟩ = true) (cmd : Nat)
    (run : Dev → Dev × Nat × List Byte) :
    d.cxlMb port cmd run = (run d).1.emit (.cxlMb port cmd (run d).2.1 (run d).2.2) := if_neg (by simp [hs, hm])

theorem Dev.cxlMb_off {d : Dev} {port : Nat} (hs : d.cxlServed port = false) (cmd : Nat) (run : Dev → Dev × Nat × List Byte) :
    d.cxlMb port cmd run = d := if_pos (by simp [hs])

/-- With nothing waiting the log takes no record. -/
theorem Dev.dcRefill_nothing (port : Nat) {d : Dev} (h : (d.port port).dcWait = []) (n : Nat) : Dev.dcRefill port n d = d := by
  cases n with
  | zero => rfl
  | succ n => simp only [Dev.dcRefill, h]

/-- Records cleared from a log behind which nothing waits. -/
theorem Dev.dcClear_known {d : Dev} {port : Nat} (hw : (d.port port).dcWait = []) {all : Bool} {handles : List Nat}
    (hk : (!all && !handles.all (fun h => (d.port port).dcLog.any (fun r => r.handle == h))) = false) :
    d.dcClear port all handles = (d.setPort port { d.port port with
      dcLog := if all then [] else (d.port port).dcLog.filter (fun r => !handles.contains r.handle) }, 0, []) := by
  simp only [Dev.dcClear, hk, Bool.false_eq_true, if_false, hw, List.length_nil]
  rfl

/-- A handle that the log does not hold. -/
theorem Dev.dcClear_unknown {d : Dev} {port : Nat} {handles : List Nat}
    (hk : (!handles.all (fun h => (d.port port).dcLog.any (fun r => r.handle == h))) = true) :
    d.dcClear port false handles = (d, cxlInvalidHandle, []) := if_pos hk

/-- A poisoned run that is listed meets the range asked. -/
theorem Dev.poisonRuns_meet {d : Dev} {q addr len : Nat} {r : Nat × Nat} (hr : r ∈ d.poisonRuns q addr len) :
    r.1 < addr + len ∧ addr < r.1 + r.2 := by
  simpa using (List.mem_filter.mp hr).2

theorem length_celBytes : (celOpcodes.flatMap (leBytes 2)).length = 24 := by
  simp [celOpcodes]

/-- Settles O41: each command of the mailbox by its answer. -/
theorem cxlMailbox : Obligations.CxlMailbox := by
  unfold Obligations.CxlMailbox
  intro s p
  dsimp only
  refine ⟨fun hs hm => ?_, fun hs phase => congrArg (ok s) (if_pos hs), fun hs => ⟨congrArg (ok s) (Dev.cxlMb_off hs _ _),
    fun phase => congrArg (ok s) (if_neg (by simp [hs]))⟩, fun q addr len r hr => Dev.poisonRuns_meet hr⟩
  have plain : ∀ (cmd : Nat) (run : Dev → Dev × Nat × List Byte), ok s (s.dev.cxlMb p cmd run) =
      ok s ((run s.dev).1.emit (.cxlMb p cmd (run s.dev).2.1 (run s.dev).2.2)) := fun cmd run =>
    congrArg (ok s) (Dev.cxlMb_served hs hm cmd run)
  have answers : ∀ (cmd : Nat) (run : Dev → Dev × Nat × List Byte) (t : Dev) (code : Nat) (bs : List Byte),
      run s.dev = (t, code, bs) → ok s (s.dev.cxlMb p cmd run) = ok s (t.emit (.cxlMb p cmd code bs)) := by
    intro cmd run t code bs hrun
    rw [plain, hrun]
  refine ⟨plain .., plain .., fun off len => ⟨fun h => answers _ _ _ _ _ ?log, fun h => answers _ _ _ _ _ ?noLog⟩, plain ..,
    fun log hl => answers _ _ _ _ _ ?emptyLog, fun log hl => answers _ _ _ _ _ (if_pos hl), fun hw => answers _ _ _ _ _ ?clearAll,
    fun hs hall hw => answers _ _ _ _ _ ?clearSome, fun hs hbad => answers _ _ _ _ _ ?clearBad, plain ..,
    fun l => answers _ _ _ _ _ ?policy, fun addr len q hq => answers _ _ _ _ _ ?poison, plain .., fun first count => plain ..,
    fun ext count => plain .., plain .., plain ..⟩
  case log =>
    exact if_neg (by rw [length_celBytes]; omega)
  case noLog =>
    exact if_pos (by rw [length_celBytes]; exact h)
  case emptyLog =>
    have h4 : (log == 4) = false := by simpa using Nat.ne_of_lt hl
    simp only [if_neg (by omega : ¬4 < log), h4]
    rfl
  case clearAll => exact Dev.dcClear_known (all := true) (handles := []) hw rfl
  case clearSome =>
    refine Dev.dcClear_known hw ?_
    simpa using hall
  case clearBad =>
    refine Dev.dcClear_unknown ?_
    simpa using hbad
  case policy =>
    by_cases h0 : ∀ v ∈ l, v = 0
    · have hall : l.all (· == 0) = true := by simpa using h0
      simp only [hall, if_pos h0]
      rfl
    · have hall : l.all (· == 0) = false := by simpa using h0
      simp only [hall, if_neg h0]
      rfl
  case poison =>
    simp only [hq]
    rfl

end Sys2Proof.Machine
end

section
/-! O40: trainings and losses of links, and the crosspoint. -/
namespace Sys2Proof.Machine

theorem Dev.startTraining_enabled {d : Dev} {p : Nat} (hm : d.mayTrain p = true) (h4 : d.portMode p ≠ 4) :
    d.startTraining p = (d.setPort p (if d.linkUp p then { d.port p with link := .recovery } else (d.port p).drop .training)).emit
      (.train p (d.portMode p)) :=
  (if_neg (by simp [hm])).trans (if_neg (by simpa using h4))

theorem Dev.startTraining_disabled {d : Dev} {p : Nat} (hm : d.mayTrain p = true) (h4 : d.portMode p = 4) :
    d.startTraining p = d.setPort p ((d.port p).drop .disabled) :=
  (if_neg (by simp [hm])).trans (if_pos (by simpa using h4))

/-- A hot reset of a live fabric port. -/
theorem Dev.hotReset_live {d : Dev} {p : Nat} (hu : d.linkUp p = true) (hp : p < 22) :
    d.hotReset p = if ((d.resetPort p 2).settle).portMode p == 4 then (((d.resetPort p 2).settle).linkDrop p).startTraining p
      else ((d.resetPort p 2).settle).startTraining p :=
  if_neg (by simp [hu]; omega)

theorem Dev.retrainPort_enabled {d : Dev} {p : Nat} (h4 : d.portMode p ≠ 4) : d.retrainPort p = d.startTraining p :=
  if_neg (by simp [h4])

theorem Dev.retrainPort_disabled {d : Dev} {p : Nat} (h4 : d.portMode p = 4) (hu : d.linkUp p = true) :
    d.retrainPort p = (d.linkDrop p).startTraining p := if_pos (by simp [h4, hu])

/-! ## The outcome of a training -/

theorem Dev.trainFailed_fabric {d : Dev} {p : Nat} (hp : p < 22) :
    d.trainFailed p = if d.linkUp p then (d.linkDrop p).startTraining p else d.inc (K.linkDowns + p) := if_pos hp

/-- A training that is under way ends by its outcome. -/
theorem Dev.trainingDone_failed {d : Dev} {p : Nat} {t : Training} (hl : (d.port p).link = .training ∨ (d.port p).link = .recovery)
    (hu : t.up = false) : d.trainingDone p t = d.trainFailed p := by
  refine (if_neg ?_).trans (if_pos (by simp [hu]))
  rcases hl with hl | hl
  · simp [hl]
  · simp [hl]

theorem Dev.trainingDone_up {d : Dev} {p : Nat} {t : Training} (hl : (d.port p).link = .training ∨ (d.port p).link = .recovery)
    (hu : t.up = true) (hm : d.trainedMode p t ≠ .none) :
    d.trainingDone p t = (List.range 64).foldl (fun v n => if v.fnExists ⟨p, n⟩ && decide (p < 22) then v.pumpEv ⟨p, n⟩ else v)
      (if p < 22 then ((d.countDeclined p (d.trainedMode p t)).trained p t).afterRoutes
        else (((d.countDeclined p (d.trainedMode p t)).trained p t).ringUp p).afterRoutes) := by
  refine (if_neg ?_).trans ((if_neg (by simp [hu])).trans (if_neg (by simpa using hm)))
  rcases hl with hl | hl
  · simp [hl]
  · simp [hl]

/-- A fabric port's training always ends in a protocol. -/
theorem Dev.trainedMode_fabric (d : Dev) {p : Nat} (hp : p < 22) (t : Training) : d.trainedMode p t ≠ .none := by
  unfold Dev.trainedMode
  rw [if_pos hp, if_pos hp]
  split
  · exact nofun
  split
  · exact nofun
  · exact nofun

theorem Dev.trainedMode_choice (d : Dev) {p : Nat} (hp : p < 22) (t : Training) :
    (d.ublOffered p = true → t.selUbl = true → t.major = 1 ∨ t.major = 2 → d.trainedMode p t = .native) ∧
    (d.ublOffered p = false ∨ t.selUbl = false → d.cxlOffered p = true → t.selCxl = true → d.trainedMode p t = .cxl) ∧
    (d.ublOffered p = false ∨ t.selUbl = false → d.cxlOffered p = false ∨ t.selCxl = false → d.trainedMode p t = .pcie) := by
  unfold Dev.trainedMode
  rw [if_pos hp, if_pos hp]
  refine ⟨fun h1 h2 h3 => if_pos (by simp [h1, h2, h3]), fun h1 h2 h3 => ?_, fun h1 h2 => ?_⟩
  · rw [if_neg (by rcases h1 with h1 | h1 <;> simp [h1]), if_pos (by simp [h2, h3])]
  · rw [if_neg (by rcases h1 with h1 | h1 <;> simp [h1]), if_neg (by rcases h2 with h2 | h2 <;> simp [h2])]

theorem Dev.trainedSpeed_le (d : Dev) (p : Nat) (m : PMode) (t : Training) :
    d.trainedSpeed p m t ≤ d.rd (K.maxSpeed + p) ∧ (m = .cxl → d.trainedSpeed p m t ≤ 6) ∧
    (d.su.modState = 3 → d.trainedSpeed p m t ≤ 5) := by
  unfold Dev.trainedSpeed
  dsimp only
  split
  next h3 => exact ⟨by omega, fun _ => by omega, fun _ => by omega⟩
  next h3 =>
    have h3' : d.su.modState ≠ 3 := by simpa using h3
    split
    · exact ⟨by omega, fun _ => by omega, fun h => absurd h h3'⟩
    next hm =>
      have hm' : m ≠ .cxl := by simpa using hm
      exact ⟨by omega, fun h => absurd h hm', fun h => absurd h h3'⟩

/-! ## The crosspoint -/

/-- A ring port whose link the closed crosspoint breaks. -/
def Dev.ringBroken (d : Dev) (p : Nat) : Dev :=
  let d1 := if d.linkUp p then d.inc (K.linkDowns + p) else d
  d1.setPort p ((d1.port p).drop .down)

theorem Dev.ringBroken_self (d : Dev) (p : Nat) : (d.ringBroken p).linkUp p = false := by
  rw [Dev.linkUp, Dev.ringBroken, Dev.port_setPort_self]
  rfl

theorem Dev.ringBroken_ne (d : Dev) {p q : Nat} (h : q ≠ p) : (d.ringBroken p).linkUp q = d.linkUp q := by
  rw [Dev.linkUp, Dev.ringBroken, Dev.port_setPort_ne _ _ h, Dev.linkUp]
  split
  · rfl
  · rfl

theorem Dev.ringBroken_flag (d : Dev) {p k : Nat} (h : k ≠ K.linkDowns + p) : (d.ringBroken p).flag k = d.flag k := by
  rw [Dev.flag, Dev.ringBroken, Dev.rd_setPort, Dev.flag]
  split
  · rw [Dev.rd_inc_ne _ h]
  · rfl

theorem Dev.updBypass_closes {d : Dev} (hc : d.flag K.bypassClosed = false) (ho : d.bypassOpen = false) :
    d.updBypass = (((d.wr K.bypassClosed 1).emit (.pin 2 true)).ringBroken 22).ringBroken 23 := by
  simp only [Dev.updBypass, hc, ho]
  rfl

/-- BYPASS_FORCE closes an open crosspoint and breaks both ring links. -/
theorem Dev.updBypass_forced {d : Dev} (hc : d.flag K.bypassClosed = false) :
    let t := (d.wr K.bypassForce 1).updBypass
    t.flag K.bypassClosed = true ∧ t.linkUp 22 = false ∧ t.linkUp 23 = false := by
  have hc' : (d.wr K.bypassForce 1).flag K.bypassClosed = false := by
    rw [Dev.flag, Dev.rd_wr_ne _ _ (by decide)]
    exact hc
  have ho : (d.wr K.bypassForce 1).bypassOpen = false := by
    simp [Dev.bypassOpen, Dev.flag]
  rw [Dev.updBypass_closes hc' ho]
  refine ⟨?_, ?_, Dev.ringBroken_self _ 23⟩
  · rw [Dev.ringBroken_flag _ (by decide), Dev.ringBroken_flag _ (by decide), Dev.flag, Dev.rd_emit, Dev.rd_wr_self]
    rfl
  · rw [Dev.ringBroken_ne _ (by decide), Dev.ringBroken_self]

/-- Settles O40: each event of a link by the state of its port. -/
theorem linkEvents : Obligations.LinkEvents := by
  unfold Obligations.LinkEvents
  intro s p
  dsimp only
  refine ⟨fun hm => ⟨fun h4 => Dev.startTraining_enabled hm h4, fun h4 => Dev.startTraining_disabled hm h4⟩,
    fun hu => congrArg (ok s) (if_pos hu),
    fun hu => ⟨congrArg (ok s) (if_neg (by simp [hu])), congrArg (ok s) (if_pos (by simp [hu])), congrArg (ok s) (if_pos (by simp [hu]))⟩,
    fun hu hp => ⟨⟨fun h4 => congrArg (ok s) ((Dev.hotReset_live hu hp).trans (if_neg (by simpa using h4))),
      fun h4 => congrArg (ok s) ((Dev.hotReset_live hu hp).trans (if_pos (by simpa using h4)))⟩,
      congrArg (ok s) ((if_neg (by simp [hu])).trans (if_pos hp))⟩,
    fun hu hp => congrArg (ok s) ((if_neg (by simp [hu])).trans (if_neg (Nat.not_lt.mpr hp))),
    fun role hm => ⟨fun h4 => ?retrain, fun h4 hu => ?retrainOff⟩,
    fun t hl => ⟨fun hu hp ht => ?noLink, fun hu hp hr => ?lost, fun hu hp => ⟨_, rfl, ?fabric⟩, fun hu hp hm => ⟨_, ?ring, rfl⟩⟩,
    fun t hp => ?outcome, fun role v hm => congrArg (ok s) (Dev.scalarWrite_may hm (fun d => d.wBypassForce v)),
    fun hc => Dev.updBypass_forced hc, fun hf => congrArg (ok s) (if_pos hf), fun hf => congrArg (ok s) (if_neg (by simp [hf]))⟩
  case retrain =>
    refine congrArg (ok s) ((Dev.scalarWrite_may hm (fun d => d.wRetrain p 1)).trans ?_)
    rw [← Dev.retrainPort_enabled h4]
    rfl
  case retrainOff =>
    refine congrArg (ok s) ((Dev.scalarWrite_may hm (fun d => d.wRetrain p 1)).trans ?_)
    rw [← Dev.retrainPort_disabled h4 hu]
    rfl
  case noLink =>
    exact congrArg (ok s) ((Dev.trainingDone_failed hl hu).trans ((Dev.trainFailed_fabric hp).trans (if_neg (by simp [Dev.linkUp, ht]))))
  case lost =>
    exact congrArg (ok s) ((Dev.trainingDone_failed hl hu).trans ((Dev.trainFailed_fabric hp).trans (if_pos (by simp [Dev.linkUp, hr]))))
  case fabric =>
    refine congrArg (ok s) ((Dev.trainingDone_up hl hu (Dev.trainedMode_fabric _ hp t)).trans ?_)
    rw [if_pos hp]
  case ring =>
    refine congrArg (ok s) ((Dev.trainingDone_up hl hu (by simp [hm])).trans ?_)
    rw [if_neg (Nat.not_lt.mpr hp), hm]
  case outcome =>
    obtain ⟨hnative, hcxl, hpcie⟩ := s.dev.trainedMode_choice hp t
    refine ⟨hnative, hcxl, hpcie, fun m => s.dev.trainedSpeed_le p m t, ?_, ?_⟩
    · rw [Dev.trained, Dev.port_setPort_self]
    · rw [Dev.trained, Dev.port_setPort_self]

end Sys2Proof.Machine
end

section
/-! O33: writes of bandwidth entries, the commit of priority sets and the refill. -/
namespace Sys2Proof.Machine

/-! ## The commit of priority sets -/

/-- The active and the shadow rank of a class in a group, a place given as group and class. -/
def activeKey (i : Nat × Nat) : Nat := K.active + 256 * i.1 + i.2
def shadowKey (i : Nat × Nat) : Nat := K.shadow + 256 * i.1 + i.2

/-- A place of the tables of ranks. -/
def isPlace (i : Nat × Nat) : Prop := i.1 < 6 ∧ i.2 < 256

theorem activeKey_inj {i j : Nat × Nat} (hi : isPlace i) (hj : isPlace j) (h : activeKey i = activeKey j) : i = j := by
  obtain ⟨-, hi⟩ := hi
  obtain ⟨-, hj⟩ := hj
  simp only [activeKey] at h
  exact Prod.ext (by omega) (by omega)

theorem shadowKey_inj {i j : Nat × Nat} (hi : isPlace i) (hj : isPlace j) (h : shadowKey i = shadowKey j) : i = j := by
  obtain ⟨-, hi⟩ := hi
  obtain ⟨-, hj⟩ := hj
  simp only [shadowKey] at h
  exact Prod.ext (by omega) (by omega)

theorem activeKey_ne_shadowKey {i j : Nat × Nat} (hi : isPlace i) (hj : isPlace j) : activeKey i ≠ shadowKey j := by
  obtain ⟨hi1, hi2⟩ := hi
  obtain ⟨hj1, hj2⟩ := hj
  simp only [activeKey, shadowKey, K.active, K.shadow]
  omega

/-- The two ranks of a place swapped. -/
def Dev.swapAt (d : Dev) (i : Nat × Nat) : Dev := Dev.swapRank i.1 d i.2

theorem Dev.swapAt_self {d : Dev} {i : Nat × Nat} (hi : isPlace i) :
    (d.swapAt i).rd (activeKey i) = d.rd (shadowKey i) ∧ (d.swapAt i).rd (shadowKey i) = d.rd (activeKey i) :=
  ⟨(Dev.rd_wr_ne _ _ (activeKey_ne_shadowKey hi hi)).trans (Dev.rd_wr_self ..), Dev.rd_wr_self ..⟩

theorem Dev.swapAt_ne {d : Dev} {i : Nat × Nat} {k : Nat} (ha : k ≠ activeKey i) (hs : k ≠ shadowKey i) :
    (d.swapAt i).rd k = d.rd k := (Dev.rd_wr_ne _ _ hs).trans (Dev.rd_wr_ne _ _ ha)

/-- The ranks of a place after swaps at distinct places. -/
theorem Dev.foldl_swapAt {l : List (Nat × Nat)} (hl : ∀ i ∈ l, isPlace i) (hn : l.Nodup) {i : Nat × Nat} (hi : isPlace i) (d : Dev) :
    (l.foldl Dev.swapAt d).rd (activeKey i) = d.rd (if i ∈ l then shadowKey i else activeKey i) ∧
    (l.foldl Dev.swapAt d).rd (shadowKey i) = d.rd (if i ∈ l then activeKey i else shadowKey i) := by
  induction l generalizing d with
  | nil => exact ⟨rfl, rfl⟩
  | cons j l ih =>
    obtain ⟨hj, hrest⟩ := List.nodup_cons.mp hn
    obtain ⟨hja, hjs⟩ := ih (fun x hx => hl x (List.mem_cons_of_mem _ hx)) hrest (d.swapAt j)
    have hpj : isPlace j := hl j List.mem_cons_self
    rw [List.foldl_cons, hja, hjs]
    by_cases hij : i = j
    · subst hij
      rw [if_neg hj, if_neg hj, if_pos List.mem_cons_self, if_pos List.mem_cons_self]
      exact Dev.swapAt_self hi
    · have haa : activeKey i ≠ activeKey j := fun h => hij (activeKey_inj hi hpj h)
      have hss : shadowKey i ≠ shadowKey j := fun h => hij (shadowKey_inj hi hpj h)
      have hkeepA := Dev.swapAt_ne (d := d) haa (activeKey_ne_shadowKey hi hpj)
      have hkeepS := Dev.swapAt_ne (d := d) (activeKey_ne_shadowKey hpj hi).symm hss
      by_cases hm : i ∈ l
      · simp [hm, hkeepA, hkeepS]
      · simp [hm, hij, hkeepA, hkeepS]

/-- The places of the selected groups. -/
def placesOf (mask : Nat) : List (Nat × Nat) := ((List.range 6).filter (fun g => bit mask g)).flatMap fun g => tenants.map (Prod.mk g)

theorem mem_placesOf {mask : Nat} {i : Nat × Nat} : i ∈ placesOf mask ↔ i.1 < 6 ∧ bit mask i.1 = true ∧ i.2 ∈ tenants := by
  obtain ⟨g, c⟩ := i
  simp only [placesOf, List.mem_flatMap, List.mem_filter, List.mem_range, List.mem_map, Prod.mk.injEq]
  constructor
  · rintro ⟨_, ⟨hg, selected⟩, _, hc, rfl, rfl⟩
    exact ⟨hg, selected, hc⟩
  · rintro ⟨hg, selected, hc⟩
    exact ⟨g, ⟨hg, selected⟩, c, hc, rfl, rfl⟩

theorem nodup_placesOf (mask : Nat) : (placesOf mask).Nodup := by
  refine List.pairwise_flatMap.2 ⟨fun g _ => List.pairwise_map.2 ?_, (List.nodup_range.filter _).imp fun apart x hx y hy same => ?_⟩
  · exact (by decide : tenants.Nodup).imp fun apart same => apart (Prod.mk.inj same).2
  · obtain ⟨_, -, rfl⟩ := List.mem_map.1 hx
    obtain ⟨_, -, rfl⟩ := List.mem_map.1 hy
    exact apart (Prod.mk.inj same).1

theorem mem_tenants {c : Nat} : c ∈ tenants ↔ 1 ≤ c ∧ c ≤ 14 := by
  simp [tenants]
  constructor
  · rintro ⟨a, h, rfl⟩
    omega
  · intro h
    exact ⟨c - 1, by omega, by omega⟩

theorem Dev.commitGroups_places (d : Dev) (mask : Nat) : d.commitGroups mask = (placesOf mask).foldl Dev.swapAt d := by
  simp only [Dev.commitGroups, placesOf, List.foldl_flatMap, List.foldl_map]
  rfl

/-- What a commit leaves in a place of the tables. -/
theorem Dev.commitDone_ranks {d : Dev} (hp : d.rd K.commitPending ≠ 0) {g c : Nat} (hg : g < 6) (h1 : 1 ≤ c) (h14 : c ≤ 14) :
    let t := d.commitDone
    t.rd K.commitPending = 0 ∧
    t.rd (K.active + 256 * g + c) = d.rd ((if bit (d.rd K.commitPending) g then K.shadow else K.active) + 256 * g + c) ∧
    t.rd (K.shadow + 256 * g + c) = d.rd ((if bit (d.rd K.commitPending) g then K.active else K.shadow) + 256 * g + c) := by
  have hplace : isPlace (g, c) := ⟨hg, by omega⟩
  have hplaces : ∀ i ∈ placesOf (d.rd K.commitPending), isPlace i := by
    intro i hi
    obtain ⟨h6, -, ht⟩ := mem_placesOf.mp hi
    exact ⟨h6, by have := mem_tenants.mp ht; omega⟩
  have hnodup : (placesOf (d.rd K.commitPending)).Nodup := nodup_placesOf _
  obtain ⟨hact, hsha⟩ := Dev.foldl_swapAt hplaces hnodup hplace d
  have hmem : (g, c) ∈ placesOf (d.rd K.commitPending) ↔ bit (d.rd K.commitPending) g = true := by
    rw [mem_placesOf]
    exact ⟨fun h => h.2.1, fun h => ⟨hg, h, mem_tenants.mpr ⟨h1, h14⟩⟩⟩
  have hdone : d.commitDone = (((placesOf (d.rd K.commitPending)).foldl Dev.swapAt d).wr K.commitPending 0).inc K.commits := by
    rw [← Dev.commitGroups_places]
    exact if_neg (by simpa using hp)
  have hkeep : ∀ k : Nat, k ≠ K.commits → k ≠ K.commitPending →
      d.commitDone.rd k = ((placesOf (d.rd K.commitPending)).foldl Dev.swapAt d).rd k := by
    intro k hk1 hk2
    rw [hdone, Dev.rd_inc_ne _ hk1, Dev.rd_wr_ne _ _ hk2]
  refine ⟨?_, ?_, ?_⟩
  · rw [hdone, Dev.rd_inc_ne _ (by decide), Dev.rd_wr_self]
  · refine (hkeep _ ?_ ?_).trans (hact.trans ?_)
    · simp only [K.active, K.commits]
      omega
    · simp only [K.active, K.commitPending]
      omega
    · simp only [hmem]
      split
      · rfl
      · rfl
  · refine (hkeep _ ?_ ?_).trans (hsha.trans ?_)
    · simp only [K.shadow, K.commits]
      omega
    · simp only [K.shadow, K.commitPending]
      omega
    · simp only [hmem]
      split
      · rfl
      · rfl

/-! ## The meters of a refill -/

/-- What a refill has made of the meters of a class on a resource. -/
def Dev.meteredAt (t : Dev) (r c eff : Nat) : Prop :=
  kget 0 (r * 16 + c) t.bw.eff = eff ∧ t.credit r c = ((eff * 8192 / 175 : Nat) : Int) ∧ kget 0 (r * 16 + c) t.bw.used = 0

theorem Dev.meteredAt_congr {d t : Dev} (h : t.bw = d.bw) {r c eff : Nat} (hm : d.meteredAt r c eff) : t.meteredAt r c eff := by
  rw [Dev.meteredAt, Dev.credit, h]
  exact hm

theorem Dev.meteredAt_refillMeter (d : Dev) (r num den c : Nat) :
    (d.refillMeter r num den c).meteredAt r c (d.budget r c * num / den) := by
  simp [Dev.meteredAt, Dev.credit, Dev.refillMeter]

theorem Dev.meteredAt_refillMeter_ne {d : Dev} {r c eff : Nat} (h : d.meteredAt r c eff) (num den : Nat) {e : Nat} (hne : c ≠ e) :
    (d.refillMeter r num den e).meteredAt r c eff := by
  have hk : r * 16 + c ≠ r * 16 + e := by omega
  obtain ⟨heff, hcredit, hused⟩ := h
  refine ⟨?_, ?_, ?_⟩
  · exact (kget_kput_ne _ _ _ hk).trans heff
  · exact (kget_kput_ne _ _ _ hk).trans hcredit
  · exact (kget_kput_ne _ _ _ hk).trans hused

theorem Dev.meteredAt_foldl_keeps {l : List Nat} {r c eff num den : Nat} (hc : c ∉ l) {d : Dev} (h : d.meteredAt r c eff) :
    (l.foldl (Dev.refillMeter r num den) d).meteredAt r c eff := by
  induction l generalizing d with
  | nil => exact h
  | cons e l ih =>
    obtain ⟨hne, hl⟩ := not_or.mp (fun hm => hc (List.mem_cons.mpr hm))
    exact ih hl (Dev.meteredAt_refillMeter_ne h num den hne)

/-- Every class of the list is metered by its own budget. -/
theorem Dev.meteredAt_foldl {l : List Nat} (hn : l.Nodup) {c : Nat} (hc : c ∈ l) (r num den : Nat) (d : Dev) :
    (l.foldl (Dev.refillMeter r num den) d).meteredAt r c (d.budget r c * num / den) := by
  induction l generalizing d with
  | nil => cases hc
  | cons e l ih =>
    obtain ⟨he, hrest⟩ := List.nodup_cons.mp hn
    rcases List.mem_cons.mp hc with rfl | hc
    · exact Dev.meteredAt_foldl_keeps he (Dev.meteredAt_refillMeter ..)
    · exact ih hrest hc (d.refillMeter r num den e)

theorem Dev.meteredAt_metered (d : Dev) {r c : Nat} (hr : r < 4) (h1 : 1 ≤ c) (h14 : c ≤ 14) (f : Nat × Nat) :
    (d.metered r f).meteredAt r c (d.budget r c * f.1 / f.2) := by
  rw [← Dev.budget_wr_deliv d hr (d.delivNow r) r c]
  exact Dev.meteredAt_foldl (by decide) (mem_tenants.mpr ⟨h1, h14⟩) r f.1 f.2 _

theorem Dev.metered_rd (d : Dev) (r : Nat) (f : Nat × Nat) : (d.metered r f).rd (K.delivT1 + r) = d.delivNow r := by
  refine (foldl_keeps (fun t => t.rd (K.delivT1 + r)) (f := Dev.refillMeter r f.1 f.2) (fun _ _ => rfl) _ _).trans ?_
  exact Dev.rd_wr_self ..

/-- A change of the factor is not one of the deliverable figure. -/
theorem Dev.factorChanged_deliv (d : Dev) {r : Nat} (hr : r < 4) : (d.factorChanged r).rd (K.delivT1 + r) = d.rd (K.delivT1 + r) := by
  have blind : EvBlind (fun d => d.rd (K.delivT1 + r)) := by
    refine evBlind_rd (fun n => ?_) (fun n => ?_)
    · simp only [K.ofPart, K.delivT1, K.eventsPosted]
      omega
    · simp only [K.ofPart, K.delivT1, K.eventsLost]
      omega
  have hposts : ∀ (t : Dev) (n : Nat), (Dev.postFactor r t n).rd (K.delivT1 + r) = t.rd (K.delivT1 + r) := by
    intro t n
    unfold Dev.postFactor
    split
    · exact blind.post ..
    · rfl
  refine (foldl_keeps (fun t => t.rd (K.delivT1 + r)) hposts _ _).trans ?_
  rw [Dev.rd_inc_ne _ (by simp only [K.delivT1, K.factorChanges]; omega), Dev.rd_wr_ne _ _ (by simp only [K.delivT1, K.factorT1]; omega)]

/-- A refill of a resource: the deliverable figure in its entry, every tenant class metered. -/
theorem Dev.refillRes_meters (d : Dev) {r c : Nat} (hr : r < 4) (h1 : 1 ≤ c) (h14 : c ≤ 14) :
    (d.refillRes r).rd (K.delivT1 + r) = d.delivNow r ∧
    (d.refillRes r).meteredAt r c (d.budget r c * ((d.refillRes r).factor r).1 / ((d.refillRes r).factor r).2) := by
  rw [Dev.factor_refillRes d hr, Dev.refillRes_eq d hr]
  split
  · exact ⟨Dev.metered_rd .., Dev.meteredAt_metered d hr h1 h14 _⟩
  · exact ⟨(Dev.factorChanged_deliv _ hr).trans (Dev.metered_rd ..),
      Dev.meteredAt_congr (Dev.factorChanged_bw ..) (Dev.meteredAt_metered d hr h1 h14 _)⟩

/-! ## The checks of bandwidth entries -/

theorem Dev.budgetBad_iff (d : Dev) (r c v : Nat) : d.budgetBad r c v = true ↔ (d.cap r c ≠ 0 ∧ d.cap r c < v) ∨
    (d.degraded r = true ∧ d.budget r c < v) ∨ (d.degraded r = false ∧ d.bwRoom r < d.budgetSum r (some (c, v))) := by
  cases hg : d.degraded r
  · simp [Dev.budgetBad, hg]
  · simp [Dev.budgetBad_iff_of_degraded hg]

/-- Without a pending commit nothing is drawn. -/
theorem Dev.commitMeets_none {d : Dev} (h : d.rd K.commitPending = 0) : d.commitMeets = d := if_pos (by simp [h])

/-- The answer of a write that `bad` refuses. -/
theorem Dev.answered_unless (d : Dev) (bad : Bool) (f : Dev → Dev) :
    Dev.answered (d.unless bad f) = if bad = true then d.result 8 else (f d).result 0 := by
  cases bad
  · rfl
  · rfl

/-- Settles O33: each write is its check and its store; a refill meters every tenant class of a resource by its factor. -/
theorem bandwidthWrites : Obligations.BandwidthWrites := by
  unfold Obligations.BandwidthWrites
  refine ⟨fun s role => ?writes, fun s => ⟨fun ho => congrArg (ok s) (if_pos ho), fun ho => congrArg (ok s) (if_neg (by simp [ho]))⟩,
    fun d r c hr h1 h14 => ?refill⟩
  case refill =>
    obtain ⟨hdeliv, heff, hcredit, hused⟩ := Dev.refillRes_meters d hr h1 h14
    exact ⟨hdeliv, Dev.factor_refillRes d hr, heff, hcredit, hused⟩
  dsimp only
  refine ⟨fun res cls v hres hm => ⟨fun hb => ?_, fun hb => ?_, Dev.budgetBad_iff ..⟩, fun v hm => ⟨fun h => ?_, fun h => ?_⟩,
    fun cls mask hm => ⟨fun h => ?_, fun h => ?_⟩, fun part v mig hm => ?_, fun group cls rank hm hp => ?_, fun mask hm hp => ?_,
    fun g c hp hg h1 h14 => Dev.commitDone_ranks hp hg h1 h14⟩
  · rw [exec_budgetWrite_of_may hm, Dev.wBudget, hb, Dev.answered_unless_false]
  · rw [exec_budgetWrite_of_may hm, Dev.wBudget, hb, Dev.answered_unless_true]
  · refine congrArg (ok s) ((Dev.scalarWrite_may hm (fun d => d.wQ0Reserve v)).trans ((Dev.answered_unless ..).trans (if_neg ?_)))
    rw [List.any_eq_true]
    rintro ⟨r, hr, hlt⟩
    exact Nat.not_lt.mpr (h r (List.mem_range.mp hr)) (of_decide_eq_true hlt)
  · refine congrArg (ok s) ((Dev.scalarWrite_may hm (fun d => d.wQ0Reserve v)).trans ((Dev.answered_unless ..).trans (if_pos ?_)))
    obtain ⟨r, hr, hroom⟩ := h
    exact List.any_eq_true.mpr ⟨r, List.mem_range.mpr hr, decide_eq_true hroom⟩
  · refine congrArg (ok s) ((Dev.scalarWrite_may hm (fun d => d.wClassPartitions cls mask)).trans
      ((Dev.answered_unless ..).trans (if_neg ?_)))
    simpa using h
  · refine congrArg (ok s) ((Dev.scalarWrite_may hm (fun d => d.wClassPartitions cls mask)).trans
      ((Dev.answered_unless ..).trans (if_pos ?_)))
    simpa [and_assoc] using h
  · refine congrArg (ok s) ((Dev.scalarWrite_may hm (fun d => d.wLsClass part mig v)).trans ((Dev.answered_unless ..).trans ?_))
    cases s.dev.bound v part
    · rfl
    · rfl
  · refine congrArg (ok s) ((Dev.scalarWrite_may hm (fun d => d.wShadow group cls rank)).trans ?_)
    rw [Dev.wShadow, Dev.commitMeets_none hp, hp]
    simp [bit]
  · refine congrArg (ok s) ((Dev.scalarWrite_may hm (fun d => d.wArbCommit mask)).trans ?_)
    rw [Dev.wArbCommit, Dev.commitMeets_none hp, hp]
    rfl

end Sys2Proof.Machine
end

section
/-! O45: the settings of the pair. -/
namespace Sys2Proof.Machine

theorem noteBlind_pr : NoteBlind Dev.pr := ⟨fun _ _ => rfl, fun _ _ => rfl, fun _ => rfl⟩

/-- A change of the state of a pair changes nothing else of the pair. -/
theorem Dev.pairTo_pr (d : Dev) (st : PairSt) : (d.pairTo st).pr = { d.pr with st := st } := by
  unfold Dev.pairTo
  split
  case isTrue h => rw [← eq_of_beq h]
  case isFalse => exact noteBlind_pr.notify ..

theorem Dev.pairTo_rd (d : Dev) (st : PairSt) {k : Nat} (h : k ≠ K.notifyDropped) : (d.pairTo st).rd k = d.rd k := by
  unfold Dev.pairTo
  split
  · rfl
  · exact (noteBlind_rd h).notify ..

/-- What stands once a pair forms. -/
theorem Dev.pairStart_facts (d : Dev) : d.pairStart.pr.st = (if d.pr.lease then .forming else .fenced) ∧ d.pairStart.pr.copied = 0 ∧
    d.pairStart.flag K.pairEnable = true := by
  refine ⟨congrArg Pr.st (Dev.pairTo_pr ..), congrArg Pr.copied (Dev.pairTo_pr ..), ?_⟩
  have hrd : d.pairStart.rd K.pairEnable = 1 := by
    refine (Dev.pairTo_rd _ _ (by decide)).trans ?_
    exact (Dev.rd_wr_ne _ _ (by decide)).trans (Dev.rd_wr_self ..)
  simp [Dev.flag, hrd]

/-- A handover waits while frames are unacknowledged. -/
theorem Dev.finishHand_waits {d : Dev} (h : d.unacked ≠ []) : d.finishHand = d := by
  unfold Dev.finishHand
  split
  · rfl
  · exact if_pos (by simp [h])

theorem Dev.answered_done (t : Dev) : Dev.answered (t, 0) = t.result 0 := rfl

/-- Settles O45: each write of a setting is its check and its effect. -/
theorem pairSettings : Obligations.PairSettings := by
  unfold Obligations.PairSettings
  intro s role
  dsimp only
  obtain ⟨hst, hcopied, henabled⟩ := s.dev.pairStart_facts
  refine ⟨fun partner v hv hm => ?moduleId, fun p v hv hm => ⟨fun he hf => ?roleKept, fun h => ?roleSet⟩,
    fun i v hm => ⟨fun h => ?rangeOut, fun h1 h2 => ?range⟩, fun hm => ⟨fun h => ?noKey, fun hid hkey he => ?enable⟩, hst, hcopied,
    henabled, fun hm => ?disable, fun p hp hm => ⟨fun h => ?noHandover, fun hs hr hh => ?handover, fun hs hr hh hu => ?handoverWaits⟩,
    fun hm => ?format1, fun hm => ⟨fun hb hs hhb hf => ?format2, fun h => ?noFormat⟩⟩
  case moduleId =>
    refine congrArg (ok s) ((Dev.scalarWrite_may hm (fun d => d.wModuleId partner v)).trans ?_)
    rw [Dev.wModuleId, if_neg (by simpa using hv), Dev.answered_unless]
  case roleKept =>
    refine congrArg (ok s) ((Dev.scalarWrite_may hm (fun d => d.wPairRole p false v)).trans ?_)
    rw [Dev.wPairRole, if_neg (by simpa using hv), Dev.answered_unless, if_pos (by simp [he, hf])]
  case roleSet =>
    refine congrArg (ok s) ((Dev.scalarWrite_may hm (fun d => d.wPairRole p false v)).trans ?_)
    rw [Dev.wPairRole, if_neg (by simpa using hv), Dev.answered_unless, if_neg (by rcases h with h | h <;> simp [h])]
    rfl
  case rangeOut =>
    refine congrArg (ok s) ((Dev.entryWrite_may hm (fun d => d.wMirrorRange i v)).trans ?_)
    rw [Dev.wMirrorRange, if_pos (by simpa using h), Dev.answered_outOfRange]
  case range =>
    refine congrArg (ok s) ((Dev.entryWrite_may hm (fun d => d.wMirrorRange i v)).trans ?_)
    rw [Dev.wMirrorRange, if_neg (by simp [h1, h2]), Dev.answered_unless]
  case noKey =>
    refine congrArg (ok s) ((Dev.scalarWrite_may hm (fun d => d.wPairEnable 1)).trans ?_)
    rw [Dev.wPairEnable, if_pos (by decide), Dev.answered_unless, if_pos (by simpa using h)]
  case enable =>
    refine congrArg (ok s) ((Dev.scalarWrite_may hm (fun d => d.wPairEnable 1)).trans ?_)
    rw [Dev.wPairEnable, if_pos (by decide), Dev.answered_unless, if_neg (by simp [hid, hkey]), he]
    rfl
  case disable =>
    refine congrArg (ok s) ((Dev.scalarWrite_may hm (fun d => d.wPairEnable 0)).trans ?_)
    rw [Dev.wPairEnable, if_neg (by decide), Dev.answered_done, apply_ite (fun t : Dev => t.result 0)]
  case noHandover =>
    refine congrArg (ok s) ((Dev.scalarWrite_may hm (fun d => d.wHandover p)).trans ?_)
    rw [Dev.wHandover, if_neg (by omega), Dev.answered_unless, if_pos (by simpa [or_assoc, Option.isSome_iff_ne_none] using h)]
  case handover =>
    refine congrArg (ok s) ((Dev.scalarWrite_may hm (fun d => d.wHandover p)).trans ?_)
    rw [Dev.wHandover, if_neg (by omega), Dev.answered_unless, if_neg (by simp [hs, hr, hh])]
  case handoverWaits =>
    refine congrArg (ok s) ((Dev.scalarWrite_may hm (fun d => d.wHandover p)).trans ?_)
    rw [Dev.wHandover, if_neg (by omega), Dev.answered_unless, if_neg (by simp [hs, hr, hh])]
    refine congrArg (fun t : Dev => t.result 0) (Dev.finishHand_waits ?_)
    exact hu
  case format1 =>
    refine congrArg (ok s) ((Dev.scalarWrite_may hm (fun d => d.wMirrorFormatCommit 1)).trans ?_)
    rw [Dev.wMirrorFormatCommit, if_neg (by decide), if_pos (by decide), Dev.answered_unless]
  case format2 =>
    refine congrArg (ok s) ((Dev.scalarWrite_may hm (fun d => d.wMirrorFormatCommit 2)).trans ?_)
    rw [Dev.wMirrorFormatCommit, if_pos (by decide), Dev.answered_unless, if_neg (by simp [hs, hhb, hf])]
    simp only [hhb, Option.any_some]
  case noFormat =>
    refine congrArg (ok s) ((Dev.scalarWrite_may hm (fun d => d.wMirrorFormatCommit 2)).trans ?_)
    rw [Dev.wMirrorFormatCommit, if_pos (by decide), Dev.answered_unless, if_pos ?_]
    rcases h with h | h
    · simp [h]
    · simp [h]

end Sys2Proof.Machine
end

section
/-! O35 and O36: upkeep of the flash; reservations, lend entries, host slots, sharing and quotas. -/
namespace Sys2Proof.Machine

/-! ## Flash -/

/-- What the retirement of a block leaves. -/
theorem Dev.retireFlash_facts (d : Dev) (b blk wear : Nat) :
    let t := d.retireFlash b blk wear
    (b, blk) ∈ t.mm.flashRetired ∧ t.rd (K.wearPct + b) = Min.min (d.wearPct b) wear ∧
    t.mm = { d.mm with flashRetired := t.mm.flashRetired } ∧ t = { d with mm := t.mm, od := t.od, fresh := t.fresh, bw := t.bw } := by
  refine ⟨?_, Dev.rd_wr_self .., rfl, rfl⟩
  change (b, blk) ∈ if d.mm.flashRetired.contains (b, blk) = true then d.mm.flashRetired else d.mm.flashRetired ++ [(b, blk)]
  split
  case isTrue h => simpa using h
  case isFalse => simp

/-- Settles O35: an upkeep only draws; a retirement notes its block and lowers the wear figure. -/
theorem flashUpkeep : Obligations.FlashUpkeep := by
  unfold Obligations.FlashUpkeep
  intro s bay blk wear
  dsimp only
  refine ⟨fun hs => ?serves, fun hs => ?dark⟩
  case serves =>
    have hup : s.dev.upkeep bay = s.dev.flashWear := if_pos hs
    have hret : exec (.flashBlockRetire bay blk wear) s = ok s (s.dev.retireFlash bay blk wear) := congrArg (ok s) (if_pos hs)
    exact ⟨congrArg (ok s) hup, congrArg (ok s) hup, congrArg (ok s) hup, _, hret, s.dev.retireFlash_facts bay blk wear⟩
  case dark =>
    have hup : s.dev.upkeep bay = s.dev := if_neg (by simp [hs])
    exact ⟨congrArg (ok s) hup, congrArg (ok s) hup, congrArg (ok s) hup, congrArg (ok s) (if_neg (by simp [hs]))⟩

/-! ## Writes of reservations -/

theorem Dev.wReservation_below {d : Dev} {t : Tier} {p v : Nat} (h : v * 16384 < d.tierUse p t) :
    Dev.answered (d.wReservation t p v) = d.result 8 := by
  rw [Dev.wReservation, Dev.answered_unless, if_pos (by simp [h])]

theorem Dev.wReservation_above {d : Dev} {t : Tier} {p v : Nat} (hl : t = .th ∨ d.resv p t ≤ v)
    (ha : d.reservable t < d.resvSum t - d.resv p t + v) : Dev.answered (d.wReservation t p v) = d.result 8 := by
  rw [Dev.wReservation, Dev.answered_unless, if_pos ?_]
  rcases hl with rfl | hl
  · simp [ha]
  · simp [ha, Nat.not_lt.mpr hl]

theorem Dev.wReservation_fits {d : Dev} {t : Tier} {p v : Nat} (hu : d.tierUse p t ≤ v * 16384)
    (hf : d.resvSum t - d.resv p t + v ≤ d.reservable t ∨ (t ≠ .th ∧ d.reservable t < d.resvSum t ∧ v < d.resv p t)) :
    Dev.answered (d.wReservation t p v) = (d.wr (resvKey p t) v).result 0 := by
  rw [Dev.wReservation, Dev.answered_unless, if_neg ?_]
  rcases hf with hf | ⟨hth, hs, hv⟩
  · simp [Nat.not_lt.mpr hu, Nat.not_lt.mpr hf]
  · simp [Nat.not_lt.mpr hu, hth, hs, hv]

/-! ## Lend entries -/

theorem Dev.wLend_bad {d : Dev} {i v : Nat} (h : lendBad v = true) : Dev.answered (d.wLend i v) = d.result 7 := by
  rw [Dev.wLend, if_pos h, Dev.answered_outOfRange]

theorem Dev.wLend_barred {d : Dev} {i v : Nat} (h : lendBad v = false) (ha : lendAllowed (d.lendEntry i) v = false) :
    Dev.answered (d.wLend i v) = d.result 8 := by
  rw [Dev.wLend, if_neg (by simp [h]), Dev.answered_unless, if_pos (by simp [ha])]

theorem Dev.wLend_changes {d : Dev} {i v : Nat} (h : lendBad v = false) (ha : lendAllowed (d.lendEntry i) v = true) (h1 : lendState v ≠ 1) :
    Dev.answered (d.wLend i v) = (d.lendSet i v).result 0 := by
  rw [Dev.wLend, if_neg (by simp [h]), Dev.answered_unless, if_neg (by simp [ha, h1])]

/-- The state of an entry does not stand in its reserved bits. -/
theorem lendState_masked (v : Nat) : lendState (v / 2 ^ 40 * 2 ^ 40) = lendState v := by
  have hdiv : v / 2 ^ 40 * 2 ^ 40 / 2 ^ 108 = v / 2 ^ 108 := by
    rw [show (2 : Nat) ^ 108 = 2 ^ 40 * 2 ^ 68 by decide, ← Nat.div_div_eq_div_mul, ← Nat.div_div_eq_div_mul,
      Nat.mul_div_cancel _ (by decide)]
  rw [lendState, lendState, fld, fld, Nat.shiftRight_eq_div_pow, Nat.shiftRight_eq_div_pow, hdiv]

/-- An entry made ACTIVE lends what is left. -/
theorem Dev.wLend_active {d : Dev} {i v : Nat} (h : lendBad v = false) (h1 : lendState v = 1)
    (ha : lendState (d.lendEntry i) = 0 ∨ lendState (d.lendEntry i) = 4 ∨ lendState (d.lendEntry i) = 5) :
    Dev.answered (d.wLend i v) =
      if 4096 < d.lent + lendExtents v then d.result 8 else (d.wr (K.lend + i) (v / 2 ^ 40 * 2 ^ 40)).result 0 := by
  have hallowed : lendAllowed (d.lendEntry i) v = true := by
    rcases ha with ha | ha | ha
    · simp [lendAllowed, ha, h1]
    · simp [lendAllowed, ha, h1]
    · simp [lendAllowed, ha, h1]
  have hmine : (1 ≤ lendState (d.lendEntry i) && lendState (d.lendEntry i) ≤ 3) = false := by
    rcases ha with ha | ha | ha
    · simp [ha]
    · simp [ha]
    · simp [ha]
  have hset : d.lendSet i v = d.wr (K.lend + i) (v / 2 ^ 40 * 2 ^ 40) := by
    have hs : lendState (v / 2 ^ 40 * 2 ^ 40) = 1 := (lendState_masked v).trans h1
    rw [Dev.lendSet, if_neg (fun h => by rw [beq_iff_eq.mp h] at hs; contradiction),
      if_neg (fun h => by rw [beq_iff_eq.mp h] at hs; contradiction)]
  rw [Dev.wLend, if_neg (by simp [h])]
  simp only [hmine, Bool.false_eq_true, if_false, Nat.sub_zero]
  rw [Dev.answered_unless, hset, hallowed, h1]
  simp

/-! ## Host slots -/

theorem Dev.slotAllowed_free {d : Dev} {i v : Nat} (h0 : slState (d.slot i) = 0) (h1 : slState v ≠ 1) : d.slotAllowed i v = false := by
  unfold Dev.slotAllowed
  match hv : slState v with
  | 0 => simp only [h0]
  | 1 => exact absurd hv h1
  | n + 2 => simp only [h0]

/-! ## Quotas -/

theorem sumBy_eq {α : Type} (f : α → Nat) (l : List α) : sumBy f l = (l.map f).sum := by
  rw [sumBy, List.sum_eq_foldl, List.foldl_map]

theorem sumBy_cons {α : Type} (f : α → Nat) (a : α) (l : List α) : sumBy f (a :: l) = f a + sumBy f l := by simp [sumBy_eq]

theorem sumBy_congr {α : Type} {f g : α → Nat} {l : List α} (h : ∀ a ∈ l, f a = g a) : sumBy f l = sumBy g l := by
  rw [sumBy_eq, sumBy_eq, List.map_congr_left h]

theorem sumBy_replaced {l : List Nat} (hn : l.Nodup) {p : Nat} (hp : p ∈ l) (f : Nat → Nat) (v : Nat) :
    sumBy (fun q => if q == p then v else f q) l = sumBy (fun q => if q = p then 0 else f q) l + v := by
  induction l with
  | nil => cases hp
  | cons a l ih =>
    obtain ⟨ha, hl⟩ := List.nodup_cons.mp hn
    simp only [sumBy_cons]
    by_cases hap : a = p
    · subst hap
      have hrest : sumBy (fun q => if q == a then v else f q) l = sumBy (fun q => if q = a then 0 else f q) l :=
        sumBy_congr fun q hq => by
          have hne : q ≠ a := fun h => ha (h ▸ hq)
          simp [hne]
      rw [hrest]
      simp [Nat.add_comm]
    · have hp' : p ∈ l := (List.mem_cons.mp hp).resolve_left (fun h => hap h.symm)
      rw [ih hl hp']
      simp [hap, Nat.add_assoc]

/-- Settles O36: each write is its check and its effect. -/
theorem reservationWrites : Obligations.ReservationWrites := by
  unfold Obligations.ReservationWrites
  intro s role
  dsimp only
  refine ⟨fun tier part v ht hm => ⟨fun hu => ?below, fun hl ha => ?above, fun hu hf => ?fits⟩,
    fun i v hm => ⟨fun hb => ?lendBad, fun hb ha => ?lendBarred, fun hb ha h1 => ?lendChanges, fun hb h1 ha => ⟨fun hf => ?lendFits,
      fun hf => ?lendFull⟩⟩,
    fun hm hon hen => ?share, fun hm => ⟨fun hx hd => ?unshare, fun h => ?shared⟩,
    fun i w hm => ⟨fun ha => ?slotBarred, fun ha h2 => ?slotLost, fun ha h2 hdoom => ?slotSet, fun ha h1 hdoom => ?slotDoomed,
      fun h0 h1 => Dev.slotAllowed_free h0 h1⟩,
    fun sync part v hp hm => ?quota⟩
  case below =>
    exact congrArg (ok s) ((Dev.scalarWrite_may hm (fun d => d.wReservation (tierOf tier) part v)).trans (Dev.wReservation_below hu))
  case above =>
    exact congrArg (ok s) ((Dev.scalarWrite_may hm (fun d => d.wReservation (tierOf tier) part v)).trans (Dev.wReservation_above hl ha))
  case fits =>
    exact congrArg (ok s) ((Dev.scalarWrite_may hm (fun d => d.wReservation (tierOf tier) part v)).trans (Dev.wReservation_fits hu hf))
  case lendBad => exact congrArg (ok s) ((Dev.entryWrite_may hm (fun d => d.wLend i v)).trans (Dev.wLend_bad hb))
  case lendBarred => exact congrArg (ok s) ((Dev.entryWrite_may hm (fun d => d.wLend i v)).trans (Dev.wLend_barred hb ha))
  case lendChanges => exact congrArg (ok s) ((Dev.entryWrite_may hm (fun d => d.wLend i v)).trans (Dev.wLend_changes hb ha h1))
  case lendFits =>
    exact congrArg (ok s) ((Dev.entryWrite_may hm (fun d => d.wLend i v)).trans
      ((Dev.wLend_active hb h1 ha).trans (if_neg (Nat.not_lt.mpr hf))))
  case lendFull =>
    exact congrArg (ok s) ((Dev.entryWrite_may hm (fun d => d.wLend i v)).trans ((Dev.wLend_active hb h1 ha).trans (if_pos hf)))
  case share =>
    refine congrArg (ok s) ((Dev.scalarWrite_may hm (fun d => d.wSharedEnable 1)).trans ?_)
    rw [Dev.wSharedEnable, if_pos (by decide), if_neg (by simp [hon, hen]), Dev.answered_unless]
    by_cases h : s.dev.resvSum .t1 ≤ 751
    · rw [if_pos h, if_neg (by simpa using h)]
    · rw [if_neg h, if_pos (by simpa using h)]
  case unshare =>
    refine congrArg (ok s) ((Dev.scalarWrite_may hm (fun d => d.wSharedEnable 0)).trans ?_)
    rw [Dev.wSharedEnable, if_neg (by decide), Dev.answered_unless, if_neg ?_]
    simpa [hd] using hx
  case shared =>
    refine congrArg (ok s) ((Dev.scalarWrite_may hm (fun d => d.wSharedEnable 0)).trans ?_)
    rw [Dev.wSharedEnable, if_neg (by decide), Dev.answered_unless, if_pos ?_]
    rcases h with ⟨e, he, hx⟩ | h
    · have hany : s.dev.mm.objs.any (fun e => e.2.exported.isSome) = true :=
        List.any_eq_true.mpr ⟨e, he, Option.isSome_iff_ne_none.mpr hx⟩
      simp [hany]
    · simp [h]
  case slotBarred =>
    refine congrArg (ok s) ((Dev.entryWrite_may hm (fun d => d.wHostSlot i w)).trans ?_)
    rw [Dev.wHostSlot, ha, Bool.not_false, Dev.answered_unless_true]
  case slotLost =>
    refine congrArg (ok s) ((Dev.entryWrite_may hm (fun d => d.wHostSlot i w)).trans ?_)
    rw [Dev.wHostSlot, ha, Bool.not_true, Dev.answered_unless_false, if_pos (beq_iff_eq.mpr h2)]
  case slotSet =>
    refine congrArg (ok s) ((Dev.entryWrite_may hm (fun d => d.wHostSlot i w)).trans ?_)
    rw [Dev.wHostSlot, ha, Bool.not_true, Dev.answered_unless_false, if_neg (fun h => h2 (beq_iff_eq.mp h)), if_neg (fun h => ?_)]
    obtain ⟨h1, hd⟩ := Bool.and_eq_true_iff.mp h
    rw [hdoom (beq_iff_eq.mp h1)] at hd
    contradiction
  case slotDoomed =>
    refine congrArg (ok s) ((Dev.entryWrite_may hm (fun d => d.wHostSlot i w)).trans ?_)
    rw [Dev.wHostSlot, ha, Bool.not_true, Dev.answered_unless_false, if_neg (fun h => by rw [beq_iff_eq.mp h] at h1; contradiction),
      if_pos (Bool.and_eq_true_iff.mpr ⟨beq_iff_eq.mpr h1, hdoom⟩)]
  case quota =>
    refine congrArg (ok s) ((Dev.scalarWrite_may hm (fun d => d.wQuota sync part v)).trans ?_)
    simp only [Dev.wQuota]
    rw [Dev.answered_unless, sumBy_replaced List.nodup_range (List.mem_range.mpr hp)]
    generalize sumBy (fun q => if q = part then 0 else s.dev.rd ((if sync = true then K.syncQuota else K.chQuota) + q)) (List.range 64) + v
      = total
    by_cases h : total ≤ if sync = true then 16384 else 65536
    · rw [if_pos h, if_neg (by simpa using h)]
    · rw [if_neg h, if_pos (by simpa using h)]

end Sys2Proof.Machine
end

section
/-! O42: the events of cartridge bays and the writes of BAY_CTRL. -/
namespace Sys2Proof.Machine

/-! ## Single bits of a register -/

theorem bit_eq_testBit (n i : Nat) : bit n i = n.testBit i := by
  rw [bit, Nat.testBit_eq_decide_div_mod_eq, Nat.shiftRight_eq_div_pow]
  rfl

theorem bit_eq_fld (n i : Nat) : bit n i = (fld n i 1 == 1) := rfl

theorem bit_setBit_self (n i : Nat) : bit (setBit n i) i = true := by
  unfold setBit
  split
  case isTrue h => exact h
  case isFalse h =>
    rw [bit_eq_testBit] at h ⊢
    rw [Nat.add_comm, Nat.testBit_two_pow_add_eq]
    simpa using h

theorem bit_setBit_below {i j : Nat} (h : j < i) (n : Nat) : bit (setBit n i) j = bit n j := by
  unfold setBit
  split
  · rfl
  · rw [bit_eq_testBit, bit_eq_testBit, Nat.add_comm, Nat.testBit_two_pow_add_gt h]

theorem bit_clrBit_self (n i : Nat) : bit (clrBit n i) i = false := by
  unfold clrBit
  split
  case isTrue h =>
    rw [bit_eq_testBit] at h ⊢
    have hle : 2 ^ i ≤ n := Nat.ge_two_pow_of_testBit h
    have hback : n = 2 ^ i + (n - 2 ^ i) := by omega
    rw [hback, Nat.testBit_two_pow_add_eq] at h
    simpa using h
  case isFalse h => simpa using h

/-! ## What signatures leave alone -/

/-- A signature record changes the log, draws and notifies. -/
theorem NoteBlind.sign {β : Type} {part : Dev → β} (hp : NoteBlind part) (her : ∀ (d : Dev) (x : Er), part { d with er := x } = part d)
    (hdr : ∀ d : Dev, part d.drawn = part d) (hov : ∀ d : Dev, part (d.inc K.logOverwritten) = part d) (d : Dev) (x : Sig) :
    part (d.sign x) = part d := by
  have hqueue : ∀ (e : Dev) (t : Nat) (y : Sig), part (e.queueSig t y) = part e := by
    intro e t y
    unfold Dev.queueSig
    dsimp only
    rw [hp.notify]
    split
    · rw [hov, her]
    · rw [her]
  unfold Dev.sign
  dsimp only
  split
  · split
    · rw [her, hdr, hdr]
    · rw [hqueue, hdr, hdr]
  · rw [hqueue, hdr, hdr]

theorem noteBlind_bays : NoteBlind Dev.bays := ⟨fun _ _ => rfl, fun _ _ => rfl, fun _ => rfl⟩

theorem Dev.sign_bays (d : Dev) (x : Sig) : (d.sign x).bays = d.bays :=
  noteBlind_bays.sign (fun _ _ => rfl) (fun _ => rfl) (fun _ => rfl) d x

theorem Dev.sign_mm (d : Dev) (x : Sig) : (d.sign x).mm = d.mm :=
  noteBlind_mm.sign (fun _ _ => rfl) (fun _ => rfl) (fun _ => rfl) d x

/-! ## Bays -/

theorem Dev.bay_congr {d t : Dev} (h : t.bays = d.bays) (b : Nat) : t.bay b = d.bay b := by rw [Dev.bay, h, Dev.bay]

theorem Dev.otherMissing_congr {d t : Dev} (h : t.bays = d.bays) (b : Nat) : t.otherMissing b = d.otherMissing b := by
  simp only [Dev.otherMissing, Dev.bay_congr h]

theorem Dev.setBay_setBay (d : Dev) (b : Nat) (x y : Bay) : (d.setBay b x).setBay b y = d.setBay b y := by
  simp [Dev.setBay]

/-- A change bit of a bay: its bay apart from the bit is as it was. -/
theorem Dev.baySignal_bay (d : Dev) (b bitNo enable : Nat) :
    (d.baySignal b bitNo enable).bay b = { d.bay b with status := setBit (d.bay b).status bitNo } := by
  unfold Dev.baySignal
  dsimp only
  split
  · rw [Dev.bay_congr (noteBlind_bays.notify ..), Dev.bay_setBay_self]
  · exact Dev.bay_setBay_self ..

theorem Dev.setReady_bay (d : Dev) (b : Nat) (v : Bool) :
    ∃ st, (d.setReady b v).bay b = { d.bay b with status := st } ∧ bit st 7 = v := by
  unfold Dev.setReady
  dsimp only
  split
  case isTrue h => exact ⟨_, rfl, eq_of_beq h⟩
  case isFalse =>
    rw [Dev.baySignal_bay, Dev.bay_setBay_self]
    refine ⟨_, rfl, ?_⟩
    rw [bit_setBit_below (by decide)]
    cases v
    · exact bit_clrBit_self ..
    · exact bit_setBit_self ..

theorem Dev.setReady_mm (d : Dev) (b : Nat) (v : Bool) : (d.setReady b v).mm = d.mm := by
  unfold Dev.setReady
  dsimp only
  split
  · rfl
  · exact noteBlind_mm.baySignal (fun _ _ _ => rfl) ..

/-- Codewords that go missing while no other bay's are: the bay is noted and nothing else changes. -/
theorem Dev.loseCodewords_alone {d : Dev} {b : Nat} (h : d.otherMissing b = false) :
    ((d.loseCodewords b).bay b).missing = true ∧ (d.loseCodewords b).mm = d.mm := by
  unfold Dev.loseCodewords
  split
  case isTrue hm => exact ⟨hm, rfl⟩
  case isFalse =>
    rw [if_neg (by simp [h])]
    exact ⟨congrArg Bay.missing (Dev.bay_setBay_self ..), rfl⟩

/-- What ends both ways of losing power: the bay as `f` leaves it, not ready. -/
theorem Dev.modBay_setReady (d : Dev) (b : Nat) (f : Bay → Bay) (v : Bool) :
    let t := (d.modBay b f).setReady b v
    let y := f (d.bay b)
    (t.bay b).cart = y.cart ∧ (t.bay b).missing = y.missing ∧ (t.bay b).ready = v ∧ (t.bay b).powerOff = y.powerOff ∧ t.mm = d.mm := by
  obtain ⟨st, hbay, hready⟩ := (d.modBay b f).setReady_bay b v
  have hy : (d.modBay b f).bay b = f (d.bay b) := Dev.bay_setBay_self ..
  dsimp only
  rw [hbay, hy]
  exact ⟨rfl, rfl, hready, rfl, Dev.setReady_mm ..⟩

/-- The power bit of a bay under indicator writes. -/
theorem Bay.powerOff_setPowerInd (x : Bay) (v : Nat) : (x.setPowerInd v).powerOff = x.powerOff := by
  simp only [Bay.powerOff, Bay.setPowerInd, bit_eq_fld, fld_setFld_above (show 8 + 2 ≤ 10 by decide)]

theorem Bay.powerOff_setAttnInd (x : Bay) (v : Nat) : (x.setAttnInd v).powerOff = x.powerOff := by
  simp only [Bay.powerOff, Bay.setAttnInd, bit_eq_fld, fld_setFld_above (show 6 + 2 ≤ 10 by decide)]

theorem Bay.powerOff_setPowerOff (x : Bay) : (x.setPowerOff true).powerOff = true := bit_setBit_self ..

theorem Dev.powerDown_alone {d : Dev} {b : Nat} (h : d.otherMissing b = false) :
    let t := d.powerDown b
    (t.bay b).cart = 5 ∧ (t.bay b).missing = true ∧ (t.bay b).ready = false ∧ (t.bay b).powerOff = true ∧ t.mm = d.mm := by
  obtain ⟨hmiss, hmm⟩ := Dev.loseCodewords_alone h
  obtain ⟨h1, h2, h3, h4, h5⟩ := (d.loseCodewords b).modBay_setReady b
    (fun x => { x with cart := 5, pressed := false, settling := false, media := none }.setPowerOff true) false
  exact ⟨h1, h2.trans hmiss, h3, h4.trans (Bay.powerOff_setPowerOff _), h5.trans hmm⟩

theorem Dev.loseCartridge_alone {d : Dev} {b : Nat} (h : d.otherMissing b = false) :
    let t := d.loseCartridge b
    (t.bay b).cart = 6 ∧ (t.bay b).missing = true ∧ (t.bay b).ready = false ∧ (t.bay b).powerOff = true ∧ t.mm = d.mm := by
  have hbays := Dev.sign_bays (d.inc (K.ofBay K.surpriseRemovals b)) { Sig.base 0x10 0 7 with unitType := 3, unit := b }
  obtain ⟨hmiss, hmm⟩ := Dev.loseCodewords_alone ((Dev.otherMissing_congr hbays b).trans h)
  obtain ⟨h1, h2, h3, h4, h5⟩ := Dev.modBay_setReady (((d.inc (K.ofBay K.surpriseRemovals b)).sign
    { Sig.base 0x10 0 7 with unitType := 3, unit := b }).loseCodewords b) b
    (fun x => (({ x with cart := 6, pressed := false, settling := false, media := none }.setPowerOff true).setPowerInd indOff).setAttnInd
      indOn) false
  refine ⟨h1, h2.trans hmiss, h3, h4.trans ?_, h5.trans (hmm.trans (Dev.sign_mm ..))⟩
  rw [Bay.powerOff_setAttnInd, Bay.powerOff_setPowerInd, Bay.powerOff_setPowerOff]

/-- A bay whose cartridge passed its check, under the media key drawn for it. -/
def Bay.passed (x : Bay) (key : Nat) : Bay :=
  { x with cart := if x.missing then 3 else 2, media := some key }.setPowerInd indOn

/-- A check that a cartridge passes. -/
theorem Dev.checkDone_passed {d : Dev} {b : Nat} (h : (d.bay b).cart = 1) :
    let t := d.checkDone b true
    (t.bay b).cart = (if (d.bay b).missing then 3 else 2) ∧ (t.bay b).ready = true ∧ t.mm = d.mm := by
  have hdone : d.checkDone b true = (d.drawn.modBay b (fun x => x.passed d.free)).setReady b true := if_neg (by simp [h])
  obtain ⟨h1, -, h3, -, h5⟩ := d.drawn.modBay_setReady b (fun x => x.passed d.free) true
  dsimp only
  rw [hdone]
  exact ⟨h1, h3, h5⟩

/-- The traffic of a rebuild is counted and metered. -/
theorem Dev.chargeTier_frame (d : Dev) (t : Tier) (w : Bool) (c n : Nat) :
    d.chargeTier t w c n = { d with od := (d.chargeTier t w c n).od, bw := (d.chargeTier t w c n).bw } := by
  unfold Dev.chargeTier
  split
  · rfl
  · rfl

theorem Dev.chargeRebuild_frame (d : Dev) : d.chargeRebuild = { d with od := d.chargeRebuild.od, bw := d.chargeRebuild.bw } := by
  unfold Dev.chargeRebuild
  dsimp only
  rw [Dev.chargeTier_frame (d.chargeTier .t3 false 0 _), Dev.chargeTier_frame d]

/-! ## BAY_CTRL -/

theorem bayCtrlTaken_power (old v : Nat) (auto : Bool) : bit (bayCtrlTaken old v auto) 10 = if auto then bit old 10 else bit v 10 := by
  cases auto
  · simp only [bayCtrlTaken, bit, fld, Nat.shiftRight_eq_div_pow, Nat.reducePow, Bool.false_eq_true, if_false]
    congr 1
    omega
  · simp only [bayCtrlTaken, bit, fld, Nat.shiftRight_eq_div_pow, Nat.reducePow, if_true]
    congr 1
    omega

section
variable {d : Dev} {b v : Nat}

theorem Dev.wBayCtrl_reserved (h : fld v 6 2 = 0 ∨ (d.bayAuto b = false ∧ fld v 8 2 = 0)) : d.wBayCtrl b v = d.outOfRange := by
  refine if_pos ?_
  rcases h with h | ⟨ha, h⟩
  · simp [h]
  · simp [ha, h]

/-- A write whose encodings are good. -/
theorem Dev.wBayCtrl_good (h6 : fld v 6 2 ≠ 0) (h8 : d.bayAuto b = true ∨ fld v 8 2 ≠ 0) :
    let x := d.bay b
    let new := bayCtrlTaken x.ctrl v (d.bayAuto b)
    let t := d.setBay b { x with ctrl := new, blinking := false }
    d.wBayCtrl b v =
      if (!d.bayAuto b && bit new 10 && !x.powerOff && d.removalBarred b) = true then d.refused
      else if (bit new 10 && !x.powerOff) = true then (if x.powered = true then t.powerDown b else t, 0)
      else if (!bit new 10 && x.powerOff && x.present && d.su.mains && !x.powered) = true then (t.modBay b Bay.powerUp, 0)
      else (t, 0) := by
  refine if_neg ?_
  rcases h8 with h8 | h8
  · simp [h6, h8]
  · simp [h6, h8]

/-- The power of the bay as it is. -/
theorem Dev.wBayCtrl_same (h6 : fld v 6 2 ≠ 0) (ha : d.bayAuto b = true)
    (hs : bit (bayCtrlTaken (d.bay b).ctrl v (d.bayAuto b)) 10 = (d.bay b).powerOff) :
    d.wBayCtrl b v = (d.setBay b { d.bay b with ctrl := bayCtrlTaken (d.bay b).ctrl v (d.bayAuto b), blinking := false }, 0) := by
  rw [Dev.wBayCtrl_good h6 (.inl ha), if_neg (by simp [ha]), if_neg (by simp [hs]), if_neg (by simp [hs])]

end

theorem Dev.noteWear_bay (d : Dev) (b : Nat) : (d.noteWear b).bay b = d.bay b := rfl

/-- Settles O42: each event of a bay is its branch; a loss with no other bay missing changes the bay alone. -/
theorem bayEvents : Obligations.BayEvents := by
  unfold Obligations.BayEvents
  refine ⟨fun s b => ?events, fun s b v => ?ctrl⟩
  case events =>
    dsimp only
    refine ⟨⟨Dev.baySignal_bay .., fun hp => congrArg (ok s) (if_pos hp), fun hp hc hbar => ?refused, fun hp hc hbar ha => ?quiesce,
        fun hp h2 h3 => ?idle⟩, fun hp => congrArg (ok s) (if_pos hp), fun hp => congrArg (ok s) (if_neg (by simp [hp])),
      fun h => Dev.powerDown_alone h, fun h => Dev.loseCartridge_alone h, fun hm ho => ?second, fun hp hw => ?removed,
      fun hw => ⟨congrArg (ok s) (if_neg (by simp [hw])), congrArg (ok s) (if_pos hw), congrArg (ok s) (if_pos hw),
        congrArg (ok s) (if_pos hw)⟩, fun serial fw => ⟨fun hp => congrArg (ok s) (if_neg (by simp [hp])),
        fun hp => congrArg (ok s) (if_pos hp)⟩, fun hset hmain => ?settle, fun h => ?unsettled,
      fun hc => ⟨⟨_, rfl, Dev.checkDone_passed hc⟩, ?failed⟩, fun hc q => congrArg (ok s) (if_pos (by simpa using hc)),
      fun hc => ⟨?rebuilt, Dev.chargeRebuild_frame _⟩, fun hc => congrArg (ok s) (if_neg (by simpa using hc))⟩
    case refused => exact congrArg (ok s) ((if_neg (by simp [hp])).trans ((if_neg (by simpa [← Decidable.or_iff_not_imp_left] using hc)).trans (if_pos hbar)))
    case quiesce =>
      exact congrArg (ok s) ((if_neg (by simp [hp])).trans ((if_neg (by simpa [← Decidable.or_iff_not_imp_left] using hc)).trans ((if_neg (by simp [hbar])).trans
        (if_pos ha))))
    case idle => exact congrArg (ok s) ((if_neg (by simp [hp])).trans (if_pos (by simp [h2, h3])))
    case second => rw [Dev.loseCodewords, if_neg (by simp [hm]), if_pos ho]
    case removed => exact congrArg (ok s) (if_pos (by simp [hp, hw]))
    case settle =>
      have hgo : ¬ (!(s.dev.bay b).settling || !s.dev.su.mains) = true := by simp [hset, hmain]
      exact ⟨fun ha => congrArg (ok s) ((if_neg hgo).trans (if_pos ha)),
        fun ha ho => congrArg (ok s) ((if_neg hgo).trans ((if_neg (by simp [ha])).trans (if_pos ho))),
        fun ha ho => congrArg (ok s) ((if_neg hgo).trans ((if_neg (by simp [ha])).trans (if_neg (by simp [ho]))))⟩
    case unsettled => exact congrArg (ok s) (if_pos (by simpa using h))
    case failed => exact congrArg (ok s) ((if_neg (by simp [hc])).trans (if_neg (by decide)))
    case rebuilt =>
      refine congrArg (ok s) ((if_pos (by simp [hc])).trans ?_)
      have hbay : s.dev.chargeRebuild.bay b = s.dev.bay b := Dev.bay_congr (congrArg Dev.bays (Dev.chargeRebuild_frame s.dev)) b
      simp only [Dev.modBay, hbay]
  case ctrl =>
    dsimp only
    refine ⟨fun role hm => ⟨fun h6 => ?reserved6, fun ha h8 => ?reserved8, fun h6 ha hs => ?auto, fun h6 h8 ha => ⟨fun hn ho hbar => ?barred,
      fun hn ho hbar hw => ?down, fun hn ho hp hmain hw => ?up⟩⟩, fun f => ⟨fun h => ?ignored, fun h0 hp hopen ha h6 hs => ?dvsec⟩, ?power⟩
    case reserved6 =>
      refine congrArg (ok s) ((Dev.scalarWrite_may hm (fun d => d.wBayCtrl b v)).trans ?_)
      rw [Dev.wBayCtrl_reserved (.inl h6), Dev.answered_outOfRange]
    case reserved8 =>
      refine congrArg (ok s) ((Dev.scalarWrite_may hm (fun d => d.wBayCtrl b v)).trans ?_)
      rw [Dev.wBayCtrl_reserved (.inr ⟨ha, h8⟩), Dev.answered_outOfRange]
    case auto =>
      refine congrArg (ok s) ((Dev.scalarWrite_may hm (fun d => d.wBayCtrl b v)).trans ?_)
      rw [Dev.wBayCtrl_same h6 ha hs, Dev.answered_done]
    case barred =>
      refine congrArg (ok s) ((Dev.scalarWrite_may hm (fun d => d.wBayCtrl b v)).trans ?_)
      rw [Dev.wBayCtrl_good h6 (.inr h8), hn, ha, ho, hbar]
      rfl
    case down =>
      refine congrArg (ok s) ((Dev.scalarWrite_may hm (fun d => d.wBayCtrl b v)).trans ?_)
      rw [Dev.wBayCtrl_good h6 (.inr h8), if_neg (by simp [hbar]), if_pos (by simp [hn, ho]), if_pos hw, Dev.answered_done]
    case up =>
      refine congrArg (ok s) ((Dev.scalarWrite_may hm (fun d => d.wBayCtrl b v)).trans ?_)
      rw [Dev.wBayCtrl_good h6 (.inr h8), if_neg (by simp [hn]), if_neg (by simp [hn]), if_pos (by simp [hn, ho, hp, hmain, hw]),
        Dev.answered_done]
    case ignored =>
      refine congrArg (ok s) (if_neg ?_)
      rcases h with h | h
      · simp [h]
      · simp [h]
    case dvsec =>
      refine congrArg (ok s) ((if_pos (by simp [h0, hp, hopen])).trans ?_)
      rw [Dev.wBayCtrl_same h6 ha hs]
    case power => exact bayCtrlTaken_power ..

end Sys2Proof.Machine
end

section
/-! O27: the statement ranges over tables of channels that no run builds. -/
namespace Sys2Proof.Machine

/-! ## Tables out of order -/

/-- A channel of the port 0 with one completion to write into host memory. -/
def waitingChan : Chan := { newChan ⟨6, 1, 0, 4, 4, 0, 0, 0, 0, 0, 0, 1, 0, 0⟩ 0 [] with cqes := [⟨1, 0, 0, 0, 1⟩] }

/-- The block after reset, with a table of two channels that is not in the order of its keys. -/
def unsortedDev : Dev := { Dev.reset with chs := { Dev.reset.chs with chans := [(1, waitingChan), (0, waitingChan)] } }

/-- A channel changed in place keeps the number of entries, one put in before a larger key adds an entry. -/
theorem unsortedDev_lost_ne (c : Chan) : unsortedDev.cqeLost 0 ≠ unsortedDev.setChan 0 c := by
  intro h
  have hlen := congrArg (fun t : Dev => t.chs.chans.length) h
  have hlost : (unsortedDev.cqeLost 0).chs.chans.length = 2 := List.length_map _
  have hput : (unsortedDev.setChan 0 c).chs.chans.length = 3 := rfl
  rw [hlost, hput] at hlen
  omega

/-- Refutes O27: where the table of channels is not in the order of its keys, channel 0 found behind channel 1, a completion that
Bus Master Enable keeps from host memory is taken out of the entry in place, and the statement's table has a further entry in front. -/
theorem not_eventsAndCompletions : ¬ Obligations.EventsAndCompletions := by
  unfold Obligations.EventsAndCompletions
  rintro ⟨-, -, hsend⟩
  have hbme : unsortedDev.bme (waitingChan.fn 0) = false := by decide +kernel
  obtain ⟨-, -, hbarred⟩ := hsend unsortedDev 0 waitingChan ⟨1, 0, 0, 0, 1⟩ [] rfl rfl rfl rfl
  have hlost : unsortedDev.cqSend 0 waitingChan ⟨1, 0, 0, 0, 1⟩ = unsortedDev.cqeLost 0 := by
    simp [Dev.cqSend, hbme, show waitingChan.cqLoc = 0 from rfl]
  exact unsortedDev_lost_ne _ (hlost.symm.trans (hbarred hbme))

end Sys2Proof.Machine
end

section
/-! O26: the queue registers of a function and the doorbells of channels. -/
namespace Sys2Proof.Machine

/-! ## Admin and event queue registers -/

theorem Dev.aqEnable_frame (d : Dev) (f : FnId) (v : Nat) :
    let q := (d.fn f).aq
    ((d.aqEnable f v).fn f).aq = q.write v ∧
    d.aqEnable f v = { d with fns := (d.setFn f { d.fn f with aq := q.write v }).fns, tags := (d.aqEnable f v).tags } := by
  dsimp only
  have hfn : ((d.setFn f { d.fn f with aq := (d.fn f).aq.write v }).fn f).aq = (d.fn f).aq.write v :=
    congrArg Fn.aq (Dev.fn_setFn_self ..)
  unfold Dev.aqEnable
  dsimp only
  split
  · exact ⟨hfn, rfl⟩
  · exact ⟨hfn, rfl⟩

/-- A queue whose sizes and bases are good starts READY with its indexes at 0. -/
theorem AdmQ.write_start {x : AdmQ} (he : x.enable = false) : x.write 1 = x.start := if_neg (by simp [he])

theorem AdmQ.write_stop {x : AdmQ} (he : x.enable = true) : x.write 0 = x.stop := if_pos he

/-- A write that reaches BAR0 without Memory Space Enable, or out of service, is discarded and logged. -/
theorem Dev.barWrite_discarded {d : Dev} {f : FnId} (hb : d.barUp f = true) (h : d.mse f = false ∨ d.operational = false)
    (run : Dev → Dev) : d.barWrite f run = d.aer f 0 aerAdvisory := by
  rcases h with h | h
  · simp [Dev.barWrite, Dev.barPut, hb, h]
  · simp [Dev.barWrite, Dev.barPut, Dev.bar0Open, hb, h]

theorem AdmQ.tailBad_beyond {q : AdmQ} {v : Nat} (h : 2 ^ q.asqLog2 ≤ v) : q.tailBad v = true := by simp [AdmQ.tailBad, h]
theorem AdmQ.headBad_beyond {q : AdmQ} {v : Nat} (h : 2 ^ q.acqLog2 ≤ v) : q.headBad v = true := by simp [AdmQ.headBad, h]
theorem Chan.tailBad_beyond {c : Chan} {v : Nat} (h : 2 ^ c.sqLog2 ≤ v) : c.tailBad v = true := by simp [Chan.tailBad, h]
theorem Chan.headBad_beyond {c : Chan} {v : Nat} (h : 2 ^ c.cqLog2 ≤ v) : c.headBad v = true := by simp [Chan.headBad, h]

/-! ## Doorbells -/

/-- A doorbell word whose fields are in bounds is taken. -/
theorem Dev.bellChan_taken {d : Dev} {k : Nat} {c : Chan} {word : Nat} (hc : d.chan k = some c) (ha : c.st = .active)
    (ht : bit word 31 = false ∨ c.tailBad (fld word 0 16) = false) (hh : bit word 63 = false ∨ c.headBad (fld word 32 16) = false) :
    let c1 : Chan := { c with
      sqTail := if bit word 31 then fld word 0 16 else c.sqTail
      cqHead := if bit word 63 then fld word 32 16 else c.cqHead }
    d.bellChan k true true word = (d.setChan k c1).fetchRead k c1 := by
  have hgood : ¬ (c.st == .ending || (bit word 31 && c.tailBad (fld word 0 16)) || (bit word 63 && c.headBad (fld word 32 16))) = true := by
    rcases ht with ht | ht
    · rcases hh with hh | hh
      · simp [ha, ht, hh]
      · simp [ha, ht, hh]
    · rcases hh with hh | hh
      · simp [ha, ht, hh]
      · simp [ha, ht, hh]
  simp only [Dev.bellChan, hc, Bool.true_and]
  exact if_neg hgood

/-- One with a field out of bounds is counted. -/
theorem Dev.bellChan_refused {d : Dev} {k : Nat} {c : Chan} {word : Nat} (hc : d.chan k = some c)
    (h : (bit word 31 = true ∧ c.tailBad (fld word 0 16) = true) ∨ (bit word 63 = true ∧ c.headBad (fld word 32 16) = true)) :
    d.bellChan k true true word = d.inc K.doorbellErrors := by
  simp only [Dev.bellChan, hc, Bool.true_and]
  refine if_pos ?_
  rcases h with ⟨hb, hbad⟩ | ⟨hb, hbad⟩
  · simp [hb, hbad]
  · simp [hb, hbad]

theorem Dev.bellChan_none {d : Dev} {k : Nat} (hc : d.chan k = none) (sq cq : Bool) (word : Nat) :
    d.bellChan k sq cq word = d.inc K.doorbellErrors := by simp only [Dev.bellChan, hc]

/-- A doorbell of BAR0 that reaches a function with channels. -/
theorem exec_channelDoorbell_open {s : State} {f : FnId} (hb : s.dev.barOpen f) (hp : s.dev.placeholder f = false) (idx part word : Nat) :
    exec (.channelDoorbell f idx part word) s = ok s (s.dev.bellChan (ctxKey f.num idx) (part == 0 || part == 1) (part == 0 || part == 2)
      (if part == 2 then word * 2 ^ 32 else word)) :=
  congrArg (ok s) ((Dev.barWrite_open hb _).trans (if_neg (by simp [hp])))

/-- A UBL doorbell for a live channel of a partition of the device. -/
theorem exec_doorbell_live {s : State} {port dst p handle k : Nat} (hl : s.dev.linkUp port = true) (hn : s.dev.native port = true)
    (hf : bit (s.dev.port port).feats 3 = true) (hp : s.dev.endpointPart port dst = some p) (hk : s.dev.chanOf p handle = some k)
    (word : Nat) : exec (.doorbell port dst handle word) s = ok s (s.dev.bellChan k true true word) := by
  refine congrArg (ok s) ?_
  simp only [hl, hn, hf, hp, hk, Bool.not_true, Bool.or_self, Bool.false_eq_true, if_false]

/-- One whose handle is not live. -/
theorem exec_doorbell_dead {s : State} {port dst p handle : Nat} (hl : s.dev.linkUp port = true) (hn : s.dev.native port = true)
    (hf : bit (s.dev.port port).feats 3 = true) (hp : s.dev.endpointPart port dst = some p) (hk : s.dev.chanOf p handle = none)
    (word : Nat) : exec (.doorbell port dst handle word) s = ok s (s.dev.inc K.badHandles) := by
  refine congrArg (ok s) ?_
  simp only [hl, hn, hf, hp, hk, Bool.not_true, Bool.or_self, Bool.false_eq_true, if_false]

/-- One for an endpoint that is none of its partitions. -/
theorem exec_doorbell_misrouted {s : State} {port dst : Nat} (hl : s.dev.linkUp port = true) (hn : s.dev.native port = true)
    (hf : bit (s.dev.port port).feats 3 = true) (hp : s.dev.endpointPart port dst = none) (handle word : Nat) :
    exec (.doorbell port dst handle word) s = ok s (s.dev.inc K.misrouted) := by
  refine congrArg (ok s) ?_
  simp only [hl, hn, hf, hp, Bool.not_true, Bool.or_self, Bool.false_eq_true, if_false]

/-- Settles O26: each register write is its check and its effect; a doorbell is the word applied to its channel. -/
theorem queueRegisters : Obligations.QueueRegisters := by
  unfold Obligations.QueueRegisters
  refine ⟨fun s f => ?registers, fun s f idx word k c => ?doorbells⟩
  case registers =>
    dsimp only
    refine ⟨fun hb v => ?served, fun hb hm v => ⟨?_, ?_⟩, fun hb ho v acc => ⟨?_, ?_⟩, rfl, fun x => ⟨?start, ?size, ?stop⟩⟩
    case served =>
      obtain ⟨haq, hframe⟩ := s.dev.aqEnable_frame f v
      refine ⟨congrArg (ok s) (Dev.barWrite_open hb _), haq, hframe, fun acc => ⟨fun he ht => ?_, fun he hh => ?_, fun he ht => ?_,
        fun he hh => ?_, fun he => ⟨?_, ?_⟩⟩, fun h => AdmQ.tailBad_beyond h, fun h => AdmQ.headBad_beyond h, fun hp => ?_,
        fun he hv hd => ?_, fun he hv => ?_⟩
      · exact congrArg (ok s) ((Dev.barWrite_open hb _).trans ((if_neg (by simp [he])).trans (if_neg (by simp [ht]))))
      · exact congrArg (ok s) ((Dev.barWrite_open hb _).trans ((if_neg (by simp [he])).trans (if_neg (by simp [hh]))))
      · exact congrArg (ok s) ((Dev.barWrite_open hb _).trans ((if_neg (by simp [he])).trans (if_pos ht)))
      · exact congrArg (ok s) ((Dev.barWrite_open hb _).trans ((if_neg (by simp [he])).trans (if_pos hh)))
      · exact congrArg (ok s) ((Dev.barWrite_open hb _).trans (if_pos (by simp [he])))
      · exact congrArg (ok s) ((Dev.barWrite_open hb _).trans (if_pos (by simp [he])))
      · exact congrArg (ok s) ((Dev.barWrite_open hb _).trans (if_pos (by simp [Dev.evThere, hp])))
      · exact congrArg (ok s) ((Dev.barWrite_open hb _).trans ((if_neg (by simp [he])).trans (if_neg (by simp [hv, hd]))))
      · exact congrArg (ok s) ((Dev.barWrite_open hb _).trans ((if_neg (by simp [he])).trans (if_pos (by simp [hv]))))
    · exact congrArg (ok s) (Dev.barWrite_discarded hb (.inl hm) _)
    · exact congrArg (ok s) (Dev.barWrite_discarded hb (.inl hm) _)
    · exact congrArg (ok s) (Dev.barWrite_discarded hb (.inr ho) _)
    · exact congrArg (ok s) (Dev.barWrite_discarded hb (.inr ho) _)
    case start =>
      intro he h1 h2 h3 h4 h5 h6
      rw [AdmQ.write_start he]
      simp [AdmQ.start, h5, h6, Nat.not_lt.mpr h1, Nat.not_lt.mpr h2, Nat.not_lt.mpr h3, Nat.not_lt.mpr h4]
    case size =>
      intro he h
      rw [AdmQ.write_start he]
      rcases h with h | h
      · simp [AdmQ.start, h]
      · simp [AdmQ.start, h]
    case stop =>
      intro he
      rw [AdmQ.write_stop he]
      refine ⟨rfl, ?_⟩
      simp only [AdmQ.stop, Bool.and_eq_true, Bool.not_eq_true', List.isEmpty_eq_false_iff, ne_eq, List.append_eq_nil_iff, Classical.not_and_iff_not_or_not]
  case doorbells =>
    dsimp only
    refine ⟨fun hc ha ht hh => ⟨fun hb hp hk => ?_, fun port dst handle p hl hn hf hp hk => ?_⟩,
      fun hb hp => ⟨exec_channelDoorbell_open hb hp idx 1 word, exec_channelDoorbell_open hb hp idx 2 word,
        fun hc h31 hlen => ?_, fun hc h63 hlen => ?_, fun hc => ?_⟩,
      fun hb hp part => congrArg (ok s) ((Dev.barWrite_open hb _).trans (if_pos hp)),
      fun port dst handle p hl hn hf => ⟨fun hp hk => ?_, fun hp => exec_doorbell_misrouted hl hn hf hp handle word⟩⟩
    · subst hk
      exact (exec_channelDoorbell_open hb hp idx 0 word).trans (congrArg (ok s) (Dev.bellChan_taken hc ha ht hh))
    · exact (exec_doorbell_live hl hn hf hp hk word).trans (congrArg (ok s) (Dev.bellChan_taken hc ha ht hh))
    · exact (exec_channelDoorbell_open hb hp idx 0 word).trans
        (congrArg (ok s) (Dev.bellChan_refused hc (.inl ⟨h31, Chan.tailBad_beyond hlen⟩)))
    · exact (exec_channelDoorbell_open hb hp idx 0 word).trans
        (congrArg (ok s) (Dev.bellChan_refused hc (.inr ⟨h63, Chan.headBad_beyond hlen⟩)))
    · exact (exec_channelDoorbell_open hb hp idx 0 word).trans (congrArg (ok s) (Dev.bellChan_none hc true true word))
    · exact exec_doorbell_dead hl hn hf hp hk word

end Sys2Proof.Machine
end

section
/-! O38: ENABLE, FENCE and RESET of a partition, and the causes of its fence. -/
namespace Sys2Proof.Machine

/-! ## The host slots under writes of other entries -/

theorem filterMap_kput {α β : Type} {f : Nat × α → Option β} {k : Nat} (hf : ∀ v, f (k, v) = none) (v : α) (m : List (Nat × α)) :
    (kput k v m).filterMap f = m.filterMap f := by
  induction m with
  | nil => simp [kput, hf]
  | cons e m ih =>
    obtain ⟨j, w⟩ := e
    simp only [kput]
    split
    · rw [List.filterMap_cons_none (hf v)]
    · split
      case isTrue h => rw [h.symm, List.filterMap_cons_none (hf v), List.filterMap_cons_none (hf w)]
      case isFalse => simp only [List.filterMap_cons, ih]

/-- The keys of host slot entries. -/
def isSlotKey (k : Nat) : Prop := K.hostSlot ≤ k ∧ k < K.hostSlot + 32 * 256 ∧ (k - K.hostSlot) % 256 < 128

theorem Dev.slots_wr {k : Nat} (h : ¬ isSlotKey k) (d : Dev) (v : Nat) : (d.wr k v).slots = d.slots := by
  refine filterMap_kput (fun w => if_neg ?_) v d.od
  simp only [Bool.and_eq_true, decide_eq_true_eq]
  rintro ⟨⟨⟨h1, h2⟩, h3⟩, -⟩
  exact h ⟨h1, h2, h3⟩

theorem Dev.slots_inc {k : Nat} (h : ¬ isSlotKey k) (d : Dev) : (d.inc k).slots = d.slots := Dev.slots_wr h d _

/-- The entries of partitions are no host slots. -/
theorem not_isSlotKey_ofPart {k p : Nat} (hk : k < 0x80100) (hp : p < 64) : ¬ isSlotKey (K.ofPart k p) := by
  simp only [isSlotKey, K.ofPart, K.hostSlot]
  omega

theorem evBlindAt_slots {n : Nat} (hn : n < 64) : EvBlindAt n Dev.slots :=
  ⟨fun _ _ _ => rfl, fun _ _ => rfl, fun d => Dev.slots_inc (not_isSlotKey_ofPart (by decide) hn) d,
    fun d => Dev.slots_inc (not_isSlotKey_ofPart (by decide) hn) d⟩

theorem noteBlind_slots : NoteBlind Dev.slots :=
  ⟨fun _ _ => rfl, fun _ _ => rfl, fun d => Dev.slots_inc (by simp only [isSlotKey, K.hostSlot, K.notifyDropped]; omega) d⟩

/-! ## The fence -/

section
variable {β : Type} {part : Dev → β}

/-- A write of the causes of a fence: the entry, the event and the notification. -/
theorem Dev.setFence_keeps {p : Nat} (he : EvBlindAt p part) (hn : NoteBlind part)
    (hw : ∀ (d : Dev) (v : Nat), part (d.wr (K.ofPart K.fenceCauses p) v) = part d) (d : Dev) (mask : Nat) :
    part (d.setFence p mask) = part d := by
  unfold Dev.setFence
  split
  · rfl
  · rw [hn.notify, he.post, hw]

end

theorem noteBlind_chs : NoteBlind Dev.chs := ⟨fun _ _ => rfl, fun _ _ => rfl, fun _ => rfl⟩
theorem noteBlind_bw : NoteBlind Dev.bw := ⟨fun _ _ => rfl, fun _ _ => rfl, fun _ => rfl⟩
theorem evBlind_bw : EvBlind Dev.bw := ⟨fun _ _ _ => rfl, fun _ _ => rfl, fun _ _ => rfl, fun _ _ => rfl⟩

theorem evBlind_fenceCauses (q : Nat) : EvBlind (fun d => d.fenceCauses q) := by
  refine evBlind_rd (fun n => ?_) (fun n => ?_)
  · simp only [K.ofPart, K.fenceCauses, K.eventsPosted]
    omega
  · simp only [K.ofPart, K.fenceCauses, K.eventsLost]
    omega

theorem noteBlind_fenceCauses {q : Nat} (hq : q < 64) : NoteBlind (fun d => d.fenceCauses q) :=
  noteBlind_rd (by simp only [K.ofPart, K.fenceCauses, K.notifyDropped]; omega)

theorem Dev.setFence_self {p : Nat} (hp : p < 64) (d : Dev) (mask : Nat) : (d.setFence p mask).fenceCauses p = mask := by
  unfold Dev.setFence
  split
  case isTrue h => exact eq_of_beq h
  case isFalse =>
    rw [(noteBlind_fenceCauses hp).notify, (evBlind_fenceCauses p).post]
    exact Dev.rd_wr_self ..

theorem Dev.setFence_other {p q : Nat} (hq : q < 64) (hne : q ≠ p) (d : Dev) (mask : Nat) :
    (d.setFence p mask).fenceCauses q = d.fenceCauses q :=
  Dev.setFence_keeps (part := fun t => t.fenceCauses q) ((evBlind_fenceCauses q).of p) (noteBlind_fenceCauses hq)
    (fun t v => Dev.rd_wr_ne t v (by simp only [K.ofPart]; omega)) d mask

theorem Dev.setFence_fences {p : Nat} (hp : p < 64) (d : Dev) (mask : Nat) :
    (d.setFence p mask).rd (K.ofPart K.fences p) = d.rd (K.ofPart K.fences p) := by
  refine Dev.setFence_keeps (part := fun t => t.rd (K.ofPart K.fences p)) (EvBlind.of (evBlind_rd (fun n => ?_) (fun n => ?_)) p)
    (noteBlind_rd ?_) (fun t v => Dev.rd_wr_ne t v ?_) d mask
  · simp only [K.ofPart, K.fences, K.eventsPosted]
    omega
  · simp only [K.ofPart, K.fences, K.eventsLost]
    omega
  · simp only [K.ofPart, K.fences, K.notifyDropped]
    omega
  · simp only [K.ofPart, K.fences, K.fenceCauses]
    omega

/-- The entry of a fence on a device without channels, host slots and locked sequences: the mask and the count. -/
theorem Dev.fenceAdd_enters {d : Dev} {p cause : Nat} (hp : p < 64) (hc : d.chs.chans = []) (hs : d.slots = []) (hl : d.bw.locks = [])
    (hcause : cause = 1 ∨ cause = 4) (h0 : d.fenceCauses p = 0) :
    d.fenceAdd p cause = (d.setFence p (d.fenceCauses p ||| cause)).inc (K.ofPart K.fences p) := by
  let t := (d.setFence p (d.fenceCauses p ||| cause)).inc (K.ofPart K.fences p)
  have hslots : t.slots = [] := by
    refine (Dev.slots_inc (not_isSlotKey_ofPart (by decide) hp) _).trans ?_
    rw [Dev.setFence_keeps (evBlindAt_slots hp) noteBlind_slots
      (fun e v => Dev.slots_wr (not_isSlotKey_ofPart (by decide) hp) e v), hs]
  have hlocks : t.bw.locks = [] := by
    rw [← hl]
    exact congrArg Bw.locks (Dev.setFence_keeps (evBlind_bw.of p) noteBlind_bw (fun _ _ => rfl) d _)
  have hchans : t.chs.chans = [] := by
    rw [← hc]
    exact congrArg Chs.chans (Dev.setFence_keeps (evBlind_chs.of p) noteBlind_chs (fun _ _ => rfl) d _)
  have hlose : t.losePer (fun e => slPartition e == p) = t := by
    rw [Dev.losePer, hslots]
    rfl
  have hdrop : t.dropLocks (fun l => l.part == p) = t := by
    rw [Dev.dropLocks, hlocks]
    rfl
  have hhalt : t.haltAll 0x32 (fun k _ => ctxPart k == p) = t := by
    rw [Dev.haltAll, hchans]
    rfl
  have hbit : ¬ bit cause 1 = true := by
    rcases hcause with rfl | rfl
    · decide
    · decide
  have hrun : d.fenceAdd p cause = if bit cause 1 = true then
      (List.range 22).foldl (fun d q => if d.presented q p then d.aer ⟨q, p⟩ 1 aerInternal else d)
        (((t.losePer (fun e => slPartition e == p)).dropLocks (fun l => l.part == p)).haltAll 0x32 (fun k _ => ctxPart k == p))
      else (((t.losePer (fun e => slPartition e == p)).dropLocks (fun l => l.part == p)).haltAll 0x32 (fun k _ => ctxPart k == p)) :=
    if_neg (by simp [h0])
  rw [hrun, if_neg hbit, hlose, hdrop, hhalt]

theorem Dev.fenceAdd_again {d : Dev} {p : Nat} (h : d.fenceCauses p ≠ 0) (cause : Nat) :
    d.fenceAdd p cause = d.setFence p (d.fenceCauses p ||| cause) := if_pos (by simpa using h)

/-! ## Writes of ENABLE and RESET -/

section
variable {d : Dev} {p : Nat}

theorem Dev.wEnable_on (he : d.enabled p = false) (hc : d.endpointClash p = false) (hr : d.resetting p = false) :
    d.wEnable p 1 = if d.su.entropyBad = true then
        ({ d with su := { d.su with keyWaits := d.su.keyWaits ++ [(p, Asker.row)] } }, resultWaits)
      else ((d.wr (K.ofPart K.enable p) 1).drawKey p, 0) :=
  (if_pos (by decide)).trans ((if_neg (by simp [he])).trans (if_neg (by simp [hc, hr])))

theorem Dev.wEnable_barred (he : d.enabled p = false) (h : d.endpointClash p = true ∨ d.resetting p = true) : d.wEnable p 1 = d.refused :=
  (if_pos (by decide)).trans ((if_neg (by simp [he])).trans (if_pos (by simpa using h)))

theorem Dev.wEnable_already (he : d.enabled p = true) : d.wEnable p 1 = (d, 0) :=
  (if_pos (by decide)).trans (if_pos he)

theorem Dev.wEnable_presented (h : d.rd (K.ofPart K.portsActive p) ≠ 0) : d.wEnable p 0 = d.refused :=
  (if_neg (by decide)).trans (if_pos (by simpa using h))

theorem Dev.wEnable_off (h : d.rd (K.ofPart K.portsActive p) = 0) (he : d.enabled p = true) :
    d.wEnable p 0 = (if d.resetting p = true then
        { d.wr (K.ofPart K.enable p) 0 with su := { (d.wr (K.ofPart K.enable p) 0).su with keys := kdel p (d.wr (K.ofPart K.enable p) 0).su.keys } }
      else (d.wr (K.ofPart K.enable p) 0).startReset p, 0) :=
  (if_neg (by decide)).trans ((if_neg (by simp [h])).trans (if_pos he))

theorem Dev.wEnable_idle (h : d.rd (K.ofPart K.portsActive p) = 0) (he : d.enabled p = false) : d.wEnable p 0 = (d, 0) :=
  (if_neg (by decide)).trans ((if_neg (by simp [h])).trans (if_neg (by simp [he])))

end

/-- Settles O38: each write is its branch; on entry a fence is its mask and its count. -/
theorem partitionControl : Obligations.PartitionControl := by
  unfold Obligations.PartitionControl
  refine ⟨fun s role p v => ?writes, fun d p cause hp hc hs hl hcause => ?fence⟩
  case fence =>
    by_cases h0 : d.fenceCauses p = 0
    · have hrun := Dev.fenceAdd_enters hp hc hs hl hcause h0
      refine ⟨?_, fun h => absurd h0 h, fun _ => ?_, fun q hq hne => ?_⟩
      · rw [hrun]
        refine Eq.trans (Dev.rd_inc_ne _ ?_) (Dev.setFence_self hp ..)
        simp only [K.ofPart, K.fences, K.fenceCauses]
        omega
      · rw [hrun, Dev.rd_inc_self, Dev.setFence_fences hp]
        have hbits : dictBits (K.ofPart K.fences p) = 32 :=
          (by decide +kernel : ∀ p < 64, dictBits (K.ofPart K.fences p) = 32) p hp
        rw [hbits, wrapN]
      · rw [hrun]
        refine Eq.trans (Dev.rd_inc_ne _ ?_) (Dev.setFence_other hq hne ..)
        simp only [K.ofPart, K.fences, K.fenceCauses]
        omega
    · rw [Dev.fenceAdd_again h0]
      exact ⟨Dev.setFence_self hp .., fun _ => rfl, fun h => absurd h h0, fun q hq hne => Dev.setFence_other hq hne ..⟩
  case writes =>
    dsimp only
    refine ⟨fun hm => ⟨fun hv he hc hr hb => ?on, fun hv he hc hr hb => ?waits, fun hv he h => ?barred, fun hv he => ?already,
        fun hv h => ?presented, fun hv h he => ⟨fun hr => ?off, fun hr => ?offReset⟩, fun hv h he => ?idle⟩,
      fun hm => ⟨fun hv => ?fenceSet, fun hv => ?fenceCleared⟩, fun hm => ⟨fun he => ?noReset, fun he hr => ?again, fun he hr => ?reset⟩,
      fun h => ?timeout, fun h => ?noWait⟩
    case on =>
      subst hv
      refine congrArg (ok s) ((Dev.scalarWrite_may hm (fun d => d.wEnable p 1)).trans ?_)
      rw [Dev.wEnable_on he hc hr, if_neg (by simp [hb]), Dev.answered_done]
    case waits =>
      subst hv
      refine congrArg (ok s) ((Dev.scalarWrite_may hm (fun d => d.wEnable p 1)).trans ?_)
      rw [Dev.wEnable_on he hc hr, if_pos hb]
      rfl
    case barred =>
      subst hv
      refine congrArg (ok s) ((Dev.scalarWrite_may hm (fun d => d.wEnable p 1)).trans ?_)
      rw [Dev.wEnable_barred he h, Dev.answered_refused]
    case already =>
      subst hv
      refine congrArg (ok s) ((Dev.scalarWrite_may hm (fun d => d.wEnable p 1)).trans ?_)
      rw [Dev.wEnable_already he, Dev.answered_done]
    case presented =>
      subst hv
      refine congrArg (ok s) ((Dev.scalarWrite_may hm (fun d => d.wEnable p 0)).trans ?_)
      rw [Dev.wEnable_presented h, Dev.answered_refused]
    case off =>
      subst hv
      refine congrArg (ok s) ((Dev.scalarWrite_may hm (fun d => d.wEnable p 0)).trans ?_)
      rw [Dev.wEnable_off h he, if_neg (by simp [hr]), Dev.answered_done]
    case offReset =>
      subst hv
      refine congrArg (ok s) ((Dev.scalarWrite_may hm (fun d => d.wEnable p 0)).trans ?_)
      rw [Dev.wEnable_off h he, if_pos hr, Dev.answered_done]
      rfl
    case idle =>
      subst hv
      refine congrArg (ok s) ((Dev.scalarWrite_may hm (fun d => d.wEnable p 0)).trans ?_)
      rw [Dev.wEnable_idle h he, Dev.answered_done]
    case fenceSet =>
      subst hv
      exact congrArg (ok s) (Dev.scalarWrite_may hm (fun d => d.wFence p 1))
    case fenceCleared =>
      subst hv
      exact congrArg (ok s) (Dev.scalarWrite_may hm (fun d => d.wFence p 0))
    case noReset =>
      refine congrArg (ok s) ((Dev.scalarWrite_may hm (fun d => d.wReset p)).trans ?_)
      rw [Dev.wReset, he, Bool.not_false, Dev.answered_unless_true]
    case again =>
      refine congrArg (ok s) ((Dev.scalarWrite_may hm (fun d => d.wReset p)).trans ?_)
      rw [Dev.wReset, he, Bool.not_true, Dev.answered_unless_false, if_pos hr]
    case reset =>
      refine congrArg (ok s) ((Dev.scalarWrite_may hm (fun d => d.wReset p)).trans ?_)
      rw [Dev.wReset, he, Bool.not_true, Dev.answered_unless_false, if_neg (by simp [hr])]
    case timeout =>
      refine congrArg (ok s) ?_
      simp [Dev.dropKeyWaits, h, Dev.askerAnswer]
    case noWait =>
      refine congrArg (ok s) ?_
      simp only [Dev.dropKeyWaits, h, List.filter_nil, List.foldl_nil]
      rw [← h]

end Sys2Proof.Machine
end

section
/-! O39: the configuration writes of a function and its function-level reset. -/
namespace Sys2Proof.Machine

/-! ## Bus Master Enable -/

theorem Dev.bme_setFn (d : Dev) (f : FnId) (x : Fn) : (d.setFn f x).bme f = (bit x.command 2 && !x.d3) := by
  rw [Dev.bme, Dev.fn_setFn_self]

/-- A bit below or above the one that a write of a bit changes. -/
theorem bit_two_setBit {i : Nat} (hi : i = 1 ∨ i = 10) (n : Nat) : bit (setBit n i) 2 = bit n 2 := by
  unfold setBit
  split
  case isTrue => rfl
  case isFalse h =>
    simp only [bit, Nat.shiftRight_eq_div_pow, beq_iff_eq] at h ⊢
    congr 1
    rcases hi with rfl | rfl
    · omega
    · omega

theorem bit_two_clrBit {i : Nat} (hi : i = 1 ∨ i = 10) (n : Nat) : bit (clrBit n i) 2 = bit n 2 := by
  unfold clrBit
  split
  case isTrue h =>
    simp only [bit, Nat.shiftRight_eq_div_pow, beq_iff_eq] at h ⊢
    congr 1
    rcases hi with rfl | rfl
    · omega
    · omega
  case isFalse => rfl

/-- Memory Space Enable and Interrupt Disable are other bits of the Command register. -/
theorem Fn.bit_two_setCommand {b : Nat} (hb : b = 1 ∨ b = 10) (v : Bool) (x : Fn) : bit (x.setCommand b v).command 2 = bit x.command 2 := by
  cases v
  · exact bit_two_clrBit hb _
  · exact bit_two_setBit hb _

section
variable {d : Dev} {f : FnId} {g : Fn → Fn}

/-- A change that leaves bus mastering as it is. -/
theorem Dev.cfgChange_plain (h : (d.setFn f (g (d.fn f))).bme f = d.bme f) : d.cfgChange f g = (d.setFn f (g (d.fn f))).updWire f := by
  have hoff : ¬ (d.bme f && !(d.setFn f (g (d.fn f))).bme f) = true := by rw [h]; cases d.bme f <;> decide
  have hon : ¬ (!d.bme f && (d.setFn f (g (d.fn f))).bme f) = true := by rw [h]; cases d.bme f <;> decide
  exact congrArg (fun t : Dev => t.updWire f) ((if_neg hoff).trans (if_neg hon))

/-- One that takes bus mastering away. -/
theorem Dev.cfgChange_off (h : d.bme f = true) (h' : (d.setFn f (g (d.fn f))).bme f = false) :
    d.cfgChange f g = ((d.setFn f (g (d.fn f))).busOff f).updWire f :=
  congrArg (fun t : Dev => t.updWire f) (if_pos (by rw [h, h']; rfl))

/-- One that gives it back. -/
theorem Dev.cfgChange_on (h : d.bme f = false) (h' : (d.setFn f (g (d.fn f))).bme f = true) :
    d.cfgChange f g = ((d.setFn f (g (d.fn f))).busOn f).updWire f :=
  congrArg (fun t : Dev => t.updWire f) ((if_neg (by rw [h]; simp)).trans (if_pos (by rw [h, h']; rfl)))

end

/-! ## Function-level resets -/

/-- A function without channels, held events, wire and locked sequences is reset alone. -/
theorem Dev.startFlr_alone {d : Dev} {f : FnId} (hq : d.quiet) (hm : d.mm.migs = []) (hp : d.placeholder f = false)
    (hw : (d.fn f).wire = false) (hh : (d.fn f).eq.held = []) (hc : d.chansOn f.num f.port = []) (hl : d.bw.locks = []) :
    Dev.startFlr 1 d f = { d with
      fns := kput (fnKey f) ((d.fn f).inReset 1 (d.fn f).killed) d.fns
      tags := d.tags.map (fun t => if t.fn = some f then { t with quarantined := true } else t) } := by
  let t : Dev := { d with
      fns := kput (fnKey f) ((d.fn f).inReset 1 (d.fn f).killed) d.fns
      tags := d.tags.map (fun t => if t.fn = some f then { t with quarantined := true } else t) }
  have hrun : Dev.startFlr 1 d f = (t.dropLocks (fun l => l.host && l.port == f.port && l.part == f.num)).settle := by
    unfold Dev.startFlr
    simp only [hw, hp, hh, hc, Bool.false_eq_true, if_false, List.foldl_nil, List.length_nil, Nat.add_zero, beq_iff_eq]
    rfl
  have hdrop : t.dropLocks (fun l => l.host && l.port == f.port && l.part == f.num) = t := by
    rw [Dev.dropLocks, show t.bw.locks = [] from hl]
    rfl
  rw [hrun, hdrop]
  obtain ⟨h1, h2, h3, -, h5, h6⟩ := hq
  have hmigs : t.mm.migs = [] := hm
  exact Dev.settle_quiet ⟨h1, h2, h3, by simp [hmigs], h5, h6⟩

/-- Settles O39: a write is its bit with what follows from bus mastering; a reset of a function with nothing outstanding changes its
registers and its tags. -/
theorem functionConfiguration : Obligations.FunctionConfiguration := by
  unfold Obligations.FunctionConfiguration
  intro s f
  dsimp only
  refine ⟨fun ho => ⟨fun b => ⟨?mse, ?intx⟩, fun hb => ?busOff, fun h3 h2 => ?busOn, fun hb => ?sleep, fun h3 h2 => ?wake, fun v hv => ?ignored,
      fun hq hm hp hw hh hc hl => ⟨?flr, rfl, rfl, rfl, rfl⟩⟩,
    fun ho b => ⟨congrArg (ok s) (if_neg (by simp [ho])), congrArg (ok s) (if_neg (by simp [ho])), congrArg (ok s) (if_neg (by simp [ho])),
      congrArg (ok s) (if_neg (by simp [ho]))⟩, fun hr hy => ?done, fun hr => congrArg (ok s) (if_pos (by simp [hr]))⟩
  case mse =>
    refine congrArg (ok s) ((if_pos ho).trans (Dev.cfgChange_plain ?_))
    rw [Dev.bme_setFn, Fn.bit_two_setCommand (.inl rfl)]
    rfl
  case intx =>
    refine congrArg (ok s) ((if_pos ho).trans (Dev.cfgChange_plain ?_))
    rw [Dev.bme_setFn, Fn.bit_two_setCommand (.inr rfl)]
    rfl
  case busOff =>
    refine congrArg (ok s) ((if_pos ho).trans (Dev.cfgChange_off hb ?_))
    rw [Dev.bme_setFn]
    simp [Fn.setCommand, bit_clrBit_self]
  case busOn =>
    refine congrArg (ok s) ((if_pos ho).trans (Dev.cfgChange_on (by simp [Dev.bme, h2]) ?_))
    rw [Dev.bme_setFn]
    simp [Fn.setCommand, bit_setBit_self, h3]
  case sleep =>
    refine congrArg (ok s) ((if_pos ho).trans (Dev.cfgChange_off (g := Fn.power 3) hb ?_))
    rw [Dev.bme_setFn]
    simp [Fn.power]
  case wake =>
    refine congrArg (ok s) ((if_pos ho).trans (Dev.cfgChange_on (g := Fn.power 0) (by simp [Dev.bme, h3]) ?_))
    rw [Dev.bme_setFn]
    simp [Fn.power, h2]
  case ignored =>
    have hsame : Fn.power v (s.dev.fn f) = s.dev.fn f := by
      rcases hv with rfl | rfl
      · rfl
      · rfl
    refine congrArg (ok s) ((if_pos ho).trans ((Dev.cfgChange_plain ?_).trans ?_))
    · rw [hsame, Dev.bme_setFn]
      rfl
    · rw [hsame]
  case flr => exact congrArg (ok s) ((if_pos ho).trans (Dev.startFlr_alone hq hm hp hw hh hc hl))
  case done => exact congrArg (ok s) ((if_neg (by simp [hr])).trans (if_neg (by simpa using hy)))

end Sys2Proof.Machine
end

section
/-! O37: the program stores, the verifier of stage programs, and clusters taken away by writes. -/
namespace Sys2Proof.Machine

/-! ## Writes of the stores -/

/-- A write of a store is told when what measurement 7 covers changed. -/
def Dev.told (d t : Dev) : Dev :=
  if t.mm.progs = d.mm.progs ∧ t.progs = d.progs ∧ t.pipes = d.pipes then t else t.postAll ⟨0x31, 0, 0, 7, 0⟩

theorem Dev.answered_measured (d t : Dev) {code : Nat} (h : code ≠ resultWaits) :
    Dev.answered (d.measured (t, code)) = (d.told t).result code := by
  unfold Dev.measured Dev.told
  dsimp only
  by_cases hs : t.mm.progs = d.mm.progs ∧ t.progs = d.progs ∧ t.pipes = d.pipes
  · obtain ⟨h1, h2, h3⟩ := hs
    rw [if_pos (by simp [h1, h2, h3]), if_pos ⟨h1, h2, h3⟩]
    exact Dev.answered_of (r := (t, code)) h
  · rw [if_neg (by simpa [and_assoc] using hs), if_neg hs]
    generalize t.postAll ⟨0x31, 0, 0, 7, 0⟩ = u
    exact Dev.answered_of (r := (u, code)) h

theorem Dev.told_same {d t : Dev} (h1 : t.mm.progs = d.mm.progs) (h2 : t.progs = d.progs) (h3 : t.pipes = d.pipes) : d.told t = t :=
  if_pos ⟨h1, h2, h3⟩

/-- A store that the verification refuses keeps its contents. -/
theorem Dev.answered_loadEnd_bad (d : Dev) {res : Nat} (h : res ≠ 0) (f : Dev → Dev) :
    Dev.answered (d.measured (d.loadEnd res f)) = (d.wr K.loadResult res).result 8 := by
  have hend : d.loadEnd res f = (d.wr K.loadResult res, 8) := if_neg (by simpa using h)
  rw [hend, Dev.answered_measured d _ (by decide), Dev.told_same (d := d) (t := d.wr K.loadResult res) rfl rfl rfl]

theorem Dev.answered_loadEnd_good (d : Dev) (f : Dev → Dev) :
    Dev.answered (d.measured (d.loadEnd 0 f)) = (d.told (f (d.wr K.loadResult 0))).result 0 :=
  Dev.answered_measured d _ (by decide)

section
variable {d : Dev} {slot : Nat} {img : List Byte}

theorem storePut_image (h : img ≠ []) (l : List (Nat × List Byte)) : storePut slot img l = kput slot img l :=
  if_neg (by simpa using h)

theorem Dev.wProgram_named (h : d.slotNamed slot = true) :
    Dev.answered (d.wProgram slot img) = (d.wr K.loadResult (loadResult 0x0B 0 0)).result 8 := by
  rw [Dev.wProgram, if_pos h]
  exact Dev.answered_loadEnd_bad d (by decide) _

theorem Dev.wProgram_image (h : d.slotNamed slot = false) (hi : img ≠ []) :
    d.wProgram slot img = d.measured (d.loadEnd (imageResult img) (fun d => { d with progs := kput slot img d.progs })) := by
  simp [Dev.wProgram, h, hi, storePut_image hi]

theorem Dev.wProgram_empty (h : d.slotNamed slot = false) :
    d.wProgram slot [] = d.measured (d.loadEnd 0 (fun d => { d with progs := kdel slot d.progs })) := by
  simp [Dev.wProgram, h, storePut]

theorem Dev.wPipeline_used (h : d.pipeUsed slot = true) :
    Dev.answered (d.wPipeline slot img) = (d.wr K.loadResult (loadResult 0x0B 0 0)).result 8 := by
  rw [Dev.wPipeline, if_pos h]
  exact Dev.answered_loadEnd_bad d (by decide) _

theorem Dev.wPipeline_image (h : d.pipeUsed slot = false) (hi : img ≠ []) :
    d.wPipeline slot img = d.measured (d.loadEnd (d.manifestResult img) (fun d => { d with pipes := kput slot img d.pipes })) := by
  simp [Dev.wPipeline, h, hi, storePut_image hi]

theorem Dev.wPipeline_empty (h : d.pipeUsed slot = false) :
    d.wPipeline slot [] = d.measured (d.loadEnd 0 (fun d => { d with pipes := kdel slot d.pipes })) := by
  simp [Dev.wPipeline, h, storePut]

end

/-! ## The verifier -/

theorem firstBad_eq_none {f : Nat → Nat → Nat} {ws : List Nat} {i : Nat} :
    firstBad f ws i = none ↔ ∀ (j w : Nat), ws[j]? = some w → f w (i + j) = 0 := by
  induction ws generalizing i with
  | nil => simp [firstBad]
  | cons v ws ih =>
    rw [firstBad]
    by_cases hv : f v i = 0
    · rw [if_neg (by simp [hv]), ih]
      constructor
      · intro h j w hw
        cases j with
        | zero =>
          obtain rfl : v = w := by simpa using hw
          exact hv
        | succ j =>
          rw [Nat.add_succ, ← Nat.succ_add]
          exact h j w (by simpa using hw)
      · intro h j w hw
        rw [Nat.add_assoc, Nat.add_comm 1]
        exact h (j + 1) w (by simpa using hw)
    · rw [if_pos (by simpa using hv)]
      exact ⟨fun h => (nomatch h), fun h => absurd (h 0 v rfl) hv⟩

theorem firstBad_eq_some {f : Nat → Nat → Nat} {ws : List Nat} {i j w : Nat} (hw : ws[j]? = some w) (hb : f w (i + j) ≠ 0)
    (hbefore : ∀ k v : Nat, k < j → ws[k]? = some v → f v (i + k) = 0) : firstBad f ws i = some (f w (i + j), i + j) := by
  induction ws generalizing i j with
  | nil => simp at hw
  | cons v ws ih =>
    rw [firstBad]
    cases j with
    | zero =>
      obtain rfl : v = w := by simpa using hw
      exact if_pos (by simpa using hb)
    | succ j =>
      rw [if_neg (by simpa using hbefore 0 v (by omega) rfl), ih (j := j) (by simpa using hw)]
      · rw [Nat.add_assoc, Nat.add_comm 1]
      · rwa [Nat.add_assoc, Nat.add_comm 1]
      · intro k u hk hu
        rw [Nat.add_assoc, Nat.add_comm 1]
        exact hbefore (k + 1) u (by omega) (by simpa using hu)

/-- What is found is a reason. -/
theorem firstBad_reason {f : Nat → Nat → Nat} {ws : List Nat} {i r j : Nat} (h : firstBad f ws i = some (r, j)) : r ≠ 0 := by
  induction ws generalizing i with
  | nil => cases h
  | cons v ws ih =>
    rw [firstBad] at h
    split at h
    case isTrue hv =>
      obtain ⟨rfl, -⟩ := Prod.mk.inj (Option.some.inj h)
      simpa using hv
    case isFalse => exact ih h

section
variable {img : List Byte} (h : imageHeaderBad img = false)
include h

/-- A good header: no instruction is refused. -/
theorem imageResult_passes (hall : ∀ j w : Nat, (imageWords img)[j]? = some w → insnReason w j (imageWords img).length = 0) :
    imageResult img = 0 := by
  have hnone : firstBad (fun w i => insnReason w i (imageWords img).length) (imageWords img) 0 = none :=
    firstBad_eq_none.mpr (fun j w hw => by rw [Nat.zero_add]; exact hall j w hw)
  simp [imageResult, h, hnone]

/-- Or the first one that is gives reason and index. -/
theorem imageResult_refused {i w : Nat} (hw : (imageWords img)[i]? = some w) (hb : insnReason w i (imageWords img).length ≠ 0)
    (hbefore : ∀ j v : Nat, j < i → (imageWords img)[j]? = some v → insnReason v j (imageWords img).length = 0) :
    imageResult img = insnReason w i (imageWords img).length + i % 8192 * 2 ^ 12 := by
  have hsome : firstBad (fun w i => insnReason w i (imageWords img).length) (imageWords img) 0 =
      some (insnReason w i (imageWords img).length, i) := by
    have := firstBad_eq_some (f := fun w i => insnReason w i (imageWords img).length) (i := 0) hw (by rw [Nat.zero_add]; exact hb)
      (fun k v hk hv => by rw [Nat.zero_add]; exact hbefore k v hk hv)
    rwa [Nat.zero_add] at this
  simp [imageResult, h, hsome, loadResult]

theorem imageResult_eq_zero : imageResult img = 0 ↔ ∀ w ∈ imageWords img, ∀ i : Nat, (imageWords img)[i]? = some w →
    insnReason w i (imageWords img).length = 0 := by
  constructor
  · intro h0
    cases hf : firstBad (fun w i => insnReason w i (imageWords img).length) (imageWords img) 0 with
    | none =>
      intro w _ i hw
      have := firstBad_eq_none.mp hf i w hw
      rwa [Nat.zero_add] at this
    | some e =>
      obtain ⟨r, i⟩ := e
      have hr : r ≠ 0 := firstBad_reason hf
      simp [imageResult, h, hf, loadResult] at h0
      omega
  · exact fun hall => imageResult_passes h (fun j w hw => hall w (List.mem_of_getElem? hw) j hw)

end

theorem branchOut_of {w : Nat} (hop : fld w 28 4 = 2) (hc : fld w 25 3 ≠ 7) (i n : Nat) : branchOut w i n = true ↔
    (i : Int) + sext 15 (fld w 0 15) < 0 ∨ (n : Int) ≤ (i : Int) + sext 15 (fld w 0 15) := by
  simp [branchOut, hop, hc]

/-! ## Retirement of a cluster -/

/-- A change of a cluster that keeps its channel. -/
theorem Dev.chan_setClu {d : Dev} {n : Nat} {x : Clu} (h : x.chan = (d.clu n).chan) (c : Nat) :
    ((d.setClu n x).clu c).chan = (d.clu c).chan := by
  by_cases hn : c = n
  · subst hn
    rw [Dev.clu_setClu_self, h]
  · rw [Dev.clu_setClu_ne d x hn]

theorem Dev.chan_testDue (d : Dev) (n c : Nat) : ((d.testDue n).clu c).chan = (d.clu c).chan := by
  unfold Dev.testDue
  dsimp only
  split
  · exact Dev.chan_setClu (by rfl) c
  · rfl

theorem Dev.chan_endWindow (d : Dev) (n c : Nat) : ((d.endWindow n).clu c).chan = (d.clu c).chan := by
  unfold Dev.endWindow
  split
  · rw [Dev.freeBud, Dev.chan_testDue, Dev.chan_setClu (by rfl), Dev.chan_setClu (by rfl)]
  · rfl

/-- A retired cluster without a stage, which took over from none. -/
def Clu.gone (u : Clu) : Prop := u.st = .retired ∧ u.logical = none ∧ u.chan = none ∧ u.tookFrom = none

/-- The replacement of a retired cluster takes its number away. -/
theorem Dev.replaceClu_gone {d : Dev} {c : Nat} (hst : (d.clu c).st = .retired) (hchan : (d.clu c).chan = none)
    (htook : (d.clu c).tookFrom = none) : ((d.replaceClu c).clu c).gone := by
  unfold Dev.replaceClu
  split
  case h_1 hl => exact ⟨hst, hl, hchan, htook⟩
  case h_2 l hl =>
    split
    case h_1 b hb =>
      have hmove : (d.moveStage c b .active).clu c = { (d.clu c).cleared with
          logical := none, chan := none, stage := 0, rank := 0, prog := [], sramLimit := 0, feeders := [], steps := 0,
          sinceDup := 0, lastClean := 0 } := by
        unfold Dev.moveStage
        simp only [hl]
        exact Dev.clu_setClu_self ..
      rw [hmove]
      exact ⟨hst, rfl, rfl, htook⟩
    case h_2 =>
      have hvacant : (d.modClu c (fun u => { u.cleared with
            logical := none, chan := none, stage := 0, rank := 0, prog := [], sramLimit := 0, feeders := [] })).clu c =
          { (d.clu c).cleared with
            logical := none, chan := none, stage := 0, rank := 0, prog := [], sramLimit := 0, feeders := [] } :=
        Dev.clu_setClu_self ..
      exact ⟨(congrArg Clu.st hvacant).trans hst, congrArg Clu.logical hvacant, congrArg Clu.chan hvacant,
        (congrArg Clu.tookFrom hvacant).trans htook⟩

/-- A cluster that took over from none keeps its state when numbers are kept. -/
theorem Dev.clu_keepNumber {d : Dev} {c n : Nat} (h : (d.clu c).tookFrom = none) : (d.keepNumber n).clu c = d.clu c := by
  have hmap : d.cl.map (fun e => if e.2.tookFrom == some n then (e.1, { e.2 with st := .active, tookFrom := none }) else e) =
      d.cl.map (fun e => (e.1, if e.2.tookFrom == some n then { e.2 with st := .active, tookFrom := none } else e.2)) :=
    List.map_congr_left fun e _ => by split <;> rfl
  have hfind := kfind_map (fun _ (u : Clu) => if u.tookFrom == some n then { u with st := .active, tookFrom := none } else u) c d.cl
  simp only [Dev.clu, Dev.keepNumber, hmap, kget_eq_kfind, hfind] at h ⊢
  cases hk : kfind c d.cl with
  | none => rfl
  | some u =>
    have hu : u.tookFrom = none := by simpa [hk] using h
    simp [hu]

/-- A retired cluster is tested no more. -/
theorem Dev.clu_testDue_retired {d : Dev} {c : Nat} (h : (d.clu c).st = .retired) (n : Nat) : (d.testDue n).clu c = d.clu c := by
  unfold Dev.testDue
  dsimp only
  split
  case isTrue hdue =>
    refine Dev.clu_setClu_ne _ _ fun hcn => ?_
    subst hcn
    simp [h] at hdue
  case isFalse => rfl

theorem Dev.clu_startTests_retired {d : Dev} {c : Nat} (h : (d.clu c).st = .retired) : d.startTests.clu c = d.clu c := by
  unfold Dev.startTests
  generalize d.cl.filter _ = l
  induction l generalizing d with
  | nil => rfl
  | cons e l ih =>
    have hkeep := Dev.clu_testDue_retired h e.1
    rw [List.foldl_cons, ih (by rw [hkeep]; exact h), hkeep]

/-- A cluster without a channel that is retired. -/
theorem Dev.retireClu_gone {d : Dev} {c : Nat} (hst : (d.clu c).st ≠ .retired) (hchan : (d.clu c).chan = none) :
    ((d.retireClu c).clu c).gone := by
  let d1 : Dev := match (d.clu c).dupOf with
    | some a => d.modClu a (fun v => { v with window := none })
    | none => d
  let d2 := (d1.endWindow c).modClu c (fun v => { v with iftDue := false, iftForce := false, inPlace := false, ceTest := false })
  let d3 := d2.modClu c (fun v => { v.cleared with st := .retired, dupOf := none, tookFrom := none })
  have hrun : d.retireClu c = ((d3.replaceClu c).keepNumber c).startTests := by
    unfold Dev.retireClu
    rw [if_neg (by simpa using hst)]
    simp only [hchan]
    rfl
  have h1 : (d1.clu c).chan = none := by
    refine Eq.trans ?_ hchan
    dsimp only [d1]
    split
    · exact Dev.chan_setClu (by rfl) c
    · rfl
  have h2 : (d2.clu c).chan = none := by
    rw [← h1, ← Dev.chan_endWindow d1 c c]
    exact Dev.chan_setClu (by rfl) c
  have h3 : d3.clu c = { (d2.clu c).cleared with st := .retired, dupOf := none, tookFrom := none } := Dev.clu_setClu_self ..
  have hgone := Dev.replaceClu_gone (d := d3) (c := c) (by rw [h3]) (by rw [h3]; exact h2) (by rw [h3])
  have hkept := Dev.clu_keepNumber (n := c) hgone.2.2.2
  rw [hrun, Dev.clu_startTests_retired (by rw [hkept]; exact hgone.1), hkept]
  exact hgone

/-- Settles O37: each store write is its verification and what it tells; the verifier finds the first bad instruction; a retired
cluster is free of its stage and its number. -/
theorem programStores : Obligations.ProgramStores := by
  unfold Obligations.ProgramStores
  refine ⟨fun s role => ?stores, ⟨fun img h => ?header, fun img h => ⟨imageResult_eq_zero h, fun i w hw hb hbefore =>
      imageResult_refused h hw hb hbefore⟩, fun w i n => ⟨fun hd => ?undefined, fun hd hb => ?branch, fun hop hc => branchOut_of hop hc i n⟩⟩,
    fun d c => ⟨fun h => if_pos (by simp [h]), fun hst hchan => ?retired⟩⟩
  case header => simp [imageResult, h, loadResult]
  case undefined => simp [insnReason, hd]
  case branch => simp [insnReason, hd, hb]
  case retired =>
    obtain ⟨h1, h2, h3, -⟩ := Dev.retireClu_gone hst hchan
    exact ⟨h1, h2, h3⟩
  case stores =>
    dsimp only
    refine ⟨fun slot img hm => ?placement, fun slot img hm => ⟨fun hn => ?named, fun hn hi hr => ?program, fun hn hi hr => ?refused,
        fun hn hi => ?emptied⟩, fun slot img hm => ⟨fun hn => ?used, fun hn hi hr => ?manifest, fun hn hi hr => ?badManifest,
        fun hn hi => ?noManifest⟩, fun c hm => congrArg (ok s) (Dev.scalarWrite_may hm (fun d => d.wClusterRetire c)),
      fun part l hm => ⟨fun hr => ?fabric, fun p hr hh => ?other⟩⟩
    case placement =>
      refine congrArg (ok s) ((Dev.entryWrite_may hm (fun d => d.wProgramImage slot img)).trans ?_)
      rw [Dev.wProgramImage, Dev.answered_measured _ _ (by decide)]
      cases img with
      | nil => rfl
      | cons b bs => rfl
    case named => exact congrArg (ok s) ((Dev.entryWrite_may hm (fun d => d.wProgram slot img)).trans (Dev.wProgram_named hn))
    case program =>
      refine congrArg (ok s) ((Dev.entryWrite_may hm (fun d => d.wProgram slot img)).trans ?_)
      rw [Dev.wProgram_image hn hi, hr, Dev.answered_loadEnd_good]
      rfl
    case refused =>
      refine congrArg (ok s) ((Dev.entryWrite_may hm (fun d => d.wProgram slot img)).trans ?_)
      rw [Dev.wProgram_image hn hi, Dev.answered_loadEnd_bad _ hr]
    case emptied =>
      subst hi
      refine congrArg (ok s) ((Dev.entryWrite_may hm (fun d => d.wProgram slot [])).trans ?_)
      rw [Dev.wProgram_empty hn, Dev.answered_loadEnd_good]
      rfl
    case used => exact congrArg (ok s) ((Dev.entryWrite_may hm (fun d => d.wPipeline slot img)).trans (Dev.wPipeline_used hn))
    case manifest =>
      refine congrArg (ok s) ((Dev.entryWrite_may hm (fun d => d.wPipeline slot img)).trans ?_)
      rw [Dev.wPipeline_image hn hi, hr, Dev.answered_loadEnd_good]
      rfl
    case badManifest =>
      refine congrArg (ok s) ((Dev.entryWrite_may hm (fun d => d.wPipeline slot img)).trans ?_)
      rw [Dev.wPipeline_image hn hi, Dev.answered_loadEnd_bad _ hr]
    case noManifest =>
      subst hi
      refine congrArg (ok s) ((Dev.entryWrite_may hm (fun d => d.wPipeline slot [])).trans ?_)
      rw [Dev.wPipeline_empty hn, Dev.answered_loadEnd_good]
      rfl
    case fabric =>
      subst hr
      exact congrArg (ok s) (Dev.scalarWrite_may hm (fun d => d.wClusterReset .fabric l))
    case other =>
      subst hr
      refine congrArg (ok s) ((Dev.scalarWrite_may hm (fun d => d.wClusterReset (.partition p) l)).trans ?_)
      rw [Dev.wClusterReset, Dev.mayResetClu, hh]
      rfl

end Sys2Proof.Machine
end

section
/-! O44: the retirement lists, duplicate windows and in-field tests. -/
namespace Sys2Proof.Machine

/-! ## The Deadhead list -/

section
variable {d : Dev} {e : Nat}

theorem Dev.wDeadheadAdd_accepts (h : d.deadheadResult e = 0) :
    Dev.answered (d.wDeadheadAdd e) = ((d.wr K.deadheadResult (d.deadheadResult e)).deadheadPut e).result 0 := by
  have hrun : d.wDeadheadAdd e = ((d.wr K.deadheadResult (d.deadheadResult e)).deadheadPut e, 0) := if_pos (by simp [h])
  rw [hrun, Dev.answered_done]

theorem Dev.wDeadheadAdd_known (h : d.deadheadResult e = 1) :
    Dev.answered (d.wDeadheadAdd e) = (d.wr K.deadheadResult (d.deadheadResult e)).result 0 := by
  have hrun : d.wDeadheadAdd e = (d.wr K.deadheadResult (d.deadheadResult e), 0) :=
    (if_neg (by simp [h])).trans (congrArg _ (if_pos (by simp [h])))
  rw [hrun, Dev.answered_done]

theorem Dev.wDeadheadAdd_refuses (h : 1 < d.deadheadResult e) :
    Dev.answered (d.wDeadheadAdd e) = (d.wr K.deadheadResult (d.deadheadResult e)).result 8 := by
  have hrun : d.wDeadheadAdd e = (d.wr K.deadheadResult (d.deadheadResult e), 8) :=
    (if_neg (by simp; omega)).trans (congrArg _ (if_neg (by simp; omega)))
  rw [hrun]
  rfl

/-- An entry that is accepted names a frame of its tier that is not on the list, and the list has room. -/
theorem Dev.deadheadResult_accepts (h : d.deadheadResult e = 0) : fld e 62 2 ≠ 3 ∧ fld e 52 10 = 0 ∧
    fld e 0 52 < tierFrames (fld e 62 2) ∧ (∀ x ∈ d.er.deadhead, sameFrame e x = false) ∧ d.er.deadhead.length < 131072 := by
  unfold Dev.deadheadResult at h
  dsimp only at h
  by_cases hform : (fld e 62 2 == 3 || fld e 52 10 != 0) = true
  · rw [if_pos hform] at h
    omega
  rw [if_neg hform] at h
  by_cases hin : tierFrames (fld e 62 2) ≤ fld e 0 52
  · rw [if_pos hin] at h
    omega
  rw [if_neg hin] at h
  by_cases hnew : d.er.deadhead.any (sameFrame e) = true
  · rw [if_pos hnew] at h
    omega
  rw [if_neg hnew] at h
  by_cases hfull : (fld e 62 2 == 1 && decide (65536 ≤ countBy (fun x => fld x 62 2 == 1) d.er.deadhead)) = true
  · rw [if_pos hfull] at h
    omega
  rw [if_neg hfull] at h
  by_cases hroom : 131072 ≤ d.er.deadhead.length
  · rw [if_pos hroom] at h
    omega
  simp only [Bool.or_eq_true, beq_iff_eq, bne_iff_ne, ne_eq, not_or, Classical.not_not] at hform
  obtain ⟨ht, hz⟩ := hform
  exact ⟨ht, hz, Nat.lt_of_not_le hin, by simpa using hnew, Nat.lt_of_not_le hroom⟩

end

/-! ## Duplicate windows -/

/-- A window gives its Bud the registers of the cluster. -/
theorem Dev.windowStart_facts {d : Dev} {c b : Nat} (h : c ≠ b) :
    ((d.windowStart c b).clu b).dupOf = some c ∧ ((d.windowStart c b).clu b).x = (d.clu c).x ∧
    ((d.windowStart c b).clu c).window = some b := by
  have hb : (d.windowStart c b).clu b = { (d.clu b).cleared with
      st := .duplicating, dupOf := some c, x := (d.clu c).x, v := (d.clu c).v, stat := (d.clu c).stat, tags := (d.clu c).tags,
      acc := (d.clu c).acc, sinceDup := 0 } :=
    (Dev.clu_setClu_ne _ _ h.symm).trans (Dev.clu_setClu_self ..)
  exact ⟨by rw [hb], by rw [hb], congrArg Clu.window (Dev.clu_setClu_self ..)⟩

theorem Dev.mem_freeBuds {d : Dev} {b : Nat} (h : b ∈ d.freeBuds) : (d.clu b).st = .bud := by
  simpa using (List.mem_filter.mp h).2

/-- A window that may start takes one of the free Buds. -/
theorem Dev.dupWindowStart_takes {s : State} {c : Nat} (he : s.dev.flag K.dupEnable = true) (hr : s.dev.dupReady c = true)
    (hf : s.dev.dupFirst c = true) (hb : s.dev.freeBuds ≠ []) :
    ∃ b ∈ s.dev.freeBuds, exec (.dupWindowStart c) s = ok s (s.dev.drawn.windowStart c b) := by
  have hlt : s.dev.free % s.dev.freeBuds.length < s.dev.freeBuds.length := Nat.mod_lt _ (List.length_pos_iff.mpr hb)
  refine ⟨_, List.getElem_mem hlt, congrArg (ok s) ?_⟩
  rw [List.getElem?_eq_getElem hlt]
  exact if_pos (by simp [he, hr, hf])

/-! ## Tests -/

theorem Dev.iftPass_facts (d : Dev) (c : Nat) :
    let t := d.iftPass c
    (t.clu c).st = (if (t.clu c).logical.isSome then .active else .bud) ∧ (t.clu c).iftDue = false ∧ t.mm = d.mm := by
  have hclu : (d.iftPass c).clu c = (fun u : Clu => { (if u.inPlace then u else u.cleared) with
      st := if u.logical.isSome then .active else .bud, inPlace := false, iftDue := false, iftForce := false, ceTest := false })
      ((d.keepNumber c).clu c) := Dev.clu_setClu_self ..
  dsimp only
  rw [hclu]
  have hlogical : (if ((d.keepNumber c).clu c).inPlace = true then (d.keepNumber c).clu c else ((d.keepNumber c).clu c).cleared).logical =
      ((d.keepNumber c).clu c).logical := by
    split
    · rfl
    · rfl
  exact ⟨congrArg (fun l : Option Nat => if l.isSome = true then ClSt.active else .bud) hlogical.symm, rfl, rfl⟩

theorem Dev.testDue_starts {d : Dev} {c : Nat} (hd : (d.clu c).iftDue = true) (hs : (d.clu c).st = .active ∨ (d.clu c).st = .bud)
    (hn : d.testsRunning < 4) : ((d.testDue c).clu c).st = .testing := by
  have hrun : d.testDue c = d.setClu c { d.clu c with st := .testing, iftDue := false, iftForce := false, inPlace := false } :=
    if_pos (by simp [hd, hn, hs])
  rw [hrun, Dev.clu_setClu_self]

/-- Settles O44: each write and event is its branch; a window takes a Bud that is free, and a test that passes gives the cluster its
state by its number. -/
theorem retirementAndTests : Obligations.RetirementAndTests := by
  unfold Obligations.RetirementAndTests
  intro s role
  dsimp only
  refine ⟨fun e hm => ⟨fun h => congrArg (ok s) ((Dev.entryWrite_may hm (fun d => d.wDeadheadAdd e)).trans (Dev.wDeadheadAdd_accepts h)),
      fun h => congrArg (ok s) ((Dev.entryWrite_may hm (fun d => d.wDeadheadAdd e)).trans (Dev.wDeadheadAdd_known h)),
      fun h => congrArg (ok s) ((Dev.entryWrite_may hm (fun d => d.wDeadheadAdd e)).trans (Dev.wDeadheadAdd_refuses h))⟩,
    fun e h => Dev.deadheadResult_accepts h,
    fun e hm => congrArg (ok s) (Dev.entryWrite_may hm (fun d => d.wRecommendDismiss e)), fun c he hr hf hb => ?window,
    fun c he => ?windowOff, fun c he hret htest => ?due, fun c h => ?notDue, fun c h => congrArg (ok s) (if_pos h),
    fun c h => congrArg (ok s) (if_neg (by simp [h])), fun c pass h => congrArg (ok s) (if_neg (by simp [h])),
    fun c pass h => congrArg (ok s) (if_pos (by simpa using h)), fun c => s.dev.iftPass_facts c,
    fun c hd hs => ⟨fun hn => Dev.testDue_starts hd hs hn, fun hn => if_neg (by simp [hn])⟩⟩
  case window =>
    obtain ⟨b, hmem, hrun⟩ := Dev.dupWindowStart_takes he hr hf hb
    have hne : c ≠ b := by
      rintro rfl
      have hbud := Dev.mem_freeBuds hmem
      simp [Dev.dupReady, hbud] at hr
    exact ⟨b, hmem, hrun, Dev.windowStart_facts (d := s.dev.drawn) hne⟩
  case windowOff =>
    refine congrArg (ok s) ?_
    split
    · exact if_neg (by simp [he])
    · rfl
  case due => exact congrArg (ok s) (if_neg (by simp [he, hret, htest]))
  case notDue =>
    refine congrArg (ok s) (if_pos ?_)
    rcases h with h | h
    · simp [h]
    · simp [h]

end Sys2Proof.Machine
end

section
/-! O43: errors detected and contained. -/
namespace Sys2Proof.Machine

/-! ## Signature records -/

/-- Records concern the log, its copies and the next SEQ alone among the error state. -/
theorem Dev.sign_er (d : Dev) (x : Sig) : ∃ n nor log, (d.sign x).er = { d.er with nextSeq := n, nor := nor, log := log } := by
  have hqueue : ∀ (e : Dev) (t : Nat) (y : Sig), ∃ n nor log, (e.queueSig t y).er = { e.er with nextSeq := n, nor := nor, log := log } := by
    intro e t y
    unfold Dev.queueSig
    dsimp only
    rw [noteBlind_er.notify]
    split
    · exact ⟨_, _, _, rfl⟩
    · exact ⟨_, _, _, rfl⟩
  unfold Dev.sign
  dsimp only
  split
  · split
    · exact ⟨_, _, _, rfl⟩
    · exact hqueue ..
  · exact hqueue ..

theorem Dev.sign_counts (d : Dev) (x : Sig) : (d.sign x).er.suspects = d.er.suspects ∧ (d.sign x).er.stacksLost = d.er.stacksLost ∧
    (d.sign x).er.ddrLost = d.er.ddrLost ∧ (d.sign x).er.ce = d.er.ce := by
  obtain ⟨n, nor, log, h⟩ := d.sign_er x
  rw [h]
  exact ⟨rfl, rfl, rfl, rfl⟩

/-! ## Parity -/

theorem Dev.streamOf_read {d : Dev} {c op k : Nat} {o : StreamOp} (h : d.streamOf c op = some (o, k)) (hk : o.kind = 0) (masked : Bool) :
    d.parityStream c op false masked =
      if masked = true then d.parity masked { paritySig masked with unitType := 4, unit := c, part := ctxPart k, channel := d.chHandle k }
      else ((d.parity masked { paritySig masked with unitType := 4, unit := c, part := ctxPart k, channel := d.chHandle k }).streamFail
        c k o 0x20 0x000B).settle := by
  simp [Dev.parityStream, h, hk]

theorem Dev.parityRecipe_running {d : Dev} {h k : Nat} {c : Chan} {x : Dsc} (hw : d.workChan h = some (k, c))
    (hf : c.fetched.find? (fun y => y.ph == .running) = some x) (masked : Bool) :
    d.parityRecipe h masked =
      if masked = true then d.parity masked { paritySig masked with part := ctxPart k, channel := d.chHandle k }
      else ((d.parity masked { paritySig masked with part := ctxPart k, channel := d.chHandle k }).failHalt k x.seq 0x20 0x000B).settle := by
  simp only [Dev.parityRecipe, hw, hf]

theorem Dev.parityError_issued {d : Dev} {tag : Nat} {t : OutTag} (h : d.tagOf tag = some t) : d.parityError (.issued tag) =
    ((d.parity false { paritySig false with unitType := 5, unit := t.port }).dropTag tag).useFailed t.use := by
  simp only [Dev.parityError, h]

/-! ## Lockstep -/

/-- The first mismatch of a memory unit makes it suspect. -/
theorem Dev.memMismatch_first {d : Dev} {u : MemUnit} (h : d.er.suspects.contains (unitKey u) = false) :
    let t := d.memMismatch u []
    t.er.suspects = d.er.suspects ++ [unitKey u] ∧ t.mm = d.mm ∧ t.er.stacksLost = d.er.stacksLost ∧ t.er.ddrLost = d.er.ddrLost := by
  let e : Dev := d.sign { mismatchSig 3 (unitCode u).1 (unitCode u).2 with status := 0 }
  obtain ⟨hsus, hst, hddr, -⟩ := d.sign_counts { mismatchSig 3 (unitCode u).1 (unitCode u).2 with status := 0 }
  have hnew : e.er.suspects.contains (unitKey u) = false := by rw [hsus]; exact h
  have hfirst : ¬ (e.er.suspects.contains (unitKey u) && e.toss.1) = true := by
    rw [hnew, Bool.false_and]
    exact Bool.false_ne_true
  have hrun : d.memMismatch u [] = { e.drawn with er := { e.drawn.er with
      suspects := if e.er.suspects.contains (unitKey u) then e.er.suspects else e.er.suspects ++ [unitKey u] } } :=
    if_neg hfirst
  dsimp only
  rw [hrun, hnew]
  refine ⟨?_, Dev.sign_mm .., hst, hddr⟩
  simp only [Bool.false_eq_true, if_false]
  rw [hsus]

/-! ## Larkspur -/

theorem linkBlind_mg : LinkBlind Dev.mg := ⟨fun _ _ _ => rfl, fun _ _ => rfl, fun _ _ => rfl, fun _ _ _ => rfl⟩

/-- The crosspoint is closed after a change that wants it closed. -/
theorem Dev.updBypass_closed {d : Dev} (ho : d.bypassOpen = false) : d.updBypass.flag K.bypassClosed = true := by
  cases hc : d.flag K.bypassClosed
  · rw [Dev.updBypass_closes hc ho]
    rw [Dev.ringBroken_flag _ (by decide), Dev.ringBroken_flag _ (by decide), Dev.flag, Dev.rd_emit, Dev.rd_wr_self]
    rfl
  · have hsame : d.updBypass = d := if_pos (by simp [hc, ho])
    rw [hsame, hc]

/-- A restart of Larkspur ends its sessions and closes the crosspoint. -/
theorem Dev.restarts_facts (d : Dev) :
    let t := ({ d with mg := { d.mg with sessions := [], restarting := true, spdm := 0 } } : Dev).updBypass
    t.mg.sessions = [] ∧ t.served = false ∧ t.flag K.bypassClosed = true ∧ t.mm = d.mm := by
  have hmg := linkBlind_mg.updBypass { d with mg := { d.mg with sessions := [], restarting := true, spdm := 0 } }
  refine ⟨by rw [hmg], ?_, Dev.updBypass_closed ?_, linkBlind_mm.updBypass _⟩
  · simp [Dev.served, hmg]
  · simp [Dev.bypassOpen]

/-! ## Scrub -/

/-- A word is noted apart from the counts. -/
theorem Dev.noteWord_keeps (d : Dev) (t frame word : Nat) :
    (d.noteWord t frame word).1.er.ce = d.er.ce ∧ (d.noteWord t frame word).1.mm = d.mm := by
  rcases hf : d.er.words.find? (fun x => x.1 == t && x.2.1 == frame && x.2.2.1 == word) with _ | ⟨a, b, c, hard⟩
  · simp only [Dev.noteWord, hf, and_self]
  · cases hard
    · simp only [Dev.noteWord, hf, and_self]
    · simp only [Dev.noteWord, hf, and_self]

/-- The device that has counted a corrected word of a DDR tier and recorded it. -/
def Dev.corrected (d : Dev) (p : Nat) : Dev :=
  Dev.sign { d with er := { d.er with ce := kput 1 (kget 0 1 d.er.ce + 1) d.er.ce } } { Sig.base 0x01 0 1 with part := p, tier := 1 }

theorem Dev.corrected_keeps (d : Dev) (p : Nat) :
    kget 0 1 (d.corrected p).er.ce = kget 0 1 d.er.ce + 1 ∧ (d.corrected p).mm = d.mm := by
  refine ⟨?_, Dev.sign_mm ..⟩
  rw [Dev.corrected, (Dev.sign_counts ..).2.2.2]
  exact kget_kput_self ..

theorem Dev.scrubMeta_corrected_eq (d : Dev) (p : Nat) (x : ScrubT) (lost : Dev → Dev) :
    d.scrubMeta 1 p x (.corrected 0 none) lost =
      if ((d.corrected p).noteWord 1 (scrubPlace x) 0).2 = true
      then (((d.corrected p).noteWord 1 (scrubPlace x) 0).1.inc K.hardWords).sign { Sig.base 0x03 0 8 with part := p, tier := 1 }
      else ((d.corrected p).noteWord 1 (scrubPlace x) 0).1 := by
  simp only [Dev.scrubMeta, Dev.dramMed, Dev.dramRow, beq_self_eq_true, if_true, Dev.corrected] <;> rfl

/-- A correction of a page map entry that scrub finds: counted, recorded, and its word noted. -/
theorem Dev.scrubMeta_corrected (d : Dev) (p : Nat) (x : ScrubT) (lost : Dev → Dev) :
    let t := d.scrubMeta 1 p x (.corrected 0 none) lost
    kget 0 1 t.er.ce = kget 0 1 d.er.ce + 1 ∧ t.mm = d.mm := by
  obtain ⟨hce, hmm⟩ := d.corrected_keeps p
  obtain ⟨hnce, hnmm⟩ := (d.corrected p).noteWord_keeps 1 (scrubPlace x) 0
  dsimp only
  rw [Dev.scrubMeta_corrected_eq]
  split
  · rw [(Dev.sign_counts _ _).2.2.2, Dev.sign_mm]
    exact ⟨(congrArg (kget 0 1) hnce).trans hce, hnmm.trans hmm⟩
  · exact ⟨(congrArg (kget 0 1) hnce).trans hce, hnmm.trans hmm⟩

theorem Dev.scrub_pageEntry {d : Dev} {p g : Nat} (h : (d.page (pageKey p g)).home ≠ none) (med : Med) :
    d.scrub (.pageEntry p g) med =
      d.scrubMeta 1 p (.pageEntry p g) med (fun d => (d.losePageEntry (pageKey p g)).settle) :=
  if_pos (Option.isSome_iff_ne_none.mpr h)

theorem Dev.scrub_good (d : Dev) (p g : Nat) : d.scrub (.pageEntry p g) .good = d := by
  unfold Dev.scrub
  dsimp only
  split
  · rfl
  · rfl

/-- Settles O43: each event is its branch; records keep the counts, and a restart or a scrub what it does not name. -/
theorem errorEvents : Obligations.ErrorEvents := by
  unfold Obligations.ErrorEvents
  intro s
  dsimp only
  refine ⟨fun c op k o ho hk => ⟨congrArg (ok s) (Dev.streamOf_read ho hk true), congrArg (ok s) (Dev.streamOf_read ho hk false)⟩,
    fun h k c x hw hf => ⟨congrArg (ok s) (Dev.parityRecipe_running hw hf true), congrArg (ok s) (Dev.parityRecipe_running hw hf false)⟩,
    fun f tag hb => ⟨congrArg (ok s) (if_neg (by simp [hb])), congrArg (ok s) (if_neg (by simp [hb]))⟩,
    fun tag t ht => congrArg (ok s) (Dev.parityError_issued ht), fun ho => ?lockstep, fun hs => ?watchdog,
    fun hr => congrArg (ok s) (if_pos hr), fun ho he => ?scrub, fun he t med => congrArg (ok s) (if_neg (by simp [he])),
    fun ho u => ⟨congrArg (ok s) (if_pos ho), fun hl => congrArg (ok s) ((if_pos ho).trans (if_pos hl)), ?marked⟩⟩
  case lockstep =>
    refine ⟨congrArg (ok s) (if_pos ho), fun c => congrArg (ok s) (if_pos ho), fun p n hn => congrArg (ok s) ((if_pos ho).trans (if_pos ?_)),
      fun b => congrArg (ok s) (if_pos ho), fun u hu => ⟨_, congrArg (ok s) (if_pos ho), ?_⟩⟩
    · exact Option.isSome_iff_ne_none.mpr hn
    · exact Dev.memMismatch_first (d := s.dev.inc K.seqMismatches) hu
  case watchdog =>
    have hrun : exec .larkspurWatchdogExpiry s =
        ok s ({ s.dev with mg := { s.dev.mg with sessions := [], restarting := true, spdm := 0 } } : Dev).updBypass :=
      congrArg (ok s) (if_neg (by simp [hs]))
    exact ⟨_, hrun, rfl, s.dev.restarts_facts⟩
  case scrub =>
    have hon : ∀ (t : ScrubT) (med : Med), exec (.scrubRead t med) s = ok s (s.dev.scrub t med) := fun t med =>
      congrArg (ok s) (if_pos (by simp [ho, he]))
    refine ⟨fun p g => (hon ..).trans (congrArg (ok s) (Dev.scrub_good ..)), fun p g hh => ⟨_, hon .., ?_⟩, fun p g hh => ?_,
      fun p b hq hv med => (hon ..).trans (congrArg (ok s) ?_)⟩
    · rw [Dev.scrub_pageEntry hh]
      exact Dev.scrubMeta_corrected ..
    · exact ⟨_, (hon ..).trans (congrArg (ok s) (Dev.scrub_pageEntry hh .uncorrectable)), kget_kput_self ..⟩
    · have hskip : s.dev.scrubBlock p b med = s.dev := if_pos (by rcases hv with hv | hv <;> simp [hv])
      exact (congrArg Dev.settle hskip).trans (Dev.settle_quiet hq)
  case marked =>
    cases u
    · exact bit_setBit_self ..
    · exact bit_setBit_self ..

end Sys2Proof.Machine
end

section
/-! O46 and O47: the lease and the course of a pair, and the frames of the ring. -/
namespace Sys2Proof.Machine

/-! ## The lease -/

/-- A renewal noted: the lease is held under its EPOCH. -/
def Dev.leased (d : Dev) (v : Nat) : Dev :=
  ({ d with pr := { d.pr with lease := true, solo := bit v 32 } } : Dev).wr K.leaseEpoch (fld v 0 32)

section
variable {d : Dev} {v : Nat}

theorem Dev.wLeaseRenew_old (h : fld v 0 32 ≤ d.rd K.leaseEpoch) : Dev.answered (d.wLeaseRenew v) = d.result 8 := by
  rw [Dev.wLeaseRenew, Dev.answered_unless, if_pos (by simpa using h)]

theorem Dev.wLeaseRenew_plain (h : d.rd K.leaseEpoch < fld v 0 32) (h33 : bit v 33 = false) :
    Dev.answered (d.wLeaseRenew v) = ((d.leased v).leaseState.settle).result 0 := by
  rw [Dev.wLeaseRenew, Dev.answered_unless, if_neg (by simpa using h), if_pos (by simp [h33])]
  rfl

theorem Dev.wLeaseRenew_refusedTakeover (h : d.rd K.leaseEpoch < fld v 0 32) (h33 : bit v 33 = true) (hr : d.reachable = true) :
    Dev.answered (d.wLeaseRenew v) = ((((d.leased v).inc K.takeoverRefused).leaseState).settle).result 0 := by
  rw [Dev.wLeaseRenew, Dev.answered_unless, if_neg (by simpa using h), if_neg (by simp [h33])]
  exact congrArg (fun t : Dev => t.result 0) (if_pos hr)

theorem Dev.leaseState_fenced (hs : d.pr.st = .fenced) (hr : d.reachable = false) :
    d.leaseState = d.pairTo (if d.pr.solo then .solo else .partnerLost) := by
  simp only [Dev.leaseState, hs, Dev.unfence, hr, Bool.not_false, if_true]

theorem Dev.leaseState_lost (hs : d.pr.st = .partnerLost) (h : d.pr.solo = false) : d.leaseState = d := by
  simp only [Dev.leaseState, hs, h, Bool.false_eq_true, if_false]

theorem Dev.leaseState_kept (hs : d.pr.st = .mirrored ∨ d.pr.st = .forming ∨ d.pr.st = .syncing ∨ d.pr.st = .unpaired) :
    d.leaseState = d := by
  rcases hs with hs | hs | hs | hs
  · simp only [Dev.leaseState, hs]
  · simp only [Dev.leaseState, hs]
  · simp only [Dev.leaseState, hs]
  · simp only [Dev.leaseState, hs]

/-- An expiry in a state in which nothing is held for a lost partner. -/
theorem Dev.pairFence_joined (h : d.pr.st ≠ .partnerLost) (h' : d.pr.st ≠ .solo) :
    d.pairFence = ((d.pairTo .fenced).pairPost ⟨0x22, 0x32, 0, 0, 0⟩).settle := by
  rw [Dev.pairFence, if_neg (by simp [h, h'])]

theorem Dev.pairFence_alone (h : d.pr.st = .partnerLost ∨ d.pr.st = .solo) :
    d.pairFence = ((d.failHeld.1.pairTo .fenced).pairPost ⟨0x22, 0x32, 0, 0, d.failHeld.2⟩).settle := by
  rw [Dev.pairFence, if_pos (by rcases h with h | h <;> simp [h])]

end

theorem Dev.pairTo_mm (d : Dev) (st : PairSt) : (d.pairTo st).mm = d.mm := by
  unfold Dev.pairTo
  split
  · rfl
  · exact noteBlind_mm.notify ..

/-- A tick of silence in both directions. -/
def Dev.aged (d : Dev) (east west : Bool) : Dev :=
  let pr := { d.pr with ageEast := d.pr.ageEast + 1, ageWest := d.pr.ageWest + 1, seenEast := east, seenWest := west }
  { d with pr := pr }

theorem Dev.fixWay_idle {d : Dev} (h : d.unacked = []) : d.fixWay = d := if_neg (by simp [h])

theorem Dev.beat_dark {d : Dev} {body : List Byte} (h22 : d.linkUp 22 = false) (h23 : d.linkUp 23 = false) :
    [22, 23].foldl (fun d p => if d.linkUp p && bit (d.port p).feats 8 then d.ringOut p 0x43 0 [] body else d) d = d := by
  simp [h22, h23]

/-- Whether a direction that delivered, silent for `age`, delivers still beside the other. -/
def Dev.stillSeen (d : Dev) (seen other : Bool) (age ageOther : Nat) : Bool :=
  seen && !(other && d.rd K.ringDeadMs ≤ age && ageOther < d.rd K.ringDeadMs)

/-- The ageing of a tick of the heartbeat. -/
def Dev.tickAged (d : Dev) : Dev :=
  d.aged (d.stillSeen d.pr.seenEast d.pr.seenWest (d.pr.ageEast + 1) (d.pr.ageWest + 1))
    (d.stillSeen d.pr.seenWest d.pr.seenEast (d.pr.ageWest + 1) (d.pr.ageEast + 1))

/-- What a heartbeat says. -/
def Dev.beatBody (d : Dev) : List Byte :=
  leBytes 4 (d.rd K.moduleId) ++ leBytes 1 d.pr.st.code ++ leBytes 1 3 ++ leBytes 1 d.commit ++
    leBytes 1 (b2n d.pr.lease) ++ leBytes 4 d.runningVersion ++ leBytes 8 d.digest ++ zeros 12

theorem Dev.heartbeatTick_beats (d : Dev) : d.heartbeatTick =
    [22, 23].foldl (fun t p => if t.linkUp p && bit (t.port p).feats 8 then t.ringOut p 0x43 0 [] d.beatBody else t)
      d.tickAged.fixWay := by
  unfold Dev.heartbeatTick Dev.beatBody Dev.tickAged Dev.stillSeen Dev.aged
  rfl

/-- Without a ring a tick of the heartbeat counts the silence of both directions. -/
theorem Dev.heartbeatTick_dark {d : Dev} (hu : d.unacked = []) (h22 : d.linkUp 22 = false) (h23 : d.linkUp 23 = false) :
    ∃ east west : Bool, d.heartbeatTick = d.aged east west := by
  have hfix : d.tickAged.fixWay = d.tickAged := Dev.fixWay_idle hu
  have ages : d.heartbeatTick = d.tickAged := by
    rw [d.heartbeatTick_beats, hfix]
    exact Dev.beat_dark h22 h23
  exact ⟨_, _, ages⟩

/-- A tick of the resynchronisation on a page that does not move. -/
theorem Dev.resyncStep_page {d : Dev} {k : Nat} {r : List (Nat × Nat)} (ht : dirtyTake d.pr.dirty = some (k, r)) (hm : d.moving k = false)
    (hr : d.pairRole (pagePart k) = 1) :
    let t := ({ d with pr := { d.pr with dirty := r, copied := d.pr.copied + 1 } } : Dev).sendPage k
    d.resyncStep = if (dirtyTake r).isNone then t.resyncDone else t := by
  simp only [Dev.resyncStep, ht, hm, hr, Bool.false_eq_true, if_false, beq_self_eq_true, if_true]

theorem Dev.resyncStep_last {d : Dev} (ht : dirtyTake d.pr.dirty = none) :
    d.resyncStep = ({ d with pr := { d.pr with dirty := [] } } : Dev).resyncDone := by
  simp only [Dev.resyncStep, ht]

theorem Dev.resyncStep_waits {d : Dev} {k : Nat} {r : List (Nat × Nat)} (ht : dirtyTake d.pr.dirty = some (k, r)) (hm : d.moving k = true) :
    d.resyncStep = d := by
  simp only [Dev.resyncStep, ht, hm, if_true]

/-- Settles O46: each event of a pair is its branch by the state. -/
theorem pairCourse : Obligations.PairCourse := by
  unfold Obligations.PairCourse
  intro s role
  dsimp only
  refine ⟨fun v hm => ⟨fun h => ?old, fun h h33 => ⟨?renew, fun hs hr => ?unfence, fun hs h32 => Dev.leaseState_lost hs h32,
      fun hs => Dev.leaseState_kept hs⟩, fun h h33 hr => ?takeover⟩,
    fun st => ⟨congrArg Pr.st (Dev.pairTo_pr ..), Dev.pairTo_mm ..⟩, fun hl => congrArg (ok s) (if_pos (by simp [hl])),
    fun hl => ⟨fun hs => ?expiryIdle, fun hs => ?expiryJoined, fun hs => ?expiryAlone⟩, ⟨fun hs => ?silent, fun h1 h2 => ?quietPair⟩, rfl,
    fun hu h22 h23 => Dev.heartbeatTick_dark hu h22 h23, fun h => ?noSync, fun hs hr => ⟨fun ht => ?last, fun k r ht hm hp => ?page,
      fun k r ht hm => ?waits⟩⟩
  case old => exact congrArg (ok s) ((Dev.entryWrite_may hm (fun d => d.wLeaseRenew v)).trans (Dev.wLeaseRenew_old h))
  case renew => exact congrArg (ok s) ((Dev.entryWrite_may hm (fun d => d.wLeaseRenew v)).trans (Dev.wLeaseRenew_plain h h33))
  case unfence => exact Dev.leaseState_fenced (d := s.dev.leased v) hs hr
  case takeover =>
    exact congrArg (ok s) ((Dev.entryWrite_may hm (fun d => d.wLeaseRenew v)).trans (Dev.wLeaseRenew_refusedTakeover h h33 hr))
  case expiryIdle =>
    refine congrArg (ok s) ((if_neg (by simp [hl])).trans (if_pos ?_))
    rcases hs with hs | hs
    · simp [hs]
    · simp [hs]
  case expiryJoined =>
    refine congrArg (ok s) ((if_neg (by simp [hl])).trans ((if_neg ?_).trans (Dev.pairFence_joined ?_ ?_)))
    · rcases hs with hs | hs | hs <;> simp [hs]
    · rcases hs with hs | hs | hs <;> simp [hs]
    · rcases hs with hs | hs | hs <;> simp [hs]
  case expiryAlone =>
    refine congrArg (ok s) ((if_neg (by simp [hl])).trans ((if_neg ?_).trans (Dev.pairFence_alone hs)))
    rcases hs with hs | hs <;> simp [hs]
  case silent =>
    refine congrArg (ok s) (if_pos ?_)
    rcases hs with hs | hs
    · simp [hs]
    · simp [hs]
  case quietPair => exact congrArg (ok s) (if_neg (by simp [h1, h2]))
  case noSync =>
    refine congrArg (ok s) (if_neg ?_)
    rcases h with h | h
    · simp [h]
    · simp [h]
  case last => exact congrArg (ok s) ((if_pos (by simp [hs, hr])).trans (Dev.resyncStep_last ht))
  case page => exact congrArg (ok s) ((if_pos (by simp [hs, hr])).trans (Dev.resyncStep_page ht hm hp))
  case waits => exact congrArg (ok s) ((if_pos (by simp [hs, hr])).trans (Dev.resyncStep_waits ht hm))

/-! ## Ring frames -/

section
variable {d : Dev} {port : Nat} {f : RingHdr} (hport : port = 22 ∨ port = 23) (hlink : d.linkUp port = true)
include hport hlink

/-- A frame that reaches the module, before its checks. -/
theorem Dev.ringIn_reaches (run : Dev → Dev) : d.ringIn port f run =
    (let d1 := if ringPasses f then d.hear f.src else d
     if !d.isMe f.dst then d1.forward port f
     else if !bit (d.port port).feats 8 then d1.inc K.ublMalformed
     else if f.src != d.rd K.partnerId then d1
     else if !ringPasses f || f.seq != d.rxNext port then d1.ringSend 0x42 (leBytes 4 (d.rxNext port))
     else run (d1.rxTake port)) := by
  refine if_neg ?_
  rcases hport with rfl | rfl
  · simp [hlink]
  · simp [hlink]

theorem Dev.ringIn_other (hp : ringPasses f = true) (hme : d.isMe f.dst = false) (run : Dev → Dev) :
    d.ringIn port f run = (d.hear f.src).forward port f := by
  rw [Dev.ringIn_reaches hport hlink]
  simp [hp, hme]

theorem Dev.ringIn_gap (hp : ringPasses f = true) (hme : d.isMe f.dst = true) (hf : bit (d.port port).feats 8 = true)
    (hs : f.src = d.rd K.partnerId) (hseq : f.seq ≠ d.rxNext port) (run : Dev → Dev) :
    d.ringIn port f run = (d.hear f.src).ringSend 0x42 (leBytes 4 (d.rxNext port)) := by
  rw [Dev.ringIn_reaches hport hlink]
  simp [hp, hme, hf, hs, hseq]

theorem Dev.ringIn_damaged (hp : ringPasses f = false) (hme : d.isMe f.dst = true) (hf : bit (d.port port).feats 8 = true)
    (hs : f.src = d.rd K.partnerId) (run : Dev → Dev) : d.ringIn port f run = d.ringSend 0x42 (leBytes 4 (d.rxNext port)) := by
  rw [Dev.ringIn_reaches hport hlink]
  simp [hp, hme, hf, hs]

theorem exec_ringFrameForward_reaches {s : State} (hd : s.dev = d) (hp : ringPasses f = true) :
    exec (.ringFrameForward port f) s =
      ok s (if d.isMe f.dst then (d.hear f.src).inc K.ublMalformed else (d.hear f.src).forward port f) := by
  subst hd
  refine congrArg (ok s) ((if_neg ?_).trans ?_)
  · rcases hport with rfl | rfl
    · simp [hlink]
    · simp [hlink]
  · simp only [hp, if_true]

end

section
variable {d u : Dev} {f : RingHdr} {recs : List LogRec} (hst : u.pr.st ≠ .unpaired)
include hst

theorem Dev.logIn_applied {t : Dev} (h : Dev.logAll recs none u = some (t, none)) :
    d.logIn f recs u = (t.ringSend 0x41 (leBytes 4 f.seq)).settle := by
  rw [Dev.logIn, if_neg (by simpa using hst)]
  simp only [h, List.append_nil]

theorem Dev.logIn_refused {t : Dev} {st dt : Nat} (h : Dev.logAll recs none u = some (t, some (st, dt))) :
    d.logIn f recs u = (t.ringSend 0x41 (leBytes 4 f.seq ++ (leBytes 1 st ++ leBytes 2 dt))).settle := by
  rw [Dev.logIn, if_neg (by simpa using hst)]
  simp only [h]

theorem Dev.logIn_waits (h : Dev.logAll recs none u = none) : d.logIn f recs u = d.promoteAll 0 (d.logPages recs) := by
  rw [Dev.logIn, if_neg (by simpa using hst)]
  simp only [h]

end

/-- An acknowledgement with nothing waiting for it frees its frames. -/
theorem Dev.logAck_plain {u : Dev} (hq : u.quiet) (hm : u.mm.migs = []) (hh : u.pr.holds = []) (hc : u.pr.cmds = [])
    (hsw : u.pr.switching = false) (hhand : u.pr.handing = none) (upTo st dt : Nat) :
    u.logAck upTo st dt =
      { u with pr := { u.pr with tx := u.pr.tx.filter (fun x => !(x.port == u.partnerPort && seqLe x.seq upTo)) } } := by
  let t : Dev := { u with pr := { u.pr with tx := u.pr.tx.filter (fun x => !(x.port == u.partnerPort && seqLe x.seq upTo)) } }
  have hholds : ∀ p : Nat → Bool, t.endHolds true p = t := by
    intro p
    simp only [Dev.endHolds, show t.pr.holds = [] from hh, List.filter_nil, List.foldl_nil]
    rw [← show t.pr.holds = [] from hh]
  have hcmds : ∀ (p : Nat → Bool) (g : Dev → MirCmd → Dev), t.endCmds p g = t := by
    intro p g
    simp only [Dev.endCmds, show t.pr.cmds = [] from hc, List.filter_nil, List.foldl_nil]
    rw [← show t.pr.cmds = [] from hc]
  have hhand' : t.finishHand = t := by simp only [Dev.finishHand, show t.pr.handing = none from hhand]
  obtain ⟨h1, h2, h3, -, h5, h6⟩ := hq
  have hquiet : t.quiet := ⟨h1, h2, h3, by simp [show t.mm.migs = [] from hm], h5, h6⟩
  have hrun : ∀ (p : Nat → Bool) (g : Dev → MirCmd → Dev),
      (if ((t.endHolds true p).endCmds p g).pr.switching then
        { ((t.endHolds true p).endCmds p g).wr K.logFormat 2 with
          pr := { ((t.endHolds true p).endCmds p g).pr with switching := false } }
      else (t.endHolds true p).endCmds p g).finishHand.settle = t := by
    intro p g
    rw [hholds, hcmds, if_neg (by simp [show t.pr.switching = false from hsw]), hhand', Dev.settle_quiet hquiet]
  exact hrun ..

/-- A repair for a partition that is no partner of this module's. -/
theorem Dev.repairAnswer_stranger {u : Dev} {part : Nat} (h1 : u.partFor 1 part = none) (h2 : u.partFor 2 part = none) (blk : Nat) :
    u.repairAnswer part blk = u.ringSend 0x45 (zeros 256 ++ leBytes 2 Meta.zero.word ++ leBytes 1 0x20) := by
  simp only [Dev.repairAnswer, h1, h2]

/-- Settles O47: a frame that is taken runs on the device that took it; the others by the first check that they fail. -/
theorem ringFrames : Obligations.RingFrames := by
  unfold Obligations.RingFrames
  intro s port f
  dsimp only
  refine ⟨fun ht => ?taken, fun hp hl hpass => ⟨fun hme => ⟨?other, fun seq => congrArg (ok s) (Dev.ringIn_other hp hl hpass hme _)⟩,
      fun hme => ?noRow, fun hme hf hs hseq seq => congrArg (ok s) (Dev.ringIn_gap hp hl hpass hme hf hs hseq _)⟩,
    fun hp hl hpass hme hf hs recs => congrArg (ok s) (Dev.ringIn_damaged hp hl hpass hme hf hs _), fun hme hl hf => ?forward,
    fun hme => if_pos (by simp [hme]), fun hl hb => ⟨congrArg (ok s) (if_pos (by simp [hl])), congrArg (ok s) (if_pos (by simp [hl]))⟩⟩
  case taken =>
    refine ⟨fun hb => congrArg (ok s) (Dev.ringIn_takes ht _), fun recs => ⟨congrArg (ok s) (Dev.ringIn_takes ht _), fun hst =>
        ⟨fun t h => Dev.logIn_applied hst h, fun t st dt h => Dev.logIn_refused hst h, fun h => Dev.logIn_waits hst h⟩⟩,
      fun upTo st dt => ⟨congrArg (ok s) (Dev.ringIn_takes ht _), fun hq hm hh hc hsw hhand =>
        Dev.logAck_plain hq hm hh hc hsw hhand upTo st dt⟩, fun seq => congrArg (ok s) (Dev.ringIn_takes ht _),
      fun part blk => ⟨congrArg (ok s) (Dev.ringIn_takes ht _), fun h1 h2 => Dev.repairAnswer_stranger h1 h2 blk⟩,
      fun part blk r => ⟨congrArg (ok s) (Dev.ringIn_takes ht _), fun h => if_pos (by simpa using h)⟩,
      fun part page valid poison data => ⟨congrArg (ok s) (Dev.ringIn_takes ht _), fun h => ?_⟩⟩
    simp only [Dev.resyncIn, h]
  case other => exact (exec_ringFrameForward_reaches hp hl rfl hpass).trans (congrArg (ok s) (if_neg (by simp [hme])))
  case noRow => exact (exec_ringFrameForward_reaches hp hl rfl hpass).trans (congrArg (ok s) (if_pos hme))
  case forward => exact if_neg (by simp [hme, hl, hf])

end Sys2Proof.Machine
end

section
/-! O32: the recipes REDUCE and GATHER with buffers in host memory. -/
namespace Sys2Proof.Machine

/-! ## A recipe at work on its descriptor -/

section
variable {d : Dev} {handle recipe op k : Nat} {c : Chan} {x : Dsc}

/-- A recipe descriptor at the head, none of its reserved bits set, is worked on. -/
theorem Dev.onRecipe_works (h : d.recipeOn handle recipe op k c x) {recipes : List Nat} (hr : recipe ∈ recipes) {rsv : Dsc → Bool}
    (hx : rsv x = false) (run : Dev → Nat → Chan → Dsc → Dev) :
    d.onRecipe handle recipes op rsv run = d.overrunNoted k x (run d k c x) := by
  obtain ⟨hw, hrec, hst, hh⟩ := h
  have here : recipes.contains c.recipe = true := by simp [hrec, hr]
  simp only [Dev.onRecipe, hw, here, hst, hh, hx, bne_self_eq_false, Bool.not_true, Bool.or_self, Bool.false_eq_true, if_false]

end

section
variable {d : Dev} {k : Nat} {c : Chan} {cls : Nat}

/-- A buffer of host memory read over PCIe. -/
theorem Dev.bufRead_host (h : d.bme (c.fn k) = true) (ep addr : Nat) {len : Nat} {bs : List Byte} (hl : bs.length = len) :
    d.bufRead k c cls 0 ep addr len (.data bs) = .done (d.hostAsked (c.fn k) addr bs.length) bs 0 := by
  subst hl
  simp only [Dev.bufRead, h, Bool.not_true, Bool.false_eq_true, if_false, beq_self_eq_true, if_true, Dev.hostAsked]

theorem Dev.bufWrite_host (h : d.bme (c.fn k) = true) (ep addr : Nat) (bs : List Byte) (seq : Nat) :
    d.bufWrite k c cls 0 ep addr bs seq = .done (d.emit (.hostWr (c.fn k) addr bs)) [] 0 := by
  simp only [Dev.bufWrite, h, Bool.not_true, Bool.false_eq_true, if_false]

end

@[simp] theorem ChAcc.next_done (d : Dev) (bs : List Byte) (n : Nat) (f : Dev → List Byte → Nat → ChAcc) :
    (ChAcc.done d bs n).next f = f d bs n := rfl

@[simp] theorem Dev.endAcc_done (k : Nat) (x : Dsc) (result : Nat) (d : Dev) (bs : List Byte) (ov : Nat) (f : Dev → List Byte → Nat → Dev) :
    Dev.endAcc k x result (.done d bs ov) f = f d bs ov := rfl

theorem firstWait_done {d : Dev} {bs : List Byte} {ov : Nat} : firstWait [ChAcc.done d bs ov] = none := rfl

/-! ## Fields of a run of words -/

/-- A field that begins behind a prefix. -/
theorem leAt_append_right (pre post : List Byte) (off len : Nat) : leAt (pre ++ post) (pre.length + off) len = leAt post off len := by
  have here (i : Nat) : (pre ++ post)[pre.length + off + i]? = post[off + i]? := by
    rw [List.getElem?_append_right (by omega)]
    congr 1
    omega
  simp only [leAt, slice, List.getD_eq_getElem?_getD, here]

theorem length_words (n : Nat) (g : Nat → Nat) : ((List.range n).flatMap (fun i => leBytes 4 (g i))).length = 4 * n := by
  induction n with
  | zero => rfl
  | succ n ih =>
    rw [List.range_succ, List.flatMap_append, List.length_append, ih, List.flatMap_singleton, length_leBytes]
    omega

/-- Word `i` of words written one after another. -/
theorem leAt_words {n i : Nat} (g : Nat → Nat) (h : i < n) : leAt ((List.range n).flatMap (fun i => leBytes 4 (g i))) (4 * i) 4 = g i % 2 ^ 32 := by
  obtain ⟨m, rfl⟩ : ∃ m, n = i + (m + 1) := ⟨n - i - 1, by omega⟩
  rw [List.range_add, List.flatMap_append, List.range_succ_eq_map]
  have start := leAt_append_right ((List.range i).flatMap (fun i => leBytes 4 (g i)))
    ((List.map (i + ·) (0 :: (List.range m).map Nat.succ)).flatMap (fun i => leBytes 4 (g i))) 0 4
  rw [length_words, Nat.add_zero] at start
  rw [start, List.map_cons, List.flatMap_cons, leAt_leBytes_head]
  rfl

/-- Sums of FP32 bytes are the sums of their words. -/
theorem leAt_addFp32 {a b : List Byte} {i : Nat} (h : 4 * i + 4 ≤ b.length) :
    leAt (addFp32 a b) (4 * i) 4 = (f32add (BitVec.ofNat 32 (leAt a (4 * i) 4)) (BitVec.ofNat 32 (leAt b (4 * i) 4))).toNat := by
  rw [addFp32, leAt_words _ (by omega), Nat.mod_eq_of_lt (BitVec.isLt _)]

/-! ## REDUCE -/

section
variable {d : Dev} {k : Nat} {c : Chan} {x : Dsc}

theorem Dev.accumulate_host {src bs : List Byte} {u v : Dev} {ov : Nat} (hb : d.bme (c.fn k) = true) (hloc : x.arg 0x2D 1 = 0)
    (hr : d.redRefusal (ctxPart k) c.args x = none) (hy : argAt c.args 4 4 = 0) (hl : src.length = redBytes (x.arg 0x2C 1) (x.arg 0x28 4)) :
    let off := d.baseOff (ctxPart k) (argAt c.args 0 2) + x.arg 0x20 8
    firstWait [d.chRead (ctxPart k) off (4 * x.arg 0x28 4) x.cls (k + 1),
      d.chWrite (ctxPart k) off ((zeros (4 * x.arg 0x28 4)).map some) x.cls (some (k, x.seq))] = none →
    (d.hostAsked (c.fn k) (x.arg 0x30 8) src.length).chRead (ctxPart k) off (4 * x.arg 0x28 4) x.cls (k + 1) = .done u bs ov →
    u.chWrite (ctxPart k) off ((addFp32 bs (redDecode (x.arg 0x2C 1) (x.arg 0x28 4) src)).map some) x.cls (some (k, x.seq)) = .done v [] 0 →
    d.accumulate (.data src) k c x = v.recEnd k x 0 0 (x.arg 0x28 4) := by
  intro off hw hread hwrite
  have hbuf := Dev.bufRead_host (cls := x.cls) hb (argEp c.args) (x.arg 0x30 8) hl
  simp only [Dev.accumulate, hr]
  rw [hw]
  simp only [hloc, Nat.zero_mod, hbuf, ChAcc.next_done]
  rw [hread, ChAcc.next_done, hwrite, Dev.endAcc_done, hy]
  rfl

theorem Dev.readout_host {r : Resp} {o : Obj} {acc : List Byte} {u : Dev} {ov : Nat} (hf : x.arg 0x2C 1 = 0) (hloc : x.arg 0x2D 1 = 0)
    (hresp : r ≠ .failed) (hr : d.redRefusal (ctxPart k) c.args x = none) (ho : d.obj (ctxPart k) (argAt c.args 0 2) = some o)
    (hread : d.chRead (ctxPart k) (d.baseOff (ctxPart k) (argAt c.args 0 2) + x.arg 0x20 8) (4 * x.arg 0x28 4) x.cls (k + 1) = .done u acc ov)
    (hb : u.bme (c.fn k) = true)
    (hclear : bit (x.arg 0x2E 1) 0 = true → d.clearWaits (ctxPart k) o (x.arg 0x20 8) (x.arg 0x28 4) = false) :
    d.readout r k c x =
      let w := u.emit (.hostWr (c.fn k) (x.arg 0x30 8) acc)
      (if bit (x.arg 0x2E 1) 0 then w.readoutClear (ctxPart k) o (x.arg 0x20 8) (x.arg 0x28 4) k x.seq else w).recEnd k x 0 0 (x.arg 0x28 4) := by
  have hbase : d.baseOff (ctxPart k) (argAt c.args 0 2) = o.ext * 2 ^ 30 := by rw [Dev.baseOff, ho]
  have answered : hostFails 0 r = false := by simp [hostFails, hresp]
  have go : (bit (x.arg 0x2E 1) 0 && d.clearWaits (ctxPart k) o (x.arg 0x20 8) (x.arg 0x28 4)) = false := by
    cases h : bit (x.arg 0x2E 1) 0
    · rfl
    · exact hclear h
  rw [hbase] at hread
  simp only [Dev.readout, hr, ho, hloc, hf, Nat.zero_mod, answered, go, hread, show ((0 : Nat) == 2) = false from rfl, Bool.false_and,
    Bool.false_eq_true, if_false, List.append_nil, firstWait_done, ChAcc.next_done, readoutBytes,
    Dev.bufWrite_host (cls := x.cls) hb, Dev.endAcc_done]

/-! ## GATHER -/

theorem Dev.gather_host {idx : List Byte} (hb : d.bme (c.fn k) = true) (hloc : x.arg 0x28 1 = 0) (h1 : 1 ≤ x.arg 0x20 4)
    (h2 : x.arg 0x20 4 ≤ 65536) (h3 : x.arg 0x24 4 % 64 = 0) (h4 : 64 ≤ x.arg 0x24 4) (h5 : x.arg 0x24 4 ≤ 65536)
    (h6 : x.arg 0x30 8 % 64 = 0) (hl : idx.length = 8 * x.arg 0x20 4) :
    d.gather (.data idx) k c x =
      Dev.gatherItems k c x idx (x.arg 0x20 4 - x.step) x.step (d.hostAsked (c.fn k) (x.arg 0x30 8) idx.length) := by
  have hbuf := Dev.bufRead_host (cls := x.cls) hb (argEp c.args) (x.arg 0x30 8) hl
  refine (if_neg ?_).trans ((if_neg ?_).trans ?_)
  · simp only [Bool.or_eq_true, decide_eq_true_eq, bne_iff_ne, ne_eq, not_or]
    exact ⟨⟨⟨⟨⟨by omega, by omega⟩, by simp [h3]⟩, by omega⟩, by omega⟩, by simp [h6]⟩
  · simp [hloc]
  · simp only [hloc, Nat.zero_mod, hbuf, Dev.endAcc_done]

theorem Dev.gatherItems_item {idx bs : List Byte} {left i : Nat} {u : Dev} {ov : Nat} (hloc : x.arg 0x28 1 = 0)
    (hread : d.chRead (ctxPart k) (leAt idx (8 * i) 8) (x.arg 0x24 4) x.cls (k + 1) = .done u bs ov) (hb : u.bme (c.fn k) = true) :
    Dev.gatherItems k c x idx (left + 1) i d =
      Dev.gatherItems k c x idx left (i + 1) (u.emit (.hostWr (c.fn k) (x.arg 0x38 8 + i * x.arg 0x24 4) bs)) := by
  rw [Dev.gatherItems]
  simp only [hloc, hread, Nat.zero_div, Nat.zero_mod, show ((0 : Nat) == 2) = false from rfl, Bool.false_eq_true, if_false,
    List.append_nil, firstWait_done, Dev.bufWrite_host (cls := x.cls) hb]

end

/-- Settles O32: each recipe is its accesses one after another. -/
theorem reduceAndGather : Obligations.ReduceAndGather := by
  unfold Obligations.ReduceAndGather
  intro s handle k c x
  dsimp only
  refine ⟨fun src bs u v ov h hb hx hloc hr hy hl hw hread hwrite => ?acc,
    fun r o acc u ov h hx hloc hf hresp hr ho hread hb => ⟨fun hc => ?plain, fun hc hwaits => ?clears⟩,
    fun idx h hb hloc hz h1 h2 h3 h4 h5 h6 hl => ?gather,
    fun idx bs left i e u ov hloc hread hb => ⟨Dev.gatherItems_item hloc hread hb, rfl⟩,
    fun a b i hl h _ => leAt_addFp32 (by omega)⟩
  case acc =>
    refine congrArg (ok s) ((Dev.onRecipe_works h (by simp) hx _).trans ?_)
    exact congrArg _ (Dev.accumulate_host hb hloc hr hy hl hw hread hwrite)
  case plain =>
    refine congrArg (ok s) ((Dev.onRecipe_works h (by simp) hx _).trans ?_)
    refine congrArg _ ((Dev.readout_host hf hloc hresp hr ho hread hb (by simp [hc])).trans ?_)
    simp only [hc, Bool.false_eq_true, if_false]
  case clears =>
    refine congrArg (ok s) ((Dev.onRecipe_works h (by simp) hx _).trans ?_)
    refine congrArg _ ((Dev.readout_host hf hloc hresp hr ho hread hb (fun _ => hwaits)).trans ?_)
    simp only [hc, if_true]
  case gather =>
    refine congrArg (ok s) ((Dev.onRecipe_works h (by simp) (by simp [hloc, hz]) _).trans ?_)
    exact congrArg _ (Dev.gather_host hb hloc h1 h2 h3 h4 h5 h6 hl)

end Sys2Proof.Machine
end

section
/-! O30 and O31: the attention recipes and weight streaming with buffers in host memory. -/
namespace Sys2Proof.Machine

@[simp] theorem Dev.outWaits_host (d : Dev) (k : Nat) (x : Dsc) (addr n : Nat) : d.outWaits k x 0 addr n = none := rfl

/-! ## Weight streaming -/

section
variable {d : Dev}

/-- Nothing is promoted of pages that are not homed in T3. -/
theorem Dev.promoteAll_none {ks : List Nat} (h : ∀ y ∈ ks, d.inT3 y = false) (cls : Nat) : d.promoteAll cls ks = d := by
  rw [Dev.promoteAll, List.filter_eq_nil_iff.mpr (fun y hy => by simp [h y hy])]
  rfl

theorem Dev.partReady_all {ks : List Nat} (h : ∀ y ∈ ks, d.inT3 y = false ∧ (d.page y).st ≠ .promoting) : d.partReady ks = true := by
  rw [Dev.partReady, List.all_eq_true]
  exact fun y hy => by simp [h y hy]

theorem countBy_none {α : Type} {f : α → Bool} {l : List α} (h : ∀ a ∈ l, f a = false) : countBy f l = 0 := by
  rw [countBy, List.filter_eq_nil_iff.mpr (fun a ha => by simp [h a ha])]
  rfl

variable {k : Nat} {c : Chan} {x : Dsc} {w : Win} (hw : d.wsWin (ctxPart k) c.args = some w)
include hw

theorem Dev.push_ready {r : Resp} {u : Dev} {bs : List Byte} {ov : Nat} (hloc : x.arg 0x2C 1 = 0) (href : wsRefusal w x = none)
    (h : ∀ y ∈ wsBase w x ++ wsDelta w x, d.inT3 y = false ∧ (d.page y).st ≠ .promoting) (hr : r ≠ .failed)
    (hsrc : d.pushSource k w c.args x = .done u bs ov) (hb : u.bme (c.fn k) = true) :
    d.push r k c x = (((if bs = [] then u else u.emit (.hostWr (c.fn k) (x.arg 0x30 8) bs)).add K.pushBytes (x.arg 0x28 4)).recEnd k x
      (pushStatus x ov) 0 (pushResult x ov)) := by
  have base := Dev.partReady_all (d := d) (fun y hy => h y (List.mem_append_left _ hy))
  have delta := Dev.partReady_all (d := d) (fun y hy => h y (List.mem_append_right _ hy))
  have answered : hostFails 0 r = false := by simp [hostFails, hr]
  simp only [Dev.push, hw, href, Dev.promoteAll_none (fun y hy => (h y hy).1), base, delta, Bool.or_true, Bool.and_self, if_true,
    Dev.pushGo, hloc, Nat.zero_mod, answered, Bool.false_eq_true, if_false, Dev.outWaits_host, hsrc, Dev.bufWrite_host (cls := x.cls) hb]
  cases bs with
  | nil => rfl
  | cons b bs => rfl

theorem Dev.prefetch_inPlace (href : wsRefusal w x = none) (hstep : x.step = 0)
    (h : ∀ y ∈ wsBase w x ++ wsDelta w x, d.inT3 y = false ∧ ∀ e ∈ d.mm.wantPromo, e.1 ≠ y) : d.prefetch k c x = d.recEnd k x 0 0 0 := by
  have none : countBy (fun y => d.inT3 y && !d.moving y) (wsBase w x ++ wsDelta w x).eraseDups = 0 :=
    countBy_none (fun y hy => by simp [(h y (List.mem_eraseDups.mp hy)).1])
  have started : (wsBase w x ++ wsDelta w x).any (fun y => d.mm.wantPromo.any (fun e => e.1 == y)) = false := by
    simp only [List.any_eq_false, beq_iff_eq, Bool.not_eq_true]
    exact fun y hy => (h y hy).2
  simp only [Dev.prefetch, hw, href, Dev.promoteAll_none (fun y hy => (h y hy).1), hstep, beq_self_eq_true, if_true, none, started,
    Bool.false_eq_true, if_false]

end

/-- Settles O31: nothing is left to promote, and the recipes do the rest in one go. -/
theorem weightStreaming : Obligations.WeightStreaming := by
  unfold Obligations.WeightStreaming
  refine ⟨fun s handle k c x w hw => ⟨fun r u bs ov h hloc hd hp href hready hr hsrc hb => ?push, fun late h hdead hstep => ?decision,
      fun h hd hp href hstep hready => ?prefetch⟩, fun base delta late => ?table, fun x ov => ?status⟩
  case push =>
    refine congrArg (ok s) ((Dev.onRecipe_works h (by simp) (by simp [hloc, hd, hp]) _).trans ?_)
    exact congrArg _ (Dev.push_ready hw hloc href hready hr hsrc hb)
  case decision =>
    refine congrArg (ok s) ((Dev.onRecipe_works h (by simp) rfl _).trans (congrArg _ ?_))
    simp only [hw, hstep, bne_self_eq_false, Bool.or_false, beq_iff_eq, hdead, if_false]
  case prefetch =>
    refine congrArg (ok s) ((Dev.onRecipe_works h (by simp) (by simp [hd, hp]) _).trans ?_)
    exact congrArg _ (Dev.prefetch_inPlace hw href hstep hready)
  case table =>
    simp [pushDecide]
  case status =>
    refine ⟨fun h => ?_, fun h hf => ?_, fun h hf => ?_⟩
    · simp [pushStatus, h]
    · simp [pushStatus, h, hf]
    · simp [pushStatus, h, hf]

/-! ## Attention -/

theorem w32_minusInf : w32 (.inf true) = 0xFF800000 := by decide

/-- The output of a descriptor written to host memory. -/
theorem Dev.emitOut_host {d : Dev} {k : Nat} {c : Chan} (hb : d.bme (c.fn k) = true) (x : Dsc) (addr : Nat) (bs : List Byte)
    (bad result : Nat) (q : List Byte) :
    d.emitOut k c x 0 addr bs bad result (.data q) =
      let w := d.emit (.hostWr (c.fn k) addr bs)
      if bad = 0 then w.recEnd k x 0 0 result else w.recEnd k x 0xF1 (satN 16 bad) result := by
  refine (if_neg (by simp [hostFails])).trans ?_
  rw [Dev.bufWrite_host hb, Dev.endAcc_done]
  simp only [beq_iff_eq]

section
variable {d : Dev} {k : Nat} {c : Chan} {x : Dsc}

theorem Dev.append_host {src bs : List Byte} {u : Dev} {ov : Nat} (hb : d.bme (c.fn k) = true) (hloc : x.arg 0x23 1 = 0)
    (h1 : 1 ≤ x.arg 0x28 4) (h2 : x.arg 0x28 4 ≤ 65536)
    (hr : d.winRefusal (ctxPart k) c.args (x.arg 0x20 2) (x.arg 0x22 1) (x.arg 0x24 4) (x.arg 0x28 4) = none)
    (hl : src.length = 2 * x.arg 0x28 4 * shRow c.args)
    (hs : (d.hostAsked (c.fn k) (x.arg 0x30 8) src.length).appendStore k c x src = .done u bs ov) :
    d.append (.data src) k c x = u.recEnd k x 0 0 (x.arg 0x28 4) := by
  have hbuf := Dev.bufRead_host (cls := x.cls) hb (argEp c.args) (x.arg 0x30 8) hl
  refine (if_neg (by simp only [Bool.or_eq_true, decide_eq_true_eq]; omega)).trans ?_
  simp only [hr, hloc, Nat.zero_mod, hbuf, ChAcc.next_done, hs, Dev.endAcc_done]

theorem Dev.decode_host {q bs : List Byte} {u : Dev} {ov : Nat} (hloc : x.arg 0x23 1 = 0) (hn : x.arg 0x28 4 ≤ shTmax c.args)
    (hr : d.winRefusal (ctxPart k) c.args (x.arg 0x20 2) (x.arg 0x22 1) (x.arg 0x24 4) (x.arg 0x28 4) = none)
    (hkv : d.kvRead k c.args x (x.arg 0x24 4) (x.arg 0x28 4) = .done u bs ov) (hb : u.bme (c.fn k) = true)
    (hl : q.length = shHeads c.args * shDim c.args * 2) :
    let v := u.hostAsked (c.fn k) (x.arg 0x30 8) q.length
    let b := (x.arg 0x28 4 + 1023) / 1024
    let recs := (List.range (shHeads c.args)).map (fun h => v.decodeHead (ctxPart k) c.args x (queryAt c.args q 0 h) h (v.fresh + h * b))
    d.decode (.data q) k c x = ({ v with fresh := v.fresh + shHeads c.args * b } : Dev).emitOut k c x 0 (x.arg 0x38 8)
      (recs.flatMap Rec.bytes) (sumBy Rec.nonfinite recs) (x.arg 0x28 4) (.data q) := by
  intro v b recs
  have hbuf := Dev.bufRead_host (cls := x.cls) hb (argEp c.args) (x.arg 0x30 8) hl
  refine (if_neg (by omega)).trans ?_
  simp only [hr, hloc, Nat.zero_div, Nat.zero_mod, Dev.outWaits_host, hkv, ChAcc.next_done, hbuf, Dev.endAcc_done]
  rfl

/-- Nothing attended leaves the empty record. -/
theorem Dev.decodeHead_none (h : x.arg 0x28 4 = 0) (p args : Nat) (q : List FV) (head fresh : Nat) :
    d.decodeHead p args x q head fresh = ⟨List.replicate (shDim args) 0, 0xFF800000⟩ := by
  rw [← w32_minusInf]
  simp only [Dev.decodeHead, h]
  rfl

theorem Dev.prefill_host {q bs : List Byte} {u : Dev} {ov : Nat} (hloc : x.arg 0x23 1 = 0) (h1 : 1 ≤ x.arg 0x2C 2) (h2 : x.arg 0x2C 2 ≤ 16384)
    (hr : d.winRefusal (ctxPart k) c.args (x.arg 0x20 2) (x.arg 0x22 1) 0 (x.arg 0x28 4) = none)
    (hkv : d.kvRead k c.args x 0 (attended x (x.arg 0x2C 2 - 1)) = .done u bs ov) (hb : u.bme (c.fn k) = true)
    (hl : q.length = x.arg 0x2C 2 * shHeads c.args * shDim c.args * 2) :
    let v := u.hostAsked (c.fn k) (x.arg 0x30 8) q.length
    let len := 32 * (1 + v.free % 524288)
    let units := (x.arg 0x28 4 + len - 1) / len
    let recs := (List.range (x.arg 0x2C 2 * shHeads c.args)).map (fun e =>
      v.prefillHead (ctxPart k) c.args x (queryAt c.args q (e / shHeads c.args) (e % shHeads c.args)) (e / shHeads c.args)
        (e % shHeads c.args) len (v.fresh + 1 + e * units))
    d.prefill (.data q) k c x = ({ v with fresh := v.fresh + 1 + x.arg 0x2C 2 * shHeads c.args * units } : Dev).emitOut k c x 0
      (x.arg 0x38 8) (recs.flatMap Rec.bytes) (sumBy Rec.nonfinite recs) (x.arg 0x2C 2) (.data q) := by
  intro v len units recs
  have hbuf := Dev.bufRead_host (cls := x.cls) hb (argEp c.args) (x.arg 0x30 8) hl
  refine (if_neg (by simp only [Bool.or_eq_true, decide_eq_true_eq]; omega)).trans ?_
  simp only [hr, hloc, Nat.zero_div, Nat.zero_mod, Dev.outWaits_host, hkv, ChAcc.next_done, hbuf, Dev.endAcc_done]
  rfl

theorem Dev.merge_host {all bs : List Byte} {u : Dev} {ov : Nat} (hloc : x.arg 0x21 1 = 0) (hform : x.arg 0x22 1 = 0)
    (h1 : 2 ≤ x.arg 0x20 1) (h2 : x.arg 0x20 1 ≤ 16) (h3 : 1 ≤ x.arg 0x24 2) (h4 : x.arg 0x24 2 ≤ 16384) :
    let m := x.arg 0x24 2 * shHeads c.args * (4 * (shDim c.args + 1))
    d.readSets k c x m (.data all) (x.arg 0x20 1) = .done u bs ov →
    let recs := (List.range (x.arg 0x24 2 * shHeads c.args)).map (fun e => mergeRecs (shDim c.args)
      ((shuffle u.fresh (List.range (x.arg 0x20 1))).map (fun i => recAt (shDim c.args) bs (i * m + e * (4 * (shDim c.args + 1))))))
    d.merge (.data all) k c x = ({ u with fresh := u.fresh + x.arg 0x20 1 } : Dev).emitOut k c x 0
      (x.arg 0x38 8) (recs.flatMap Rec.bytes) (sumBy Rec.nonfinite recs) (x.arg 0x24 2) (.data all) := by
  intro m hread recs
  refine (if_neg (by simp only [hform, Bool.or_eq_true, decide_eq_true_eq]; omega)).trans ?_
  simp only [hloc, hform, Nat.zero_div, Nat.zero_mod, Dev.outWaits_host]
  rw [hread, Dev.endAcc_done]
  rfl

end

/-! ## Records combined -/

theorem mergeRecs_none {dim : Nat} {rs : List Rec} (h : ∀ r ∈ rs, r.lse = 0xFF800000) :
    mergeRecs dim rs = ⟨List.replicate dim 0, 0xFF800000⟩ := by
  have dead : rs.filter (fun r => r.lse != w32 (.inf true)) = [] :=
    List.filter_eq_nil_iff.mpr (fun r hr => by simp [h r hr, w32_minusInf])
  rw [mergeRecs, dead, ← w32_minusInf]
  rfl

theorem mergeRecs_live (dim : Nat) (rs : List Rec) : mergeRecs dim rs = mergeRecs dim (rs.filter (fun r => r.lse != 0xFF800000)) := by
  simp only [mergeRecs, w32_minusInf, List.filter_filter, Bool.and_self]

/-- Squaring one gives no digit of a logarithm. -/
theorem log2Digits_one (n : Nat) : log2Digits n (2 ^ 192) 0 = 0 := by
  induction n with
  | zero => rfl
  | succ n ih =>
    rw [log2Digits]
    simp only [show (2 ^ 192 * 2 ^ 192) >>> 192 = 2 ^ 192 from by decide, show 2 ^ 192 < 2 ^ 193 from by decide, if_true, Nat.mul_zero]
    exact ih

theorem log2Fix_one : log2Fix 8388608 (-23) = 0 := by
  have top : Nat.log2 8388608 = 23 := by decide
  have one : 8388608 <<< 192 >>> 23 = 2 ^ 192 := by decide
  rw [log2Fix]
  simp only [top, one, log2Digits_one]
  rfl

/-- The logarithm of one. -/
theorem vLog_one : vLog 0x3F800000 = 0 := by
  have one : f32 0x3F800000 = .num false 8388608 (-23) := by decide
  simp only [vLog, one, log2Fix_one]
  decide

theorem mergeRecs_one (dim : Nat) (o : List W32) : (mergeRecs dim [⟨o, 0⟩]).lse = 0 := by
  have zero : lSub 0 0 = 0 := by decide
  have exp : vExp 0 = 0x3F800000 := by decide
  have sum : f32add 0 0x3F800000 = 0x3F800000 := by decide
  show f32add 0 (vLog (f32add 0 (vExp (lSub 0 0)))) = 0
  rw [zero, exp, sum, vLog_one]
  decide

/-- Settles O30: each recipe is its accesses and its output one after another; a merge drops the records of empty sets. -/
theorem attentionRecipes : Obligations.AttentionRecipes := by
  unfold Obligations.AttentionRecipes
  refine ⟨fun s handle k c x => ?_, fun dim rs h => mergeRecs_none h, mergeRecs_live, mergeRecs_one⟩
  intro d p a f n done finished
  have outcome : ∀ (t : Dev) (recs : List Rec) (addr result : Nat) (q : List Byte), t.bme f = true → addr = x.arg 0x38 8 →
      done (t.emitOut k c x 0 addr (recs.flatMap Rec.bytes) (sumBy Rec.nonfinite recs) result (.data q)) = finished t recs result := by
    intro t recs addr result q hb ha
    subst ha
    rw [Dev.emitOut_host hb]
    exact apply_ite done ..
  refine ⟨fun src h hb hloc h2C h38 h1 h2 hr hl u bs ov hs => ?append, fun q u bs ov h hloc h2C hn hr hkv hb hl => ⟨?decode, fun h0 => ?empty⟩,
    fun q u bs ov h hloc h2E h1 h2 hr hkv hb hl => ?prefill,
    fun recipe all u bs ov hrec h hloc hform h23 h26 h1 h2 h3 h4 => ?merge⟩
  case append =>
    refine congrArg (ok s) ((Dev.onRecipe_works h (by simp) (by simp [hloc, h2C, h38]) _).trans ?_)
    exact congrArg _ (Dev.append_host hb hloc h1 h2 hr hl hs)
  case decode =>
    refine Eq.trans (congrArg (ok s) ((Dev.onRecipe_works h (by simp) (by simp [hloc, h2C]) _).trans ?_)) (outcome _ _ _ _ q hb rfl)
    exact congrArg _ (Dev.decode_host hloc hn hr hkv hb hl)
  case empty =>
    refine List.ext_getElem (by simp) (fun i _ _ => ?_)
    simp only [List.getElem_map, List.getElem_replicate]
    exact Dev.decodeHead_none h0 ..
  case prefill =>
    refine Eq.trans (congrArg (ok s) ((Dev.onRecipe_works h (by simp) (by simp [hloc, h2E]) _).trans ?_)) (outcome _ _ _ _ q hb rfl)
    exact congrArg _ (Dev.prefill_host hloc h1 h2 hr hkv hb hl)
  case merge =>
    intro m hread hb recs
    refine Eq.trans (congrArg (ok s) ((Dev.onRecipe_works h ?_ (by simp [hloc, h23, h26]) _).trans ?_)) (outcome _ _ _ _ all hb rfl)
    · rcases hrec with rfl | rfl <;> simp
    · exact congrArg _ (Dev.merge_host hloc hform h1 h2 h3 h4 hread)

end Sys2Proof.Machine
end

section
/-! O34: epochs, placement programs and the end of a copy. -/
namespace Sys2Proof.Machine

/-! ## Epochs -/

@[simp] theorem Page.decay_none (halve : Bool) : Page.none.decay halve = Page.none := by cases halve <;> rfl

theorem kget_of_not_mem {α : Type} (z : α) {k : Nat} {m : List (Nat × α)} (h : k ∉ m.map (fun e => e.1)) : kget z k m = z := by
  induction m with
  | nil => rfl
  | cons e m ih =>
    simp only [List.map_cons, List.mem_cons, not_or] at h
    simp only [kget, h.1, if_false, ih h.2]

/-- Entries mapped, those of the default value dropped: a value reads as its map. -/
theorem kget_map_trim {α : Type} [DecidableEq α] {z : α} {f : α → α} (hz : f z = z) (k : Nat) {m : List (Nat × α)}
    (nodup : (m.map (fun e => e.1)).Nodup) : kget z k ((m.map (fun e => (e.1, f e.2))).filter (fun e => e.2 != z)) = f (kget z k m) := by
  induction m with
  | nil => exact hz.symm
  | cons e m ih =>
    simp only [List.map_cons, List.nodup_cons] at nodup
    obtain ⟨fresh, nodup⟩ := nodup
    have rest := ih nodup
    rw [List.map_cons, List.filter_cons]
    by_cases hk : k = e.1
    · subst hk
      simp only [kget, if_true]
      split
      · simp only [kget, if_true]
      · rename_i hv
        rw [rest, kget_of_not_mem z fresh, hz]
        exact ((Bool.eq_false_iff.2 hv) |> bne_eq_false_iff_eq.mp).symm
    · simp only [kget, hk, if_false]
      split
      · simp only [kget, hk, if_false, rest]
      · exact rest

theorem Dev.epochEnd_page (d : Dev) (k : Nat) (nodup : (d.mm.pages.map (fun e => e.1)).Nodup) :
    d.epochEnd.page k = (d.page k).decay ((d.mm.epoch + 1) % d.rd K.heatDecayEpochs == 0) :=
  kget_map_trim (f := (Page.decay · _)) (Page.decay_none _) k nodup

/-! ## Placement programs -/

section
variable {d : Dev} {part obj : Nat} {o : Obj} {out : List Byte} (ho : d.obj part obj = some o)
include ho

theorem Dev.invoke_idle (h : d.invocationCause part o = 0 ∨ d.causeWaits part obj o = true) : d.invoke part obj out = d := by
  rw [Dev.invoke, ho]
  exact if_pos (by rcases h with h | h <;> simp [h])

variable (hord : o.ordinary = true) (hf : d.fenced part = false) (hc : d.invocationCause part o ≠ 0)
  (hw : d.causeWaits part obj o = false)
include hord hf hc hw

theorem Dev.invoke_slot0 (h : d.runsSlot0 o = true) :
    d.invoke part obj out = (d.placeOut part obj o (d.slot0 part o)).afterMoves.settle := by
  rw [Dev.invoke, ho]
  exact (if_neg (by simp [hord, hf, hc, hw])).trans (if_pos h)

theorem Dev.invoke_stopped (h : d.runsSlot0 o = false) (hrun : d.runProgram part obj o out = none) :
    d.invoke part obj out = d.placeStopped part obj := by
  rw [Dev.invoke, ho]
  refine (if_neg (by simp [hord, hf, hc, hw])).trans ((if_neg (by simp [h])).trans ?_)
  rw [hrun]

theorem Dev.invoke_ran {ms : List Move} {data : List Byte} (h : d.runsSlot0 o = false)
    (hrun : d.runProgram part obj o out = some (ms, data)) :
    d.invoke part obj out = (((({ d with
      mm := { d.mm with progData := kput (dataKey (pdProgram o.desc) obj) data d.mm.progData } } : Dev).modObj part obj
        (fun o => { o with stops := 0 })).placeOut part obj o ms).afterMoves).settle := by
  rw [Dev.invoke, ho]
  refine (if_neg (by simp [hord, hf, hc, hw])).trans ((if_neg (by simp [h])).trans ?_)
  rw [hrun]

end

/-! ## The end of a copy -/

theorem Dev.copyDone_good {d : Dev} {k : Nat} {m : Mig} (hm : kfind k d.mm.migs = some m) (hr : d.copyReady k = true)
    (hp : d.pageRepairing k = false) (hc : d.copyCapped k m = false) : d.copyDone k .good = ((d.switchPage k m).afterMoves).settle := by
  simp only [Dev.copyDone, hm, hr, hp, hc, Bool.not_true, Bool.or_self, Bool.false_eq_true, if_false, Dev.copyRead, if_true]

@[simp] theorem Dev.chargeTier_mm (d : Dev) (t : Tier) (w : Bool) (c n : Nat) : (d.chargeTier t w c n).mm = d.mm := by
  rw [Dev.chargeTier_frame]

theorem Dev.grants_mm (arbs : List Nat) (w : Bool) (c : Nat) (d : Dev) : (arbs.foldl (fun d a => d.grantAt w c false a) d).mm = d.mm := by
  induction arbs generalizing d with
  | nil => rfl
  | cons a arbs ih => exact (ih _).trans rfl

/-- The floor of the object of a page. -/
def Dev.pageFloor (d : Dev) (k : Nat) : Tier :=
  match d.pageObj k with
  | some (_, o) => pdFloor o.desc
  | none => .t3

/-- Whether a page that switches in one hop stands at its object's floor, and whether beyond what it may keep. -/
def Dev.switchedFl (d : Dev) (k : Nat) (m : Mig) : Bool :=
  (d.page k).fl || (m.toFloor (d.pageFloor k) && !((d.page k).ovf && m.why == .demand))
def Dev.switchedOvf (d : Dev) (k : Nat) (m : Mig) : Bool :=
  m.spare || ((d.page k).ovf && !d.switchedFl k m && m.why != .program)

/-- A device after the switch of a page to a destination above T3, before the page's metadata. -/
def Dev.switched (d : Dev) (k : Nat) (m : Mig) : Dev :=
  let mm := { (d.metaGone k).mm with migs := kdel k d.mm.migs, staged := d.mm.staged.filter (· != k) ++ [] }
  let x := { d.page k with home := some m.dst, st := .resident, fl := d.switchedFl k m, ovf := d.switchedOvf k m }
  (({ d.metaGone k with mm := mm } : Dev).setPage k x).inc K.migrations

theorem Dev.switched_mm (d : Dev) (k : Nat) (m : Mig) :
    let t := d.switched k m
    t.mm.pages = kput k { d.page k with home := some m.dst, st := .resident, fl := d.switchedFl k m, ovf := d.switchedOvf k m } d.mm.pages ∧
      t.mm.migs = kdel k d.mm.migs ∧ t.mm.cells = d.mm.cells := by
  have listed : ({ d.page k with home := some m.dst, st := .resident, fl := d.switchedFl k m, ovf := d.switchedOvf k m } : Page) ≠ Page.none := by
    intro h
    cases congrArg Page.home h
  simp only [Dev.switched, Dev.setPage, listed, if_false, Dev.inc_mm]
  exact ⟨rfl, trivial, rfl⟩

/-- A page that switches to a destination above T3: its entry is written, its migration goes, the stored bytes stay. -/
theorem Dev.switchPage_mm {d : Dev} {k : Nat} {m : Mig} (hop : m.hop = none) (ht : m.dst.tier ≠ .t3) :
    ∃ fl ovf : Bool, let t := d.switchPage k m
      t.mm.pages = kput k { d.page k with home := some m.dst, st := .resident, fl := fl, ovf := ovf } d.mm.pages ∧
      t.mm.migs = kdel k d.mm.migs ∧ t.mm.cells = d.mm.cells := by
  have above : (m.dst.tier == .t3) = false := by simpa using ht
  simp only [Dev.switchPage, hop, above, Bool.false_eq_true, if_false]
  generalize hd2 : Dev.chargeTier _ _ _ _ _ = d2
  have hmm : d2.mm = d.mm := by
    rw [← hd2]
    simp only [Dev.chargeTier_mm, Dev.grants_mm]
  refine ⟨d2.switchedFl k m, d2.switchedOvf k m, ?_⟩
  have step := d2.switched_mm k m
  rw [show d2.page k = d.page k by rw [Dev.page, Dev.page, hmm], hmm] at step
  split
  · split
    · simp only [evBlind_mm.post]
      split
      · exact step
      · exact step
    · split
      · exact step
      · exact step
  · split
    · exact step
    · exact step

/-- Settles O34: each event is its branch; a switch writes the entry of its page and drops its migration. -/
theorem placementEvents : Obligations.PlacementEvents := by
  unfold Obligations.PlacementEvents
  intro s
  dsimp only
  refine ⟨fun h => congrArg (ok s) (if_pos h), fun h => congrArg (ok s) (if_neg (by simp [h])), fun k nodup => ⟨rfl, ?epoch⟩,
    fun part obj o out hop ho hord hf => ⟨fun h => ?idle, fun hc hw => ⟨fun h => ?slot0, fun h hrun => ?stopped, fun ms data h hrun => ?ran⟩⟩,
    fun part page m hop hm hr hp hc => ?copy, fun hop hs => ?staged, fun k m hop ht => ?switch⟩
  case epoch =>
    rw [Dev.epochEnd_page _ k nodup, Page.decay]
    simp only [beq_iff_eq]
    split <;> rfl
  case idle => exact congrArg (ok s) ((if_pos hop).trans (Dev.invoke_idle ho h))
  case slot0 => exact congrArg (ok s) ((if_pos hop).trans (Dev.invoke_slot0 ho hord hf hc hw h))
  case stopped => exact congrArg (ok s) ((if_pos hop).trans (Dev.invoke_stopped ho hord hf hc hw h hrun))
  case ran => exact congrArg (ok s) ((if_pos hop).trans (Dev.invoke_ran ho hord hf hc hw h hrun))
  case copy => exact congrArg (ok s) ((if_pos hop).trans (Dev.copyDone_good hm hr hp hc))
  case staged => exact congrArg (ok s) (if_pos (by simp [hop, hs]))
  case switch =>
    obtain ⟨fl, ovf, hpages, hmigs, hcells⟩ := Dev.switchPage_mm (d := s.dev) (k := k) hop ht
    have page : (s.dev.switchPage k m).page k = { s.dev.page k with home := some m.dst, st := .resident, fl := fl, ovf := ovf } := by
      rw [Dev.page, hpages]
      exact kget_kput_self ..
    have still : (s.dev.switchPage k m).moving k = false := by rw [Dev.moving, hmigs, kfind_kdel_self, Option.isSome_none]
    exact ⟨congrArg Page.home page, congrArg Page.st page, still, (congrArg Page.valid page).trans rfl, hcells⟩

end Sys2Proof.Machine
end

section
/-! O25: answers, failures and timeouts of the device's own requests. -/
namespace Sys2Proof.Machine

/-! ## What the marks of blocks and the mirror log leave alone -/

theorem LogBlind.mirrorNote {β : Type} {part : Dev → β} (hp : LogBlind part) (d : Dev) (way : MirrorWay) (ks : List Nat) (recs : List LogRec) :
    part (d.mirrorNote way ks recs) = part d := by
  unfold Dev.mirrorNote
  split
  · exact hp.logSend ..
  · refine foldl_keeps part (fun t k => ?_) _ d
    unfold Dev.markDirty
    split
    · rfl
    · exact hp.pr ..
  · rfl

/-- A part of the device that does not depend on what page entries hold but for their homes. -/
structure PageBlind {β : Type} (part : Dev → β) : Prop where
  wr : ∀ (d : Dev) (k v : Nat), part (d.wr k v) = part d
  drawn : ∀ d : Dev, part d.drawn = part d
  setPage : ∀ (d : Dev) (k : Nat) (x : Page), x.home = (d.page k).home → part (d.setPage k x) = part d

namespace PageBlind

variable {β : Type} {part : Dev → β} (hp : PageBlind part)
include hp

theorem add (d : Dev) (k n : Nat) : part (d.add k n) = part d := hp.wr d k _

theorem inc (d : Dev) (k : Nat) : part (d.inc k) = part d := hp.add d k 1

theorem setValid (d : Dev) (k v : Nat) : part (d.setValid k v) = part d := by
  unfold Dev.setValid
  dsimp only
  split
  · exact hp.setPage _ _ _ (by rfl)
  · split
    · exact hp.setPage _ _ _ (by rfl)
    · split
      · exact (hp.setPage _ _ _ (by rfl)).trans (hp.drawn d)
      · exact (hp.inc ..).trans (hp.setPage _ _ _ (by rfl))

end PageBlind

@[simp] theorem Dev.page_setPage_self (d : Dev) (k : Nat) (x : Page) : (d.setPage k x).page k = x := by
  unfold Dev.setPage Dev.page
  dsimp only
  split
  · rename_i h
    rw [kget_kdel_self, h]
  · exact kget_kput_self ..

theorem Dev.page_setPage_ne (d : Dev) {j k : Nat} (x : Page) (h : j ≠ k) : (d.setPage k x).page j = d.page j := by
  unfold Dev.setPage Dev.page
  dsimp only
  split
  · exact kget_kdel_ne _ _ h
  · exact kget_kput_ne _ _ _ h

/-- The homes of pages stand apart from the rest of their entries. -/
theorem pageBlind_home (k : Nat) : PageBlind (fun d => (d.page k).home) := by
  refine ⟨fun _ _ _ => rfl, fun _ => rfl, fun d j x h => ?_⟩
  by_cases hk : k = j
  · subst hk
    exact (congrArg Page.home (Dev.page_setPage_self ..)).trans h
  · exact congrArg Page.home (Dev.page_setPage_ne d x hk)

/-- A part of the device that no marking of blocks touches. -/
structure MarkBlind {β : Type} (part : Dev → β) : Prop extends LogBlind part, PageBlind part where
  blocks : ∀ (d : Dev) (x : List (Nat × Meta)), part { d with mm := { d.mm with blocks := x } } = part d

namespace MarkBlind

variable {β : Type} {part : Dev → β} (hp : MarkBlind part)
include hp

theorem setMeta (d : Dev) (k : Nat) (x : Meta) : part (d.setMeta k x) = part d := hp.blocks ..

theorem poisonBlock (d : Dev) (p blk : Nat) : part (d.poisonBlock p blk) = part d := by
  have marked : ∀ u : Dev, part u = part d → part (if d.blkPoison p blk then u else u.inc (K.blocksPoisonedP + p)) = part d := by
    intro u hu
    split
    · exact hu
    · exact (hp.toPageBlind.inc ..).trans hu
  refine marked _ ?_
  split
  · exact hp.setPage _ _ _ (by rfl)
  · dsimp only
    refine (hp.setPage _ _ _ (by rfl)).trans ?_
    split
    · exact hp.setMeta ..
    · exact (hp.toPageBlind.setValid ..).trans (hp.setMeta ..)

theorem poisonBlks (d : Dev) (p : Nat) (blks : List Nat) : part (d.poisonBlks p blks) = part d := by
  refine foldl_keeps part (fun t b => ?_) _ d
  dsimp only
  split
  · rw [hp.mirrorNote, hp.poisonBlock]
  · exact hp.poisonBlock ..

end MarkBlind

theorem markBlind_bw : MarkBlind Dev.bw :=
  ⟨⟨fun _ _ => rfl, fun _ _ => rfl, fun _ _ _ => rfl, fun _ => rfl⟩, fun _ _ _ _ => rfl, fun _ _ => rfl⟩

theorem markBlind_held : MarkBlind (fun d => d.mm.held) :=
  ⟨⟨fun _ _ => rfl, fun _ _ => rfl, fun _ _ _ => rfl, fun _ => rfl⟩, fun _ _ _ _ => rfl, fun _ _ => rfl⟩

/-! ## Answers -/

section
variable {d : Dev} {tag port status : Nat} {t : OutTag}

theorem Dev.dataAnswer_stream {c op : Nat} (h : t.use = .stream c op) (data : List Byte) : d.dataAnswer t 0 data = d.dropTag t.tag := by
  simp only [Dev.dataAnswer, h, beq_self_eq_true, if_true]

theorem Dev.dataAnswer_fetch {k : Nat} {c : Chan} (h : t.use = .descFetch k) (hc : (d.dropTag t.tag).chan k = some c) (data : List Byte) :
    d.dataAnswer t 0 data = (d.dropTag t.tag).fetchDsc k c (.data data) := by
  simp only [Dev.dataAnswer, h, hc, beq_self_eq_true, if_true]

end

section
variable {s : State} {tag port : Nat} {t : OutTag} (ht : s.dev.tagOf tag = some t) (hu : t.ubl = true) (hp : t.port = port)
include ht hu hp

theorem exec_respData_answers (status : Nat) (data : List Byte) : exec (.respData port tag status data) s = ok s (s.dev.dataAnswer t status data) := by
  refine congrArg (ok s) ?_
  rw [ht]
  exact if_pos (by simp [hu, hp])

theorem exec_resp_answers (status : Nat) : exec (.resp port tag status) s =
    ok s (if failed status then (s.dev.dropTag tag).useFailed t.use else (s.dev.dropTag tag).wroteLine t.use) := by
  refine congrArg (ok s) ?_
  rw [ht]
  exact if_neg (by simp [hu, hp])

end

theorem Dev.timeOut_quarantines {d : Dev} {t : OutTag} (h : t.use ≠ .gone) : d.timeOut t =
    (({ d with tags := d.tags.map (fun (x : OutTag) => if x.tag = t.tag then { x with quarantined := true } else x) } : Dev).countTimeout t).useFailed
      t.use := by
  refine (if_neg (by simpa using h)).trans ?_
  simp only [beq_iff_eq]

/-! ## Locks -/

theorem Dev.breakLock_held (d : Dev) (l : Lock) (next : Option LockSt) : (d.breakLock l next).mm.held = d.mm.held := by
  show (if l.st == .held then (d.poisonBlks l.bpart l.blocks).inc K.locksBroken else d).mm.held = d.mm.held
  split
  · rw [Dev.inc_mm]
    exact markBlind_held.poisonBlks ..
  · rfl

theorem Dev.breakLock_stays (d : Dev) (l : Lock) (st : LockSt) : (d.breakLock l (some st)).bw.locks =
    d.bw.locks.map (fun x => if x.id = l.id then { x with pages := [], blocks := [], st := st } else x) := by
  have locks : (if l.st == .held then (d.poisonBlks l.bpart l.blocks).inc K.locksBroken else d).bw = d.bw := by
    split
    · rw [markBlind_bw.toPageBlind.inc]
      exact markBlind_bw.poisonBlks ..
    · rfl
  show List.flatMap _ _ = _
  rw [locks, List.map_eq_flatMap]
  refine congrArg (fun f => List.flatMap f _) (funext fun x => ?_)
  by_cases h : x.id = l.id
  · simp [h]
  · simp [h]

theorem Dev.lockFails_host {d : Dev} {l : Lock} (h : l.host = true) (hh : d.mm.held = []) (next : LockSt) :
    d.lockFails l next = (d.breakLock l (some next)).settle := by
  have none := Dev.breakLock_held d l (some next)
  rw [hh] at none
  have same : ∀ u : Dev, u.mm.held = [] → ({ u with mm := { u.mm with held := [] } } : Dev) = u := by
    intro u hu
    rw [← hu]
  simp only [Dev.lockFails, h, if_true, hh, List.filter_nil, List.any_nil, Bool.false_eq_true, if_false, List.foldl_nil, none]
  rw [same _ none]

theorem Dev.lockFails_stage {d : Dev} {l : Lock} {k q : Nat} (h : l.host = false) (hk : (d.clu l.src).chan = some k)
    (hq : d.lockDsc l = some q) (next : LockSt) : d.lockFails l next = (d.failHalt k q 0x22 0).settle := by
  simp only [Dev.lockFails, h, Bool.false_eq_true, if_false, hk, hq]

/-- Settles O25: each event looks the request up and does what its use says. -/
theorem deviceRequests : Obligations.DeviceRequests := by
  unfold Obligations.DeviceRequests
  intro s
  dsimp only
  refine ⟨fun port tag status data t ht hu hp => ⟨fun c op h => ?stream, fun k c h hc => ?fetch, fun h => ?wrote, fun h => ?lost,
      fun y h => ⟨?noted, ?unnoted⟩⟩, fun tag t ht h => ?timeout, fun tag t ht hu => ?late,
    fun tag => ⟨_, rfl, rfl, fun x hx h => ?clean, fun x hx h => ?others⟩, fun port src dst tag op h1 h2 => ⟨?posted, ?nonPosted⟩,
    fun lock l hl => ⟨fun h hh => ⟨?hostLock, Dev.breakLock_stays ..⟩, fun k q h hk hq => ?stageLock⟩⟩
  case stream => exact (exec_respData_answers ht hu hp 0 data).trans (congrArg (ok s) (Dev.dataAnswer_stream h data))
  case fetch => exact (exec_respData_answers ht hu hp 0 data).trans (congrArg (ok s) (Dev.dataAnswer_fetch h hc data))
  case wrote => exact (exec_resp_answers ht hu hp status).trans (congrArg (ok s) (if_neg (by simp [h])))
  case lost => exact (exec_resp_answers ht hu hp status).trans (congrArg (ok s) (if_pos h))
  case noted => rw [h]; rfl
  case unnoted => rw [h]; rfl
  case timeout =>
    refine congrArg (ok s) ?_
    rw [ht]
    exact Dev.timeOut_quarantines h
  case late =>
    refine congrArg (ok s) ?_
    rw [ht]
    dsimp only
    split
    · exact if_pos hu
    · rfl
  case clean =>
    have kept := (List.mem_filter.mp hx).2
    simpa [h] using kept
  case others => exact List.mem_filter.mpr ⟨hx, by simp [h]⟩
  case posted => exact congrArg (ok s) ((if_pos (by simp [h1, h2])).trans rfl)
  case nonPosted => exact congrArg (ok s) ((if_pos (by simp [h1, h2])).trans rfl)
  case hostLock =>
    refine congrArg (ok s) ?_
    rw [hl]
    exact Dev.lockFails_host h hh .open_
  case stageLock =>
    refine congrArg (ok s) ?_
    rw [hl]
    exact Dev.lockFails_stage h hk hq .open_

end Sys2Proof.Machine
end

section
/-! O28: the fetch, the start, the completion and the halts of descriptors. -/
namespace Sys2Proof.Machine

/-! ## Starts -/

/-- The last descriptor of a channel after the starts: as it was, or started. -/
theorem Dev.startList_last (d : Dev) (p : Nat) (x : Dsc) (l : List Dsc) (first : Bool) :
    ∃ (l' : List Dsc) (y : Dsc), d.startList p first (l ++ [x]) = l' ++ [y] ∧ l'.length = l.length ∧
      (y = x ∨ x.ph = .held ∧ y = { x with ph := .running }) := by
  induction l generalizing first with
  | nil =>
    rw [List.nil_append, Dev.startList]
    split
    · rename_i hx
      split
      · exact ⟨[], _, rfl, rfl, .inr ⟨hx, rfl⟩⟩
      · exact ⟨[], _, rfl, rfl, .inl rfl⟩
    · exact ⟨[], _, rfl, rfl, .inl rfl⟩
  | cons z l ih =>
    obtain ⟨l', y, hl, hlen, hy⟩ := ih false
    rw [List.cons_append, Dev.startList, hl]
    split
    · split
      · exact ⟨_ :: l', y, rfl, by simp [hlen], hy⟩
      · exact ⟨z :: l, x, rfl, rfl, .inl rfl⟩
    · exact ⟨z :: l', y, rfl, by simp [hlen], hy⟩

/-- A held descriptor that waits for nothing starts behind descriptors that are not held. -/
theorem Dev.startList_free (d : Dev) (p : Nat) {x : Dsc} (hx : x.ph = .held) (hw : x.wait = false) (hf : x.fence = false) {l : List Dsc}
    (hl : ∀ y ∈ l, y.ph ≠ .held) (first : Bool) : d.startList p first (l ++ [x]) = l ++ [{ x with ph := .running }] := by
  induction l generalizing first with
  | nil =>
    have met : d.waitMet p x = true := by simp [Dev.waitMet, hw]
    simp only [List.nil_append, Dev.startList, hx, met, hf, Bool.not_false, Bool.true_or, Bool.and_self, if_true]
  | cons z l ih =>
    rw [List.cons_append, Dev.startList, ih (fun y hy => hl y (List.mem_cons_of_mem z hy))]
    split
    · rename_i hz
      exact absurd hz (hl z List.mem_cons_self)
    · rfl

/-! ## Fetch -/

theorem Dev.pushFetched_other (d : Dev) (k : Nat) (c : Chan) {x : Dsc} (h : x.isPush c.recipe = false) : d.pushFetched k c x = d :=
  if_pos (by simp [h])

/-- A descriptor as it is put into its channel: refused, it is finished. -/
def Dev.fetched (d : Dev) (k : Nat) (c : Chan) (bs : List Byte) : Dsc :=
  let x := dscOf c.nextSeq c.cls c.policy bs
  match d.dscRefusal (ctxPart k) c.recipe x with
  | some (st, dt) => { x with ph := DPhase.done, status := st, detail := dt, result := x.early c.recipe }
  | none => x

/-- A channel with a descriptor more. -/
def Chan.taking (c : Chan) (x : Dsc) : Chan :=
  { c with sqHead := (c.sqHead + 1) % 2 ^ c.sqLog2, nextSeq := c.nextSeq + 1, fetched := c.fetched ++ [x] }

section
variable {d : Dev} {k : Nat} {c : Chan} {bs : List Byte}

/-- What the refusal of a descriptor does not touch. -/
theorem Dev.fetched_keeps :
    let x := d.fetched k c bs
    x.seq = c.nextSeq ∧ x.op = leAt bs 0 1 ∧ x.tag = leAt bs 2 2 ∧ x.args = slice bs 0x20 32 ∧ x.cls = c.cls ∧ x.policy = c.policy := by
  unfold Dev.fetched
  dsimp only
  split
  · exact ⟨rfl, rfl, rfl, rfl, rfl, rfl⟩
  · exact ⟨rfl, rfl, rfl, rfl, rfl, rfl⟩

theorem Dev.fetched_refused {st dt : Nat} (h : d.dscRefusal (ctxPart k) c.recipe (dscOf c.nextSeq c.cls c.policy bs) = some (st, dt)) :
    (d.fetched k c bs).ph = .done ∧ (d.fetched k c bs).status = st ∧ (d.fetched k c bs).detail = dt := by
  simp only [Dev.fetched, h, and_self]

theorem Dev.fetched_taken (h : d.dscRefusal (ctxPart k) c.recipe (dscOf c.nextSeq c.cls c.policy bs) = none) :
    d.fetched k c bs = dscOf c.nextSeq c.cls c.policy bs := by
  simp only [Dev.fetched, h]

/-- The channel that a descriptor other than a PUSH is put into, after the starts. -/
theorem Dev.takeDsc_chan (h : (dscOf c.nextSeq c.cls c.policy bs).isPush c.recipe = false) :
    ∃ u : Dev, (d.takeDsc k c bs).chan k = some (
      let c1 := c.taking (d.fetched k c bs)
      if c1.st == .active then { c1 with fetched := u.startList (ctxPart k) c1.cqes.isEmpty c1.fetched } else c1) := by
  have other : (d.fetched k c bs).isPush c.recipe = false := by
    rw [Dsc.isPush, Dev.fetched_keeps.2.1]
    exact h
  obtain ⟨d1, steps⟩ : ∃ d1 : Dev, d.takeDsc k c bs = (((d1.setChan k (c.taking (d.fetched k c bs))).pushFetched k c
      (d.fetched k c bs)).startChan k).fetchRead k (c.taking (d.fetched k c bs)) := ⟨_, rfl⟩
  refine ⟨d1.setChan k (c.taking (d.fetched k c bs)), ?_⟩
  rw [steps, Dev.pushFetched_other _ _ _ other, Dev.chan_congr (Dev.fetchRead_chs ..), Dev.startChan, Dev.chan_modChan_self,
    Dev.chan_setChan_self]
  rfl

/-- A descriptor put into a channel stands last there, refused, held or started. -/
theorem Dev.takeDsc_last (h : (dscOf c.nextSeq c.cls c.policy bs).isPush c.recipe = false) :
    ∃ (c' : Chan) (l : List Dsc) (x : Dsc), (d.takeDsc k c bs).chan k = some c' ∧ c'.sqHead = (c.sqHead + 1) % 2 ^ c.sqLog2 ∧
      c'.nextSeq = c.nextSeq + 1 ∧ c'.fetched = l ++ [x] ∧ l.length = c.fetched.length ∧
      (x = d.fetched k c bs ∨ (d.fetched k c bs).ph = .held ∧ x = { d.fetched k c bs with ph := .running }) ∧
      (c.st = .active → (d.fetched k c bs).ph = .held → (d.fetched k c bs).wait = false → (d.fetched k c bs).fence = false →
        (∀ y ∈ c.fetched, y.ph ≠ .held) → x.ph = .running) := by
  obtain ⟨u, hc⟩ := Dev.takeDsc_chan (d := d) (k := k) h
  by_cases hst : c.st = .active
  · obtain ⟨l, x, hl, hlen, hx⟩ := u.startList_last (ctxPart k) (d.fetched k c bs) c.fetched c.cqes.isEmpty
    refine ⟨_, l, x, hc.trans (congrArg some (if_pos (by simpa [Chan.taking] using hst))), rfl, rfl, hl, hlen, hx, fun _ hheld hw hf hfree => ?_⟩
    have started := (u.startList_free (ctxPart k) hheld hw hf hfree c.cqes.isEmpty).symm.trans hl
    rw [← (List.append_inj_right' started rfl : [_] = [x]) |> List.singleton_inj.mp]
  · exact ⟨_, c.fetched, d.fetched k c bs, hc.trans (congrArg some (if_neg (by simpa [Chan.taking] using hst))), rfl, rfl, rfl, rfl, .inl rfl,
      fun h => absurd h hst⟩

theorem Dev.fetchDsc_idle {r : Resp} (h : d.fetchReady k c = false) : d.fetchDsc k c r = d := if_pos (by simp [h])

section
variable (h : d.fetchReady k c = true)
include h

theorem Dev.fetchDsc_data (hloc : c.sqLoc ≠ 2) (hl : bs.length = 64) :
    d.fetchDsc k c (.data bs) = (d.freeTags (.descFetch k)).takeDsc k c bs :=
  (if_neg (by simp [h])).trans ((if_neg (by simpa using hloc)).trans (if_pos (by simp [hl])))

theorem Dev.fetchDsc_failed (hloc : c.sqLoc ≠ 2) :
    d.fetchDsc k c .failed = ((d.freeTags (.descFetch k)).haltChan k none 0x30 0x000A).settle :=
  (if_neg (by simp [h])).trans (if_neg (by simpa using hloc))

theorem Dev.fetchDsc_memory {r : Resp} {d1 : Dev} {n : Nat} (hloc : c.sqLoc = 2)
    (hread : d.chRead (ctxPart k) (c.sqAddr + 64 * c.sqHead) 64 c.cls (k + 1) = .done d1 bs n) :
    d.fetchDsc k c r = (d1.thForget (k + 1)).takeDsc k c bs := by
  refine (if_neg (by simp [h])).trans ((if_pos (by simp [hloc])).trans ?_)
  rw [hread]

theorem Dev.fetchDsc_memoryFailed {r : Resp} {d1 : Dev} {st dt : Nat} (hloc : c.sqLoc = 2)
    (hread : d.chRead (ctxPart k) (c.sqAddr + 64 * c.sqHead) 64 c.cls (k + 1) = .fail d1 st dt) :
    d.fetchDsc k c r = (d1.haltChan k none 0x30 0x000A).settle := by
  refine (if_neg (by simp [h])).trans ((if_pos (by simp [hloc])).trans ?_)
  rw [hread]

end

end

/-! ## Completion -/

section
variable {d : Dev} {k : Nat} {c : Chan} {x : Dsc} {b : Bool}

theorem Dev.finishDsc_halts (h : haltsChan x.status = true) (h' : x.status ≠ 0x32) :
    d.finishDsc k c x b = d.haltChan k (some x.seq) 0x30 0 := (if_pos h).trans (if_neg (by simpa using h'))

theorem Dev.finishDsc_lost (h : x.status = 0x32) : d.finishDsc k c x b = d.haltChan k none 0x32 0 :=
  (if_pos (by rw [h]; rfl)).trans (if_pos (by simp [h]))

theorem Dev.finishDsc_plain (h : haltsChan x.status = false) (hw : c.cqLoc ≠ 0 ∨ b = true ∨ (x.noCqe = true ∧ x.status = 0)) :
    d.finishDsc k c x b = (d.completeDsc k x).cqPump k := by
  refine (if_neg (by simp [h])).trans (if_pos ?_)
  rcases hw with hw | hw | ⟨hn, hs⟩
  · simp [Chan.cqTakes, hw]
  · simp [Chan.cqTakes, hw]
  · simp [hn, hs]

theorem Dev.finishDsc_unwritten (h : haltsChan x.status = false) (hloc : c.cqLoc = 0) (hn : x.noCqe = false ∨ x.status ≠ 0) :
    d.finishDsc k c x false = (((d.completeDsc k x).cqeLost k).haltBody k none 0x30 0x000A).cqPump k := by
  refine (if_neg (by simp [h])).trans (if_neg ?_)
  rcases hn with hn | hs
  · simp [Chan.cqTakes, hloc, hn]
  · simp [Chan.cqTakes, hloc, hs]

end

section
variable {s : State} {handle k : Nat} {c : Chan} (hc : s.dev.workChan handle = some (k, c))
include hc

theorem exec_descriptorFetch_runs (r : Resp) : exec (.descriptorFetch handle r) s = ok s (s.dev.fetchDsc k c r) := by
  refine congrArg (ok s) ?_
  rw [hc]

theorem exec_descriptorComplete_done {x : Dsc} {r : List Dsc} (hf : c.fetched = x :: r) (hx : x.ph = .done)
    (hl : s.dev.awaitsLog k x.seq = false) (b : Bool) :
    exec (.descriptorComplete handle b) s = ok s (s.dev.finishDsc k c x b).settle := by
  refine congrArg (ok s) ?_
  rw [hc]
  dsimp only
  rw [hf]
  exact if_pos (by simp [hx, hl])

theorem exec_descriptorComplete_waits {x : Dsc} {r : List Dsc} (hf : c.fetched = x :: r)
    (h : x.ph ≠ .done ∨ s.dev.awaitsLog k x.seq = true) (b : Bool) : exec (.descriptorComplete handle b) s = .next s := by
  refine congrArg (ok s) ?_
  rw [hc]
  dsimp only
  rw [hf]
  refine if_neg ?_
  rcases h with h | h
  · simp [h]
  · simp [h]

end

/-- Settles O28: each row of the course is its branch; a descriptor taken stands last in its channel. -/
theorem descriptorCourse : Obligations.DescriptorCourse := by
  unfold Obligations.DescriptorCourse
  intro s handle k c hc
  dsimp only
  have fetch := exec_descriptorFetch_runs hc
  refine ⟨fun bs h hloc hl => (fetch _).trans (congrArg (ok s) (Dev.fetchDsc_data h hloc hl)),
    fun h hloc => (fetch _).trans (congrArg (ok s) (Dev.fetchDsc_failed h hloc)),
    fun r d1 bs n h hloc hread => (fetch _).trans (congrArg (ok s) (Dev.fetchDsc_memory h hloc hread)),
    fun r d1 st dt h hloc hread => (fetch _).trans (congrArg (ok s) (Dev.fetchDsc_memoryFailed h hloc hread)),
    fun r h => (fetch _).trans (congrArg (ok s) (Dev.fetchDsc_idle h)), fun bs h => ?taken, fun x hx => ?nop,
    fun x r b hf hx hl => ⟨fun h hw => ?plain, fun h hloc hn => ?unwritten, fun h h' => ?halts, fun h => ?fenced⟩,
    fun x r b hf h => exec_descriptorComplete_waits hc hf h b⟩
  case taken =>
    obtain ⟨c', l, x, hchan, hhead, hnext, hfetched, hlen, hx, hrun⟩ := Dev.takeDsc_last (d := s.dev) (k := k) h
    obtain ⟨hseq, hop, htag, hargs, hcls, hpol⟩ := Dev.fetched_keeps (d := s.dev) (k := k) (c := c) (bs := bs)
    refine ⟨c', x, hchan, hhead, hnext, by simp [hfetched], by simp [hfetched, hlen], ?_⟩
    have same : x.seq = (s.dev.fetched k c bs).seq ∧ x.op = (s.dev.fetched k c bs).op ∧ x.tag = (s.dev.fetched k c bs).tag ∧
        x.args = (s.dev.fetched k c bs).args ∧ x.cls = (s.dev.fetched k c bs).cls ∧ x.policy = (s.dev.fetched k c bs).policy ∧
        x.wait = (s.dev.fetched k c bs).wait ∧ x.fence = (s.dev.fetched k c bs).fence := by
      rcases hx with rfl | ⟨-, rfl⟩
      · exact ⟨rfl, rfl, rfl, rfl, rfl, rfl, rfl, rfl⟩
      · exact ⟨rfl, rfl, rfl, rfl, rfl, rfl, rfl, rfl⟩
    obtain ⟨e1, e2, e3, e4, e5, e6, ewait, efence⟩ := same
    refine ⟨e1.trans hseq, e2.trans hop, e3.trans htag, e4.trans hargs, e5.trans hcls, e6.trans hpol, fun st dt href => ?_,
      fun href hst hw hf hfree => ?_⟩
    · obtain ⟨hph, hstatus, hdetail⟩ := Dev.fetched_refused href
      rcases hx with rfl | ⟨hheld, -⟩
      · exact ⟨hph, hstatus, hdetail⟩
      · rw [hph] at hheld
        cases hheld
    · refine hrun hst ?_ (ewait.symm.trans hw) (efence.symm.trans hf) hfree
      rw [Dev.fetched_taken href]
      rfl
  case nop =>
    refine congrArg (ok s) ?_
    rw [hc]
    dsimp only
    rw [hx]
    rfl
  case plain =>
    exact (exec_descriptorComplete_done hc hf hx hl b).trans (congrArg (fun t : Dev => ok s t.settle) (Dev.finishDsc_plain h hw))
  case unwritten =>
    exact (exec_descriptorComplete_done hc hf hx hl false).trans (congrArg (fun t : Dev => ok s t.settle) (Dev.finishDsc_unwritten h hloc hn))
  case halts =>
    exact (exec_descriptorComplete_done hc hf hx hl b).trans (congrArg (fun t : Dev => ok s t.settle) (Dev.finishDsc_halts h h'))
  case fenced =>
    exact (exec_descriptorComplete_done hc hf hx hl b).trans (congrArg (fun t : Dev => ok s t.settle) (Dev.finishDsc_lost h))

end Sys2Proof.Machine
end

section
/-! What a read and a write of memory leave alone, and the bytes that a write puts down. -/
namespace Sys2Proof.Machine

/-! ## An element of a list with a default -/

theorem getD_of_lt {α : Type} (l : List α) (a : α) {i : Nat} (h : i < l.length) : l.getD i a = l[i] := by
  rw [List.getD_eq_getElem?_getD, List.getElem?_eq_getElem h, Option.getD_some]

theorem getD_of_le {α : Type} (l : List α) (a : α) {i : Nat} (h : l.length ≤ i) : l.getD i a = a := by
  rw [List.getD_eq_getElem?_getD, List.getElem?_eq_none h, Option.getD_none]

/-! ## Reads -/

/-- A part of the device that no read touches: a read counts, charges, looks entries up and warms pages. -/
structure TouchBlind {β : Type} (part : Dev → β) : Prop where
  wr : ∀ (d : Dev) (k v : Nat), part (d.wr k v) = part d
  drawn : ∀ d : Dev, part d.drawn = part d
  bw : ∀ (d : Dev) (x : Bw), part { d with bw := x } = part d
  warm : ∀ (d : Dev) (k heat epoch : Nat), part (d.setPage k { d.page k with heat := heat, epoch := epoch }) = part d
  objs : ∀ (d : Dev) (x : List (Nat × Obj)), part { d with mm := { d.mm with objs := x } } = part d
  metaC : ∀ (d : Dev) (x : List (Nat × List Nat)), part { d with mm := { d.mm with metaC := x } } = part d
  pmapC : ∀ (d : Dev) (x : List (Nat × List Nat)), part { d with mm := { d.mm with pmapC := x } } = part d

namespace TouchBlind

variable {β : Type} {part : Dev → β} (hp : TouchBlind part)
include hp

theorem add (d : Dev) (k n : Nat) : part (d.add k n) = part d := hp.wr d k _

theorem chargeTier (d : Dev) (t : Tier) (w : Bool) (c n : Nat) : part (d.chargeTier t w c n) = part d := by
  unfold Dev.chargeTier
  split
  · unfold Dev.charge
    dsimp only
    rw [hp.bw, hp.add, hp.add]
  · rfl

theorem metaUse (d : Dev) (k : Nat) : part (d.metaUse k).1 = part d := by
  unfold Dev.metaUse
  split
  · rfl
  · exact hp.metaC ..

theorem readCharge (d : Dev) (p off len cls : Nat) : part (d.readCharge p off len cls) = part d := by
  unfold Dev.readCharge
  dsimp only
  split
  · rfl
  · split
    · rfl
    · rw [hp.add, hp.chargeTier, hp.add, hp.metaUse]

theorem chargePieces (d : Dev) (ps : List Piece) (cls : Nat) : part (d.chargePieces ps cls) = part d :=
  foldl_keeps part (fun _ _ => hp.readCharge ..) _ d

theorem grantPages (d : Dev) (w : Bool) (c : Nat) (ks : List Nat) : part (d.grantPages w c ks) = part d :=
  foldl_keeps part (fun _ _ => hp.bw ..) _ d

theorem touch (d : Dev) (p pg n : Nat) : part (d.touch p pg n) = part d := by
  unfold Dev.touch
  dsimp only
  split
  · exact (hp.objs ..).trans (hp.warm ..)
  · exact hp.warm ..

theorem touchPieces (d : Dev) (ps : List Piece) : part (d.touchPieces ps) = part d :=
  foldl_keeps part (fun _ _ => foldl_keeps part (fun _ _ => hp.touch ..) _ _) _ d

theorem pmapLookup (d : Dev) (ks : List Nat) : part (d.pmapLookup ks) = part d := by
  refine foldl_keeps part (fun t k => ?_) _ d
  unfold Dev.pmapOne
  dsimp only
  exact (hp.pmapC (t.drawn.add _ _) _).trans ((hp.add ..).trans (hp.drawn t))

theorem countOverruns (d : Dev) (p : Nat) (ov : Nat × Nat) : part (d.countOverruns p ov) = part d := by
  unfold Dev.countOverruns
  split
  · rfl
  · rw [hp.add, hp.add, hp.add]

end TouchBlind

/-! ## Writes -/

/-- A part of the device that no write of an object touches: what a read leaves alone, and neither bytes nor metadata. -/
structure StoreBlind {β : Type} (part : Dev → β) : Prop extends PageBlind part where
  bw : ∀ (d : Dev) (x : Bw), part { d with bw := x } = part d
  objs : ∀ (d : Dev) (x : List (Nat × Obj)), part { d with mm := { d.mm with objs := x } } = part d
  metaC : ∀ (d : Dev) (x : List (Nat × List Nat)), part { d with mm := { d.mm with metaC := x } } = part d
  pmapC : ∀ (d : Dev) (x : List (Nat × List Nat)), part { d with mm := { d.mm with pmapC := x } } = part d
  cells : ∀ (d : Dev) (x : List Host.Cell), part { d with mm := { d.mm with cells := x } } = part d
  blocks : ∀ (d : Dev) (x : List (Nat × Meta)), part { d with mm := { d.mm with blocks := x } } = part d

namespace StoreBlind

variable {β : Type} {part : Dev → β} (hp : StoreBlind part)
include hp

theorem touchBlind : TouchBlind part :=
  ⟨hp.wr, hp.drawn, hp.bw, fun _ _ _ _ => hp.setPage _ _ _ rfl, hp.objs, hp.metaC, hp.pmapC⟩

theorem setMeta (d : Dev) (k : Nat) (x : Meta) : part (d.setMeta k x) = part d := hp.blocks ..

theorem countStored (d : Dev) (m : Meta) : part (d.countStored m) = part d := by
  have saved : part (if m.sectors < 8 then (d.inc K.blocksCompressed).add K.sectorsSaved (8 - m.sectors) else d) = part d := by
    split
    · rw [hp.toPageBlind.add, hp.toPageBlind.inc]
    · rfl
  unfold Dev.countStored
  dsimp only
  split
  · rw [hp.toPageBlind.inc, saved]
  · exact saved

/-- A whole block written, but for its bytes. -/
theorem storeWhole (d : Dev) (p : Nat) (o : Obj) (blk : Nat) (bs : List Byte) : part (d.storeWhole p o blk bs) = part d := by
  unfold Dev.storeWhole
  dsimp only
  refine (hp.setPage _ _ _ (by rfl)).trans ?_
  rw [hp.toPageBlind.setValid, hp.countStored, hp.setMeta]
  exact hp.cells ..

theorem storeBlock (d : Dev) (p : Nat) (o : Obj) (blk : Nat) (m : List (Option Byte)) (cls : Nat) :
    part (d.storeBlock p o blk m cls) = part d := by
  have ht := hp.touchBlind
  unfold Dev.storeBlock
  dsimp only
  split
  · rfl
  · split
    · exact (ht.chargeTier ..).trans ((hp.cells ..).trans (ht.metaUse ..))
    · rw [ht.chargeTier, hp.storeWhole]
      split
      · rw [ht.chargeTier, ht.add, ht.metaUse]
      · exact ht.metaUse ..

theorem storeRun (d : Dev) (p off : Nat) (o : Obj) (m : List (Option Byte)) (cls : Nat) : part (d.storeRun p off o m cls) = part d :=
  foldl_keeps part (fun _ _ => hp.storeBlock ..) _ d

end StoreBlind

/-! ### The bytes of a block -/

theorem touchBlind_cells : TouchBlind (fun d => d.mm.cells) :=
  ⟨fun _ _ _ => rfl, fun _ => rfl, fun _ _ => rfl, fun _ _ _ _ => rfl, fun _ _ => rfl, fun _ _ => rfl, fun _ _ => rfl⟩

theorem pageBlind_cells : PageBlind (fun d => d.mm.cells) := ⟨fun _ _ _ => rfl, fun _ => rfl, fun _ _ _ _ => rfl⟩


/-- The mask that a run of bytes from `off` on gives a block. -/
def runMask (off : Nat) (m : List (Option Byte)) (b : Nat) : List (Option Byte) :=
  if off ≤ b * 256 then (m.drop (b * 256 - off)).take 256 ++ List.replicate (256 - (m.drop (b * 256 - off)).length) none
  else maskAt (off - b * 256) 256 (m.take (256 - (off - b * 256)))

/-- What a run of bytes from `off` on writes at an address. -/
def runByte (off : Nat) (m : List (Option Byte)) (a : Nat) : Option Byte :=
  if off ≤ a then m.getD (a - off) none else none

theorem length_runMask (off : Nat) (m : List (Option Byte)) (b : Nat) : (runMask off m b).length = 256 := by
  unfold runMask
  split
  · simp
    omega
  · simp [maskAt]

theorem getD_runMask (off : Nat) (m : List (Option Byte)) (b : Nat) {i : Nat} (h : i < 256) :
    (runMask off m b).getD i none = runByte off m (b * 256 + i) := by
  unfold runMask runByte
  generalize b * 256 = base
  split
  · rename_i hle
    have behind : off ≤ base + i := by omega
    simp only [behind, if_true, List.getD_eq_getElem?_getD]
    by_cases hin : i < (m.drop (base - off)).length
    · rw [List.getElem?_append_left (by simp at hin ⊢; omega), List.getElem?_take_of_lt h, List.getElem?_drop]
      congr 2
      omega
    · have out : m[base + i - off]? = none := List.getElem?_eq_none (by simp at hin; omega)
      rw [List.getElem?_append_right (by simp at hin ⊢; omega), out, List.getElem?_replicate]
      split <;> rfl
  · rename_i hlt
    simp only [maskAt, List.getD_eq_getElem?_getD, List.getElem?_map, List.getElem?_range h, Option.map_some, Option.getD_some]
    by_cases hoff : off - base ≤ i
    · have behind : off ≤ base + i := by omega
      have inside : i - (off - base) < 256 - (off - base) := by omega
      simp only [hoff, behind, if_true, List.getElem?_take_of_lt inside]
      congr 2
      omega
    · have before : ¬ off ≤ base + i := by omega
      simp only [hoff, before, if_false]

theorem length_merge (old : List Byte) {m : List (Option Byte)} (h : m.length = old.length) : (merge old m).length = old.length := by
  simp [merge, h]

theorem getElem_merge {old : List Byte} {m : List (Option Byte)} (h : m.length = old.length) {i : Nat} (hi : i < old.length)
    (hi' : i < (merge old m).length) : (merge old m)[i] = (m.getD i none).getD old[i] := by
  simp only [merge, h, Nat.sub_self, List.replicate_zero, List.append_nil, List.getElem_zipWith]
  rw [getD_of_lt _ _ (by omega)]

theorem Dev.storeWhole_cells (d : Dev) (p : Nat) (o : Obj) (blk : Nat) (bs : List Byte) :
    (d.storeWhole p o blk bs).mm.cells = (d.setBytes p (blk * 256) bs).mm.cells := by
  have counted : ∀ (t : Dev) (m : Meta), (t.countStored m).mm.cells = t.mm.cells := by
    intro t m
    unfold Dev.countStored
    dsimp only
    split
    · split
      · rfl
      · rfl
    · split
      · rfl
      · rfl
  refine Eq.trans (pageBlind_cells.setValid ..) ?_
  exact counted _ _

/-- Part of a block written puts the merged bytes down. -/
theorem Dev.storeBlock_cells (d : Dev) (p : Nat) (o : Obj) (blk : Nat) (m : List (Option Byte)) (cls : Nat) :
    (d.storeBlock p o blk m cls).mm.cells =
      if emptyMask m then d.mm.cells else (d.setBytes p (blk * 256) (Sys2Proof.Machine.merge (d.bytes p (blk * 256) 256) m)).mm.cells := by
  have ht := touchBlind_cells
  have put : ∀ t : Dev, t.mm.cells = d.mm.cells → ∀ bs, (t.setBytes p (blk * 256) bs).mm.cells = (d.setBytes p (blk * 256) bs).mm.cells := by
    intro t h bs
    show cellsPut _ _ t.mm.cells = cellsPut _ _ d.mm.cells
    rw [h]
  unfold Dev.storeBlock
  dsimp only
  split
  · rfl
  · split
    · exact (ht.chargeTier ..).trans (put _ (ht.metaUse ..) _)
    · refine (ht.chargeTier ..).trans ((Dev.storeWhole_cells ..).trans (put _ ?_ _))
      split
      · exact (ht.chargeTier ..).trans ((ht.add ..).trans (ht.metaUse ..))
      · exact ht.metaUse ..

theorem Dev.byte_of_cells {d t : Dev} (h : t.mm.cells = d.mm.cells) (q a : Nat) : t.byte q a = d.byte q a := by
  rw [Dev.byte, h, Dev.byte]

theorem wf_storeBlock {d : Dev} (wf : Memory.wf d.mm.cells = true) (p : Nat) (o : Obj) (blk : Nat) (m : List (Option Byte)) (cls : Nat) :
    Memory.wf (d.storeBlock p o blk m cls).mm.cells = true := by
  rw [Dev.storeBlock_cells]
  split
  · exact wf
  · exact wf_cellsPut _ _ wf

/-- Each byte of a block written under a mask. -/
theorem Dev.byte_storeBlock {d : Dev} (wf : Memory.wf d.mm.cells = true) (p : Nat) (o : Obj) {blk : Nat} (fits : blk < 2 ^ 40)
    {m : List (Option Byte)} (hm : m.length = 256) (cls : Nat) (q : Nat) {a : Nat} (ha : a < 2 ^ 48) :
    (d.storeBlock p o blk m cls).byte q a =
      if q = p ∧ a / 256 = blk then (m.getD (a % 256) none).getD (d.byte q a) else d.byte q a := by
  have cells := Dev.storeBlock_cells d p o blk m cls
  by_cases he : emptyMask m
  · rw [if_pos he] at cells
    rw [Dev.byte_of_cells cells]
    have none : m.getD (a % 256) none = none := by
      have inside : a % 256 < m.length := by omega
      rw [getD_of_lt _ _ inside]
      simpa [emptyMask] using List.all_eq_true.mp he _ (List.getElem_mem inside)
    rw [none]
    exact (ite_self _).symm
  · rw [if_neg he] at cells
    have len : (Sys2Proof.Machine.merge (d.bytes p (blk * 256) 256) m).length = 256 := by
      rw [length_merge _ (by simp [hm])]
      simp
    rw [Dev.byte_of_cells cells]
    by_cases here : q = p ∧ a / 256 = blk
    · obtain ⟨rfl, rfl⟩ := here
      have place : a = a / 256 * 256 + a % 256 := (Nat.div_add_mod' a 256).symm
      have inside : a % 256 < (Sys2Proof.Machine.merge (d.bytes q (a / 256 * 256) 256) m).length := by omega
      have put := Dev.byte_setBytes_inside wf q (a / 256 * 256) inside
      rw [← place, getElem_merge (by simp [hm]) (by simpa using Nat.mod_lt a (by decide))] at put
      rw [put, if_pos ⟨rfl, rfl⟩]
      simp only [Dev.bytes, List.getElem_map, List.getElem_range, ← place]
    · rw [if_neg here]
      refine Dev.byte_setBytes_outside d p _ _ ?_
      rw [len, cellKey, cellKey, Nat.mul_comm blk 256]
      rcases Nat.lt_trichotomy q p with before | same | after
      · omega
      · have other : a / 256 ≠ blk := fun h => here ⟨same, h⟩
        omega
      · omega

end Sys2Proof.Machine
end

section
/-! Accesses of memory that nothing holds back: what they meet, what they write, what follows them. -/
namespace Sys2Proof.Machine

/-! ## Bytes of a run -/

theorem mem_blks {x : Piece} {b : Nat} : b ∈ x.blks ↔ x.len ≠ 0 ∧ x.off / 256 ≤ b ∧ b ≤ (x.off + x.len - 1) / 256 := by
  unfold Piece.blks
  split
  · rename_i h
    have none : x.len = 0 := by simpa using h
    simp [none]
  · rename_i h
    have some : x.len ≠ 0 := by simpa using h
    have order : x.off / 256 ≤ (x.off + x.len - 1) / 256 := Nat.div_le_div_right (by omega)
    simp only [List.mem_map, List.mem_range]
    constructor
    · rintro ⟨i, hi, rfl⟩
      exact ⟨some, by omega, by omega⟩
    · rintro ⟨-, lo, hi⟩
      exact ⟨b - x.off / 256, by omega, by omega⟩

theorem mem_pages {x : Piece} {pg : Nat} : pg ∈ x.pages ↔ x.len ≠ 0 ∧ x.off / 65536 ≤ pg ∧ pg ≤ (x.off + x.len - 1) / 65536 := by
  unfold Piece.pages
  split
  · rename_i h
    have none : x.len = 0 := by simpa using h
    simp [none]
  · rename_i h
    have some : x.len ≠ 0 := by simpa using h
    have order : x.off / 65536 ≤ (x.off + x.len - 1) / 65536 := Nat.div_le_div_right (by omega)
    simp only [List.mem_map, List.mem_range]
    constructor
    · rintro ⟨i, hi, rfl⟩
      exact ⟨some, by omega, by omega⟩
    · rintro ⟨-, lo, hi⟩
      exact ⟨pg - x.off / 65536, by omega, by omega⟩

theorem mem_pieceKeys {x : Piece} {k : Nat} : k ∈ pieceKeys [x] ↔ ∃ pg ∈ x.pages, pageKey x.part pg = k := by
  simp [pieceKeys]

theorem wf_storeBlocks (p off : Nat) (o : Obj) (m : List (Option Byte)) (cls : Nat) (l : List Nat) {d : Dev}
    (wf : Memory.wf d.mm.cells = true) :
    Memory.wf (l.foldl (fun d b => d.storeBlock p o b (runMask off m b) cls) d).mm.cells = true := by
  induction l generalizing d with
  | nil => exact wf
  | cons b l ih => exact ih (wf_storeBlock wf ..)

/-- Blocks of a run written one after another: each byte takes what the run gives it. -/
theorem Dev.byte_storeBlocks (p off : Nat) (o : Obj) (m : List (Option Byte)) (cls q : Nat) {a : Nat} (ha : a < 2 ^ 48) {l : List Nat}
    (fits : ∀ b ∈ l, b < 2 ^ 40) {d : Dev} (wf : Memory.wf d.mm.cells = true) :
    (l.foldl (fun d b => d.storeBlock p o b (runMask off m b) cls) d).byte q a =
      if q = p ∧ a / 256 ∈ l then (runByte off m a).getD (d.byte q a) else d.byte q a := by
  induction l generalizing d with
  | nil => simp
  | cons b l ih =>
    have mask : (runMask off m (a / 256)).getD (a % 256) none = runByte off m a := by
      rw [getD_runMask _ _ _ (Nat.mod_lt a (by decide)), Nat.div_add_mod']
    rw [List.foldl_cons, ih (fun x hx => fits x (List.mem_cons_of_mem b hx)) (wf_storeBlock wf ..),
      Dev.byte_storeBlock wf p o (fits b List.mem_cons_self) (length_runMask ..) cls q ha]
    by_cases hq : q = p
    · by_cases hb : a / 256 = b
      · subst hb
        simp only [hq, true_and, if_true, List.mem_cons, true_or, mask]
        cases runByte off m a with
        | none => simp
        | some v => simp
      · simp only [hq, hb, true_and, if_false, List.mem_cons, false_or]
    · simp only [hq, false_and, if_false]

/-- The bytes after a run is written. -/
theorem Dev.byte_storeRun {d : Dev} (wf : Memory.wf d.mm.cells = true) (p off : Nat) (o : Obj) {m : List (Option Byte)}
    (fits : off + m.length ≤ 2 ^ 48) (cls q : Nat) {a : Nat} (ha : a < 2 ^ 48) :
    (d.storeRun p off o m cls).byte q a = if q = p then (runByte off m a).getD (d.byte q a) else d.byte q a := by
  refine (Dev.byte_storeBlocks p off o m cls q ha (fun b hb => ?_) wf).trans ?_
  · obtain ⟨hlen, -, hb⟩ := mem_blks.mp hb
    dsimp only at hlen hb
    have top : (off + m.length - 1) / 256 < 2 ^ 40 := by omega
    omega
  · by_cases hq : q = p
    · simp only [hq, true_and, if_true]
      split
      · rfl
      · rename_i hout
        have none : runByte off m a = none := by
          unfold runByte
          split
          · rename_i hle
            refine getD_of_le _ _ (Nat.le_of_not_lt (fun hin => hout (mem_blks.mpr ?_)))
            exact ⟨by dsimp only; omega, Nat.div_le_div_right hle, Nat.div_le_div_right (by dsimp only; omega)⟩
          · rfl
        rw [none, Option.getD_none]
    · simp only [hq, false_and, if_false]

/-! ## A target that is no window -/

section
variable {t : Tgt} (h : t.obj.window = false)
include h

theorem Tgt.plain_kind : t.obj.kind ≠ 4 ∧ t.obj.kind ≠ 5 := by simpa [Obj.window] using h

theorem Dev.readPieces_plain (d : Dev) (len : Nat) : d.readPieces t len = [t.piece len] := by
  obtain ⟨h4, h5⟩ := Tgt.plain_kind h
  unfold Dev.readPieces
  split
  · contradiction
  · contradiction
  · rfl

theorem Dev.writePieces_plain (d : Dev) (len : Nat) : d.writePieces t len = [t.piece len] :=
  (if_neg (by simp [Tgt.plain_kind h])).trans (Dev.readPieces_plain h d len)

theorem Dev.viewRead_plain (d : Dev) (len : Nat) : d.viewRead t len = d.bytes t.part t.off len := by
  obtain ⟨h4, h5⟩ := Tgt.plain_kind h
  unfold Dev.viewRead
  split
  · contradiction
  · contradiction
  · rfl

theorem Dev.viewWrite_plain (d : Dev) (m : List (Option Byte)) (cls : Nat) : d.viewWrite t m cls = d.storeRun t.part t.off t.obj m cls := by
  have none : (t.obj.kind == 4) = false := by simp [Tgt.plain_kind h]
  simp only [Dev.viewWrite, none, Bool.false_eq_true, if_false]

theorem Dev.overruns_plain (d : Dev) (len : Nat) : d.overruns t len = (0, 0) := if_pos (by simp [Tgt.plain_kind h])

theorem Dev.sealMet_plain (d : Dev) (hs : t.obj.sealStarted = false) : d.sealMet t = false := by simp [Dev.sealMet, h, hs]

theorem Dev.readPoison_plain (d : Dev) (len : Nat) : d.readPoison t len = d.piecePoison (t.piece len) := by
  simp [Dev.readPoison, Dev.readPieces_plain h]

/-- A write that meets no seal and no poison is not refused. -/
theorem Dev.writePoison_plain {d : Dev} {m : List (Option Byte)} (hp : d.piecePoison (t.piece m.length) = false) : d.writePoison t m = false := by
  rw [Dev.writePoison, Dev.writePieces_plain h, List.any_cons, List.any_nil, Bool.or_false]
  refine List.any_eq_false.mpr (fun b hb => ?_)
  have clean := List.any_eq_false.mp hp b hb
  simp only [Bool.and_eq_true, not_and]
  intro poisoned
  exact absurd poisoned clean

theorem Dev.writeRefusal_plain {d : Dev} {m : List (Option Byte)} (hs : t.obj.sealStarted = false) (h6 : t.obj.kind ≠ 6)
    (hb : d.baseSealed t.part t.num = false) (hp : d.piecePoison (t.piece m.length) = false) : d.writeRefusal t m = none := by
  have kind := Tgt.plain_kind h
  have free : d.sealedObj t.part t.num t.obj = false := by simp [Dev.sealedObj, h6, hb]
  refine (if_neg ?_).trans ((if_neg ?_).trans (if_neg ?_))
  · simp [kind, Dev.sealMet_plain h d hs, Dev.backingSealed]
  · simp [free]
  · simp [Dev.writePoison_plain h hp]

end

/-! ## Nothing in the way -/

theorem Dev.arbHeld_unlocked {d : Dev} (h : d.bw.locks = []) (ps : List Piece) (own : Lock → Bool) : d.arbHeld ps own = false := by
  refine List.any_eq_false.mpr (fun a _ => ?_)
  simp [Dev.lockedBy, h]

theorem Dev.thHome_inTh {d : Dev} {k : Nat} (h : d.inTh k = false) : d.thHome k = none := by
  rw [Dev.thHome]
  rw [Dev.inTh] at h
  cases hh : (d.page k).home with
  | none => rfl
  | some x =>
    rw [hh] at h
    exact if_neg (by simpa using h)

theorem Dev.mirrorWay_single {d : Dev} {p : Nat} (h : d.pairRole p = 0) (o : Obj) (ks : List Nat) : d.mirrorWay p o ks = .none :=
  if_pos (by simp [h])

theorem Dev.readyLines_none {d : Dev} {ls : List Nat} (h : ∀ k ∈ ls, d.dirGet k = none) (w : Bool) : d.readyLines w ls = none := by
  refine if_pos ?_
  rw [List.isEmpty_iff, List.filter_eq_nil_iff]
  intro k hk
  simp [h k hk]

theorem Dev.orphaned_none {d : Dev} {k : Nat} (h : d.dirGet k = none) : d.orphaned k = false := by rw [Dev.orphaned, h]

/-- No line of a target whose pages lie elsewhere is stored in lent memory. -/
theorem Dev.thLines_noTh {d : Dev} {t : Tgt} {len : Nat} (h : ∀ k ∈ pieceKeys [t.piece len], d.inTh k = false) :
    d.thLines [t.piece len] = [] := by
  rw [Dev.thLines, List.flatMap_cons, List.flatMap_nil, List.append_nil]
  split
  · rfl
  · rename_i hl
    have some : len ≠ 0 := by simpa [Tgt.piece] using hl
    refine List.filter_eq_nil_iff.mpr (fun l hm => ?_)
    obtain ⟨i, hi, rfl⟩ := List.mem_map.mp hm
    have hi := List.mem_range.mp hi
    dsimp only [Tgt.piece] at hi ⊢
    have page : lineKey t.part (t.off / 64 + i) / 1024 = pageKey t.part ((t.off / 64 + i) / 1024) := by
      rw [lineKey, pageKey]
      omega
    have here : pageKey t.part ((t.off / 64 + i) / 1024) ∈ pieceKeys [t.piece len] :=
      mem_pieceKeys.mpr ⟨_, mem_pages.mpr ⟨some, by dsimp only [Tgt.piece]; omega, by dsimp only [Tgt.piece]; omega⟩, rfl⟩
    rw [page, Dev.thHome_inTh (h _ here)]
    simp

section
variable {d : Dev} {t : Tgt} {len cls : Nat} {w : Bool} (h : d.unheld t len cls w)
include h

theorem Dev.unheld_plain : t.obj.window = false := h.1

theorem Dev.unheld_free : (d.handHeld t.part t.obj || [t.piece len].any (fun x => x.blks.any (fun b => d.blkHeld x.part b || d.repairing x.part b))) = false := by
  obtain ⟨-, -, hand, blks, -⟩ := h
  rw [hand, Bool.false_or, List.any_cons, List.any_nil, Bool.or_false]
  refine List.any_eq_false.mpr (fun b hb => ?_)
  obtain ⟨held, repair⟩ := blks b hb
  simpa using ⟨held, repair⟩

theorem Dev.unheld_repairs : [t.piece len].any (fun x => x.blks.any (fun b => d.repairing x.part b)) = false := by
  obtain ⟨-, -, -, blks, -⟩ := h
  rw [List.any_cons, List.any_nil, Bool.or_false]
  exact List.any_eq_false.mpr (fun b hb => Bool.eq_false_iff.mp (blks b hb).2)

theorem Dev.unheld_pages {f : Nat → Bool} (hf : ∀ k, (d.page k).home.isSome = true → d.inT3 k = false → d.inTh k = false → d.moving k = false → f k = false) :
    (pieceKeys [t.piece len]).any f = false := by
  obtain ⟨-, -, -, -, pages, -⟩ := h
  refine List.any_eq_false.mpr (fun k hk => ?_)
  obtain ⟨home, t3, th, moving⟩ := pages k hk
  simpa using hf k home t3 th moving

/-- The pages of a target's blocks and lines are among those of its piece. -/
theorem Dev.unheld_inTh {a : Nat} (lo : t.off / 65536 ≤ a) (hi : a ≤ (t.off + len - 1) / 65536) (hl : len ≠ 0) :
    d.inTh (pageKey t.part a) = false := by
  obtain ⟨-, -, -, -, pages, -⟩ := h
  obtain ⟨-, -, th, -⟩ := pages (pageKey t.part a) (mem_pieceKeys.mpr ⟨a, mem_pages.mpr ⟨hl, lo, hi⟩, rfl⟩)
  exact th

theorem Dev.unheld_noTh : ∀ k ∈ pieceKeys [t.piece len], d.inTh k = false := by
  obtain ⟨-, -, -, -, pages, -⟩ := h
  exact fun k hk => (pages k hk).2.2.1

theorem Dev.framesFor_unheld (ho : ∃ o, d.objAt t.part t.off = some o) : Dev.framesFor [t.piece len] d = some d := by
  obtain ⟨-, -, -, -, pages, -⟩ := h
  obtain ⟨⟨n, o⟩, ho⟩ := ho
  have framed : ∀ pgs : List Nat, (∀ pg ∈ pgs, (d.page (pageKey t.part pg)).home.isSome = true) → Dev.ensureFrames t.part o pgs d = some d := by
    intro pgs
    induction pgs with
    | nil => exact fun _ => rfl
    | cons pg pgs ih =>
      intro hp
      rw [Dev.ensureFrames, Dev.ensureFrame, if_pos (hp pg List.mem_cons_self), Option.bind_some]
      exact ih (fun x hx => hp x (List.mem_cons_of_mem pg hx))
  have hp := framed (t.piece len).pages (fun pg hpg => (pages _ (mem_pieceKeys.mpr ⟨pg, hpg, rfl⟩)).1)
  simp only [Dev.framesFor, Tgt.piece] at hp ⊢
  simp only [ho, hp, Option.bind_some]

end

/-! ## A write carried out -/

/-- A run written to a target, with what its pages note of it. -/
def Dev.putRun (d : Dev) (t : Tgt) (m : List (Option Byte)) (cls : Nat) : Dev :=
  let ks := pieceKeys [t.piece m.length]
  (((d.storeRun t.part t.off t.obj m cls).grantPages true cls ks).touchPieces [t.piece m.length]).pmapLookup ks

theorem StoreBlind.putRun {β : Type} {part : Dev → β} (hp : StoreBlind part) (d : Dev) (t : Tgt) (m : List (Option Byte)) (cls : Nat) :
    part (d.putRun t m cls) = part d := by
  rw [Dev.putRun, hp.touchBlind.pmapLookup, hp.touchBlind.touchPieces, hp.touchBlind.grantPages, hp.storeRun]

theorem Dev.putRun_cells (d : Dev) (t : Tgt) (m : List (Option Byte)) (cls : Nat) :
    (d.putRun t m cls).mm.cells = (d.storeRun t.part t.off t.obj m cls).mm.cells :=
  (touchBlind_cells.pmapLookup ..).trans ((touchBlind_cells.touchPieces ..).trans (touchBlind_cells.grantPages ..))

/-- The bytes after a run is written to a target. -/
theorem Dev.byte_putRun {d : Dev} (wf : Memory.wf d.mm.cells = true) {t : Tgt} {m : List (Option Byte)} (fits : t.off + m.length ≤ 2 ^ 48)
    (cls q : Nat) {a : Nat} (ha : a < 2 ^ 48) :
    (d.putRun t m cls).byte q a = if q = t.part then (runByte t.off m a).getD (d.byte q a) else d.byte q a := by
  rw [Dev.byte_of_cells (d.putRun_cells t m cls), Dev.byte_storeRun wf _ _ _ fits _ _ ha]

theorem storeBlind_home (k : Nat) : StoreBlind (fun d => (d.page k).home) :=
  ⟨pageBlind_home k, fun _ _ => rfl, fun _ _ => rfl, fun _ _ => rfl, fun _ _ => rfl, fun _ _ => rfl, fun _ _ => rfl⟩

/-- What a device's events wait for. -/
def Dev.calm (d : Dev) : List Held × List Clear × List (Nat × Mig) × Coh × Chs := (d.mm.held, d.mm.clearing, d.mm.migs, d.coh, d.chs)

theorem storeBlind_calm : StoreBlind Dev.calm :=
  ⟨⟨fun _ _ _ => rfl, fun _ => rfl, fun _ _ _ _ => rfl⟩, fun _ _ => rfl, fun _ _ => rfl, fun _ _ => rfl, fun _ _ => rfl, fun _ _ => rfl,
    fun _ _ => rfl⟩

theorem storeBlind_out : StoreBlind Dev.out :=
  ⟨⟨fun _ _ _ => rfl, fun _ => rfl, fun _ _ _ _ => rfl⟩, fun _ _ => rfl, fun _ _ => rfl, fun _ _ => rfl, fun _ _ => rfl, fun _ _ => rfl,
    fun _ _ => rfl⟩

theorem storeBlind_chs : StoreBlind Dev.chs :=
  ⟨⟨fun _ _ _ => rfl, fun _ => rfl, fun _ _ _ _ => rfl⟩, fun _ _ => rfl, fun _ _ => rfl, fun _ _ => rfl, fun _ _ => rfl, fun _ _ => rfl,
    fun _ _ => rfl⟩

theorem storeBlind_coh : StoreBlind Dev.coh :=
  ⟨⟨fun _ _ _ => rfl, fun _ => rfl, fun _ _ _ _ => rfl⟩, fun _ _ => rfl, fun _ _ => rfl, fun _ _ => rfl, fun _ _ => rfl, fun _ _ => rfl,
    fun _ _ => rfl⟩

/-- A device that is quiet stays so while nothing that its events wait for changes. -/
theorem Dev.quiet_of_calm {d t : Dev} (h : d.quiet) (hm : d.mm.migs = []) (hc : t.calm = d.calm) : t.quiet := by
  simp only [Dev.calm, Prod.mk.injEq] at hc
  obtain ⟨held, clearing, migs, coh, chs⟩ := hc
  obtain ⟨h1, h2, h3, -, h5, h6⟩ := h
  refine ⟨held.trans h1, clearing.trans h2, by rw [coh, h3], ?_, by rw [chs, h5], by rw [chs]; exact h6⟩
  simp [migs, hm]

/-- Nothing goes to a lender of a write whose pages lie elsewhere. -/
theorem Dev.thPut_plain {d d0 u : Dev} {t : Tgt} {len cls : Nat} {w : Bool} (h : d.unheld t len cls w)
    (hu : ∀ k, (u.page k).home = (d.page k).home) (c : Nat) (m : List (Option Byte)) : Dev.thPut d0 u c t m [t.piece len] = u := by
  refine foldl_fixed _ _ _ (fun x hx => foldl_fixed _ _ _ (fun b hb => foldl_fixed _ _ _ (fun j _ => ?_)))
  obtain rfl := List.mem_singleton.mp hx
  obtain ⟨hl, lo, hi⟩ := mem_blks.mp hb
  dsimp only [Tgt.piece] at hl lo hi ⊢
  have there : u.inTh (pageKey t.part (b / 256)) = false := by
    rw [Dev.inTh, hu]
    exact Dev.unheld_inTh h (by omega) (by omega) hl
  rw [Dev.thHome_inTh there]

end Sys2Proof.Machine
end

section
/-! O29: channel reads and writes of an object that nothing holds back. -/
namespace Sys2Proof.Machine

/-- What a read of a target leaves: charges, pages touched, lookups. -/
def Dev.getRun (d : Dev) (t : Tgt) (len cls : Nat) : Dev :=
  let ks := pieceKeys [t.piece len]
  (((d.chargePieces [t.piece len] cls).grantPages false cls ks).touchPieces [t.piece len]).pmapLookup ks

theorem TouchBlind.getRun {β : Type} {part : Dev → β} (hp : TouchBlind part) (d : Dev) (t : Tgt) (len cls : Nat) :
    part (d.getRun t len cls) = part d := by
  rw [Dev.getRun, hp.pmapLookup, hp.touchPieces, hp.grantPages, hp.chargePieces]

section
variable {d : Dev} {t : Tgt} {len cls : Nat}

theorem Dev.tgtRead_plain (h : d.unheld t len cls false) (ht : t.obj.tracked = false) (hd : ∀ k ∈ tgtLines t len, d.dirGet k = none)
    (hp : ∀ k ∈ pieceKeys [t.piece len], (d.page k).st ≠ .promoting) (who : Nat) (own : Lock → Bool) :
    d.tgtRead t len cls who own =
      if d.piecePoison (t.piece len) then .fail d 0x20 0x000B else .done (d.getRun t len cls) (d.bytes t.part t.off len) 0 := by
  obtain ⟨window, sealed, -, -, -, locks, cap⟩ := id h
  have free := Dev.unheld_free h
  have cold : (pieceKeys [t.piece len]).any d.t3Cold = false := Dev.unheld_pages h (fun k _ t3 _ _ => by simp [Dev.t3Cold, t3])
  have still : (pieceKeys [t.piece len]).any (fun k => (d.page k).st == .promoting) = false :=
    List.any_eq_false.mpr (fun k hk => by simp [hp k hk])
  have orphans : (tgtLines t len).any d.orphaned = false := List.any_eq_false.mpr (fun k hk => by simp [Dev.orphaned_none (hd k hk)])
  have missing : d.thMissing who [t.piece len] = [] := by rw [Dev.thMissing, Dev.thLines_noTh (Dev.unheld_noTh h), List.filter_nil]
  have count : ∀ u : Dev, u.countOverruns t.part (0, 0) = u := fun u => rfl
  rw [Bool.or_eq_false_iff] at free
  simp only [Dev.tgtRead, Dev.readPieces_plain window, Dev.sealMet_plain window d sealed, free.1, free.2, Bool.or_self, Bool.false_eq_true,
    if_false, cold, still, Dev.arbHeld_unlocked locks, cap, Bool.and_false, ht, orphans, missing, Dev.thFetch, List.foldl_nil,
    List.isEmpty_nil, Bool.not_true, Dev.readPoison_plain window, Dev.overruns_plain window, count, Dev.viewRead_plain window]
  rfl

theorem Dev.tgtWrite_plain {m : List (Option Byte)} (h : d.unheld t m.length cls true) (ht : t.obj.tracked = false)
    (hd : ∀ k ∈ tgtLines t m.length, d.dirGet k = none) (h6 : t.obj.kind ≠ 6) (hb : d.baseSealed t.part t.num = false)
    (hw : d.windowLines (t.piece m.length) = []) (hr : d.pairRole t.part = 0) (hp : d.piecePoison (t.piece m.length) = false)
    (ho : ∃ o, d.objAt t.part t.off = some o) (who : Option (Nat × Nat)) (own : Lock → Bool) :
    d.tgtWrite t m cls who own = .done (d.putRun t m cls) [] 0 := by
  obtain ⟨window, sealed, -, -, -, locks, cap⟩ := id h
  have free := Dev.unheld_free h
  rw [Bool.or_eq_false_iff] at free
  have above : (pieceKeys [t.piece m.length]).any d.inT3 = false := Dev.unheld_pages h (fun k _ t3 _ _ => t3)
  have unlocked : (pieceKeys [t.piece m.length]).any d.pageLocked = false :=
    Dev.unheld_pages h (fun k _ _ _ moving => by simp [Dev.pageLocked, moving])
  have whole : (tgtLines t m.length).any (fun k =>
      d.orphaned k && !(t.off ≤ k % 2 ^ 42 * 64 && k % 2 ^ 42 * 64 + 64 ≤ t.off + m.length && fullMask m)) = false :=
    List.any_eq_false.mpr (fun k hk => by simp [Dev.orphaned_none (hd k hk)])
  have way := Dev.mirrorWay_single hr t.obj (pieceKeys [t.piece m.length])
  have ready : d.readyLines true [] = none := Dev.readyLines_none (by simp) true
  have home : ∀ k, ((d.putRun t m cls).page k).home = (d.page k).home := fun k => (storeBlind_home k).putRun ..
  have lines : (tgtLines t m.length).foldl (fun u k => if u.orphaned k then (u.dirDel k).dirLog k else u) (d.putRun t m cls) = d.putRun t m cls := by
    refine foldl_fixed _ _ _ (fun k hk => if_neg ?_)
    have entry : (d.putRun t m cls).dirGet k = none := by
      rw [Dev.dirGet, storeBlind_coh.putRun]
      exact hd k hk
    simp [Dev.orphaned_none entry]
  have store : d.tgtStore t m cls who = .done (d.putRun t m cls) [] 0 := by
    have put := Dev.thPut_plain (d0 := d) h home cls m
    simp only [Dev.tgtStore, Dev.writePieces_plain window, Dev.framesFor_unheld h ho, way, Dev.viewWrite_plain window, Dev.mirrorNote]
    simp only [Dev.putRun] at put lines ⊢
    rw [put, lines]
    rfl
  simp only [Dev.tgtWrite, Dev.writePieces_plain window, free.2, way, Dev.writeRefusal_plain window sealed h6 hb hp, above, unlocked,
    Dev.arbHeld_unlocked locks, cap, whole, ht, Bool.false_eq_true, if_false, Bool.and_false, List.flatMap_cons,
    List.flatMap_nil, hw, List.append_nil, List.filter_nil, ready, Dev.writePoison_plain window hp, store]
  rfl

end

theorem touchBlind_chs : TouchBlind Dev.chs := storeBlind_chs.touchBlind
theorem touchBlind_out : TouchBlind Dev.out := storeBlind_out.touchBlind

/-- The target of an offset in an object of the partition's own. -/
theorem Dev.resolve_own {d : Dev} {p : Nat} {t : Tgt} (ho : d.objAt p t.off = some (t.num, t.obj)) (hp : t.part = p)
    (ha : t.obj.aliasOf = none) : d.resolve p t.off = some t := by
  subst hp
  simp only [Dev.resolve, ho, ha]

section
variable {t : Tgt} {m : List (Option Byte)} {bs : List Byte}

theorem runByte_outside (h : a < t.off ∨ t.off + m.length ≤ a) : runByte t.off m a = none := by
  unfold runByte
  split
  · exact getD_of_le _ _ (by omega)
  · rfl

theorem runByte_bytes {off i : Nat} (h : i < bs.length) : runByte off (bs.map some) (off + i) = some bs[i] := by
  rw [runByte, if_pos (Nat.le_add_right ..), Nat.add_sub_cancel_left, getD_of_lt _ _ (by simpa using h), List.getElem_map]

end

/-- The bytes of a target after whole bytes are written there, and every other byte. -/
theorem Dev.putRun_bytes {d : Dev} (wf : Memory.wf d.mm.cells = true) {t : Tgt} {bs : List Byte} (fits : t.off + bs.length ≤ 2 ^ 48)
    (cls : Nat) : (d.putRun t (bs.map some) cls).bytes t.part t.off bs.length = bs ∧
      ∀ r a : Nat, a < 2 ^ 48 → ¬ (r = t.part ∧ t.off ≤ a ∧ a < t.off + bs.length) →
        (d.putRun t (bs.map some) cls).byte r a = d.byte r a := by
  have fits' : t.off + (bs.map some).length ≤ 2 ^ 48 := by simpa using fits
  constructor
  · apply List.ext_getElem (by simp)
    intro i _ hi
    simp only [Dev.bytes, List.getElem_map, List.getElem_range]
    rw [Dev.byte_putRun wf fits' cls t.part (by omega), if_pos rfl, runByte_bytes hi, Option.getD_some]
  · intro r a ha out
    rw [Dev.byte_putRun wf fits' cls r ha]
    split
    · rename_i hr
      rw [runByte_outside (by simp; omega), Option.getD_none]
    · rfl

/-- Settles O29: an access that nothing holds back passes every check in turn. -/
theorem channelAccesses : Obligations.ChannelAccesses := by
  unfold Obligations.ChannelAccesses
  intro d p off cls me t bs who
  refine ⟨fun h => ⟨?noRead, ?noWrite⟩, fun ho hp hoff ha hh hl ht hd hne => ⟨fun hu hpr => ⟨fun hpoi => ?poisoned, fun hpoi => ?read⟩,
    fun hu h6 hb hw hr hpoi fits wf => ?write⟩⟩
  case noRead =>
    simp only [Dev.chRead, Dev.resolve, h]
  case noWrite =>
    simp only [Dev.chWrite, h]
  all_goals
    subst hoff hp
    have target := Dev.resolve_own ho rfl ha
  case poisoned =>
    have read := Dev.tgtRead_plain hu ht hd hpr me noLock
    rw [if_pos hpoi] at read
    simp only [Dev.chRead, target, hh, hl, Bool.not_true, Bool.false_eq_true, if_false, read]
  case read =>
    have read := Dev.tgtRead_plain hu ht hd hpr me noLock
    rw [if_neg (by simp [hpoi])] at read
    refine ⟨d.getRun t bs.length cls, ?_, touchBlind_cells.getRun .., touchBlind_out.getRun .., touchBlind_chs.getRun ..⟩
    simp only [Dev.chRead, target, hh, hl, Bool.not_true, Bool.false_eq_true, if_false, read]
  case write =>
    have len : (bs.map some).length = bs.length := List.length_map ..
    have write := Dev.tgtWrite_plain (m := bs.map some) (cls := cls) (by rwa [len]) ht (by rwa [len]) h6 hb (by rwa [len]) hr (by rwa [len])
      ⟨_, ho⟩ who noLock
    obtain ⟨bytes, others⟩ := Dev.putRun_bytes wf fits cls
    refine ⟨d.putRun t (bs.map some) cls, ?_, bytes, others, storeBlind_out.putRun .., storeBlind_chs.putRun ..⟩
    simp only [Dev.chWrite, ho, target, len, hh, hl, ha, Bool.not_true, Option.isSome_none, Bool.false_and, Bool.false_eq_true, if_false, write]

end Sys2Proof.Machine
end

section
/-! O24: accesses through BAR2, and what serves a request of a host. -/
namespace Sys2Proof.Machine

/-! ## Reads served -/

theorem Dev.medRead_good (d : Dev) (p blk : Nat) : d.medRead p blk .good = d := by
  have good : (if d.medium (pageKey p (blk / 256)) == .t2 then d.dramMed .good else .good) = Med.good := by
    split <;> rfl
  unfold Dev.medRead
  dsimp only
  split
  · rfl
  · split
    · rfl
    · rw [good]

theorem touchBlind_coh : TouchBlind Dev.coh := storeBlind_coh.touchBlind
theorem touchBlind_calm : TouchBlind Dev.calm := storeBlind_calm.touchBlind

theorem touchBlind_poison (p b : Nat) : TouchBlind (fun d => d.blkPoison p b) := by
  refine ⟨fun _ _ _ => rfl, fun _ => rfl, fun _ _ => rfl, fun d k heat epoch => ?_, fun _ _ => rfl, fun _ _ => rfl, fun _ _ => rfl⟩
  have same : ∀ j, ∃ h e, (d.setPage k { d.page k with heat := heat, epoch := epoch }).page j = { d.page j with heat := h, epoch := e } := by
    intro j
    by_cases hj : j = k
    · subst hj
      exact ⟨heat, epoch, Dev.page_setPage_self ..⟩
    · exact ⟨_, _, Dev.page_setPage_ne d _ hj⟩
  obtain ⟨h, e, hpage⟩ := same (pageKey p (b / 256))
  dsimp only [Dev.blkPoison, Dev.blkValid]
  rw [hpage]
  rfl

theorem Dev.getRun_poison (d : Dev) (t : Tgt) (len cls : Nat) (x : Piece) : (d.getRun t len cls).piecePoison x = d.piecePoison x := by
  simp only [Dev.piecePoison, (touchBlind_poison _ _).getRun]

theorem Dev.getRun_bytes (d : Dev) (t : Tgt) (len cls p off n : Nat) : (d.getRun t len cls).bytes p off n = d.bytes p off n := by
  simp only [Dev.bytes, Dev.byte_of_cells (touchBlind_cells.getRun d t len cls)]

/-- A read of a target served: its bytes, with POISON for a poisoned block. -/
theorem Dev.readNow_plain {d : Dev} {r : HostReq} {t : Tgt} (h : t.obj.window = false) (ho : ∀ k ∈ tgtLines t r.len, d.orphaned k = false)
    (nocache : Bool) : d.readNow r t nocache = (d.getRun t r.len r.cls).answerRead r (if d.piecePoison (t.piece r.len) then 0x20 else 0)
      (d.bytes t.part t.off r.len) nocache := by
  have count : ∀ u : Dev, u.countOverruns t.part (0, 0) = u := fun u => rfl
  have orphans : (tgtLines t r.len).any (fun k => (d.getRun t r.len r.cls).dirGet k |>.any (fun e => e.st == .orph)) = false := by
    refine List.any_eq_false.mpr (fun k hk => ?_)
    have entry := ho k hk
    rw [Dev.orphaned] at entry
    rw [Dev.dirGet, touchBlind_coh.getRun]
    change ¬ (d.dirGet k).any _ = true
    cases hk : d.dirGet k with
    | none => simp
    | some e => simpa [hk] using entry
  have poison := d.getRun_poison t r.len r.cls (t.piece r.len)
  have bytes := d.getRun_bytes t r.len r.cls t.part t.off r.len
  simp only [Dev.getRun] at orphans poison bytes
  simp only [Dev.readNow, Dev.readPieces_plain h, Dev.overruns_plain h, count, orphans, Bool.false_eq_true, if_false,
    Dev.readPoison_plain h, poison, Dev.viewRead_plain h, bytes, Dev.getRun]

/-- The lines of a target as a read readies them, or gives them to the host. -/
def Dev.readStep (d : Dev) (r : HostReq) (t : Tgt) (slot : Option Nat) : Dev × Option HoldWhy :=
  let lines := tgtLines t r.len
  let orph := lines.any d.orphaned
  if !t.obj.tracked then (d, none)
  else if (r.kind == .rdShared || r.kind == .rdOwn) && t.obj.tracked && d.cachingRights r then
    match slot, lines with
    | some h, k :: _ => if orph then (d, none) else d.cacheLine k h (r.kind == .rdOwn && t.obj.kind != 5)
    | _, _ => (d, none)
  else match d.readyLines false (lines.filter (fun k => !d.orphaned k)) with
    | some d1 => (d1, some .line)
    | none => (d, none)

/-- A read whose lines are ready, on the device `u` that readied them: its bytes in lent memory, its medium, its answer. -/
def Dev.readTail (d u : Dev) (r : HostReq) (t : Tgt) (nocache : Bool) : Verdict :=
  let ps := [t.piece r.len]
  let dt := u.thFetch 0 r.cls (d.thMissing 0 ps)
  if !(dt.thMissing 0 ps).isEmpty then .hold .th dt
  else
    let d1 := (dt.thTake 0 (dt.thLines ps)).medRead t.part (t.off / 256) r.med
    if ps.any (fun x => x.blks.any (fun b => d1.repairing x.part b)) then .hold .repair d1 else .done (d1.readNow r t nocache)

/-- A read that nothing holds back is served once its lines are. -/
theorem Dev.serveRead_plain {d u : Dev} {r : HostReq} {t : Tgt} {slot : Option Nat} (h : d.unheld t r.len r.cls false) (hm : r.med = .good)
    (hstep : d.readStep r t slot = (u, none)) (hmm : u.mm = d.mm) (hrep : u.pr.repairs = d.pr.repairs) :
    d.serveRead r t slot = .done (u.readNow r t ((r.kind == .rdShared || r.kind == .rdOwn) && t.obj.tracked &&
      (!((r.kind == .rdShared || r.kind == .rdOwn) && t.obj.tracked && d.cachingRights r) || (tgtLines t r.len).any d.orphaned))) := by
  obtain ⟨window, sealed, -, -, -, locks, cap⟩ := id h
  have free := Dev.unheld_free h
  have cold : (pieceKeys [t.piece r.len]).any d.t3Cold = false := Dev.unheld_pages h (fun k _ t3 _ _ => by simp [Dev.t3Cold, t3])
  have unlocked : ∀ f : Nat → Bool, (pieceKeys [t.piece r.len]).any (fun k => d.pageLocked k && f k) = false :=
    fun f => Dev.unheld_pages h (fun k _ _ _ moving => by simp [Dev.pageLocked, moving])
  have noTh : ∀ k ∈ pieceKeys [t.piece r.len], u.inTh k = false := by
    intro k hk
    rw [Dev.inTh, Dev.page, hmm]
    exact Dev.unheld_noTh h k hk
  have missingD : d.thMissing 0 [t.piece r.len] = [] := by rw [Dev.thMissing, Dev.thLines_noTh (Dev.unheld_noTh h), List.filter_nil]
  have missing : u.thMissing 0 [t.piece r.len] = [] := by rw [Dev.thMissing, Dev.thLines_noTh noTh, List.filter_nil]
  have take : u.thTake 0 [] = u := by
    have kept : u.mm.thGot.filter (fun e => !(e.1 == 0 && ([] : List Nat).contains e.2)) = u.mm.thGot :=
      List.filter_eq_self.mpr (fun e _ => by simp)
    rw [Dev.thTake, kept]
  have repair : [t.piece r.len].any (fun x => x.blks.any (fun b => u.repairing x.part b)) = false := by
    simp only [Dev.repairing, hrep]
    exact Dev.unheld_repairs h
  unfold Dev.serveRead
  rw [Dev.readPieces_plain window]
  refine (if_neg (by simp only [free, Bool.false_eq_true, not_false_eq_true])).trans
    ((if_neg (by simp only [Dev.sealMet_plain window d sealed, Bool.false_eq_true, not_false_eq_true])).trans
    ((if_neg (by simp only [cold, Bool.false_eq_true, not_false_eq_true])).trans
    ((if_neg (by simp only [unlocked, Bool.false_eq_true, not_false_eq_true])).trans
    ((if_neg (by simp only [Dev.arbHeld_unlocked locks, Bool.false_eq_true, not_false_eq_true])).trans
    ((if_neg (by simp only [cap, Bool.false_eq_true, not_false_eq_true])).trans ?_)))))
  show (match (d.readStep r t slot).2 with
    | some why => Verdict.hold why (d.readStep r t slot).1
    | none => d.readTail (d.readStep r t slot).1 r t _) = _
  rw [hstep]
  simp only [Dev.readTail, missingD, Dev.thFetch, List.foldl_nil, missing, List.isEmpty_nil, Bool.not_true,
    Dev.thLines_noTh noTh, take, hm, Dev.medRead_good, repair, Bool.false_eq_true, if_false]

/-! ## Writes served -/

/-- A write that nothing holds back, without a lock, of an object that no host caches. -/
theorem Dev.serveWrite_plain {d : Dev} {r : HostReq} {p : Nat} {t : Tgt} (h : d.unheld t r.bytes.length r.cls true) (hm : r.med = .good)
    (hl : d.lockCounts r = false) (hq : r.q.poisoned = false) (hk : r.kind.own = false) (ht : t.obj.tracked = false)
    (hd : ∀ k ∈ tgtLines t r.bytes.length, d.dirGet k = none) (h6 : t.obj.kind ≠ 6) (hb : d.baseSealed t.part t.num = false)
    (hw : d.windowLines (t.piece r.bytes.length) = []) (hr : d.pairRole t.part = 0) (hp : d.piecePoison (t.piece r.bytes.length) = false)
    (ho : ∃ o, d.objAt t.part t.off = some o) : d.serveWrite r p t = .done ((d.putRun t r.bytes r.cls).answerWrite r 0) := by
  obtain ⟨window, sealed, -, -, -, locks, cap⟩ := id h
  have free := Dev.unheld_free h
  rw [Bool.or_eq_false_iff] at free
  have repairs := Dev.unheld_repairs h
  have above : (pieceKeys [t.piece r.bytes.length]).any d.inT3 = false := Dev.unheld_pages h (fun k _ t3 _ _ => t3)
  have unlocked : (pieceKeys [t.piece r.bytes.length]).any d.pageLocked = false :=
    Dev.unheld_pages h (fun k _ _ _ moving => by simp [Dev.pageLocked, moving])
  have past : d.pastOrphans t r.bytes = r.bytes := by
    refine if_pos ?_
    rw [List.isEmpty_iff, List.filter_eq_nil_iff]
    intro k hk
    simp [Dev.orphaned_none (hd k hk)]
  have way := Dev.mirrorWay_single hr t.obj (pieceKeys [t.piece r.bytes.length])
  have ready : d.readyLines true [] = none := Dev.readyLines_none (by simp) true
  have merged : d.mergeRead r.bytes [t.piece r.bytes.length] .good = d := by
    unfold Dev.mergeRead
    split
    · split
      · rfl
      · exact Dev.medRead_good ..
    · rfl
  have home : ∀ k, ((d.putRun t r.bytes r.cls).page k).home = (d.page k).home := fun k => (storeBlind_home k).putRun ..
  have put := Dev.thPut_plain (d0 := d) h home r.cls r.bytes
  have gone : ∀ f : Nat → Bool, (tgtLines t r.bytes.length).filter (fun k => d.orphaned k && f k) = [] := by
    intro f
    refine List.filter_eq_nil_iff.mpr (fun k hk => ?_)
    simp [Dev.orphaned_none (hd k hk)]
  have kind : (r.kind == .devWrite .poison) = false := by
    cases hkind : r.kind with
    | devWrite u => simp [hkind, HKind.own] at hk
    | _ => rfl
  have now : d.writeNow r r.bytes p t = some (d.putRun t r.bytes r.cls, none) := by
    simp only [Dev.writeNow, Dev.writePieces_plain window, Dev.framesFor_unheld h ho, Dev.viewWrite_plain window, way, Dev.mirrorNote, hq,
      kind, Bool.false_eq_true, if_false, Dev.putRun]
    rfl
  simp only [Dev.serveWrite, hl, Bool.false_eq_true, if_false, past, Dev.writePieces_plain window, free.2, way,
    Dev.writeRefusal_plain window sealed h6 hb hp, above, unlocked, Dev.arbHeld_unlocked locks, cap, Bool.and_false, bne_self_eq_false,
    Bool.false_and, ht, List.flatMap_cons, List.flatMap_nil, hw, List.append_nil, List.filter_nil, ready, hm, merged,
    repairs, Dev.writePoison_plain window hp, now, gone, List.foldl_nil, put]
  rfl

/-! ## Requests -/

theorem bit_full {n i : Nat} (h : i < n) : bit (2 ^ n - 1) i = true := by
  rw [bit_eq_testBit, Nat.testBit_two_pow_sub_one]
  exact decide_eq_true h

@[simp] theorem HostReq.length_bytes (r : HostReq) : r.bytes.length = r.data.length := by simp [HostReq.bytes]

theorem HostReq.bytes_full {r : HostReq} (h : r.mask = 2 ^ r.data.length - 1) : r.bytes = r.data.map some := by
  refine List.ext_getElem (by simp) (fun i hi _ => ?_)
  have inside : i < r.data.length := by simpa using hi
  simp [HostReq.bytes, h, bit_full inside]

/-- A request that no earlier one of its use precedes, served at once. -/
theorem Dev.request_served {d u : Dev} {r : HostReq} (hk : r.kind.own = false) (h : d.serve r false = .done u) : d.request r = u := by
  refine (if_neg (by simp [behind, hk])).trans ?_
  rw [h]

theorem Dev.ingressFull_none {d : Dev} (h : d.mm.held = []) (port cls : Nat) (native : Bool) : d.ingressFull port cls native = false := by
  cases native
  · simp [Dev.ingressFull, h, countBy]
  · simp [Dev.ingressFull, h, countBy]

/-! ## BAR2 -/

/-- The request that a BAR2 access stands for. -/
def Dev.bar2Req (d : Dev) (kind : HKind) (f : FnId) (off tag len : Nat) (data : List Byte) : HostReq :=
  ⟨kind, ⟨f.port, 0, f.num, d.rd (K.ofPart K.bar2Offset f.num) + off, tag, 0, false, false, 0, false⟩, f, len, 2 ^ len - 1, data, .good, d.lsCls f.num⟩

section
variable {d : Dev} {f : FnId} {off len tag : Nat} (hup : d.barUp f = true) (hh : d.mm.held = []) (hl : off % 4096 + len ≤ 4096)
include hup hh hl

theorem Dev.bar2_one (kind : HKind) (data : List Byte) : d.bar2 kind f off tag len data false .good =
    if d.mse f && d.bar2There f off then (d.request (d.bar2Req kind f off tag len data)).settle
    else d.refuseBar (d.bar2Req kind f off tag len data) 1 := by
  refine (if_neg (by simp [hup])).trans ((if_neg (by simp [Dev.ingressFull_none hh])).trans ((if_pos ?_).trans rfl))
  omega

theorem Dev.bar2_closed (kind : HKind) (data : List Byte) (hc : d.mse f = false ∨ d.bar2There f off = false) :
    d.bar2 kind f off tag len data false .good = d.refuseBar (d.bar2Req kind f off tag len data) 1 := by
  refine (Dev.bar2_one hup hh hl kind data).trans (if_neg ?_)
  rcases hc with hc | hc
  · simp [hc]
  · simp [hc]

theorem Dev.bar2_served {u : Dev} {kind : HKind} {data : List Byte} (hk : kind = .barRead ∨ kind = .barWrite) (hm : d.mse f = true)
    (hb : d.bar2There f off = true) (hs : d.serveIn (d.bar2Req kind f off tag len data) f.num false = .done u) :
    d.bar2 kind f off tag len data false .good = u.settle := by
  refine (Dev.bar2_one hup hh hl kind data).trans ((if_pos (by simp [hm, hb])).trans (congrArg Dev.settle ?_))
  rcases hk with rfl | rfl
  · exact Dev.request_served rfl hs
  · exact Dev.request_served rfl hs

end

section
variable {d : Dev} {f : FnId} {off len tag : Nat} {t : Tgt} {data : List Byte} (hf : d.fenced f.num = false) (hr : d.pairRole f.num = 0)
  (ht : d.resolve f.num (d.rd (K.ofPart K.bar2Offset f.num) + off) = some t) (hl : d.leaseFenced t.part t.obj = false)
  (hh : t.holds len = true) (h1 : 1 ≤ len)
include hf hr ht hl hh h1

theorem Dev.serveIn_barRead : d.serveIn (d.bar2Req .barRead f off tag len data) f.num false =
    d.serveRead (d.bar2Req .barRead f off tag len data) t none := by
  have one : Max.max 1 len = len := Nat.max_eq_right h1
  simp only [Dev.serveIn, Dev.bar2Req, HKind.own, HKind.hosted, HKind.reads, ht, hf, hl, hr, one, hh, Bool.not_false, Bool.not_true,
    Bool.or_self, Bool.false_and, Bool.true_and, Bool.false_eq_true, if_false, if_true, show ((0 : Nat) == 2) = false from rfl,
    show (HKind.barRead == HKind.evict) = false from rfl]

theorem Dev.serveIn_barWrite : d.serveIn (d.bar2Req .barWrite f off tag len data) f.num false =
    d.serveWrite (d.bar2Req .barWrite f off tag len data) f.num t := by
  have one : Max.max 1 len = len := Nat.max_eq_right h1
  simp only [Dev.serveIn, Dev.bar2Req, HKind.own, HKind.hosted, HKind.reads, ht, hf, hl, hr, one, hh, Bool.not_false, Bool.not_true,
    Bool.or_self, Bool.false_and, Bool.true_and, Bool.false_eq_true, if_false, show ((0 : Nat) == 2) = false from rfl,
    show (HKind.barWrite == HKind.evict) = false from rfl, show (HKind.barWrite == HKind.wrBack) = false from rfl]

end

/-- The status of an object that a target found through the partition's own object stands for. -/
theorem Dev.resolve_unique {d : Dev} {p a : Nat} {t : Tgt} (hr : d.resolve p a = some t) (ho : d.objAt p a = some (t.num, t.obj))
    (ha : t.obj.aliasOf = none) : t.part = p ∧ t.off = a := by
  simp only [Dev.resolve, ho, ha, Option.some.injEq] at hr
  exact ⟨by rw [← hr], by rw [← hr]⟩

/-- Settles O24: a BAR2 access is one request, and nothing holds it back. -/
theorem bar2Accesses : Obligations.Bar2Accesses := by
  unfold Obligations.Bar2Accesses
  intro s f off len tag data hq hm hup hfit hlen hdata
  have held : s.dev.mm.held = [] := hq.1
  subst hdata
  refine ⟨fun hc => ⟨?noRead, ?noWrite⟩, fun t hmse hthere hfen hrole hres hlease hholds htrack hdir => ⟨fun hu => ?read,
    fun hu h6 hb hw hp hrange ho ha wf => ?write⟩⟩
  case noRead => exact congrArg (ok s) ((Dev.bar2_closed hup held hfit .barRead [] hc).trans rfl)
  case noWrite => exact congrArg (ok s) ((Dev.bar2_closed hup held hfit .barWrite data hc).trans rfl)
  case read =>
    have orphans : ∀ k ∈ tgtLines t data.length, s.dev.orphaned k = false := fun k hk => Dev.orphaned_none (hdir k hk)
    have served := Dev.serveRead_plain (r := s.dev.bar2Req .barRead f off tag data.length []) (slot := none) hu rfl
      (if_pos (by simp [htrack])) rfl rfl
    have now := Dev.readNow_plain (r := s.dev.bar2Req .barRead f off tag data.length []) hu.1 orphans false
    have calm : (s.dev.getRun t data.length (s.dev.lsCls f.num)).calm = s.dev.calm := touchBlind_calm.getRun ..
    have quiet : Dev.quiet ((s.dev.getRun t data.length (s.dev.lsCls f.num)).emit
        (.cpl f tag 0 (s.dev.bytes t.part t.off data.length) (s.dev.piecePoison (t.piece data.length)))) := Dev.quiet_of_calm hq hm calm
    have status : ((if s.dev.piecePoison (t.piece data.length) then 0x20 else 0) != 0) = s.dev.piecePoison (t.piece data.length) := by
      cases s.dev.piecePoison (t.piece data.length) <;> rfl
    have answered : (s.dev.getRun t data.length (s.dev.lsCls f.num)).answerRead (s.dev.bar2Req .barRead f off tag data.length [])
        (if s.dev.piecePoison (t.piece data.length) then 0x20 else 0) (s.dev.bytes t.part t.off data.length) false =
        (s.dev.getRun t data.length (s.dev.lsCls f.num)).emit
          (.cpl f tag 0 (s.dev.bytes t.part t.off data.length) (s.dev.piecePoison (t.piece data.length))) := by
      simp only [Dev.answerRead, Dev.bar2Req, status]
    rw [show (((s.dev.bar2Req .barRead f off tag data.length []).kind == .rdShared || (s.dev.bar2Req .barRead f off tag data.length []).kind == .rdOwn) && t.obj.tracked && _) = false from rfl, now] at served
    refine ⟨_, congrArg (ok s) ((Dev.bar2_served hup held hfit (.inl rfl) hmse hthere
      ((Dev.serveIn_barRead hfen hrole hres hlease hholds hlen).trans served)).trans
      ((congrArg Dev.settle answered).trans (Dev.settle_quiet quiet))), ?_, ?_, ?_⟩
    · exact congrArg (· ++ _) (touchBlind_out.getRun ..)
    · exact touchBlind_cells.getRun ..
    · exact touchBlind_coh.getRun ..
  case write =>
    obtain ⟨hpart, hoff⟩ := Dev.resolve_unique hres ho ha
    have bytes : (s.dev.bar2Req .barWrite f off 0 data.length data).bytes = data.map some := HostReq.bytes_full rfl
    have len : (s.dev.bar2Req .barWrite f off 0 data.length data).bytes.length = data.length := by rw [HostReq.length_bytes]; rfl
    have served := Dev.serveWrite_plain (d := s.dev) (r := s.dev.bar2Req .barWrite f off 0 data.length data) (p := f.num) (t := t)
      (by rwa [len]) rfl rfl rfl rfl htrack (by rwa [len]) h6 hb (by rwa [len]) (by rwa [hpart]) (by rwa [len]) ⟨_, by rw [hpart, hoff]; exact ho⟩
    rw [bytes] at served
    have calm : (s.dev.putRun t (data.map some) (s.dev.lsCls f.num)).calm = s.dev.calm := storeBlind_calm.putRun ..
    have quiet := Dev.quiet_of_calm hq hm calm
    obtain ⟨put, others⟩ := Dev.putRun_bytes wf hrange (s.dev.lsCls f.num)
    refine ⟨_, congrArg (ok s) ((Dev.bar2_served hup held hfit (.inr rfl) hmse hthere
      ((Dev.serveIn_barWrite hfen hrole hres hlease hholds hlen).trans served)).trans (Dev.settle_quiet quiet)), ?_, put, others⟩
    exact storeBlind_out.putRun ..

end Sys2Proof.Machine
end

section
/-! O23: the statement says of an exclusive read through a read-only alias what holds without an alias. -/
namespace Sys2Proof.Machine

/-! ## A read-only alias of an exported object -/

/-- An exclusive read of line 0 by the host 0x777, over port 0. -/
def ownRead : HReq := ⟨0, 0x777, 0x321, 0, 5, 0, false, false, 0, false⟩

/-- The exported object 1 of partition 4. -/
def sharedObj : Obj := { newObj 0 2 2 0x103 0x103 with exported := some false }

/-- The read-only alias of it, object 1 of partition 3. -/
def roAlias : Obj := { newObj 0 2 2 0x103 0x103 with aliasOf := some (4, 1), aliasRw := false }

/-- What the alias resolves to. -/
def sharedTgt : Tgt := ⟨4, 1, sharedObj, 0⟩

/-- A device with sharing on: the page of the exported object lies in T2, the host has an ACTIVE slot of partition 3 with a grant. -/
def aliasDev : Dev := { Dev.reset with
  su := { Su.reset with modState := 2, mains := true, perst := false, stage := 7, lark := some (0, 0) }
  ports := [(0, ⟨.native, .l0, 5, 16, 0xFFF, 0, none, 0, [], [], 1⟩)]
  mm := { Mm.reset with objs := [(3 * 2 ^ 16 + 1, roAlias), (4 * 2 ^ 16 + 1, sharedObj)],
                        pages := [(4 * 2 ^ 32, ⟨some ⟨.t2, 9, false⟩, 2 ^ 256 - 1, .resident, false, 4, 0, none, true, false⟩)], shareOn := true }
  coh := { Coh.reset with grants := [⟨5, 3, 0, 1, true, none⟩] }
  od := ((((Dev.reset.wr (K.ofPart K.enable 3) 1).wr (K.ofPart K.portsActive 3) 3).wr (K.ofPart K.endpoint 3) 0x321).wr
    (slotKey 5) (0x777 * 2 ^ 108 + 3 * 2 ^ 102 + 1 * 2 ^ 95 + 1 * 2 ^ 92)).od }

/-- The alias and the exported object meet what the statement asks of a line request of a tracked object. -/
theorem aliasDev_reaches : aliasDev.quiet ∧ aliasDev.mm.migs = [] ∧ aliasDev.lineReaches ownRead 1 3 5 sharedTgt := by
  unfold Dev.quiet Dev.lineReaches
  decide +kernel

theorem aliasDev_unheld : aliasDev.unheld sharedTgt 64 (aliasDev.lsCls 3) false ∧ sharedObj.tracked = true ∧ aliasDev.mm.shareOn = true ∧
    aliasDev.dirGet (lineKey 4 0) = none ∧ (aliasDev.setWays (lineKey 4 0)).length < 16 ∧ aliasDev.granted 5 3 0 true = true := by
  unfold Dev.unheld
  decide +kernel

/-- The exclusive read through the read-only alias is refused with ACCESS_REVOKED. -/
theorem aliasDev_ownRead_refused :
    (aliasDev.hostLine .rdOwn 1 ownRead 0 [] .good).out = [Out.ubl 0 opResp 0x777 0x321 0 5 0 false 0x10 []] := by
  decide +kernel

/-- Refutes O23: an exclusive read through a read-only alias of an exported object is refused whatever the grant, while the statement
has it answered with data and the host made the owner of the line. -/
theorem not_hostLoadsAndStores : ¬ Obligations.HostLoadsAndStores := by
  unfold Obligations.HostLoadsAndStores
  intro h
  obtain ⟨quiet, migs, reaches⟩ := aliasDev_reaches
  obtain ⟨unheld, tracked, share, entry, ways, granted⟩ := aliasDev_unheld
  obtain ⟨-, tracking, -⟩ := h ⟨aliasDev, []⟩ ownRead 1 3 5 sharedTgt quiet migs reaches
  obtain ⟨-, u, e, run, -, -, -, answered⟩ := tracking unheld tracked share rfl (by decide) entry ways granted
  have here : aliasDev.hostLine .rdOwn 1 ownRead 0 [] .good = u := congrArg State.dev (Host.Outcome.next.inj run)
  rw [← here, aliasDev_ownRead_refused, List.mem_singleton] at answered
  exact absurd (Out.ubl.inj answered).2.1 (by decide)

end Sys2Proof.Machine
end

section
/-! O22: directory entries under caching requests, and answers to recalls. -/
namespace Sys2Proof.Machine

/-! ## Entries of the directory -/

@[simp] theorem Dev.dirGet_dirPut_self (d : Dev) (k : Nat) (e : DirE) : (d.dirPut k e).dirGet k = some e := kfind_kput_self ..
theorem Dev.dirGet_dirPut_ne (d : Dev) {j k : Nat} (e : DirE) (h : j ≠ k) : (d.dirPut k e).dirGet j = d.dirGet j := kfind_kput_ne _ _ h
@[simp] theorem Dev.dirGet_dirDel_self (d : Dev) (k : Nat) : (d.dirDel k).dirGet k = none := kfind_kdel_self ..
theorem Dev.dirGet_dirDel_ne (d : Dev) {j k : Nat} (h : j ≠ k) : (d.dirDel k).dirGet j = d.dirGet j := kfind_kdel_ne _ h

theorem LogBlind.dirLog {β : Type} {part : Dev → β} (hp : LogBlind part) (d : Dev) (k : Nat) : part (d.dirLog k) = part d := by
  unfold Dev.dirLog
  dsimp only
  split
  · split
    · exact hp.logState ..
    · rfl
  · rfl

theorem markBlind_coh : MarkBlind Dev.coh :=
  ⟨⟨fun _ _ => rfl, fun _ _ => rfl, fun _ _ _ => rfl, fun _ => rfl⟩, fun _ _ _ _ => rfl, fun _ _ => rfl⟩

theorem evBlind_coh : EvBlind Dev.coh := ⟨fun _ _ _ => rfl, fun _ _ => rfl, fun _ _ => rfl, fun _ _ => rfl⟩

@[simp] theorem Dev.dirLog_coh (d : Dev) (k : Nat) : (d.dirLog k).coh = d.coh := markBlind_coh.toLogBlind.dirLog ..

@[simp] theorem Dev.dirGet_dirLog (d : Dev) (j k : Nat) : (d.dirLog k).dirGet j = d.dirGet j := by
  simp only [Dev.dirGet, Dev.dirLog_coh]

@[simp] theorem Dev.dirGet_dirNew_self (d : Dev) (k : Nat) (st : DirSt) (vec window : Nat) :
    (d.dirNew k st vec window).dirGet k = some ⟨st, vec, window, false, d.coh.ord, false, false⟩ := by
  rw [Dev.dirNew, Dev.dirGet_dirLog, Dev.dirGet_dirPut_self]

theorem Dev.dirGet_dirNew_ne (d : Dev) {j k : Nat} (h : j ≠ k) (st : DirSt) (vec window : Nat) :
    (d.dirNew k st vec window).dirGet j = d.dirGet j := by
  rw [Dev.dirNew, Dev.dirGet_dirLog, Dev.dirGet_dirPut_ne _ _ h]
  rfl

theorem bit_two_pow_self (i : Nat) : bit (2 ^ i) i = true := by
  rw [bit_eq_testBit, Nat.testBit_two_pow_self]

theorem DirE.addSharer_st (e : DirE) (h : Nat) : (e.addSharer h).st = e.st := by
  unfold DirE.addSharer
  split
  · rfl
  · split <;> rfl

theorem DirE.addSharer_has {e : DirE} (h : Nat) (hs : e.st = .s) : (e.addSharer h).has h = true := by
  rw [DirE.has, DirE.addSharer_st, hs, DirE.addSharer]
  by_cases coarse : e.coarse = true
  · simp [coarse, bit_setBit_self]
  · by_cases win : e.window = h / 64 <;> simp [coarse, win, bit_setBit_self]

/-! ## Recalls -/

/-- What a recall asks, and of whom. -/
def Recall.ask (x : Recall) : Nat × Nat × Bool := (x.slot, x.line, x.share)

theorem Dev.recallOne_dir (k : Nat) (share : Bool) (d : Dev) (s : Nat) : (Dev.recallOne k share d s).coh.dir = d.coh.dir := rfl

theorem Dev.recallOnes_dir (k : Nat) (share : Bool) (l : List Nat) (d : Dev) : (l.foldl (Dev.recallOne k share) d).coh.dir = d.coh.dir :=
  foldl_keeps (fun t : Dev => t.coh.dir) (Dev.recallOne_dir k share) l d

/-- Every slot named is asked once, behind the recalls outstanding. -/
theorem Dev.recallOnes_recalls (k : Nat) (share : Bool) (l : List Nat) (d : Dev) :
    ∃ new, (l.foldl (Dev.recallOne k share) d).coh.recalls = d.coh.recalls ++ new ∧ new.map Recall.ask = l.map (fun s => (s, k, share)) := by
  induction l generalizing d with
  | nil => exact ⟨[], (List.append_nil _).symm, rfl⟩
  | cons s l ih =>
    obtain ⟨new, hnew, hask⟩ := ih (Dev.recallOne k share d s)
    obtain ⟨x, hx, ask⟩ : ∃ x, (Dev.recallOne k share d s).coh.recalls = d.coh.recalls ++ [x] ∧ x.ask = (s, k, share) := ⟨_, rfl, rfl⟩
    refine ⟨x :: new, ?_, by rw [List.map_cons, List.map_cons, hask, ask]⟩
    rw [List.foldl_cons, hnew, hx, List.append_assoc, List.singleton_append]

/-- The state of an entry whose line is recalled. -/
def DirSt.recalling : DirSt → DirSt
  | .s | .rs => .rs
  | _ => .ro

section
variable {d : Dev} {k : Nat} {e : DirE} {l : List Nat} (asked : l ≠ []) (share : Bool)
include asked

theorem Dev.recallLine_eq : d.recallLine k e l share =
    l.foldl (Dev.recallOne k share) ((d.dirPut k { e with st := e.st.recalling, shareEnd := share }).dirLog k) := by
  refine (if_neg (by simpa using asked)).trans ?_
  cases e.st <;> simp [DirSt.recalling]

theorem Dev.recallLine_entry : (d.recallLine k e l share).dirGet k = some { e with st := e.st.recalling, shareEnd := share } := by
  rw [Dev.recallLine_eq asked, Dev.dirGet, Dev.recallOnes_dir]
  exact (Dev.dirGet_dirLog ..).trans (Dev.dirGet_dirPut_self ..)

theorem Dev.recallLine_other {j : Nat} (h : j ≠ k) : (d.recallLine k e l share).dirGet j = d.dirGet j := by
  rw [Dev.recallLine_eq asked, Dev.dirGet, Dev.recallOnes_dir]
  exact (Dev.dirGet_dirLog ..).trans (Dev.dirGet_dirPut_ne _ _ h)

theorem Dev.recallLine_asks : ((d.recallLine k e l share).coh.recalls.drop d.coh.recalls.length).map Recall.ask = l.map (fun s => (s, k, share)) := by
  obtain ⟨new, hnew, hask⟩ := Dev.recallOnes_recalls k share l ((d.dirPut k { e with st := e.st.recalling, shareEnd := share }).dirLog k)
  rw [Dev.dirLog_coh] at hnew
  rw [Dev.recallLine_eq asked, hnew, ← hask]
  exact congrArg _ (List.drop_left ..)

end

/-! ## Caching requests -/

theorem Dev.cacheLine_i {d : Dev} {k : Nat} (hi : d.dirGet k = none) (room : (d.setWays k).length < 16) (h : Nat) (own : Bool) :
    d.cacheLine k h own = (d.dirNew k (if own then .o else .s) (if own then h else 2 ^ (h % 64)) (if own then 0 else h / 64), none) := by
  have way : d.wayFor k = (d, none) := if_pos room
  unfold Dev.cacheLine
  rw [hi]
  dsimp only
  rw [way]
  exact if_pos room

section
variable {d : Dev} {k : Nat} {e : DirE} (he : d.dirGet k = some e)
include he

theorem Dev.cacheLine_add (hs : e.st = .s) (h : Nat) : d.cacheLine k h false = ((d.dirPut k (e.addSharer h)).dirLog k, none) := by
  simp only [Dev.cacheLine, he, hs, Bool.false_eq_true, if_false]

theorem Dev.cacheLine_alone (hs : e.st = .s) {h : Nat} (alone : (d.sharers e).filter (· != h) = []) :
    d.cacheLine k h true = ((d.dirPut k { e with st := .o, vec := h, window := 0, coarse := false }).dirLog k, none) := by
  simp only [Dev.cacheLine, he, hs, alone, if_true, List.isEmpty_nil]

theorem Dev.cacheLine_recall (hs : e.st = .s) {h : Nat} (others : (d.sharers e).filter (· != h) ≠ []) :
    d.cacheLine k h true = (d.recallLine k e ((d.sharers e).filter (· != h)) false, some .line) := by
  simp only [Dev.cacheLine, he, hs, if_true]
  exact if_neg (by simpa using others)

theorem Dev.cacheLine_owner (ho : e.st = .o) {h : Nat} (mine : e.vec = h) (own : Bool) : d.cacheLine k h own = (d, none) := by
  simp only [Dev.cacheLine, he, ho, mine, beq_self_eq_true, if_true]

theorem Dev.cacheLine_owned (ho : e.st = .o) {h : Nat} (other : e.vec ≠ h) (own : Bool) :
    d.cacheLine k h own = (d.recallLine k e [e.vec] (!own), some .line) := by
  simp only [Dev.cacheLine, he, ho]
  exact if_neg (by simpa using other)

theorem Dev.cacheLine_waits (hw : e.st = .rs ∨ e.st = .ro ∨ e.st = .orph) (h : Nat) (own : Bool) :
    d.cacheLine k h own = (d, some .line) := by
  obtain hw | hw | hw := hw <;> simp only [Dev.cacheLine, he, hw]

end

/-- A caching request touches the entry of its line alone. -/
theorem Dev.cacheLine_other {d : Dev} {j k : Nat} (hj : j ≠ k) (room : (d.setWays k).length < 16) (h : Nat) (own : Bool) :
    (d.cacheLine k h own).1.dirGet j = d.dirGet j := by
  cases he : d.dirGet k with
  | none => 
    rw [Dev.cacheLine_i he room]
    exact Dev.dirGet_dirNew_ne _ hj ..
  | some e =>
    cases hst : e.st with
    | s =>
      cases own with
      | false => rw [Dev.cacheLine_add he hst, Dev.dirGet_dirLog, Dev.dirGet_dirPut_ne _ _ hj]
      | true =>
        by_cases alone : (d.sharers e).filter (· != h) = []
        · rw [Dev.cacheLine_alone he hst alone, Dev.dirGet_dirLog, Dev.dirGet_dirPut_ne _ _ hj]
        · rw [Dev.cacheLine_recall he hst alone, Dev.recallLine_other alone _ hj]
    | o =>
      by_cases mine : e.vec = h
      · rw [Dev.cacheLine_owner he hst mine]
      · rw [Dev.cacheLine_owned he hst mine, Dev.recallLine_other (List.cons_ne_nil _ _) _ hj]
    | rs => rw [Dev.cacheLine_waits he (.inl hst)]
    | ro => rw [Dev.cacheLine_waits he (.inr (.inl hst))]
    | orph => rw [Dev.cacheLine_waits he (.inr (.inr hst))]

/-! ## Answers to recalls -/

/-- The recalls of a line outstanding to a slot taken away. -/
def Dev.unrecalled (d : Dev) (k slot : Nat) : Dev :=
  { d with coh := { d.coh with recalls := d.coh.recalls.filter (fun x => !(x.line == k && x.slot == slot)) } }

theorem Dev.recallAnswered_eq (d : Dev) (k slot : Nat) : d.recallAnswered k slot none = (d.unrecalled k slot).recallEnd k := rfl

theorem Dev.unrecalled_lineBusy {d : Dev} {k slot : Nat} (only : ∀ x ∈ d.coh.recalls, x.line = k → x.slot = slot) :
    (d.unrecalled k slot).lineBusy k = false := by
  refine List.any_eq_false.mpr fun x hx => ?_
  obtain ⟨mem, keep⟩ := List.mem_filter.mp hx
  intro line
  rw [beq_iff_eq] at line
  simp [line, only x mem line] at keep

section
variable {d : Dev} {k : Nat} {e : DirE} (free : d.lineBusy k = false) (he : d.dirGet k = some e)
include free he

theorem Dev.recallEnd_gone (good : e.bad = false) (hst : e.st = .rs ∨ (e.st = .ro ∧ e.shareEnd = false)) : (d.recallEnd k).dirGet k = none := by
  obtain hst | ⟨hst, inv⟩ := hst
  · simp only [Dev.recallEnd, free, he, hst, Bool.false_eq_true, if_false, Dev.dirGet_dirLog, Dev.dirGet_dirDel_self]
  · simp only [Dev.recallEnd, free, he, hst, good, inv, Bool.false_and, Bool.false_eq_true, if_false, Dev.dirGet_dirLog, Dev.dirGet_dirDel_self]

theorem Dev.recallEnd_shared (good : e.bad = false) (hst : e.st = .ro) (share : e.shareEnd = true) (active : d.slotActive e.vec = true) :
    (d.recallEnd k).dirGet k = some { e with st := .s, vec := 2 ^ (e.vec % 64), window := e.vec / 64, coarse := false, shareEnd := false } := by
  simp only [Dev.recallEnd, free, he, hst, good, share, active, Bool.false_eq_true, Bool.and_true, if_false, if_true,
    Dev.dirGet_dirLog, Dev.dirGet_dirPut_self]

end

theorem lineKey_div_mod (k : Nat) : lineKey (k / 2 ^ 42) (k % 2 ^ 42 * 64 / 64) = k := by
  rw [lineKey, Nat.mul_div_cancel _ (by decide)]
  omega

/-- The answer to an outstanding recall (R137): its line and slot are those of the recall. -/
theorem Dev.recallReply_of {d : Dev} {port tag : Nat} {r : Recall}
    (h : d.coh.recalls.find? (fun x => x.tag == tag && x.port == port) = some r) :
    d.recallReply port tag none = (d.recallAnswered r.line r.slot none).settle ∧
    (d.bw.locks = [] → ∀ data, d.recallReply port tag (some data) = (d.recallAnswered r.line r.slot (some data)).settle) := by
  refine ⟨by rw [Dev.recallReply, h], fun locks data => ?_⟩
  have recalled : d.recalled r.line r.slot = true :=
    List.any_eq_true.mpr ⟨r, List.mem_of_find?_eq_some h, by simp⟩
  have free : d.returnHeld r.line (fun _ => false) = false := by
    unfold Dev.returnHeld
    split
    · exact Dev.arbHeld_unlocked locks ..
    · rfl
  rw [Dev.recallReply, h]
  refine congrArg Dev.settle (Dev.request_served rfl ?_)
  change d.serveRecall ⟨.recallData r.slot, ⟨port, r.line / 2 ^ 42, r.line / 2 ^ 42, r.line % 2 ^ 42 * 64, tag, 0, false, false, 0, false⟩,
    ⟨port, 0⟩, 64, 2 ^ 64 - 1, data, .good, 0⟩ r.slot = _
  unfold Dev.serveRecall
  dsimp only
  rw [lineKey_div_mod, recalled, free]
  rfl

/-! ## What the loss of a host leaves of its slot's entry -/

theorem Dev.rd_adminOk (d : Dev) (h : Adm) (r key : Nat) : (d.adminOk h r).rd key = d.rd key := by
  unfold Dev.adminOk Dev.adminDone
  dsimp only
  repeat' split
  all_goals rfl

theorem isSlotKey_slotKey {n : Nat} (hn : n < 4096) : isSlotKey (slotKey n) := by
  simp only [isSlotKey, slotKey, K.hostSlot]
  omega

section
variable {key : Nat} (hk : isSlotKey key)
include hk

theorem Dev.rd_add_slot {j : Nat} (hj : ¬ isSlotKey j) (d : Dev) (n : Nat) : (d.add j n).rd key = d.rd key :=
  Dev.rd_add_ne d n fun h => hj (h ▸ hk)

theorem Dev.rd_logSend_slot (d : Dev) (recs : List LogRec) : (d.logSend recs).rd key = d.rd key := by
  have codec (u : Dev) (port n : Nat) (cipher : Bool) : (u.linkCodec port n cipher).1.rd key = u.rd key := by
    unfold Dev.linkCodec
    split
    · exact (Dev.rd_add_slot hk (by simp only [isSlotKey, K.hostSlot, K.linkBytesOut]; omega) _ _).trans
        (Dev.rd_add_slot hk (by simp only [isSlotKey, K.hostSlot, K.linkBytesIn]; omega) _ _)
    · rfl
  exact (codec ..).trans (Dev.rd_add_slot hk (by simp only [isSlotKey, K.hostSlot, K.mirrorRecords]; omega) _ _)

theorem Dev.rd_logState_slot (d : Dev) (p : Nat) (b : LogBody) : (d.logState p b).rd key = d.rd key := by
  unfold Dev.logState
  split
  · exact Dev.rd_logSend_slot hk ..
  · rfl

theorem Dev.rd_dirLog_slot (d : Dev) (k : Nat) : (d.dirLog k).rd key = d.rd key := by
  unfold Dev.dirLog
  dsimp only
  split
  · split
    · exact Dev.rd_logState_slot hk ..
    · rfl
  · rfl

theorem Dev.rd_mirrorNote_slot (d : Dev) (way : MirrorWay) (ks : List Nat) (recs : List LogRec) : (d.mirrorNote way ks recs).rd key = d.rd key := by
  unfold Dev.mirrorNote
  split
  · exact Dev.rd_logSend_slot hk ..
  · refine foldl_keeps (fun t : Dev => t.rd key) (fun t k => ?_) _ d
    unfold Dev.markDirty
    split <;> rfl
  · rfl

theorem Dev.rd_setValid_slot (d : Dev) (k v : Nat) : (d.setValid k v).rd key = d.rd key := by
  unfold Dev.setValid
  dsimp only
  split
  · rfl
  · split
    · rfl
    · split
      · rfl
      · exact Dev.rd_add_slot hk (by simp only [isSlotKey, K.hostSlot, K.vslotExhausted]; omega) ..

theorem Dev.rd_poisonBlock_slot (d : Dev) (p blk : Nat) : (d.poisonBlock p blk).rd key = d.rd key := by
  have marked (u : Dev) (hu : u.rd key = d.rd key) : (if d.blkPoison p blk then u else u.inc (K.blocksPoisonedP + p)).rd key = d.rd key := by
    split
    · exact hu
    · exact (Dev.rd_add_slot hk (by simp only [isSlotKey, K.hostSlot, K.blocksPoisonedP]; omega) ..).trans hu
  refine marked _ ?_
  split
  · rfl
  · dsimp only
    refine Eq.trans (b := Dev.rd (if _ then _ else _) key) rfl ?_
    split
    · rfl
    · exact Dev.rd_setValid_slot hk ..

theorem Dev.rd_poisonBlks_slot (d : Dev) (p : Nat) (blks : List Nat) : (d.poisonBlks p blks).rd key = d.rd key := by
  refine foldl_keeps (fun t : Dev => t.rd key) (fun t b => ?_) _ d
  dsimp only
  split
  · exact (Dev.rd_mirrorNote_slot hk ..).trans (Dev.rd_poisonBlock_slot hk ..)
  · exact Dev.rd_poisonBlock_slot hk ..

theorem Dev.rd_dropLocks_slot (d : Dev) (f : Lock → Bool) : (d.dropLocks f).rd key = d.rd key := by
  refine foldl_keeps (fun t : Dev => t.rd key) (fun t l => ?_) _ d
  unfold Dev.breakLock
  change Dev.rd (if _ then _ else _) key = _
  split
  · exact (Dev.rd_add_slot hk (by simp only [isSlotKey, K.hostSlot, K.locksBroken]; omega) ..).trans (Dev.rd_poisonBlks_slot hk ..)
  · rfl

theorem Dev.rd_post_slot {n : Nat} (hn : n < 64) (d : Dev) (e : Ev) : (d.post n e).rd key = d.rd key := by
  have counts {j : Nat} (hj : j < 0x80100) (u : Dev) : (u.inc (K.ofPart j n)).rd key = u.rd key :=
    Dev.rd_add_slot hk (not_isSlotKey_ofPart hj hn) u 1
  have blind : EvBlindAt n (fun t : Dev => t.rd key) :=
    ⟨fun _ _ _ => rfl, fun _ _ => rfl, counts (by decide), counts (by decide)⟩
  exact blind.post d e

theorem Dev.rd_orphan_slot {k : Nat} (hp : k < 64 * 2 ^ 42) (d : Dev) (e : DirE) : (d.orphan k e).rd key = d.rd key := by
  unfold Dev.orphan
  dsimp only
  split
  · exact Dev.rd_dirLog_slot hk ..
  · exact (Dev.rd_post_slot hk (by omega) ..).trans (Dev.rd_dirLog_slot hk ..)

theorem Dev.rd_recallEnd_slot {k : Nat} (hp : k < 64 * 2 ^ 42) (d : Dev) : (d.recallEnd k).rd key = d.rd key := by
  unfold Dev.recallEnd
  split
  · rfl
  split
  · rfl
  split
  · split
    · exact Dev.rd_orphan_slot hk hp ..
    · split <;> exact Dev.rd_dirLog_slot hk ..
  · exact Dev.rd_dirLog_slot hk ..
  · rfl

theorem Dev.rd_loseLine_slot {k : Nat} (hp : k < 64 * 2 ^ 42) (h : Nat) (d : Dev) : (Dev.loseLine h d k).rd key = d.rd key := by
  unfold Dev.loseLine
  split
  · rfl
  split
  · split
    · exact Dev.rd_orphan_slot hk hp ..
    · rfl
  · split
    · exact Dev.rd_orphan_slot hk hp ..
    · split
      · exact Dev.rd_recallEnd_slot hk hp _
      · rfl
  · split
    · refine (Dev.rd_dirLog_slot hk ..).trans ?_
      split <;> rfl
    · rfl
  · exact Dev.rd_recallEnd_slot hk hp _
  · rfl

theorem Dev.rd_revokeEnd_slot (d : Dev) (r : Revoke) : (d.revokeEnd r).rd key = d.rd key := by
  unfold Dev.revokeEnd
  refine (foldl_keeps (fun t : Dev => t.rd key) (fun t h => ?_) _ _).trans
    (foldl_keeps (fun t : Dev => t.rd key) (fun t g => Dev.rd_logState_slot hk ..) _ _)
  split
  · rfl
  · exact Dev.rd_adminOk ..

end

/-! ## The loss of a host -/

theorem Dev.rd_loseLines_slot {key : Nat} (hk : isSlotKey key) (h : Nat) {l : List Nat} (lines : ∀ k ∈ l, k < 64 * 2 ^ 42) (d : Dev) :
    (l.foldl (Dev.loseLine h) d).rd key = d.rd key := by
  induction l generalizing d with
  | nil => rfl
  | cons k l ih =>
    rw [List.foldl_cons, ih (fun j hj => lines j (List.mem_cons_of_mem _ hj)), Dev.rd_loseLine_slot hk (lines k List.mem_cons_self)]

theorem Dev.hostLost_slot {d : Dev} {h : Nat} (hh : h < 4096) (active : d.slotActive h = true) (lines : ∀ e ∈ d.coh.dir, e.1 < 64 * 2 ^ 42) :
    (d.hostLost h).slot h = setFld (d.slot h) 92 3 2 := by
  have hk := isSlotKey_slotKey hh
  have act : slState (d.slot h) = 1 := by simpa [Dev.slotActive] using active
  have part (e : Nat) : slPartition e < 64 := Nat.mod_lt _ (by decide)
  unfold Dev.hostLost
  refine (congrArg (Dev.slot · h) (if_neg (by simp [act]))).trans ?_
  refine (Dev.rd_post_slot hk (part _) ..).trans ((Dev.rd_logState_slot hk ..).trans ((Dev.rd_dropLocks_slot hk ..).trans ?_))
  refine (foldl_keeps (fun t : Dev => t.rd (slotKey h)) (fun t r => Dev.rd_revokeEnd_slot hk ..) _ _).trans ?_
  exact (Dev.rd_loseLines_slot hk h (List.forall_mem_map.mpr lines) _).trans (Dev.rd_wr_self ..)

theorem Dev.dropLocks_coh (d : Dev) (f : Lock → Bool) : (d.dropLocks f).coh = d.coh := by
  refine foldl_keeps Dev.coh (fun t l => ?_) _ d
  unfold Dev.breakLock
  change Dev.coh (if _ then _ else _) = _
  split
  · exact (markBlind_coh.poisonBlks ..)
  · rfl

theorem Dev.hostLost_grants {d : Dev} {h : Nat} (active : d.slotActive h = true) : ∀ g ∈ (d.hostLost h).coh.grants, g.slot ≠ h := by
  have act : slState (d.slot h) = 1 := by simpa [Dev.slotActive] using active
  unfold Dev.hostLost
  rw [if_neg (by simp [act])]
  intro g hg
  rw [evBlind_coh.post, markBlind_coh.toLogBlind.logState, Dev.dropLocks_coh] at hg
  simpa using (List.mem_filter.mp hg).2

theorem slState_lost (e : Nat) : slState (setFld e 92 3 2) = 2 := fld_setFld_self ..

/-- Settles O22: each state of an entry has its equation of `cacheLine`; an answered recall leaves its line with nothing outstanding; and of
all that the loss of a host does, only the write of its STATE touches the entry of its slot. -/
theorem directoryTransitions : Obligations.DirectoryTransitions := by
  unfold Obligations.DirectoryTransitions
  refine ⟨fun d k h own _ => ⟨fun hi room => ?_, fun e he => ⟨fun hs ho => ?_, fun hs ho alone => ?_, fun hs ho others => ?_, fun ho mine => ?_,
    fun ho other => ?_, fun hw => ?_⟩, fun j hj room => Dev.cacheLine_other hj room h own⟩,
    fun s => ⟨fun port tag data r found => ⟨?_, fun locks => ?_, fun first cxl => ?_, fun e he good only => ⟨fun hst => ?_, fun hst share active => ?_⟩⟩,
      fun port tag lost => ⟨fun late => ?_, fun late => ?_⟩, fun tag r found hr active fresh => ⟨?_, ?_, fun lines _ => ?_⟩⟩⟩
  · rw [Dev.cacheLine_i hi room]
    refine ⟨rfl, _, Dev.dirGet_dirNew_self .., ?_, rfl, rfl⟩
    cases own <;> simp [DirE.has, bit_two_pow_self]
  · subst ho
    rw [Dev.cacheLine_add he hs]
    exact ⟨rfl, by rw [Dev.dirGet_dirLog, Dev.dirGet_dirPut_self], DirE.addSharer_has h hs⟩
  · subst ho
    rw [Dev.cacheLine_alone he hs alone]
    exact ⟨rfl, _, (Dev.dirGet_dirLog ..).trans (Dev.dirGet_dirPut_self ..), rfl, rfl⟩
  · subst ho
    rw [Dev.cacheLine_recall he hs others]
    exact ⟨rfl, by rw [Dev.recallLine_entry others, hs]; rfl, Dev.recallLine_asks others false⟩
  · exact Dev.cacheLine_owner he ho mine own
  · rw [Dev.cacheLine_owned he ho other]
    have one : [e.vec] ≠ [] := List.cons_ne_nil _ _
    exact ⟨rfl, by rw [Dev.recallLine_entry one, ho]; rfl, Dev.recallLine_asks one _⟩
  · exact Dev.cacheLine_waits he hw h own
  · exact congrArg (ok s) (Dev.recallReply_of found).1
  · exact congrArg (ok s) ((Dev.recallReply_of found).2 locks data)
  · have outstanding : s.dev.coh.recalls.any (fun x => x.tag == tag && x.port == port) = true :=
      List.any_eq_true.mpr ⟨r, List.mem_of_find?_eq_some found, by simpa using List.find?_some found⟩
    exact congrArg (ok s) (if_pos (by simp [cxl, outstanding]))
  · exact Dev.recallEnd_gone (Dev.unrecalled_lineBusy only) he good hst
  · exact ⟨_, Dev.recallEnd_shared (Dev.unrecalled_lineBusy only) he good hst share active, rfl, by simp [DirE.has, bit_two_pow_self]⟩
  · refine congrArg (ok s) ?_
    rw [Dev.recallReply, lost]
    exact if_pos late
  · refine congrArg (ok s) ?_
    rw [Dev.recallReply, lost]
    exact if_neg (by rw [late]; exact Bool.false_ne_true)
  · have counted : (s.dev.inc K.recallTimeouts).slotActive r.slot = true := by
      have entry : (s.dev.inc K.recallTimeouts).slot r.slot = s.dev.slot r.slot :=
        Dev.rd_add_slot (isSlotKey_slotKey hr) (by simp only [isSlotKey, K.hostSlot, K.recallTimeouts]; omega) ..
      rw [← active, Dev.slotActive, entry, Dev.slotActive]
    have unanswered : s.dev.mm.held.any (fun x => x.r.kind == .recallData r.slot && lineKey x.r.q.dst (x.r.q.off / 64) == r.line) = false :=
      List.any_eq_false.mpr fun x hx => by simp [fresh x hx]
    refine congrArg (ok s) ?_
    rw [Dev.recallExpired, found]
    dsimp only
    rw [unanswered]
    exact if_pos counted
  · exact Dev.hostLost_grants active
  · rw [Dev.hostLost_slot hr active lines]
    exact slState_lost _

end Sys2Proof.Machine
end

section
/-! O21: sharing, grants and revokes. -/
namespace Sys2Proof.Machine

/-! ## Commands on objects -/

/-- A command on an object whose turn has come is carried out. -/
theorem Dev.objAdmin_turn {d : Dev} {h : Adm} {served : Bool} {c : ObjCmd} (turn : d.objTurn h served c) :
    d.objAdmin h served c = (d.admFetch h).cmdDo (d.admRun h) h.fn.num c := by
  obtain ⟨waits, ready, single, checked⟩ := turn
  refine (if_neg (by simp [waits])).trans ((Dev.admin_turn ready _).trans ((if_neg (by simp [single])).trans ?_))
  rw [checked]
  exact if_neg (by simp [single])

/-- A command of the admin queue whose checks give no refusal. -/
theorem Dev.admin_try {d : Dev} {h : Adm} {served : Bool} (turn : d.admTurn h served) {check : Dev → Adm → Option (Nat × Nat)}
    (run : Adm → Dev → Dev) (checked : check (d.admFetch h) (d.admRun h) = none) :
    d.admin h served (fun d h => d.admTry h (check d h) (run h)) = run (d.admRun h) (d.admFetch h) := by
  rw [Dev.admin_turn turn, checked, Dev.admTry_none]

theorem Dev.obj_modObj_self (d : Dev) (p n : Nat) (f : Obj → Obj) : (d.modObj p n f).obj p n = (d.obj p n).map f := kfind_kmod_self ..

/-! ## The end of an event that one job releases -/

/-- Where the revokes and the jobs of destruction leave a device at rest, the end of an event is that. -/
theorem Dev.settle_steps {d u : Dev} (held : d.mm.held = []) (steps : d.revokeStep.clearStep = u) (rest : u.quiet) : d.settle = u := by
  have mem : d.settleMem = u := by
    have quiet := Dev.settleMem_quiet rest
    obtain ⟨-, clearing, revokes, -⟩ := id rest
    rw [← quiet]
    simp only [Dev.settleMem, steps]
    have r : u.revokeStep = u := by simp [Dev.revokeStep, revokes]
    have c : u.clearStep = u := by simp [Dev.clearStep, clearing]
    rw [r, c]
  have wrote : u.chs.wrote = [] := rest.2.2.2.2.1
  rw [Dev.settle, held]
  change (Dev.settleN 2 d).lateRestarts = u
  rw [Dev.settleN, mem, wrote]
  exact Dev.lateRestarts_quiet rest

/-! ## Split grants -/

/-- Whether a record grants an extent to a slot of a partition (R128). -/
def Grant.gives (slot p e : Nat) (rw : Bool) (g : Grant) : Bool :=
  g.slot == slot && g.part == p && g.first ≤ e && e < g.first + g.count && g.drain.isNone && (!rw || g.rw)

theorem Dev.granted_eq (d : Dev) (slot p e : Nat) (rw : Bool) : d.granted slot p e rw = d.coh.grants.any (Grant.gives slot p e rw) := rfl

section
variable {slot p first count id e : Nat} {rw : Bool}

/-- No record of a split one gives an extent of the run. -/
theorem splitGrant_inside (lo : first ≤ e) (hi : e < first + count) (g : Grant) :
    (splitGrant slot p first count id g).any (Grant.gives slot p e rw) = false := by
  unfold splitGrant
  split
  · rename_i h
    simp only [List.any_append, Bool.or_eq_false_iff]
    refine ⟨⟨?_, by simp [Grant.gives]⟩, ?_⟩
    · split
      · simp only [List.any_cons, List.any_nil, Bool.or_false, Grant.gives, Bool.and_eq_false_imp, Bool.and_eq_true, decide_eq_true_eq]
        omega
      · rfl
    · split
      · simp only [List.any_cons, List.any_nil, Bool.or_false, Grant.gives, Bool.and_eq_false_imp, Bool.and_eq_true, decide_eq_true_eq]
        omega
      · rfl
  · rename_i h
    simp only [List.any_cons, List.any_nil, Bool.or_false]
    refine Bool.eq_false_iff.mpr fun gives => h ?_
    simp only [Grant.gives, Bool.and_eq_true, decide_eq_true_eq] at gives ⊢
    obtain ⟨⟨⟨⟨⟨hs, hp⟩, below⟩, above⟩, live⟩, -⟩ := gives
    exact ⟨⟨⟨⟨hs, hp⟩, live⟩, by omega⟩, by omega⟩

theorem Grant.gives_iff {g : Grant} : g.gives slot p e rw = true ↔
    g.slot = slot ∧ g.part = p ∧ g.first ≤ e ∧ e < g.first + g.count ∧ g.drain = none ∧ (rw = true → g.rw = true) := by
  cases rw <;> simp [Grant.gives, and_assoc]

/-- Outside the run the records of a split one give what it gave. -/
theorem splitGrant_outside (out : e < first ∨ first + count ≤ e) (g : Grant) :
    (splitGrant slot p first count id g).any (Grant.gives slot p e rw) = g.gives slot p e rw := by
  unfold splitGrant
  split
  · rename_i h
    simp only [Bool.and_eq_true, decide_eq_true_eq] at h
    obtain ⟨⟨-, below⟩, above⟩ := h
    have lower : (if g.first < max first g.first then [{ g with count := max first g.first - g.first }] else []).any (Grant.gives slot p e rw) = true ↔
        g.gives slot p e rw = true ∧ e < first := by
      split
      · simp only [List.any_cons, List.any_nil, Bool.or_false, Grant.gives_iff]
        exact ⟨fun ⟨hs, hp, lo, hi, rest⟩ => ⟨⟨hs, hp, by omega, by omega, rest⟩, by omega⟩,
          fun ⟨⟨hs, hp, lo, hi, rest⟩, side⟩ => ⟨hs, hp, by omega, by omega, rest⟩⟩
      · simp only [List.any_nil, Bool.false_eq_true, false_iff, Grant.gives_iff]
        rintro ⟨⟨-, -, lo, hi, -⟩, side⟩
        omega
    have upper : (if min (first + count) (g.first + g.count) < g.first + g.count then [{ g with
          first := min (first + count) (g.first + g.count), count := g.first + g.count - min (first + count) (g.first + g.count) }] else []).any
        (Grant.gives slot p e rw) = true ↔ g.gives slot p e rw = true ∧ first + count ≤ e := by
      split
      · simp only [List.any_cons, List.any_nil, Bool.or_false, Grant.gives_iff]
        exact ⟨fun ⟨hs, hp, lo, hi, rest⟩ => ⟨⟨hs, hp, by omega, by omega, rest⟩, by omega⟩,
          fun ⟨⟨hs, hp, lo, hi, rest⟩, side⟩ => ⟨hs, hp, by omega, by omega, rest⟩⟩
      · simp only [List.any_nil, Bool.false_eq_true, false_iff, Grant.gives_iff]
        rintro ⟨⟨-, -, lo, hi, -⟩, side⟩
        omega
    rw [Bool.eq_iff_iff]
    dsimp only
    rw [List.any_append, List.any_append, Bool.or_eq_true, Bool.or_eq_true, lower, upper, List.any_cons, List.any_nil, Bool.or_false]
    have middle : ¬ Grant.gives slot p e rw { g with
        first := max first g.first, count := min (first + count) (g.first + g.count) - max first g.first, drain := some id } = true := by
      simp [Grant.gives]
    rw [or_iff_left middle]
    rw [← and_or_left, and_iff_left out]
  · exact Bool.or_false _

end

theorem any_flatMap_congr {α β : Type} {f : α → List β} {q : β → Bool} {r : α → Bool} (h : ∀ a, (f a).any q = r a) (l : List α) :
    (l.flatMap f).any q = l.any r := by
  induction l with
  | nil => rfl
  | cons a l ih => rw [List.flatMap_cons, List.any_append, ih, h, List.any_cons]

/-! ## Revokes -/

theorem Dev.startRevoke_coh (d : Dev) (slot p first count : Nat) (hs : List Adm) :
    (d.startRevoke slot p first count hs).coh = { d.coh with
      grants := d.splitGrants slot p first count
      revokes := d.coh.revokes ++ [⟨d.coh.nextOp, hs, slot, p, first, count, .v2⟩]
      nextOp := d.coh.nextOp + 1 } :=
  foldl_keeps Dev.coh (fun _ _ => markBlind_coh.toLogBlind.logState ..) _ _

theorem Dev.startRevoke_inside (d : Dev) {slot p first count : Nat} (hs : List Adm) {e : Nat} (lo : first ≤ e) (hi : e < first + count) (rw : Bool) :
    (d.startRevoke slot p first count hs).granted slot p e rw = false := by
  rw [Dev.granted_eq, Dev.startRevoke_coh]
  refine (any_flatMap_congr (splitGrant_inside lo hi) _).trans ?_
  simp

theorem Dev.startRevoke_outside (d : Dev) {slot p first count : Nat} (hs : List Adm) {e : Nat} (out : e < first ∨ first + count ≤ e) (rw : Bool) :
    (d.startRevoke slot p first count hs).granted slot p e rw = d.granted slot p e rw := by
  rw [Dev.granted_eq, Dev.startRevoke_coh]
  exact any_flatMap_congr (splitGrant_outside out) _

theorem Dev.revokeEnd_keeps {β : Type} {part : Dev → β} (hl : LogBlind part) (he : EvBlind part)
    (hc : ∀ (d : Dev) (x : Coh), part { d with coh := x } = part d) (d : Dev) (r : Revoke) : part (d.revokeEnd r) = part d := by
  refine (foldl_keeps part (fun t h => ?_) _ _).trans ((foldl_keeps part (fun t g => hl.logState ..) _ _).trans (hc ..))
  split
  · rfl
  · exact he.adminOk ..

theorem Dev.revokeEnd_coh (d : Dev) (r : Revoke) : (d.revokeEnd r).coh = { d.coh with
    grants := d.coh.grants.filter (fun g => g.drain != some r.id), revokes := d.coh.revokes.filter (fun x => x.id != r.id) } := by
  refine (foldl_keeps Dev.coh (fun t h => ?_) _ _).trans (foldl_keeps Dev.coh (fun t g => markBlind_coh.toLogBlind.logState ..) _ _)
  split
  · rfl
  · exact evBlind_coh.adminOk ..

theorem Dev.revokeEnd_mm (d : Dev) (r : Revoke) : (d.revokeEnd r).mm = d.mm :=
  Dev.revokeEnd_keeps ⟨fun _ _ => rfl, fun _ _ => rfl, fun _ _ _ => rfl, fun _ => rfl⟩ evBlind_mm (fun _ _ => rfl) ..

theorem Dev.revokeEnd_chs (d : Dev) (r : Revoke) : (d.revokeEnd r).chs = d.chs :=
  Dev.revokeEnd_keeps logBlind_chs evBlind_chs (fun _ _ => rfl) ..

/-- A notice is a message at most. -/
theorem Dev.notice_eq (d : Dev) (op slot first count acc : Nat) : ∃ os, d.notice op slot first count acc = { d with out := os } := by
  unfold Dev.notice
  dsimp only
  split
  · split
    · exact ⟨_, rfl⟩
    · exact ⟨d.out, rfl⟩
  · exact ⟨d.out, rfl⟩

/-- The recall of a revoke's lines where the directory is empty: the notice, and the revoke waits for nothing more. -/
theorem Dev.revokeRecall_empty {d : Dev} {r : Revoke} (dir : d.coh.dir = []) (native : slMode (d.slot r.slot) = 1)
    (alone : d.coh.revokes = [r]) :
    ∃ os, d.revokeRecall r = { d with out := os, coh := { d.coh with revokes := [{ r with st := .v4 }] } } := by
  obtain ⟨os, told⟩ := d.notice_eq opRevokeNotice r.slot r.first r.count 0
  refine ⟨os, ?_⟩
  have lines : ({ d with out := os } : Dev).revokeRecallLines r = { d with out := os } := by
    simp [Dev.revokeRecallLines, Dev.revokeLines, dir]
  unfold Dev.revokeRecall
  dsimp only
  rw [if_neg (by simp [native]), told, lines]
  simp [alone]

/-- The revoke whose records wait for their recalls ends where the directory is empty, with no CXL host to wait for. -/
theorem Dev.revokeStep_ends {d : Dev} {r : Revoke} (alone : d.coh.revokes = [r]) (dir : d.coh.dir = []) (recalls : d.coh.recalls = [])
    (waits : r.st = .v4) (native : slMode (d.slot r.slot) = 1) : d.revokeStep = d.revokeEnd r := by
  have lines : d.revokeLines r = [] := by simp [Dev.revokeLines, dir]
  have recalling : d.revokeRecalling r = false := by simp [Dev.revokeRecalling, recalls]
  simp [Dev.revokeStep, alone, lines, recalling, waits, native]

theorem Dev.revokeRecall_settle {d : Dev} {r : Revoke} (alone : d.coh.revokes = [r]) (dir : d.coh.dir = []) (recalls : d.coh.recalls = [])
    (held : d.mm.held = []) (clearing : d.mm.clearing = []) (migs : d.mm.migs = []) (wrote : d.chs.wrote = [])
    (started : ∀ e ∈ d.chs.chans, e.2.restart = none) (native : slMode (d.slot r.slot) = 1) :
    (d.revokeRecall r).settle.coh.revokes = [] ∧
    (d.revokeRecall r).settle.coh.grants = d.coh.grants.filter (fun g => g.drain != some r.id) := by
  obtain ⟨os, recalled⟩ := Dev.revokeRecall_empty dir native alone
  let u : Dev := { d with out := os, coh := { d.coh with revokes := [{ r with st := .v4 }] } }
  have ended : u.revokeStep = u.revokeEnd { r with st := .v4 } := Dev.revokeStep_ends rfl dir recalls rfl native
  have mm : (u.revokeEnd { r with st := .v4 }).mm = d.mm := Dev.revokeEnd_mm ..
  have chs : (u.revokeEnd { r with st := .v4 }).chs = d.chs := Dev.revokeEnd_chs ..
  have coh := Dev.revokeEnd_coh u { r with st := .v4 }
  have gone : (u.revokeEnd { r with st := .v4 }).coh.revokes = [] := by
    rw [coh]
    simp [u]
  have cleared : (u.revokeEnd { r with st := .v4 }).clearStep = u.revokeEnd { r with st := .v4 } := by simp [Dev.clearStep, mm, clearing]
  have done : u.settle = u.revokeEnd { r with st := .v4 } := by
    refine Dev.settle_steps held (by rw [ended, cleared]) ⟨by rw [mm, held], by rw [mm, clearing], gone, ?_, by rw [chs, wrote], by rw [chs]; exact started⟩
    simp [mm, migs]
  rw [recalled]
  change u.settle.coh.revokes = [] ∧ u.settle.coh.grants = _
  rw [done]
  exact ⟨gone, by rw [coh]⟩

/-! ## An export taken back -/

/-- The job of a withdrawal at its start. -/
def withdrawJob (h : Adm) (p obj : Nat) (o : Obj) : Clear := ⟨.withdraw, p, obj, o.ext, o.n, false, 0, some h⟩

/-- The mark of an export taken away. -/
def Obj.unexported (o : Obj) : Obj := { o with exported := none }

theorem evBlind_calm : EvBlind Dev.calm := ⟨fun _ _ _ => rfl, fun _ _ => rfl, fun _ _ => rfl, fun _ _ => rfl⟩

/-- A withdrawal that nothing holds back, on a device whose directory is empty. -/
theorem Dev.clearOne_withdraw {d : Dev} {c : Clear} {o : Obj} {h : Adm} (kind : c.kind = .withdraw) (ready : d.clearReady c = true)
    (there : d.obj c.part c.num = some o) (caller : c.h = some h) (dir : d.coh.dir = []) :
    d.clearOne c = ((d.putClear c none).modObj c.part c.num Obj.unexported).adminOk h 0 := by
  have recalled (n : Nat) : d.recallRange c.part (o.ext * 2 ^ 24) n = d := by simp [Dev.recallRange, dir]
  have listed : d.dirIn c = [] := by simp [Dev.dirIn, dir]
  unfold Dev.clearOne
  simp only [kind, ready, there, caller, recalled, listed, if_true, ite_self, List.any_nil, List.foldl_nil, Bool.and_false, Bool.false_eq_true, if_false]
  rfl

section
variable {d : Dev} {p obj : Nat} {o : Obj} (h : Adm) (quiet : d.quiet) (there : d.obj p obj = some o)
  (lone : ∀ e ∈ d.mm.objs, e.2.aliasOf ≠ some (p, obj))
include quiet there lone

theorem Dev.withdrawDo_job (own : o.aliasOf = none) :
    d.withdrawDo h p obj = Dev.settle { d with mm := { d.mm with clearing := [withdrawJob h p obj o] } } := by
  obtain ⟨-, clearing, -⟩ := quiet
  have tree : d.aliasTree p obj = [] := by
    have bare : d.mm.objs.filter (fun e => e.2.aliasOf == some (p, obj)) = [] :=
      List.filter_eq_nil_iff.mpr fun e he => by simpa using lone e he
    rw [Dev.aliasTree, bare]
    rfl
  have added : d.addClear .withdraw (some h) (p, obj) = { d with mm := { d.mm with clearing := [withdrawJob h p obj o] } } := by
    simp [Dev.addClear, there, own, clearing, withdrawJob]
  rw [Dev.withdrawDo, tree]
  exact congrArg Dev.settle added

/-- The job of a withdrawal ends with the first event where no alias and no line of the directory is left. -/
theorem Dev.withdrawDo_done (own : o.aliasOf = none) (migs : d.mm.migs = []) (dir : d.coh.dir = []) :
    d.withdrawDo h p obj = (d.modObj p obj Obj.unexported).adminOk h 0 := by
  obtain ⟨held, clearing, revokes, -⟩ := id quiet
  let u : Dev := { d with mm := { d.mm with clearing := [withdrawJob h p obj o] } }
  have ready : u.clearReady (withdrawJob h p obj o) = true := by
    have noAlias : ∀ e ∈ u.mm.objs, ¬ e.2.aliasOf = some (p, obj) := lone
    have noRevokes : u.coh.revokes = [] := revokes
    simpa [Dev.clearReady, withdrawJob, noRevokes] using fun n o he => noAlias (n, o) he
  have gone : u.putClear (withdrawJob h p obj o) none = d := by
    have bare : d.mm = { d.mm with clearing := [] } := by rw [← clearing]
    simp only [Dev.putClear, u, List.flatMap_cons, beq_self_eq_true, if_true, Option.toList_none, List.flatMap_nil, List.append_nil]
    rw [← bare]
  have step : u.clearOne (withdrawJob h p obj o) = (d.modObj p obj Obj.unexported).adminOk h 0 := by
    rw [Dev.clearOne_withdraw rfl ready there rfl dir, gone]
    rfl
  rw [Dev.withdrawDo_job h quiet there lone own]
  refine Dev.settle_steps (d := u) held ?_ (Dev.quiet_of_calm quiet migs (evBlind_calm.adminOk ..))
  have still : u.revokeStep = u := by
    have noRevokes : u.coh.revokes = [] := revokes
    rw [Dev.revokeStep, noRevokes]
    rfl
  rw [still]
  exact step

end

/-! ## The commands -/

/-- The revokes to which a command is added are those whose numbers are listed. -/
def Revoke.joins (ids : List Nat) (a : Adm) (v : Revoke) : Revoke := if ids.contains v.id then { v with hs := v.hs ++ [a] } else v

theorem map_joins_nil (a : Adm) (l : List Revoke) : l.map (Revoke.joins [] a) = l :=
  (List.map_congr_left fun _ _ => if_neg Bool.false_ne_true).trans (List.map_id' l)

/-- The revokes of a run, as REVOKE leaves them before it starts its own (R131). -/
def Dev.joined (d : Dev) (h : Adm) (slot count first : Nat) : Dev :=
  { d with coh := { d.coh with
      revokes := d.coh.revokes.map (Revoke.joins ((d.grantsOver slot h.fn.num first count).filterMap (fun g => g.drain)) h) } }

section
variable {d : Dev} {h : Adm} {slot count first : Nat}

theorem Dev.joined_undrained (undrained : ∀ g ∈ d.grantsOver slot h.fn.num first count, g.drain = none) : d.joined h slot count first = d := by
  have ids : (d.grantsOver slot h.fn.num first count).filterMap (fun g => g.drain) = [] := List.filterMap_eq_nil_iff.mpr undrained
  rw [Dev.joined, ids, map_joins_nil]

theorem Dev.revokeDo_idle (empty : d.grantsOver slot h.fn.num first count = []) : d.revokeDo h slot count first = d.adminOk h 0 := by
  unfold Dev.revokeDo
  dsimp only
  rw [empty]
  refine (if_neg (by simp)).trans ((if_pos (by simp)).trans rfl)

theorem Dev.revokeDo_joins (met : d.grantsOver slot h.fn.num first count ≠ []) (drains : ∀ g ∈ d.grantsOver slot h.fn.num first count, g.drain ≠ none) :
    d.revokeDo h slot count first = d.joined h slot count first := by
  obtain ⟨g, hg⟩ := List.exists_mem_of_ne_nil _ met
  have all : (d.grantsOver slot h.fn.num first count).any (fun g => g.drain.isNone) = false :=
    List.any_eq_false.mpr fun g hg => by simpa using drains g hg
  obtain ⟨id, hid⟩ := Option.ne_none_iff_exists'.mp (drains g hg)
  have ids : id ∈ (d.grantsOver slot h.fn.num first count).filterMap (fun g => g.drain) := List.mem_filterMap.mpr ⟨g, hg, hid⟩
  unfold Dev.revokeDo
  dsimp only
  rw [all]
  exact (if_neg (by simp)).trans (if_neg fun empty => by simp_all)

theorem Dev.revokeDo_starts (met : d.grantsOver slot h.fn.num first count ≠ []) (undrained : ∀ g ∈ d.grantsOver slot h.fn.num first count, g.drain = none) :
    d.revokeDo h slot count first = d.startRevoke slot h.fn.num first count [h] := by
  obtain ⟨g, hg⟩ := List.exists_mem_of_ne_nil _ met
  have fresh : (d.grantsOver slot h.fn.num first count).any (fun g => g.drain.isNone) = true :=
    List.any_eq_true.mpr ⟨g, hg, by simp [undrained g hg]⟩
  unfold Dev.revokeDo
  dsimp only
  rw [if_pos fresh]
  exact congrArg (fun u : Dev => u.startRevoke slot h.fn.num first count [h]) (Dev.joined_undrained undrained)

end

/-- Settles O21: each command is carried out at once when its turn has come; what a split leaves of the grants is read extent by extent;
and on a device at rest the first event ends a withdrawal, and a revoke whose host has nothing to give back. -/
theorem sharingAndGrants : Obligations.SharingAndGrants := by
  unfold Obligations.SharingAndGrants
  refine fun s h => ⟨fun obj acc o turn there => ?_, fun obj o turn quiet there lone own migs dir => ?_, fun al owner acc oobj off o turn there => ?_,
    fun slot acc count first turn checked => ⟨fun native => ?_, fun cxl => ?_⟩,
    fun slot count first turn checked => ⟨fun empty => ?_, fun met drains => ?_, fun met undrained => ?_⟩,
    fun r found => ⟨fun st busy => ?_, fun st alone held clearing dir recalls migs wrote started holds native => ?_, fun st => ?_, fun st => ?_⟩⟩
  · refine ⟨_, congrArg (ok s) (Dev.objAdmin_turn turn), ?_, rfl⟩
    exact (Dev.obj_modObj_self ..).trans (by rw [there]; rfl)
  · refine ⟨_, congrArg (ok s) ((Dev.objAdmin_turn turn).trans (Dev.withdrawDo_done _ quiet there lone own migs dir)), ?_, rfl⟩
    exact (Dev.obj_modObj_self ..).trans (by rw [there]; rfl)
  · refine congrArg (ok s) ((Dev.objAdmin_turn turn).trans ?_)
    change Dev.importDo _ _ _ _ _ _ _ _ = _
    rw [Dev.importDo, there]
    rfl
  · exact congrArg (ok s) ((Dev.admin_try turn (fun h d => d.grantDo h slot acc count first) checked).trans (if_neg (by simpa using native)))
  · exact congrArg (ok s) ((Dev.admin_try turn (fun h d => d.grantDo h slot acc count first) checked).trans (if_pos (by simpa using cxl)))
  · exact congrArg (ok s) ((Dev.admin_try turn (fun h d => d.revokeDo h slot count first) checked).trans (Dev.revokeDo_idle empty))
  · exact congrArg (ok s) ((Dev.admin_try turn (fun h d => d.revokeDo h slot count first) checked).trans (Dev.revokeDo_joins met drains))
  · refine ⟨_, congrArg (ok s) ((Dev.admin_try turn (fun h d => d.revokeDo h slot count first) checked).trans (Dev.revokeDo_starts met undrained)),
      by rw [Dev.startRevoke_coh]; rfl, fun e lo hi => Dev.startRevoke_inside _ _ lo hi _, fun e rw out => Dev.startRevoke_outside _ _ out rw⟩
  · refine congrArg (ok s) ?_
    rw [Dev.revokeDrained, found]
    exact if_pos (by simp [st, busy])
  · have busy : s.dev.revokeBusy r = false := by simp [Dev.revokeBusy, held, holds]
    refine ⟨_, congrArg (ok s) (a₂ := (s.dev.revokeRecall r).settle) ?_,
      Dev.revokeRecall_settle alone dir recalls held clearing migs wrote started native⟩
    rw [Dev.revokeDrained, found]
    exact if_pos (by simp [st, busy])
  · refine congrArg (ok s) ?_
    rw [Dev.releaseExpired, found]
    exact if_pos (by simp [st])
  · refine congrArg (ok s) ?_
    rw [Dev.releaseExpired, found]
    exact if_neg (by simpa using st)

end Sys2Proof.Machine
end

section
/-! O20: the commands of views and seals. -/
namespace Sys2Proof.Machine

/-! ## Objects put in and changed -/

@[simp] theorem Dev.obj_setObj_self (d : Dev) (p n : Nat) (o : Obj) : (d.setObj p n o).obj p n = some o := kfind_kput_self ..

theorem Dev.obj_setObj_ne (d : Dev) {q m p n : Nat} (o : Obj) (h : q * 2 ^ 16 + m ≠ p * 2 ^ 16 + n) : (d.setObj p n o).obj q m = d.obj q m :=
  kfind_kput_ne _ _ h

theorem Dev.obj_modObj_ne (d : Dev) {q m p n : Nat} (f : Obj → Obj) (h : q * 2 ^ 16 + m ≠ p * 2 ^ 16 + n) : (d.modObj p n f).obj q m = d.obj q m :=
  kfind_kmod_ne _ _ h

/-! ## VIEW_SET -/

section
variable {d : Dev} {p obj : Nat} {o : Obj} (there : d.obj p obj = some o)
include there

theorem Dev.viewSetDo_raw (h : Adm) (fmt : Nat) : d.viewSetDo h p obj 1 fmt = (d.setKind p obj o 1 fmt).adminOk h 0 := by
  rw [Dev.viewSetDo, there]
  rfl

theorem Dev.viewSetDo_drained {kind : Nat} (other : kind ≠ 1) (h : Adm) (fmt : Nat) (out : (d.stopThMoves p o).thPagesOf p o = []) :
    d.viewSetDo h p obj kind fmt = ((d.stopThMoves p o).setKind p obj o kind fmt).adminOk h 0 := by
  rw [Dev.viewSetDo, there]
  dsimp only
  rw [show (if kind == 1 then d else d.stopThMoves p o) = d.stopThMoves p o from if_neg (by simpa using other), if_pos (by simp [out])]

theorem Dev.viewSetDo_drains {kind : Nat} (other : kind ≠ 1) (h : Adm) (fmt : Nat) (stay : (d.stopThMoves p o).thPagesOf p o ≠ []) :
    d.viewSetDo h p obj kind fmt =
      ((d.stopThMoves p o).setObj p obj { o with viewTo := some (kind, fmt, h) }).viewDrain p obj { o with viewTo := some (kind, fmt, h) } h := by
  rw [Dev.viewSetDo, there]
  dsimp only
  rw [show (if kind == 1 then d else d.stopThMoves p o) = d.stopThMoves p o from if_neg (by simpa using other), if_neg (by simp [other, stay])]

theorem Dev.viewDrained_done {kind fmt : Nat} {a : Adm} (goes : o.viewTo = some (kind, fmt, a))
    (out : ∀ e ∈ d.pagesOf p o, ∀ x, e.2.home = some x ∨ d.finalHome e.1 e.2 = some x → x.tier ≠ .th) :
    d.viewDrained p obj = (d.setKind p obj o kind fmt).adminOk a 0 := by
  rw [Dev.viewDrained, there]
  dsimp only
  rw [goes]
  refine if_neg ?_
  simpa [or_imp, forall_and] using fun k x he y hy => out (k, x) he y hy

end

/-! ## DELTA_SEAL -/

/-- What a seal that starts finds out: whether the object holds no poisoned block. -/
def Obj.startSeal (clean : Bool) (o : Obj) : Obj := { o with sealing := o.sealing.map (fun x => { x with started := true, clean := clean }) }

/-- One waiting seal started while fewer than 4 run. -/
def Dev.startSeal (d : Dev) (e : Nat × Nat) : Dev :=
  if d.sealsRunning < 4 then d.modObj (e.2 / 2 ^ 16) (e.2 % 2 ^ 16) (fun o => o.startSeal (!d.objPoison (e.2 / 2 ^ 16) o)) else d

/-- The waiting seals: order number and key of the object. -/
def Dev.sealsWaiting (d : Dev) : List (Nat × Nat) :=
  d.mm.objs.filterMap (fun e => e.2.sealing.bind (fun x => if x.started then none else some (x.ord, e.1)))

theorem Dev.startSeals_eq (d : Dev) : d.startSeals = (sortBy (fun a b => a.1 < b.1) d.sealsWaiting).foldl Dev.startSeal d := rfl

theorem Dev.objPoison_congr {d t : Dev} (pages : t.mm.pages = d.mm.pages) (blocks : t.mm.blocks = d.mm.blocks) (p : Nat) {o u : Obj}
    (ext : u.ext = o.ext) (n : u.n = o.n) : t.objPoison p u = d.objPoison p o := by
  simp only [Dev.objPoison, Dev.pagesOf, Dev.anyPoison, pages, blocks, ext, n]

/-- A seal accepted, before it starts. -/
def Dev.sealAsked (d : Dev) (p obj : Nat) (x : Seal) : Dev :=
  { d.modObj p obj (fun o => { o with sealing := some x }) with coh := { d.coh with nextOp := d.coh.nextOp + 1 } }

theorem Dev.mem_sealAsked {d : Dev} {p obj : Nat} {x : Seal} {e : Nat × Obj} (idle : ∀ e ∈ d.mm.objs, e.2.sealing = none) (he : e ∈ (d.sealAsked p obj x).mm.objs) :
    (e.1 = p * 2 ^ 16 + obj ∧ e.2.sealing = some x) ∨ e.2.sealing = none := by
  obtain ⟨e0, mem, rfl⟩ := List.mem_map.mp
    (show e ∈ kmod (p * 2 ^ 16 + obj) (fun o => { o with sealing := some x }) d.mm.objs from he)
  dsimp only
  split
  · rename_i hk
    exact .inl ⟨hk, rfl⟩
  · exact .inr (idle e0 mem)

section
variable {d : Dev} {p obj : Nat} (small : obj < 2 ^ 16)
include small

theorem Dev.startSeal_at {e : Nat × Nat} (key : e.2 = p * 2 ^ 16 + obj) (room : d.sealsRunning < 4) :
    d.startSeal e = d.modObj p obj (fun o => o.startSeal (!d.objPoison p o)) := by
  have part : e.2 / 2 ^ 16 = p := by omega
  have num : e.2 % 2 ^ 16 = obj := by omega
  rw [Dev.startSeal, if_pos room, part, num]

/-- A seal that has started once is not changed by being started again. -/
theorem Dev.startSeals_again {o : Obj} {clean : Bool} {l : List (Nat × Nat)} (keys : ∀ e ∈ l, e.2 = p * 2 ^ 16 + obj)
    (there : d.obj p obj = some (o.startSeal clean)) (poison : (!d.objPoison p o) = clean) :
    (l.foldl Dev.startSeal d).obj p obj = some (o.startSeal clean) := by
  induction l generalizing d with
  | nil => exact there
  | cons e l ih =>
    refine ih (fun x hx => keys x (List.mem_cons_of_mem _ hx)) ?_ ?_
    · by_cases room : d.sealsRunning < 4
      · have same : d.objPoison p (o.startSeal clean) = d.objPoison p o := Dev.objPoison_congr rfl rfl p rfl rfl
        rw [Dev.startSeal_at small (keys e List.mem_cons_self) room, Dev.obj_modObj_self, there, Option.map_some, same, poison]
        simp [Obj.startSeal, Function.comp_def]
      · rw [Dev.startSeal, if_neg room, there]
    · rw [← poison]
      refine congrArg (!·) ?_
      unfold Dev.startSeal
      split
      · exact Dev.objPoison_congr rfl rfl p rfl rfl
      · rfl

theorem Dev.startSeals_first {o : Obj} (keys : ∀ e ∈ d.sealsWaiting, e.2 = p * 2 ^ 16 + obj) (waits : d.sealsWaiting ≠ [])
    (idle : d.sealsRunning = 0) (there : d.obj p obj = some o) : d.startSeals.obj p obj = some (o.startSeal (!d.objPoison p o)) := by
  have sorted : ∀ e ∈ sortBy (fun a b : Nat × Nat => decide (a.1 < b.1)) d.sealsWaiting, e.2 = p * 2 ^ 16 + obj :=
    fun e he => keys e ((mem_sortBy ..).mp he)
  obtain ⟨w, hw⟩ := List.exists_mem_of_ne_nil _ waits
  rw [Dev.startSeals_eq]
  cases hl : sortBy (fun a b : Nat × Nat => decide (a.1 < b.1)) d.sealsWaiting with
  | nil => exact absurd ((mem_sortBy ..).mpr hw) (by rw [hl]; exact List.not_mem_nil)
  | cons e l =>
    rw [hl] at sorted
    rw [List.foldl_cons, Dev.startSeal_at small (sorted e List.mem_cons_self) (by omega)]
    refine Dev.startSeals_again small (fun x hx => sorted x (List.mem_cons_of_mem _ hx)) ?_ (congrArg (!·) (Dev.objPoison_congr rfl rfl p rfl rfl))
    rw [Dev.obj_modObj_self, there, Option.map_some]

/-- A seal on a device that seals nothing starts at once. -/
theorem Dev.sealDo_first {o : Obj} (there : d.obj p obj = some o) (idle : ∀ e ∈ d.mm.objs, e.2.sealing = none) (h : Adm) (base fmt mode sectors : Nat) :
    (d.sealDo h p obj base fmt mode sectors).obj p obj =
      some { o with sealing := some ⟨d.coh.nextOp, h, fmt, mode, sectors, base, true, !d.objPoison p o⟩ } := by
  let x : Seal := ⟨d.coh.nextOp, h, fmt, mode, sectors, base, false, true⟩
  have asked : (d.sealAsked p obj x).obj p obj = some { o with sealing := some x } :=
    (Dev.obj_modObj_self ..).trans (by rw [there]; rfl)
  have keys : ∀ e ∈ (d.sealAsked p obj x).sealsWaiting, e.2 = p * 2 ^ 16 + obj := by
    intro e he
    obtain ⟨e0, mem, hw⟩ := List.mem_filterMap.mp he
    obtain ⟨key, -⟩ | none := Dev.mem_sealAsked idle mem
    · obtain ⟨y, -, hy⟩ := Option.bind_eq_some_iff.mp hw
      split at hy
      · cases hy
      · cases hy
        exact key
    · rw [none] at hw
      cases hw
  have waits : (d.sealAsked p obj x).sealsWaiting ≠ [] :=
    List.ne_nil_of_mem (List.mem_filterMap.mpr ⟨_, kfind_mem asked, rfl⟩)
  have room : (d.sealAsked p obj x).sealsRunning = 0 := countBy_none fun e he => by
    obtain ⟨-, sealing⟩ | none := Dev.mem_sealAsked idle he
    · simp [Obj.sealStarted, sealing, x]
    · simp [Obj.sealStarted, none]
  refine (Dev.startSeals_first small keys waits room asked).trans ?_
  have same : (d.sealAsked p obj x).objPoison p { o with sealing := some x } = d.objPoison p o := Dev.objPoison_congr rfl rfl p rfl rfl
  rw [same]
  rfl

end

section
variable {d : Dev} {p obj : Nat} {o : Obj} {x : Seal} (there : d.obj p obj = some o) (seals : o.sealing = some x) (started : x.started = true)
  (unlocked : d.sealLocked p o = false) (room : d.sealCapped p o (d.rd (K.migrationClass + p)) = false)
include there seals started unlocked room

theorem Dev.sealDone_poisoned (poison : d.objPoison p o = true) : d.sealDone p obj = d.sealPoisoned p obj o x := by
  rw [Dev.sealDone, there]
  dsimp only
  rw [seals]
  dsimp only
  rw [if_neg (by simp [started, unlocked]), if_neg (by simp [room]), if_pos poison]

/-- The object of a seal that has ended: a DELTA_STORE. -/
def Dev.sealedObject (d : Dev) (p : Nat) (o : Obj) (x : Seal) : Obj :=
  { o with
    kind := 6, fmt := x.fmt, declMode := x.mode, declSectors := if x.mode == 0 then x.sectors else 0, base := x.base, sealing := none,
    codes := d.sealCodes p o }

theorem Dev.sealDone_clean (clean : d.objPoison p o = false) : d.sealDone p obj =
    (((((d.sealChunks p o (d.sealCodes p o) (d.homedChunks p o)).setObj p obj (d.sealedObject p o x)).adminOk x.h 0).startSeals)).settle := by
  rw [Dev.sealDone, there]
  dsimp only
  rw [seals]
  dsimp only
  rw [if_neg (by simp [started, unlocked]), if_neg (by simp [room]), if_neg (by simp [clean])]
  rfl

end

/-! ## ACCEPT_STALE -/

/-- Entries of the directory freed one after another. -/
def Dev.dirFree (d : Dev) (l : List (Nat × DirE)) : Dev := l.foldl (fun d e => (d.dirDel e.1).dirLog e.1) d

theorem logBlind_mm : LogBlind Dev.mm := ⟨fun _ _ => rfl, fun _ _ => rfl, fun _ _ _ => rfl, fun _ => rfl⟩

theorem Dev.dirFree_mm (d : Dev) (l : List (Nat × DirE)) : (d.dirFree l).mm = d.mm := by
  have step (t : Dev) (e : Nat × DirE) : ((t.dirDel e.1).dirLog e.1).mm = t.mm := logBlind_mm.dirLog ..
  exact foldl_keeps Dev.mm step l d

theorem Dev.dirGet_dirFree (k : Nat) (l : List (Nat × DirE)) (d : Dev) :
    (d.dirFree l).dirGet k = if k ∈ l.map (fun e => e.1) then none else d.dirGet k := by
  induction l generalizing d with
  | nil => rfl
  | cons e l ih =>
    refine (ih _).trans ?_
    rw [Dev.dirGet_dirLog]
    by_cases hk : k = e.1
    · subst hk
      simp
    · have later : k ∈ (e :: l).map (fun e => e.1) ↔ k ∈ l.map (fun e => e.1) := by
        rw [List.map_cons, List.mem_cons, or_iff_right hk]
      rw [Dev.dirGet_dirDel_ne _ hk]
      simp only [later]

/-- In a list whose keys differ an entry is what its key finds. -/
theorem kfind_eq_some_iff {α : Type} {m : List (Nat × α)} (nodup : (m.map (fun e => e.1)).Nodup) {k : Nat} {v : α} :
    kfind k m = some v ↔ (k, v) ∈ m := by
  refine ⟨kfind_mem, fun mem => ?_⟩
  induction m with
  | nil => cases mem
  | cons e m ih =>
    obtain ⟨fresh, nodup⟩ := List.nodup_cons.mp nodup
    obtain rfl | mem := List.mem_cons.mp mem
    · exact if_pos rfl
    · exact (if_neg fun h => fresh (List.mem_map.mpr ⟨_, mem, h⟩)).trans (ih nodup mem)

/-- Whether a line is an orphaned one of a run. -/
def staleLine (a count : Nat) (e : Nat × DirE) : Bool := a ≤ e.1 && e.1 < a + count && e.2.st == .orph

theorem Dev.dirGet_stale {d : Dev} (nodup : (d.coh.dir.map (fun e => e.1)).Nodup) (a count k : Nat) :
    (d.dirFree (d.coh.dir.filter (staleLine a count))).dirGet k = (match d.dirGet k with
      | some e => if e.st = .orph ∧ a ≤ k ∧ k < a + count then none else some e
      | none => none) := by
  rw [Dev.dirGet_dirFree]
  cases he : d.dirGet k with
  | none => exact ite_self _
  | some e =>
    have listed : k ∈ (d.coh.dir.filter (staleLine a count)).map (fun e => e.1) ↔ e.st = .orph ∧ a ≤ k ∧ k < a + count := by
      simp only [List.mem_map, List.mem_filter, staleLine, Bool.and_eq_true, decide_eq_true_eq, beq_iff_eq]
      constructor
      · rintro ⟨⟨j, e'⟩, ⟨mem, ⟨lo, hi⟩, orph⟩, rfl⟩
        have same : some e' = some e := ((kfind_eq_some_iff nodup).mpr mem).symm.trans he
        cases same
        exact ⟨orph, lo, hi⟩
      · rintro ⟨orph, lo, hi⟩
        exact ⟨(k, e), ⟨kfind_mem he, ⟨lo, hi⟩, orph⟩, rfl⟩
    simp only [listed]

/-! ## VIEW_CREATE -/

/-- The window that VIEW_CREATE puts in. -/
def Dev.newWindow (d : Dev) (p kind fmt v off backing stoch : Nat) : Obj :=
  { newObj (off / 2 ^ 30) v 0 0 0 with
    kind := kind, fmt := fmt, stoch := stoch == 1, backing := backing
    base := match d.obj p backing with
      | some b => if kind == 5 then b.base else 0
      | none => 0
    scalePage := if kind == 4 then scalePage fmt v else 0 }

/-- A FIXED backing of kind TRANSPARENT becomes RAW (R85). -/
def Obj.backFixed (b : Obj) : Obj := if b.kind == 0 then { b with kind := 1 } else b

/-- The device with the window put in, and its backing as it is then. -/
def Dev.windowPut (d : Dev) (p win kind backing : Nat) (w : Obj) : Dev :=
  if kind == 4 then (d.setObj p win w).modObj p backing Obj.backFixed else d.setObj p win w

theorem Dev.viewCreateDo_eq (d : Dev) (h : Adm) (p win kind fmt v off backing stoch : Nat) :
    d.viewCreateDo h p win kind fmt v off backing stoch =
      (d.windowPut p win kind backing (d.newWindow p kind fmt v off backing stoch)).adminOk h 0 := rfl

section
variable {d : Dev} {p win backing : Nat} (apart : win ≠ backing) (kind : Nat) (w : Obj)
include apart

theorem Dev.windowPut_window : (d.windowPut p win kind backing w).obj p win = some w := by
  unfold Dev.windowPut
  split
  · rw [Dev.obj_modObj_ne _ _ (by omega), Dev.obj_setObj_self]
  · exact Dev.obj_setObj_self ..

theorem Dev.windowPut_backing : (d.windowPut p win kind backing w).obj p backing =
    if kind = 4 then (d.obj p backing).map Obj.backFixed else d.obj p backing := by
  have kept : (d.setObj p win w).obj p backing = d.obj p backing := Dev.obj_setObj_ne _ _ (by omega)
  unfold Dev.windowPut
  by_cases fixed : kind = 4
  · rw [if_pos (by simp [fixed]), if_pos fixed, Dev.obj_modObj_self, kept]
  · rw [if_neg (by simp [fixed]), if_neg fixed, kept]

end

theorem Dev.windowPut_objs (d : Dev) (p win kind backing : Nat) (w : Obj) :
    d.windowPut p win kind backing w = { d with mm := { d.mm with objs := (d.windowPut p win kind backing w).mm.objs } } := by
  unfold Dev.windowPut
  split <;> rfl

theorem Obj.backFixed_kind (b : Obj) : b.backFixed.kind = if b.kind = 0 then 1 else b.kind := by
  unfold Obj.backFixed
  by_cases h : b.kind = 0 <;> simp [h]

/-! ## The commands -/

/-- Settles O20: a command whose turn has come is its effect; the two numbers of a new window stand apart; the one seal that waits on a
device without seals is started, however often its object is listed; and where the lines of the directory differ each stale one is
found and freed. -/
theorem viewCommands : Obligations.ViewCommands := by
  unfold Obligations.ViewCommands
  refine fun s h => ⟨fun obj kind fmt o turn there => ⟨fun raw => ?_, fun other => ⟨fun out => ?_, fun stay => ?_⟩⟩,
    fun q obj kind fmt a o there goes out => ?_,
    fun win kind fmt v off backing stoch _ _ apart turn => ?_,
    fun obj base fmt mode sectors o small turn there idle => ?_,
    fun q obj o x small there seals started unlocked room => ⟨fun poison => ⟨?_, fun dirty => ?_⟩, fun clean => ?_⟩,
    fun count off turn nodup => ?_⟩
  · subst raw
    exact congrArg (ok s) ((Dev.objAdmin_turn turn).trans (Dev.viewSetDo_raw there ..))
  · exact congrArg (ok s) ((Dev.objAdmin_turn turn).trans (Dev.viewSetDo_drained there other _ _ out))
  · exact congrArg (ok s) ((Dev.objAdmin_turn turn).trans (Dev.viewSetDo_drains there other _ _ stay))
  · exact congrArg (ok s) (Dev.viewDrained_done there goes out)
  · refine ⟨_, _, congrArg (ok s) ((Dev.objAdmin_turn turn).trans (Dev.viewCreateDo_eq ..)), Dev.windowPut_window apart .., rfl, rfl, rfl, rfl, rfl,
      rfl, fun fixed => ⟨?_, ?_⟩, fun delta => ⟨?_, ?_⟩, Dev.windowPut_objs ..⟩
    · exact if_pos (by simp [fixed])
    · rw [Dev.windowPut_backing apart, if_pos fixed, Option.map_map]
      exact congrArg (Option.map · _) (funext Obj.backFixed_kind)
    · subst delta
      cases hb : (s.dev.admFetch h).obj h.fn.num backing <;> simp [Dev.newWindow, hb]
    · rw [Dev.windowPut_backing apart, if_neg (by omega)]
  · exact ⟨_, congrArg (ok s) (Dev.objAdmin_turn turn), Dev.sealDo_first small there idle ..⟩
  · exact congrArg (ok s) (Dev.sealDone_poisoned there seals started unlocked room poison)
  · rw [Dev.sealPoisoned, if_neg (by simp [dirty])]
  · refine ⟨_, _, congrArg (ok s) (Dev.sealDone_clean there seals started unlocked room clean), Dev.obj_setObj_self .., rfl, rfl, rfl, rfl, rfl, ?_, rfl,
      rfl, ?_⟩
    · simp [Dev.sealedObject]
    · simp [Dev.sealedObject, Dev.sealCodes]
  · exact ⟨_, congrArg (ok s) (Dev.objAdmin_turn turn), Dev.dirFree_mm .., Dev.dirGet_stale nodup _ _⟩

end Sys2Proof.Machine
end

section
/-! O19: the statement has every index space issue its lowest index that was never issued, also where the partner has claimed it. -/
namespace Sys2Proof.Machine

/-- An index space of which index 0 was claimed by the partner and none issued. -/
def claimedSpace : IdxSpace := IdxSpace.reset.claim 0 1

/-- What it issues is index 1. -/
theorem claimedSpace_issue : claimedSpace.issue = some (1, { claimedSpace with fresh := 2, skip := [], gens := [(0, 1), (1, 1)] }) := by
  decide

/-- Refutes O19: an index space whose lowest index was claimed passes it over and issues the next one, while the statement names the lowest
one for every space. -/
theorem not_objectCommands : ¬ Obligations.ObjectCommands := by
  unfold Obligations.ObjectCommands
  intro h
  obtain ⟨-, -, ⟨-, -, issues⟩, -⟩ := h
  obtain ⟨-, -, lowest, -⟩ := issues claimedSpace _ 1 claimedSpace_issue
  obtain ⟨first, -⟩ := lowest (by decide)
  exact absurd first (by decide)

end Sys2Proof.Machine
end

section
/-! The canonical form of the stored bytes: what keeps it, by the shapes of which the model's functions are built. -/
namespace Sys2Proof.Machine

/-! ## The invariant -/

/-- The stored bytes of a device have their canonical form. -/
def Dev.Canon (d : Dev) : Prop := Memory.wf d.mm.cells = true

/-- The same of the device that an operation may give. -/
def Dev.CanonOf (o : Option Dev) : Prop := ∀ t, o = some t → t.Canon

/-- The same of the device of a verdict. -/
def Verdict.Canon : Verdict → Prop
  | .done d => d.Canon
  | .hold _ d => d.Canon

/-- The same of the outcome of an access. -/
def ChAcc.Canon : ChAcc → Prop
  | .wait d => d.Canon
  | .fail d _ _ => d.Canon
  | .done d _ _ => d.Canon

/-- The same of what an instruction of a stage program does to the device. -/
def SRes.Canon : SRes → Prop
  | .dev d => d.Canon
  | .stop d => d.Canon
  | _ => True

/-- The same of the outcome of a log record. -/
def LogOut.Canon : LogOut → Prop
  | .done d => d.Canon
  | .refused d _ _ => d.Canon
  | .wait => True

/-- The same of the next state of an outcome. -/
def Dev.CanonNext (r : Res) : Prop := ∀ t, r = .next t → t.dev.Canon

namespace Dev.Canon

/-! ## Changes of the device -/

section
variable {d t : Dev} (h : d.Canon)
include h

/-- A change that leaves the stored bytes alone. -/
theorem same (cells : t.mm.cells = d.mm.cells := by rfl) : t.Canon := by
  rw [Dev.Canon, cells]
  exact h

/-- The same where the device changed is itself the outcome of an operation, which is not unfolded. -/
theorem upd (cells : t.mm.cells = d.mm.cells := by with_reducible rfl) : t.Canon := h.same cells

theorem put {a : Nat} {bs : List Byte} (cells : t.mm.cells = cellsPut a bs d.mm.cells := by with_reducible rfl) : t.Canon := by
  rw [Dev.Canon, cells]
  exact wf_cellsPut _ _ h

theorem clear {a n : Nat} (cells : t.mm.cells = cellsClear a n d.mm.cells := by with_reducible rfl) : t.Canon := by
  rw [Dev.Canon, cells]
  exact wf_cellsClear _ _ h

theorem opt : Dev.CanonOf (some d) := by
  rintro _ ⟨⟩
  exact h

theorem next {s : State} : Dev.CanonNext (ok s d) := by
  rintro _ ⟨⟩
  exact h

end

/-! ## Choices -/

section
variable {c : Prop} [Decidable c]

theorem ite {a b : Dev} (ha : a.Canon) (hb : b.Canon) : (if c then a else b).Canon := by split <;> assumption

theorem ite_fst {β : Type} {a b : Dev × β} (ha : a.1.Canon) (hb : b.1.Canon) : (if c then a else b).1.Canon := by split <;> assumption

end

section
variable {t : Dev}

theorem of_some {o : Option Dev} (e : o = some t) (h : Dev.CanonOf o) : t.Canon := h t e

theorem of_done {v : Verdict} (e : v = .done t) (h : v.Canon) : t.Canon := by
  subst e
  exact h

theorem of_hold {v : Verdict} {why : HoldWhy} (e : v = .hold why t) (h : v.Canon) : t.Canon := by
  subst e
  exact h

theorem of_waits {a : ChAcc} (e : a = .wait t) (h : a.Canon) : t.Canon := by
  subst e
  exact h

theorem of_fails {a : ChAcc} {st dt : Nat} (e : a = .fail t st dt) (h : a.Canon) : t.Canon := by
  subst e
  exact h

theorem of_ends {a : ChAcc} {bs : List Byte} {n : Nat} (e : a = .done t bs n) (h : a.Canon) : t.Canon := by
  subst e
  exact h

theorem of_applied {a : LogOut} (e : a = .done t) (h : a.Canon) : t.Canon := by
  subst e
  exact h

theorem of_refused {a : LogOut} {st dt : Nat} (e : a = .refused t st dt) (h : a.Canon) : t.Canon := by
  subst e
  exact h

theorem getD {o : Option Dev} (h : t.Canon) (ho : Dev.CanonOf o) : (o.getD t).Canon := by
  cases o with
  | none => exact h
  | some u => exact ho u rfl

end

/-! ## Folds -/

section
variable {α : Type} {l : List α}

theorem foldl {d : Dev} (h : d.Canon) {f : Dev → α → Dev} (step : ∀ t a, t.Canon → (f t a).Canon) : (l.foldl f d).Canon := by
  induction l generalizing d with
  | nil => exact h
  | cons a l ih => exact ih (step d a h)

end

end Dev.Canon

namespace Dev.CanonOf

theorem none : Dev.CanonOf none := fun _ h => nomatch h

theorem ite {c : Prop} [Decidable c] {a b : Option Dev} (ha : Dev.CanonOf a) (hb : Dev.CanonOf b) : Dev.CanonOf (if c then a else b) := by
  split <;> assumption

theorem foldl {α : Type} {l : List α} {o : Option Dev} (h : Dev.CanonOf o) {f : Option Dev → α → Option Dev}
    (step : ∀ o a, Dev.CanonOf o → Dev.CanonOf (f o a)) : Dev.CanonOf (l.foldl f o) := by
  induction l generalizing o with
  | nil => exact h
  | cons a l ih => exact ih (step o a h)

theorem map {α : Type} {f : α → Dev} (h : ∀ a, (f a).Canon) {o : Option α} : Dev.CanonOf (o.map f) := by
  cases o with
  | none => exact none
  | some a => exact (h a).opt

theorem bind {o : Option Dev} (h : Dev.CanonOf o) {f : Dev → Option Dev} (hf : ∀ t, t.Canon → Dev.CanonOf (f t)) : Dev.CanonOf (o.bind f) := by
  cases o with
  | none => exact none
  | some t => exact hf t (h t rfl)

theorem findSome {α : Type} {f : α → Option Dev} (h : ∀ a, Dev.CanonOf (f a)) {l : List α} : Dev.CanonOf (l.findSome? f) := by
  intro t ht
  obtain ⟨a, -, ha⟩ := List.exists_of_findSome?_eq_some ht
  exact h a t ha

end Dev.CanonOf

theorem Verdict.Canon.ite {c : Prop} [Decidable c] {a b : Verdict} (ha : a.Canon) (hb : b.Canon) : (if c then a else b).Canon := by
  split <;> assumption

theorem ChAcc.Canon.ite {c : Prop} [Decidable c] {a b : ChAcc} (ha : a.Canon) (hb : b.Canon) : (if c then a else b).Canon := by
  split <;> assumption

theorem SRes.Canon.ite {c : Prop} [Decidable c] {a b : SRes} (ha : a.Canon) (hb : b.Canon) : (if c then a else b).Canon := by
  split <;> assumption

theorem LogOut.Canon.ite {c : Prop} [Decidable c] {a b : LogOut} (ha : a.Canon) (hb : b.Canon) : (if c then a else b).Canon := by
  split <;> assumption

theorem Dev.CanonNext.ite {c : Prop} [Decidable c] {a b : Res} (ha : Dev.CanonNext a) (hb : Dev.CanonNext b) : Dev.CanonNext (if c then a else b) := by
  split <;> assumption

end Sys2Proof.Machine
end

section
/-! The canonical form of the stored bytes is kept by the functions of Ops, Mem, Arbiter, Codec, Mirror, Dir. -/
-- Elaborating a thousand short theorems each in a thread of its own costs the memory of the threads.
set_option Elab.async false
namespace Sys2Proof.Machine

/-! ## Ops -/

theorem Dev.Canon.ok {d : Dev} (h : d.Canon) {s : State} : Dev.CanonNext (ok s d) := h.next

theorem Dev.Canon.wr {d : Dev} (h : d.Canon) {k v : Nat} : (d.wr k v).Canon :=
  h.same

theorem Dev.Canon.add {d : Dev} (h : d.Canon) {k n : Nat} : (d.add k n).Canon :=
  h.wr

theorem Dev.Canon.inc {d : Dev} (h : d.Canon) {k : Nat} : (d.inc k).Canon :=
  h.add

theorem Dev.Canon.dec {d : Dev} (h : d.Canon) {k : Nat} : (d.dec k).Canon :=
  h.wr

theorem Dev.Canon.drawn {d : Dev} (h : d.Canon) : d.drawn.Canon :=
  h.same

theorem Dev.Canon.emit {d : Dev} (h : d.Canon) {o : Out} : (d.emit o).Canon :=
  h.same

theorem Dev.Canon.emits {d : Dev} (h : d.Canon) {os : List Out} : (d.emits os).Canon :=
  h.same

theorem Dev.Canon.result {d : Dev} (h : d.Canon) {code : Nat} : (d.result code).Canon :=
  h.emit

theorem Dev.Canon.setFn {d : Dev} (h : d.Canon) {f : FnId} {x : Fn} : (d.setFn f x).Canon :=
  h.same

theorem Dev.Canon.setPort {d : Dev} (h : d.Canon) {p : Nat} {x : Port} : (d.setPort p x).Canon :=
  h.same

theorem Dev.Canon.setBay {d : Dev} (h : d.Canon) {b : Nat} {x : Bay} : (d.setBay b x).Canon :=
  h.same

theorem Dev.Canon.setClu {d : Dev} (h : d.Canon) {c : Nat} {x : Clu} : (d.setClu c x).Canon :=
  h.same

theorem Dev.Canon.notifyOne {d : Dev} (h : d.Canon) {cls idx sub data : Nat} {x : Session} : (Dev.notifyOne cls idx sub data d x).Canon := by
  unfold Dev.notifyOne
  split
  · dsimp only
    split
    · exact h.same.emit
    · exact h.same.inc
  · dsimp only
    split
    · exact h.same.emit
    · exact h.same

theorem Dev.Canon.notify {d : Dev} (h : d.Canon) {cls idx sub data : Nat} : (d.notify cls idx sub data).Canon :=
  h.foldl (fun _ _ ht => ht.notifyOne)

theorem Dev.Canon.queueSig {d : Dev} (h : d.Canon) {t : Nat} {x : Sig} : (d.queueSig t x).Canon :=
  (Dev.Canon.ite h.same.inc h.same).notify

theorem Dev.Canon.sign {d : Dev} (h : d.Canon) {x : Sig} : (d.sign x).Canon := by
  unfold Dev.sign
  dsimp only
  split
  · exact .ite h.drawn.drawn.upd h.drawn.drawn.queueSig
  · exact h.drawn.drawn.queueSig

theorem Dev.Canon.aer {d : Dev} (h : d.Canon) {f : FnId} {kind bitNo : Nat} : (d.aer f kind bitNo).Canon :=
  (Dev.Canon.ite h.setFn.emit h.setFn).sign

theorem Dev.Canon.updWire {d : Dev} (h : d.Canon) {f : FnId} : (d.updWire f).Canon :=
  .ite h h.setFn.emit

theorem evBlind_canon : EvBlind Dev.Canon := ⟨fun _ _ _ => rfl, fun _ _ => rfl, fun _ _ => rfl, fun _ _ => rfl⟩

theorem logBlind_canon : LogBlind Dev.Canon := ⟨fun _ _ => rfl, fun _ _ => rfl, fun _ _ _ => rfl, fun _ => rfl⟩

theorem Dev.Canon.drainEv {d : Dev} (h : d.Canon) {f : FnId} {n : Nat} : (Dev.drainEv f n d).Canon :=
  ((evBlind_canon.of f.num).drainEv f.port n d).mpr h

theorem Dev.Canon.pumpEv {d : Dev} (h : d.Canon) {f : FnId} : (d.pumpEv f).Canon :=
  h.drainEv.updWire

theorem Dev.Canon.giveEv {d : Dev} (h : d.Canon) {f : FnId} {e : Ev} : (d.giveEv f e).Canon :=
  (Dev.Canon.ite h.pumpEv.setFn h.pumpEv.setFn.inc).pumpEv

theorem Dev.Canon.post {d : Dev} (h : d.Canon) {n : Nat} {e : Ev} : (d.post n e).Canon := by
  unfold Dev.post
  split
  · exact h.giveEv
  · exact .ite h.giveEv h.inc

theorem Dev.Canon.postChan {d : Dev} (h : d.Canon) {n port : Nat} {e : Ev} : (d.postChan n port e).Canon :=
  .ite h.giveEv h.post

theorem Dev.Canon.postAll {d : Dev} (h : d.Canon) {e : Ev} : (d.postAll e).Canon :=
  h.foldl (fun _ _ ht => .ite ht.post ht)

theorem Dev.Canon.measured {d : Dev} (_ : d.Canon) {r : Dev × Nat} (hr : r.1.Canon) : (d.measured r).1.Canon := by
  unfold Dev.measured
  split
  · exact hr
  · dsimp only
    exact hr.postAll

theorem Dev.Canon.newTag {d : Dev} (h : d.Canon) {f : Option FnId} {port : Nat} {ubl : Bool} {use : TagUse} : (d.newTag f port ubl use).Canon :=
  h.same

theorem Dev.Canon.freeTags {d : Dev} (h : d.Canon) {u : TagUse} : (d.freeTags u).Canon :=
  h.same

/-! ## Mem -/

theorem Dev.Canon.setBytes {d : Dev} (h : d.Canon) {p off : Nat} {bs : List Byte} : (d.setBytes p off bs).Canon := by
  unfold Dev.setBytes
  exact h.put

theorem Dev.Canon.setObj {d : Dev} (h : d.Canon) {p n : Nat} {o : Obj} : (d.setObj p n o).Canon :=
  h.same

theorem Dev.Canon.modObj {d : Dev} (h : d.Canon) {p n : Nat} {f : Obj → Obj} : (d.modObj p n f).Canon :=
  h.same

theorem Dev.Canon.setPage {d : Dev} (h : d.Canon) {k : Nat} {x : Page} : (d.setPage k x).Canon :=
  h.same

theorem Dev.Canon.setMeta {d : Dev} (h : d.Canon) {k : Nat} {x : Meta} : (d.setMeta k x).Canon :=
  h.same

theorem Dev.Canon.setValid {d : Dev} (h : d.Canon) {k v : Nat} : (d.setValid k v).Canon := by
  unfold Dev.setValid
  refine .ite h.setPage (.ite h.setPage ?_)
  dsimp only
  split
  · exact h.drawn.setPage
  · exact h.setPage.inc

theorem Dev.Canon.wipePage {d : Dev} (h : d.Canon) {k : Nat} : (d.wipePage k).Canon := by
  unfold Dev.wipePage
  exact h.clear

theorem Dev.Canon.metaUse {d : Dev} (h : d.Canon) {k : Nat} : (d.metaUse k).1.Canon := by
  unfold Dev.metaUse
  split
  · exact h
  · exact h.same

theorem Dev.Canon.metaGone {d : Dev} (h : d.Canon) {k : Nat} : (d.metaGone k).Canon :=
  h.same

theorem Dev.Canon.losePage {d : Dev} (h : d.Canon) {k : Nat} : (d.losePage k).Canon :=
  h.wipePage.metaGone.upd.setPage

theorem Dev.Canon.dropPage {d : Dev} (h : d.Canon) {k : Nat} : (d.dropPage k).Canon := by
  unfold Dev.dropPage
  exact (Dev.Canon.ite h.wipePage.metaGone.inc h.wipePage.metaGone).upd

theorem Dev.Canon.tookStaging {d : Dev} (h : d.Canon) {f : Nat} : (d.tookStaging f).Canon :=
  h.same

theorem Dev.Canon.tookFrame {d : Dev} (h : d.Canon) {t : Tier} {f : Nat} : (d.tookFrame t f).Canon := by
  unfold Dev.tookFrame
  split
  · exact h.drawn.upd
  · exact h.drawn.upd
  · exact h.drawn

theorem Dev.Canon.charge {d : Dev} (h : d.Canon) {r c n : Nat} : (d.charge r c n).Canon := by
  unfold Dev.charge
  exact h.add.add.upd

theorem Dev.Canon.chargeTier {d : Dev} (h : d.Canon) {t : Tier} {w : Bool} {c n : Nat} : (d.chargeTier t w c n).Canon := by
  unfold Dev.chargeTier
  split
  · exact h.charge
  · exact h

theorem Dev.Canon.flashWear {d : Dev} (h : d.Canon) : d.flashWear.Canon := by
  unfold Dev.flashWear
  exact h.drawn.upd

theorem Dev.Canon.countStored {d : Dev} (h : d.Canon) {m : Meta} : (d.countStored m).Canon :=
  .ite ((Dev.Canon.ite h.inc.add h).inc) (.ite h.inc.add h)

theorem Dev.Canon.storeWhole {d : Dev} (h : d.Canon) {p : Nat} {o : Obj} {blk : Nat} {bs : List Byte} : (d.storeWhole p o blk bs).Canon :=
  h.setBytes.setMeta.countStored.setValid.setPage

theorem Dev.Canon.storeBlock {d : Dev} (h : d.Canon) {p : Nat} {o : Obj} {blk : Nat} {m : List (Option Byte)} {cls : Nat} :
    (d.storeBlock p o blk m cls).Canon :=
  .ite h (.ite h.metaUse.setBytes.chargeTier (((Dev.Canon.ite h.metaUse.add.chargeTier h.metaUse).storeWhole).chargeTier))

theorem Dev.Canon.poisonBlock {d : Dev} (h : d.Canon) {p blk : Nat} : (d.poisonBlock p blk).Canon :=
  .ite (.ite h.setPage ((Dev.Canon.ite h.setMeta h.setMeta.setValid).setPage)) ((Dev.Canon.ite h.setPage ((Dev.Canon.ite h.setMeta
      h.setMeta.setValid).setPage)).inc)

theorem Dev.Canon.ensureFrame {d : Dev} (h : d.Canon) {p : Nat} {o : Obj} {k : Nat} : Dev.CanonOf (d.ensureFrame p o k) := by
  unfold Dev.ensureFrame
  refine Dev.CanonOf.ite h.opt ?_
  split
  · exact .none
  · exact (Dev.Canon.ite (h.tookFrame.setPage.setPage.foldl (fun _ _ ht => ht.setMeta)) h.tookFrame.setPage).opt

theorem Dev.Canon.ensureFrames {d : Dev} (h : d.Canon) {p : Nat} {o : Obj} {l : List Nat} : Dev.CanonOf (Dev.ensureFrames p o l d) := by
  induction l generalizing d with
  | nil => exact h.opt
  | cons pg l ih => exact .bind h.ensureFrame fun _ ht => ih ht

theorem Dev.Canon.touch {d : Dev} (h : d.Canon) {p pg nblk : Nat} : (d.touch p pg nblk).Canon := by
  unfold Dev.touch
  split
  · exact h.setPage.modObj
  · exact h.setPage

theorem Dev.Canon.pmapOne {d : Dev} (h : d.Canon) {k : Nat} : (d.pmapOne k).Canon :=
  h.same

theorem Dev.Canon.pmapLookup {d : Dev} (h : d.Canon) {ks : List Nat} : (d.pmapLookup ks).Canon :=
  h.foldl (fun _ _ ht => ht.pmapOne)

theorem Dev.Canon.thForget {d : Dev} (h : d.Canon) {who : Nat} : (d.thForget who).Canon :=
  h.same

theorem Dev.Canon.readCharge {d : Dev} (h : d.Canon) {p off len cls : Nat} : (d.readCharge p off len cls).Canon := by
  unfold Dev.readCharge
  refine .ite h ?_
  split
  · exact h
  · exact h.metaUse.add.chargeTier.add

/-! ## Arbiter -/

theorem Dev.Canon.swapRank {d : Dev} (h : d.Canon) {g c : Nat} : (Dev.swapRank g d c).Canon :=
  h.wr.wr

theorem Dev.Canon.commitGroups {d : Dev} (h : d.Canon) {mask : Nat} : (d.commitGroups mask).Canon :=
  h.foldl (fun _ _ ht => ht.foldl (fun _ _ ht1 => ht1.swapRank))

theorem Dev.Canon.commitDone {d : Dev} (h : d.Canon) : d.commitDone.Canon :=
  .ite h h.commitGroups.wr.inc

theorem Dev.Canon.commitMeets {d : Dev} (h : d.Canon) : d.commitMeets.Canon :=
  .ite h (.ite h.drawn.commitDone h.drawn)

theorem Dev.Canon.grantAt {d : Dev} (h : d.Canon) {w : Bool} {c : Nat} {passed : Bool} {a : Nat} : (d.grantAt w c passed a).Canon :=
  h.same

theorem Dev.Canon.grantPages {d : Dev} (h : d.Canon) {w : Bool} {c : Nat} {ks : List Nat} : (d.grantPages w c ks).Canon :=
  h.foldl (fun _ _ ht => ht.grantAt)

theorem Dev.Canon.noteHeld {d : Dev} (h : d.Canon) {kind key cls : Nat} : (d.noteHeld kind key cls).Canon :=
  .ite h h.inc.upd

/-! ## Codec -/

theorem Dev.Canon.framesFor {d : Dev} (h : d.Canon) {l : List Piece} : Dev.CanonOf (Dev.framesFor l d) := by
  induction l generalizing d with
  | nil => exact h.opt
  | cons x l ih =>
    unfold Dev.framesFor
    split
    · exact .bind h.ensureFrames fun _ ht => ih ht
    · exact .none

theorem Dev.Canon.storeRun {d : Dev} (h : d.Canon) {p off : Nat} {o : Obj} {m : List (Option Byte)} {cls : Nat} : (d.storeRun p off o m cls).Canon :=
  h.foldl (fun _ _ ht => ht.storeBlock)

theorem Dev.Canon.storeGroup {d : Dev} (h : d.Canon) {p : Nat} {w : Obj} {cls g : Nat} {m : List (Option Byte)} : (d.storeGroup p w cls g m).Canon := by
  unfold Dev.storeGroup
  refine .ite h ?_
  split
  split
  · split
    · dsimp only
      split
      · exact h.same
      · exact .ite h.same.storeRun.storeRun.inc h.same.storeRun.storeRun
    · dsimp only
      split
      · exact h
      · exact .ite h.storeRun.storeRun.inc h.storeRun.storeRun
  · split
    · dsimp only
      split
      · exact h.readCharge.readCharge.upd
      · exact .ite h.readCharge.readCharge.upd.storeRun.storeRun.inc h.readCharge.readCharge.upd.storeRun.storeRun
    · dsimp only
      split
      · exact h.readCharge.readCharge
      · exact .ite h.readCharge.readCharge.storeRun.storeRun.inc h.readCharge.readCharge.storeRun.storeRun

theorem Dev.Canon.curePieces {d : Dev} (h : d.Canon) {ps : List Piece} : (d.curePieces ps).Canon :=
  h.foldl (fun _ _ ht => ht.foldl (fun _ _ ht1 => .ite ht1.setMeta.setPage ht1))

theorem Dev.Canon.viewWrite {d : Dev} (h : d.Canon) {t : Tgt} {m : List (Option Byte)} {cls : Nat} : (d.viewWrite t m cls).Canon :=
  .ite ((Dev.Canon.ite h.curePieces h).foldl (fun _ _ ht => ht.storeGroup)) ((Dev.Canon.ite h.curePieces h).storeRun)

theorem Dev.Canon.touchPieces {d : Dev} (h : d.Canon) {ps : List Piece} : (d.touchPieces ps).Canon :=
  h.foldl (fun _ _ ht => ht.foldl (fun _ _ ht1 => ht1.touch))

theorem Dev.Canon.chargePieces {d : Dev} (h : d.Canon) {ps : List Piece} {cls : Nat} : (d.chargePieces ps cls).Canon :=
  h.foldl (fun _ _ ht => ht.readCharge)

theorem Dev.Canon.countOverruns {d : Dev} (h : d.Canon) {p : Nat} {ov : Nat × Nat} : (d.countOverruns p ov).Canon :=
  .ite h h.add.add.add

/-! ## Mirror -/

theorem Dev.Canon.adminDone {d : Dev} (h : d.Canon) {a : Adm} {status detail result : Nat} : (d.adminDone a status detail result).Canon :=
  .ite h (.ite h.setFn (.ite h.setFn h.setFn.emit))

theorem Dev.Canon.adminRefuse {d : Dev} (h : d.Canon) {a : Adm} {detail : Nat} : (d.adminRefuse a detail).Canon :=
  h.adminDone

theorem Dev.Canon.adminBadHandle {d : Dev} (h : d.Canon) {a : Adm} : (d.adminBadHandle a).Canon :=
  h.inc.adminDone

theorem Dev.Canon.adminFenced {d : Dev} (h : d.Canon) {a : Adm} : (d.adminFenced a).Canon :=
  h.adminDone

theorem Dev.Canon.adminOk {d : Dev} (h : d.Canon) {a : Adm} {result : Nat} : (d.adminOk a result).Canon :=
  h.adminDone

theorem Dev.Canon.admRead {d : Dev} (h : d.Canon) {f : FnId} : (d.admRead f).Canon :=
  .ite h.newTag.emit h

theorem Dev.Canon.dropAdmRead {d : Dev} (h : d.Canon) {f : FnId} : (d.dropAdmRead f).Canon :=
  h.same

theorem Dev.Canon.admFailed {d : Dev} (h : d.Canon) {f : FnId} : (d.admFailed f).Canon :=
  h.setFn

theorem Dev.Canon.admAnswer {d : Dev} (h : d.Canon) {f : FnId} {acc : Resp} : (d.admAnswer f acc).Canon := by
  unfold Dev.admAnswer
  refine .ite h ?_
  split
  · exact h.freeTags.admFailed
  · exact h.freeTags.admFailed.aer
  · exact h

theorem Dev.Canon.admFetch {d : Dev} (h : d.Canon) {a : Adm} : (d.admFetch a).Canon :=
  h.setFn.freeTags.admRead

theorem Dev.Canon.admin {d : Dev} (h : d.Canon) {a : Adm} {served : Bool} {run : Dev → Adm → Dev} (hrun : ∀ t y, t.Canon → (run t y).Canon) :
    (d.admin a served run).Canon := by
  unfold Dev.admin
  refine .ite h ?_
  split
  · exact h.admFetch.adminDone
  · exact hrun _ _ h.admFetch

theorem Dev.Canon.admTry {d : Dev} (h : d.Canon) {a : Adm} {c : Option (Nat × Nat)} {run : Dev → Dev} (hrun : ∀ t, t.Canon → (run t).Canon) :
    (d.admTry a c run).Canon := by
  unfold Dev.admTry
  split
  · exact h.adminDone
  · exact hrun _ h

theorem Dev.Canon.ringOut {d : Dev} (h : d.Canon) {port op id : Nat} {recs : List LogRec} {payload : List Byte} {cipher : Bool} :
    (d.ringOut port op id recs payload cipher).Canon :=
  (logBlind_canon.ringOut ..).mpr h

theorem Dev.Canon.ringSend {d : Dev} (h : d.Canon) {op : Nat} {payload : List Byte} {cipher : optParam Bool false} :
    (d.ringSend op payload cipher).Canon :=
  h.ringOut

theorem Dev.Canon.repairAsk {d : Dev} (h : d.Canon) {p blk : Nat} : (d.repairAsk p blk).Canon :=
  h.same.ringSend

theorem Dev.Canon.logSend {d : Dev} (h : d.Canon) {recs : List LogRec} : (d.logSend recs).Canon :=
  h.same.add.ringOut

theorem Dev.Canon.relog {d : Dev} (h : d.Canon) : d.relog.Canon :=
  h.same.foldl (fun _ _ ht => ht.ringOut.inc)

theorem Dev.Canon.ringUp {d : Dev} (h : d.Canon) {port : Nat} : (d.ringUp port).Canon :=
  .ite h.same.relog h.same

theorem Dev.Canon.markDirty {d : Dev} (h : d.Canon) {k : Nat} : (d.markDirty k).Canon :=
  .ite h h.same

theorem Dev.Canon.mirrorNote {d : Dev} (h : d.Canon) {way : MirrorWay} {ks : List Nat} {recs : List LogRec} : (d.mirrorNote way ks recs).Canon := by
  unfold Dev.mirrorNote
  split
  · exact h.logSend
  · exact h.foldl (fun _ _ ht => ht.markDirty)
  · exact h

theorem Dev.Canon.logState {d : Dev} (h : d.Canon) {p : Nat} {b : LogBody} : (d.logState p b).Canon :=
  .ite h.logSend h

/-! ## Dir -/

theorem Dev.Canon.dirPut {d : Dev} (h : d.Canon) {k : Nat} {e : DirE} : (d.dirPut k e).Canon :=
  h.same

theorem Dev.Canon.dirDel {d : Dev} (h : d.Canon) {k : Nat} : (d.dirDel k).Canon :=
  h.same

theorem Dev.Canon.dirLog {d : Dev} (h : d.Canon) {k : Nat} : (d.dirLog k).Canon := by
  unfold Dev.dirLog
  split
  · dsimp only
    split
    · exact .ite h.logState h
    · exact h
  · dsimp only
    split
    · exact .ite h.logState h
    · exact h

theorem Dev.Canon.nextOrd {d : Dev} (h : d.Canon) : d.nextOrd.Canon :=
  h.same

theorem Dev.Canon.dirNew {d : Dev} (h : d.Canon) {k : Nat} {st : DirSt} {vec window : Nat} : (d.dirNew k st vec window).Canon :=
  h.nextOrd.dirPut.dirLog

theorem Dev.Canon.recallOne {d : Dev} (h : d.Canon) {k : Nat} {share : Bool} {s : Nat} : (Dev.recallOne k share d s).Canon :=
  h.same.inc.emit

theorem Dev.Canon.recallLine {d : Dev} (h : d.Canon) {k : Nat} {e : DirE} {slots : List Nat} {share : Bool} : (d.recallLine k e slots share).Canon :=
  .ite h.dirDel.dirLog (h.dirPut.dirLog.foldl (fun _ _ ht => ht.recallOne))

theorem Dev.Canon.recallRange {d : Dev} (h : d.Canon) {p a n : Nat} : (d.recallRange p a n).Canon :=
  h.foldl (fun _ _ ht => ht.recallLine)

theorem Dev.Canon.recallPage {d : Dev} (h : d.Canon) {k : Nat} : (d.recallPage k).Canon := by
  unfold Dev.recallPage
  refine .foldl h (fun _ _ ht => ?_)
  split
  · exact .ite ht.recallLine ht
  · exact ht

theorem Dev.Canon.orphan {d : Dev} (h : d.Canon) {k : Nat} {e : DirE} : (d.orphan k e).Canon :=
  .ite h.same.dirDel.dirLog h.same.dirPut.dirLog.post

theorem Dev.Canon.recallEnd {d : Dev} (h : d.Canon) {k : Nat} : (d.recallEnd k).Canon := by
  unfold Dev.recallEnd
  refine .ite h ?_
  split
  · exact h
  · split
    · exact .ite h.orphan (.ite h.dirPut.dirLog h.dirDel.dirLog)
    · exact h.dirDel.dirLog
    · exact h

theorem Dev.Canon.poisonBlks {d : Dev} (h : d.Canon) {p : Nat} {blks : List Nat} : (d.poisonBlks p blks).Canon := by
  unfold Dev.poisonBlks
  refine .foldl h (fun _ _ ht => ?_)
  split
  · exact ht.poisonBlock.mirrorNote
  · exact ht.poisonBlock

theorem Dev.Canon.displaceOrphan {d : Dev} (h : d.Canon) {k : Nat} : (d.displaceOrphan k).Canon := by
  unfold Dev.displaceOrphan
  dsimp only
  split
  · exact h.dirDel.inc
  · exact (h.dirDel.inc.getD h.dirDel.inc.framesFor).foldl (fun _ _ ht => ht.poisonBlks)

theorem Dev.Canon.notice {d : Dev} (h : d.Canon) {op slot first count acc : Nat} : (d.notice op slot first count acc).Canon := by
  unfold Dev.notice
  dsimp only
  split
  · exact .ite h.emit h
  · exact h

theorem Dev.Canon.dcQueue {d : Dev} (h : d.Canon) {port typ first count : Nat} {rw : Bool} {done : List Adm} :
    (d.dcQueue port typ first count rw done).Canon :=
  .ite (h.setPort.foldl (fun _ _ ht => ht.adminOk)) h.setPort

theorem Dev.Canon.revokeEnd {d : Dev} (h : d.Canon) {r : Revoke} : (d.revokeEnd r).Canon :=
  (h.same.foldl (fun _ _ ht => ht.logState)).foldl (fun _ _ ht => .ite ht ht.adminOk)

theorem Dev.Canon.startRevoke {d : Dev} (h : d.Canon) {slot p first count : Nat} {hs : List Adm} : (d.startRevoke slot p first count hs).Canon :=
  h.same.foldl (fun _ _ ht => ht.logState)

theorem Dev.Canon.revokeRecallLines {d : Dev} (h : d.Canon) {r : Revoke} : (d.revokeRecallLines r).Canon :=
  h.foldl (fun _ _ ht => .ite ht.recallLine ht)

theorem Dev.Canon.revokeStep {d : Dev} (h : d.Canon) : d.revokeStep.Canon :=
  h.foldl (fun _ _ ht => .ite (.ite ht ht.revokeRecallLines) (.ite ht.revokeEnd (.ite (.ite ht.same ht.revokeEnd) ht)))

theorem Dev.Canon.putLock {d : Dev} (h : d.Canon) {l : Lock} {next : Option LockSt} : (d.putLock l next).Canon :=
  h.same

theorem Dev.Canon.breakLock {d : Dev} (h : d.Canon) {l : Lock} {next : Option LockSt} : (d.breakLock l next).Canon :=
  (Dev.Canon.ite h.poisonBlks.inc h).putLock

theorem Dev.Canon.dropLocks {d : Dev} (h : d.Canon) {p : Lock → Bool} : (d.dropLocks p).Canon :=
  h.foldl (fun _ _ ht => ht.same.breakLock)

theorem Dev.Canon.loseRecalls {d : Dev} (h : d.Canon) {a k : Nat} : (loseRecalls a d k).Canon :=
  h.same.recallEnd

theorem Dev.Canon.loseLine {d : Dev} (h : d.Canon) {a k : Nat} : (Dev.loseLine a d k).Canon := by
  unfold Dev.loseLine
  split
  · exact h
  · split
    · exact .ite h.orphan h
    · exact .ite h.orphan (.ite h.loseRecalls h)
    · exact .ite ((Dev.Canon.ite h.dirDel h.dirPut).dirLog) h
    · exact h.loseRecalls
    · exact h

theorem Dev.Canon.hostLost {d : Dev} (h : d.Canon) {a : Nat} : (d.hostLost a).Canon :=
  .ite h ((((((h.wr.foldl (fun _ _ ht => ht.loseLine)).foldl (fun _ _ ht => ht.revokeEnd)).upd).dropLocks).logState).post)

theorem Dev.Canon.losePer {d : Dev} (h : d.Canon) {p : Nat → Bool} : (d.losePer p).Canon :=
  h.foldl (fun _ _ ht => ht.hostLost)

theorem Dev.Canon.loseUnrouted {d : Dev} (h : d.Canon) : d.loseUnrouted.Canon :=
  h.losePer

end Sys2Proof.Machine
end

section
/-! The canonical form of the stored bytes is kept by the functions of Move. -/
-- Elaborating a thousand short theorems each in a thread of its own costs the memory of the threads.
set_option Elab.async false
namespace Sys2Proof.Machine

/-! ## Move -/

theorem Dev.Canon.startMig {d : Dev} (h : d.Canon) {k : Nat} {m : Mig} : (d.startMig k m).Canon :=
  h.setPage.upd.recallPage

theorem Dev.Canon.cancelMig {d : Dev} (h : d.Canon) {k : Nat} : (d.cancelMig k).Canon :=
  .ite h.same.setPage h

theorem Dev.Canon.acceptMove {d : Dev} (h : d.Canon) {k : Nat} {o : Obj} {t : Tier} {why : MigWhy} {cls : Nat} :
    Dev.CanonOf (d.acceptMove k o t why cls) := by
  unfold Dev.acceptMove
  refine Dev.CanonOf.ite .none (Dev.CanonOf.ite (.ite h.same.opt (.map (fun _ => h.tookFrame.startMig))) ?_)
  refine Dev.CanonOf.ite ?_ (.ite (.map (fun _ => h.drawn.startMig)) (.map (fun _ => h.tookFrame.startMig)))
  split
  · exact h.tookFrame.tookStaging.startMig.opt
  · exact .none

theorem Dev.Canon.unstage {d : Dev} (h : d.Canon) {k : Nat} : (d.unstage k).Canon := by
  unfold Dev.unstage
  split
  · exact h
  · refine .ite ?_ (h.getD h.acceptMove)
    split
    · exact h.tookFrame.startMig
    · exact h

theorem Dev.Canon.stagingDemote {d : Dev} (h : d.Canon) : d.stagingDemote.Canon :=
  .ite h (h.foldl (fun _ _ ht => ht.unstage))

theorem Dev.Canon.promote {d : Dev} (h : d.Canon) {cls k : Nat} : (d.promote cls k).Canon := by
  refine .ite h ?_
  split
  · exact h
  · extract_lets p _ d0 d1
    have due : d1.Canon := (h.same (t := d0)).modObj
    split
    · exact due.tookFrame.startMig
    · split
      · exact due.tookStaging.startMig.stagingDemote
      · exact due.same

theorem Dev.Canon.servePromos {d : Dev} (h : d.Canon) : d.servePromos.Canon :=
  h.foldl (fun _ _ ht => .ite ht.same.promote ht)

theorem Dev.Canon.serveWaits {d : Dev} (h : d.Canon) : d.serveWaits.Canon := by
  unfold Dev.serveWaits
  refine .foldl h (fun _ _ ht => ?_)
  refine .ite ?_ ht
  dsimp only
  split
  · exact .ite ht.same (ht.same.getD ht.same.acceptMove)
  · exact ht.same

theorem Dev.Canon.abortMig {d : Dev} (h : d.Canon) {k : Nat} : (d.abortMig k).Canon :=
  .ite h.cancelMig.inc h

theorem Dev.Canon.stopMisled {d : Dev} (h : d.Canon) {desc k : Nat} : (d.stopMisled desc k).Canon :=
  .ite h.cancelMig.upd h

theorem Dev.Canon.placeMove {d : Dev} (h : d.Canon) {o : Obj} {k : Nat} : (d.placeMove o k).Canon :=
  .ite h.stopMisled (.getD h.stopMisled (.findSome fun _ => h.stopMisled.acceptMove))

theorem Dev.Canon.restartPlaces {d : Dev} (h : d.Canon) : d.restartPlaces.Canon :=
  h.foldl (fun _ _ ht => ht.foldl (fun _ _ ht1 => ht1.placeMove))

theorem Dev.Canon.finishPlaces {d : Dev} (h : d.Canon) : d.finishPlaces.Canon := by
  unfold Dev.finishPlaces
  refine .foldl h (fun _ _ ht => ?_)
  split
  · exact .ite ht.modObj.adminOk ht
  · exact ht

theorem Dev.Canon.thOut {d : Dev} (h : d.Canon) {k : Nat} {o : Obj} {why : MigWhy} : Dev.CanonOf (d.thOut k o why) := by
  unfold Dev.thOut
  split
  · rename_i e
    exact (Dev.Canon.of_some e (.findSome fun _ => .ite h.acceptMove .none)).opt
  · exact .map fun _ => h.tookFrame.startMig

theorem Dev.Canon.stopThMoves {d : Dev} (h : d.Canon) {p : Nat} {o : Obj} : (d.stopThMoves p o).Canon := by
  unfold Dev.stopThMoves
  refine .foldl h (fun _ _ ht => ?_)
  split
  · exact .ite ht.cancelMig ht
  · exact ht

theorem Dev.Canon.thOutAll {d : Dev} (h : d.Canon) {o : Obj} {why : MigWhy} {l : List Nat} : (Dev.thOutAll o why l d).1.Canon := by
  induction l generalizing d with
  | nil => exact h
  | cons k l ih =>
    refine .ite_fst (ih h) ?_
    split
    · rename_i u e
      exact ih (h.thOut u e)
    · exact h

theorem Dev.Canon.viewDrain {d : Dev} (h : d.Canon) {p n : Nat} {o : Obj} {a : Adm} : (d.viewDrain p n o a).Canon :=
  .ite h.thOutAll h.thOutAll.modObj.adminRefuse

theorem Dev.Canon.restartViews {d : Dev} (h : d.Canon) : d.restartViews.Canon := by
  unfold Dev.restartViews
  refine .foldl h (fun _ _ ht => ?_)
  split
  · exact ht.viewDrain
  · exact ht

theorem Dev.Canon.stopLendMoves {d : Dev} (h : d.Canon) {i : Nat} : (d.stopLendMoves i).Canon :=
  h.foldl (fun _ _ ht => .ite ht.cancelMig ht)

theorem Dev.Canon.finishLends {d : Dev} (h : d.Canon) : d.finishLends.Canon :=
  h.foldl (fun _ _ ht => .ite ht.wr ht)

theorem Dev.Canon.restartLends {d : Dev} (h : d.Canon) : d.restartLends.Canon := by
  unfold Dev.restartLends
  refine .foldl h (fun _ _ ht => ?_)
  refine .ite ?_ ht
  refine .foldl ht (fun _ _ ht1 => ?_)
  refine .ite ht1 ?_
  split
  · exact ht1.getD ht1.thOut
  · exact ht1

theorem Dev.Canon.restartShare {d : Dev} (h : d.Canon) : d.restartShare.Canon := by
  unfold Dev.restartShare
  refine .ite ?_ h
  refine .foldl h (fun _ _ ht => ?_)
  split
  · refine .ite ?_ ht
    split
    · exact ht.tookFrame.startMig
    · exact ht
  · exact ht

theorem Dev.Canon.finishShare {d : Dev} (h : d.Canon) : d.finishShare.Canon :=
  .ite h.same h

theorem Dev.Canon.restartShares {d : Dev} (h : d.Canon) : d.restartShares.Canon := by
  unfold Dev.restartShares
  refine .ite h (.foldl h (fun _ _ ht => ?_))
  split
  · refine .ite ?_ ht
    split
    · exact ht.tookFrame.startMig
    · exact ht
  · exact ht

theorem Dev.Canon.standIn {d : Dev} (h : d.Canon) {f g : Nat} : (d.standIn f g).Canon :=
  .ite h h.same

theorem Dev.Canon.leaveT2 {d : Dev} (h : d.Canon) {f k : Nat} : (d.leaveT2 f k).Canon := by
  unfold Dev.leaveT2
  refine .ite h ?_
  split
  · exact h.tookStaging.standIn.startMig
  · exact h

theorem Dev.Canon.retireFrame {d : Dev} (h : d.Canon) {t : Tier} {f : Nat} : (d.retireFrame t f).Canon := by
  unfold Dev.retireFrame
  split
  · refine .ite h ?_
    split
    · exact h.tookFrame.startMig
    · exact h
  · exact h.leaveT2
  · refine .ite h ?_
    split
    · exact h.tookStaging.standIn
    · exact h
  · exact h

theorem Dev.Canon.restartRetires {d : Dev} (h : d.Canon) : d.restartRetires.Canon :=
  h.foldl (fun _ _ ht => ht.retireFrame)

theorem Dev.Canon.relocate {d : Dev} (h : d.Canon) {f : Nat} : (d.relocate f).Canon := by
  unfold Dev.relocate
  split
  · exact h
  · exact h.chargeTier.chargeTier.flashWear.post

theorem Dev.Canon.finishDeadhead {d : Dev} (h : d.Canon) : d.finishDeadhead.Canon :=
  h.foldl (fun _ _ ht => (Dev.Canon.ite ht.relocate ht).upd)

theorem Dev.Canon.afterMoves {d : Dev} (h : d.Canon) : d.afterMoves.Canon :=
  h.servePromos.serveWaits.restartPlaces.restartViews.restartLends.restartShare.restartShares.finishPlaces.finishLends.finishShare.restartRetires.finishDeadhead.stagingDemote

theorem Dev.Canon.lenderLost {d : Dev} (h : d.Canon) {i : Nat} : (d.lenderLost i).Canon :=
  ((h.stopLendMoves.foldl (fun _ _ ht => ht.losePage)).wr).foldl (fun _ _ ht => .ite ht ht.post)

theorem Dev.Canon.thSend {d : Dev} (h : d.Canon) {use : TagUse} {i frame k j cls : Nat} {wr : Option (List Bool)} :
    (d.thSend use i frame k j cls wr).Canon := by
  unfold Dev.thSend
  split
  · split
    · dsimp only
      split
      · exact h.lenderLost
      · exact h.newTag.emit
    · dsimp only
      split
      · exact h.lenderLost
      · exact h.newTag.emit
  · split
    · dsimp only
      split
      · exact h.lenderLost
      · exact h.newTag.emit
    · dsimp only
      split
      · exact h.lenderLost
      · exact h.newTag.emit

theorem Dev.Canon.thCopyStep {d : Dev} (h : d.Canon) {k : Nat} : (d.thCopyStep k).Canon := by
  unfold Dev.thCopyStep
  split
  · exact h
  · split
    · exact h
    · refine .ite h ?_
      split
      · exact .ite h h.same
      · exact h.same.thSend

theorem Dev.Canon.thCopies {d : Dev} (h : d.Canon) : d.thCopies.Canon :=
  h.foldl (fun _ _ ht => ht.thCopyStep)

theorem Dev.Canon.rawMeta {d : Dev} (h : d.Canon) {k : Nat} : (d.rawMeta k).Canon :=
  h.same

theorem Dev.Canon.switchPage {d : Dev} (h : d.Canon) {k : Nat} {m : Mig} : (d.switchPage k m).Canon := by
  unfold Dev.switchPage
  extract_lets src n dg d1 d2 x floorT fl ovf gone _ d3 d4 d4' d5 d5'
  have moved : d1.Canon := ((h.foldl fun _ _ ht => ht.grantAt).foldl fun _ _ ht => ht.grantAt).chargeTier.chargeTier
  have charged : d2.Canon := .ite moved.chargeTier moved
  have dropped : d3.Canon := (charged.metaGone : gone.Canon).same
  have homed : d4.Canon := dropped.setPage.inc
  have counted : d5.Canon := .ite (Dev.Canon.ite homed.rawMeta homed).add (.ite homed.rawMeta homed)
  have noted : d5'.Canon := by
    unfold d5'
    split
    · exact .ite counted.post counted
    · exact counted
  split
  · exact noted.startMig
  · exact noted

end Sys2Proof.Machine
end

section
/-! The canonical form of the stored bytes is kept by the functions of Serve. -/
-- Elaborating a thousand short theorems each in a thread of its own costs the memory of the threads.
set_option Elab.async false
namespace Sys2Proof.Machine

/-! ## Serve -/

theorem Dev.Canon.recommend {d : Dev} (h : d.Canon) {a : Home} : (d.recommend a).Canon :=
  .ite h h.same

theorem Dev.Canon.uncorrected {d : Dev} (h : d.Canon) {p blk : Nat} : (d.uncorrected p blk).Canon :=
  h.poisonBlks.sign

theorem Dev.Canon.dramRow {d : Dev} (h : d.Canon) {x : Sig} {y : Option (DramDev × Nat)} : (d.dramRow x y).Canon := by
  unfold Dev.dramRow
  split
  · exact h
  · exact .ite h.drawn.upd h.drawn.upd.sign

theorem Dev.Canon.noteWord {d : Dev} (h : d.Canon) {t frame word : Nat} : (d.noteWord t frame word).1.Canon := by
  unfold Dev.noteWord
  extract_lets l
  split
  · exact h
  · exact h
  · dsimp only
    exact h.same

theorem Dev.Canon.medRead {d : Dev} (h : d.Canon) {p blk : Nat} {med : Med} : (d.medRead p blk med).Canon := by
  unfold Dev.medRead
  extract_lets k
  split
  · exact h
  · refine .ite h ?_
    split
    · exact h
    · exact .ite h.same.chargeTier.sign.dramRow.noteWord.inc.recommend.sign h.same.chargeTier.sign.dramRow.noteWord
    · exact .ite (.ite h.same h.same.repairAsk) h.same.uncorrected

theorem Dev.Canon.refuseBar {d : Dev} (h : d.Canon) {r : HostReq} {st : Nat} : (d.refuseBar r st).Canon := by
  unfold Dev.refuseBar
  split
  · exact h.aer.emit
  · exact h.aer

theorem Dev.Canon.answerRead {d : Dev} (h : d.Canon) {r : HostReq} {st : Nat} {data : List Byte} {nocache : Bool} :
    (d.answerRead r st data nocache).Canon := by
  unfold Dev.answerRead
  split
  · exact h.emit
  · exact .ite h.emit h.emit

theorem Dev.Canon.noteWrote {d : Dev} (h : d.Canon) {u : DevUse} {ok : Bool} : (d.noteWrote u ok).Canon :=
  h.same

theorem Dev.Canon.answerWrite {d : Dev} (h : d.Canon) {r : HostReq} {st : Nat} : (d.answerWrite r st).Canon := by
  unfold Dev.answerWrite
  split
  · exact h
  · exact h
  · exact h
  · exact h.noteWrote
  · exact .ite h.emit h.emit

theorem Dev.Canon.refuse {d : Dev} (h : d.Canon) {r : HostReq} {st : Nat} {ca : Bool} : (d.refuse r st ca).Canon := by
  unfold Dev.refuse
  split
  · exact h.refuseBar
  · exact h.refuseBar
  · exact h
  · exact h
  · exact h.noteWrote
  · exact .ite (.ite h.emit h.emit) h.emit

theorem Dev.Canon.revoked {d : Dev} (h : d.Canon) {slot : Option Nat} {p off : Nat} : (d.revoked slot p off).Canon := by
  unfold Dev.revoked
  split
  · exact h.inc.wr
  · exact h.inc

theorem Dev.Canon.readyLines {d : Dev} (h : d.Canon) {write : Bool} {ls : List Nat} : Dev.CanonOf (d.readyLines write ls) := by
  unfold Dev.readyLines
  refine Dev.CanonOf.ite .none (.opt ?_)
  refine .foldl h (fun _ _ ht => ?_)
  split
  · split
    · exact ht.recallLine
    · exact ht.recallLine
    · exact ht
  · exact ht

theorem Dev.Canon.wayFor {d : Dev} (h : d.Canon) {k : Nat} : (d.wayFor k).1.Canon := by
  unfold Dev.wayFor
  refine .ite_fst h ?_
  split
  · exact h.recallLine.inc
  · split
    · exact h.displaceOrphan
    · exact h

theorem Dev.Canon.cacheLine {d : Dev} (h : d.Canon) {k a : Nat} {own : Bool} : (d.cacheLine k a own).1.Canon := by
  unfold Dev.cacheLine
  split
  · exact .ite_fst h.wayFor.dirNew h.wayFor
  · split
    · exact .ite_fst (.ite_fst h.dirPut.dirLog h.recallLine) h.dirPut.dirLog
    · exact .ite_fst h h.recallLine
    · exact h

theorem Dev.Canon.readNow {d : Dev} (h : d.Canon) {r : HostReq} {t : Tgt} {nocache : Bool} : (d.readNow r t nocache).Canon :=
  h.chargePieces.grantPages.touchPieces.pmapLookup.countOverruns.answerRead

theorem Dev.Canon.thFetch {d : Dev} (h : d.Canon) {who cls : Nat} {ls : List Nat} : (d.thFetch who cls ls).Canon := by
  unfold Dev.thFetch
  refine .foldl h (fun _ _ ht => ?_)
  split
  · exact .ite ht ht.thSend
  · exact ht

theorem Dev.Canon.thTake {d : Dev} (h : d.Canon) {who : Nat} {ls : List Nat} : (d.thTake who ls).Canon :=
  h.same

theorem Dev.Canon.thPut {d : Dev} (_ : d.Canon) {d1 : Dev} {cls : Nat} {t : Tgt} {m : List (Option Byte)} {ps : List Piece} (h1 : d1.Canon) :
    (d.thPut d1 cls t m ps).Canon := by
  unfold Dev.thPut
  refine .foldl h1 (fun _ _ ht => ?_)
  refine .foldl ht (fun _ _ ht1 => ?_)
  refine .foldl ht1 (fun _ _ ht2 => ?_)
  split
  · exact .ite ht2.thSend ht2
  · exact ht2

theorem Dev.Canon.serveRead {d : Dev} (h : d.Canon) {r : HostReq} {t : Tgt} {slot : Option Nat} : (d.serveRead r t slot).Canon := by
  unfold Dev.serveRead
  extract_lets ps ks want tracked rights lines orph met dt d0 d1
  clear_value ps lines
  have stepped : met.1.Canon := by
    refine .ite_fst h (.ite_fst ?_ ?_)
    · split
      · exact .ite_fst h h.cacheLine
      · exact h
    · split
      · rename_i e
        exact Dev.Canon.of_some e h.readyLines
      · exact h
  have fetched : dt.Canon := stepped.thFetch
  have read : d1.Canon := by
    unfold d1
    split
    · exact fetched.thTake.medRead
    · exact fetched.thTake
  refine .ite h (.ite h (.ite (h.foldl fun _ _ ht => ht.promote) (.ite h (.ite h (.ite h ?_)))))
  split
  · exact stepped
  · exact .ite fetched (.ite read read.readNow)

theorem Dev.Canon.writeNow {d : Dev} (h : d.Canon) {r : HostReq} {m : List (Option Byte)} {p : Nat} {t : Tgt} {x : Dev × Option Nat}
    (e : d.writeNow r m p t = some x) : x.1.Canon := by
  unfold Dev.writeNow at e
  dsimp only at e
  split at e
  · cases e
  · rename_i u hu
    have stored : ((((u.viewWrite t m r.cls).grantPages true r.cls (pieceKeys (d.writePieces t m.length))).touchPieces
        (d.writePieces t m.length)).pmapLookup (pieceKeys (d.writePieces t m.length))).Canon :=
      (Dev.Canon.of_some hu h.framesFor).viewWrite.grantPages.touchPieces.pmapLookup
    cases e
    exact .ite (stored.mirrorNote.inc.foldl fun _ _ ht => ht.poisonBlks).sign (.ite (stored.mirrorNote.foldl fun _ _ ht => ht.poisonBlks)
        stored.mirrorNote)

theorem Dev.Canon.lockBeat {d : Dev} (h : d.Canon) {r : HostReq} {p : Nat} {ps : List Piece} {t : Tgt} : (d.lockBeat r p ps t).Canon := by
  unfold Dev.lockBeat
  split
  · exact .ite h h.same
  · exact .ite h.putLock (.ite h h.same)

theorem Dev.Canon.lockMeets {d : Dev} (h : d.Canon) {r : HostReq} {t : Tgt} : (d.lockMeets r t).Canon := by
  unfold Dev.lockMeets
  split
  · exact h
  · exact .ite h.breakLock (.ite h.inc.putLock h)

theorem Dev.Canon.lockPoison {d : Dev} (h : d.Canon) {r : HostReq} {p : Nat} {t : Tgt} : (d.lockPoison r p t).Canon := by
  unfold Dev.lockPoison
  split
  · exact .ite h.inc h.inc.upd
  · exact .ite h.breakLock (.ite h.putLock h)

theorem Dev.Canon.lockLast {d : Dev} (h : d.Canon) {lk : Bool} {r : HostReq} : (d.lockLast lk r).Canon := by
  unfold Dev.lockLast
  refine .ite ?_ h
  split
  · exact h.putLock
  · exact h

theorem Dev.Canon.mergeRead {d : Dev} (h : d.Canon) {m : List (Option Byte)} {ps : List Piece} {med : Med} : (d.mergeRead m ps med).Canon := by
  unfold Dev.mergeRead
  split
  · exact .ite h h.medRead
  · exact h

theorem Dev.Canon.serveWrite {d : Dev} (h : d.Canon) {r : HostReq} {p : Nat} {t : Tgt} : (d.serveWrite r p t).Canon := by
  unfold Dev.serveWrite
  extract_lets lk u m ps ks own seqSt lines _ v gone
  have hu : u.Canon := .ite h.lockMeets h
  refine .ite hu (.ite hu ?_)
  split
  · exact hu.lockLast.refuse
  · refine .ite (hu.foldl fun _ _ ht => ht.promote) (.ite hu (.ite hu (.ite hu (.ite ?_ ?_))))
    · split
      · exact hu
      · exact hu.lockLast.answerWrite
    · split
      · rename_i e
        exact Dev.Canon.of_some e hu.readyLines
      · have hv : v.Canon := hu.mergeRead
        refine .ite hv (.ite ?_ ?_)
        · split
          · exact hv
          · exact Dev.Canon.ite hv.lockPoison.answerWrite hv.answerWrite
        · split
          · exact hv.lockLast.refuse
          · rename_i e
            extract_lets d2 d3
            have cleared : d2.Canon := (hv.writeNow e).foldl fun _ _ ht => ht.dirDel.dirLog
            have put : d3.Canon := hv.thPut (.ite cleared.lockBeat cleared)
            split
            · exact put.same
            · exact put.answerWrite

theorem Dev.Canon.returnLine {d : Dev} (h : d.Canon) {k : Nat} {data : List Byte} : (d.returnLine k data).Canon := by
  unfold Dev.returnLine
  split
  · exact h
  · refine .ite h ?_
    dsimp only
    split
    · exact h
    · rename_i e
      exact (h.thPut (((Dev.Canon.of_some e h.framesFor).viewWrite).touchPieces)).mirrorNote

theorem Dev.Canon.goodEntry {d : Dev} (h : d.Canon) {k : Nat} : (d.goodEntry k).Canon := by
  unfold Dev.goodEntry
  split
  · exact .ite h.dirPut h
  · exact h

theorem Dev.Canon.recallAnswered {d : Dev} (h : d.Canon) {k slot : Nat} {data : Option (List Byte)} : (d.recallAnswered k slot data).Canon := by
  unfold Dev.recallAnswered
  refine .recallEnd (.upd ?_)
  split
  · exact h.goodEntry.returnLine
  · exact h

theorem Dev.Canon.dropCopy {d : Dev} (h : d.Canon) {k a : Nat} : (d.dropCopy k a).Canon := by
  unfold Dev.dropCopy
  split
  · exact h
  · split
    · exact .ite h ((Dev.Canon.ite h.dirDel h.dirPut).dirLog)
    · exact .ite h.dirDel.dirLog h
    · exact h

theorem Dev.Canon.serveReturn {d : Dev} (h : d.Canon) {r : HostReq} {p : Nat} {t : Tgt} {k h' : Nat} : (d.serveReturn r p t k h').Canon := by
  unfold Dev.serveReturn
  extract_lets lk u st v
  have met : u.Canon := .ite h.lockMeets h
  have taken : v.Canon := .ite met.recallAnswered met.returnLine.dropCopy
  exact Verdict.Canon.ite met (Dev.Canon.ite taken.lockBeat taken).answerWrite

theorem Dev.Canon.serveRecall {d : Dev} (h : d.Canon) {r : HostReq} {slot : Nat} : (d.serveRecall r slot).Canon :=
  .ite h (.ite h h.recallAnswered)

theorem Dev.Canon.serveIn {d : Dev} (h : d.Canon) {r : HostReq} {p : Nat} {passed : Bool} : (d.serveIn r p passed).Canon := by
  unfold Dev.serveIn
  refine Verdict.Canon.ite h.refuse ?_
  split
  · exact h.refuse
  · exact .ite h.refuse (.ite h.revoked.refuse (.ite (Dev.Canon.ite h.recallAnswered h.dropCopy) (.ite h.serveReturn
      (.ite h.revoked.refuse (.ite h.serveReturn (.ite h.serveRead (Dev.Canon.ite h.dropCopy h).serveWrite))))))

theorem Dev.Canon.serve {d : Dev} (h : d.Canon) {r : HostReq} {passed : Bool} : (d.serve r passed).Canon := by
  unfold Dev.serve
  split
  · exact h.serveRecall
  · exact h.serveIn
  · exact .ite h.refuse h.inc.refuse

theorem Dev.Canon.countHeld {d : Dev} (h : d.Canon) {why : HoldWhy} {r : HostReq} : (d.countHeld why r).Canon := by
  unfold Dev.countHeld
  split
  · exact h.inc
  · exact .ite h.inc h
  · exact h

theorem Dev.Canon.holdReq {d : Dev} (h : d.Canon) {why : HoldWhy} {r : HostReq} : (d.holdReq why r).Canon :=
  h.same

theorem Dev.Canon.request {d : Dev} (h : d.Canon) {r : HostReq} : (d.request r).Canon := by
  unfold Dev.request
  refine .ite h.holdReq ?_
  split
  · rename_i e
    exact .of_done e h.serve
  · rename_i e
    exact ((Dev.Canon.of_hold e h.serve).countHeld).holdReq

theorem Dev.Canon.retryOne {d : Dev} (h : d.Canon) {x : Held} : (d.retryOne x).Canon := by
  unfold Dev.retryOne
  refine .ite h.holdReq ?_
  split
  · rename_i e
    exact .of_done e h.serve
  · rename_i e
    exact (Dev.Canon.ite ((Dev.Canon.of_hold e h.serve).countHeld) (.of_hold e h.serve)).holdReq

theorem Dev.Canon.retryPass {d : Dev} (h : d.Canon) : d.retryPass.Canon :=
  h.same.foldl (fun _ _ ht => ht.retryOne)

theorem Dev.Canon.decide1 {d : Dev} (h : d.Canon) : Dev.CanonOf d.decide1 := by
  unfold Dev.decide1
  split
  · exact .none
  · split
    · refine .opt ?_
      dsimp only
      split
      · rename_i e
        exact .of_done e h.same.serve
      · rename_i e
        exact (Dev.Canon.of_hold e h.same.serve).holdReq
    · dsimp only
      split
      · refine .opt ?_
        split
        · rename_i e
          exact .of_done e h.commitMeets.upd.serve
        · rename_i e
          exact (Dev.Canon.of_hold e h.commitMeets.upd.serve).holdReq
      · refine .opt ?_
        split
        · rename_i e
          exact .of_done e h.commitMeets.grantAt.upd.serve
        · rename_i e
          exact (Dev.Canon.of_hold e h.commitMeets.grantAt.upd.serve).holdReq

theorem Dev.Canon.decideN {d : Dev} (h : d.Canon) {n : Nat} : (Dev.decideN n d).Canon := by
  induction n generalizing d with
  | zero => exact h
  | succ n ih =>
    unfold Dev.decideN
    split
    · rename_i u e
      exact ih (h.decide1 u e)
    · exact h

theorem Dev.Canon.retryHeldN {d : Dev} (h : d.Canon) {n : Nat} : (Dev.retryHeldN n d).Canon := by
  induction n generalizing d with
  | zero => exact h
  | succ n ih => exact .ite (ih h.decideN.retryPass) h.decideN.retryPass

theorem Dev.Canon.removeObj {d : Dev} (h : d.Canon) {p n : Nat} {o : Obj} : (d.removeObj p n o).Canon := by
  unfold Dev.removeObj
  extract_lets a _ d1 d2 _ d3
  have dropped : d2.Canon := (h.same (t := d1)).recallRange.foldl fun _ _ ht => ht.dropPage
  have gone : d3.Canon := .ite (h.same (t := d1)) dropped.same
  split
  · exact gone.adminRefuse
  · exact gone

theorem Dev.Canon.putClear {d : Dev} (h : d.Canon) {c : Clear} {c' : Option Clear} : (d.putClear c c').Canon :=
  h.same

theorem Dev.Canon.setFence {d : Dev} (h : d.Canon) {p mask : Nat} : (d.setFence p mask).Canon :=
  .ite h h.wr.post.notify

theorem Dev.Canon.drawKey {d : Dev} (h : d.Canon) {p : Nat} : (d.drawKey p).Canon :=
  .ite h.same h.drawn.upd.logState

theorem Dev.Canon.resetObjs {d : Dev} (h : d.Canon) {p : Nat} : (d.resetObjs p).Canon := by
  unfold Dev.resetObjs
  refine .upd (.foldl ?_ (fun _ _ ht => ?_))
  · refine .foldl h.same (fun _ _ ht => ?_)
    split
    · exact ht.adminOk
    · exact ht
  · refine .removeObj ?_
    split
    · refine .adminRefuse ?_
      split
      · exact ht.adminRefuse
      · exact ht
    · split
      · exact ht.adminRefuse
      · exact ht

theorem Dev.Canon.resetGrants {d : Dev} (h : d.Canon) {p : Nat} : (d.resetGrants p).Canon := by
  unfold Dev.resetGrants
  extract_lets d1 _ d2 d3 d4
  have ended : d1.Canon := h.foldl fun _ _ ht => ht.revokeEnd
  have cleared : d3.Canon := (ended.same (t := d2)).wr
  have read : d4.Canon := .ite cleared.wr cleared
  exact .ite read.drawKey read.same

theorem Dev.Canon.resetDone {d : Dev} (h : d.Canon) {p extents : Nat} : (d.resetDone p extents).Canon :=
  h.setFence.wr.inc.post

theorem Dev.Canon.resetGo {d : Dev} (h : d.Canon) {c : Clear} : (d.resetGo c).Canon :=
  .ite (.ite h.putClear.resetDone h) (.ite h (.ite h.putClear.resetObjs.resetGrants.putClear.resetDone h.putClear.resetObjs.resetGrants))

theorem Dev.Canon.clearOne {d : Dev} (h : d.Canon) {c : Clear} : (d.clearOne c).Canon := by
  unfold Dev.clearOne
  extract_lets fin
  have finished : ∀ (t : Dev) (x : Clear), t.Canon → (fin t x).Canon := by
    intro t x ht
    refine .ite ?_ ht
    split
    · exact ht.putClear.adminOk
    · exact ht.putClear
  split
  · exact h.resetGo
  · refine .ite ?_ h
    split
    · extract_lets d0 d1
      have recalled : d0.Canon := .ite h h.recallRange
      have withdrawn : d1.Canon := (Dev.Canon.ite recalled (recalled.foldl fun _ _ ht => ht.displaceOrphan)).putClear.modObj
      refine .ite recalled ?_
      split
      · exact withdrawn.adminOk
      · exact withdrawn
    · exact h.putClear
  · refine .ite (finished _ _ h) (.ite ?_ h)
    split
    · exact finished _ _ h.putClear.removeObj
    · exact h.putClear

theorem Dev.Canon.clearStep {d : Dev} (h : d.Canon) : d.clearStep.Canon :=
  h.foldl (fun _ _ ht => ht.clearOne)

theorem Dev.Canon.settleMem {d : Dev} (h : d.Canon) : d.settleMem.Canon :=
  h.revokeStep.clearStep.thCopies.retryHeldN

theorem Dev.Canon.deviceWrite {d : Dev} (h : d.Canon) {u : DevUse} {p off cls : Nat} {bs : List Byte} : (d.deviceWrite u p off cls bs).Canon :=
  h.request

end Sys2Proof.Machine
end

section
/-! The canonical form of the stored bytes is kept by the functions of Chan, Channels, Access, Queues. -/
-- Elaborating a thousand short theorems each in a thread of its own costs the memory of the threads.
set_option Elab.async false
namespace Sys2Proof.Machine

/-! ## Chan -/

theorem Dev.Canon.setChan {d : Dev} (h : d.Canon) {k : Nat} {c : Chan} : (d.setChan k c).Canon :=
  h.same

theorem Dev.Canon.modChan {d : Dev} (h : d.Canon) {k : Nat} {f : Chan → Chan} : (d.modChan k f).Canon :=
  h.same

theorem Dev.Canon.modDsc {d : Dev} (h : d.Canon) {k seq : Nat} {f : Dsc → Dsc} : (d.modDsc k seq f).Canon :=
  h.modChan

theorem Dev.Canon.startChan {d : Dev} (h : d.Canon) {k : Nat} : (d.startChan k).Canon :=
  h.modChan

theorem Dev.Canon.startPart {d : Dev} (h : d.Canon) {p : Nat} : (d.startPart p).Canon :=
  h.foldl (fun _ _ ht => ht.startChan)

theorem Dev.Canon.notifyDone {d : Dev} (h : d.Canon) : d.notifyDone.Canon :=
  h.same.foldl (fun _ _ ht => .ite ht ht.inc)

theorem Dev.Canon.notifyWrite {d : Dev} (h : d.Canon) {k : Nat} {s : SyncObj} : (d.notifyWrite k s).Canon := by
  unfold Dev.notifyWrite
  split
  · exact .ite h.emit h.inc
  · split
    · exact h.newTag.emit
    · exact h.inc
  · exact .ite h.inc h.deviceWrite.notifyDone
  · exact h

theorem Dev.Canon.syncReached {d : Dev} (h : d.Canon) {k : Nat} : (d.syncReached k).Canon := by
  unfold Dev.syncReached
  split
  · exact h
  · split
    · exact h
    · exact .ite h.same.post h

theorem Dev.Canon.signalObj {d : Dev} (h : d.Canon) {k add : Nat} : (d.signalObj k add).Canon := by
  unfold Dev.signalObj
  split
  · exact h
  · exact ((((Dev.Canon.ite h h.inc).upd).syncReached).notifyWrite).startPart

theorem Dev.Canon.logChan {d : Dev} (h : d.Canon) {k : Nat} : (d.logChan k).Canon := by
  unfold Dev.logChan
  split
  · exact .ite h.logState h
  · exact h

theorem Dev.Canon.dscSignal {d : Dev} (h : d.Canon) {k : Nat} {x : Dsc} : (d.dscSignal k x).Canon := by
  unfold Dev.dscSignal
  refine .ite ?_ h
  split
  · exact h.signalObj
  · exact h

theorem Dev.Canon.countDsc {d : Dev} (h : d.Canon) {p recipe : Nat} {x : Dsc} : (d.countDsc p recipe x).Canon := by
  unfold Dev.countDsc
  extract_lets when push att d1 d2 d3 d4
  have counts : ∀ (b : Bool) (key : Nat) (t : Dev), t.Canon → (when b key t).Canon := fun _ _ _ ht => .ite ht.inc ht
  have counted : d4.Canon := counts _ _ _ (counts _ _ _ (counts _ _ _ (counts _ _ _ (counts _ _ _ (counts _ _ _ (counts _ _ _ h))))))
  exact .ite counted counted.add

theorem Dev.Canon.pushSignal {d : Dev} (h : d.Canon) {k : Nat} {c : Chan} {x : Dsc} : (d.pushSignal k c x).Canon := by
  unfold Dev.pushSignal
  refine .ite h ?_
  split
  · exact h.signalObj
  · exact h

theorem Dev.Canon.recipeDone {d : Dev} (h : d.Canon) {k : Nat} {x : Dsc} : (d.recipeDone k x).Canon := by
  unfold Dev.recipeDone
  split
  · exact h.pushSignal.countDsc
  · exact h

theorem Dev.Canon.completeDsc {d : Dev} (h : d.Canon) {k : Nat} {x : Dsc} : (d.completeDsc k x).Canon :=
  .ite h.thForget.modChan.recipeDone.dscSignal.inc h.thForget.modChan.recipeDone.dscSignal.inc.modChan

theorem Dev.Canon.testDue {d : Dev} (h : d.Canon) {n : Nat} : (d.testDue n).Canon :=
  .ite h.setClu h

theorem Dev.Canon.freeBud {d : Dev} (h : d.Canon) {b : Nat} : (d.freeBud b).Canon :=
  h.setClu.testDue

theorem Dev.Canon.endWindow {d : Dev} (h : d.Canon) {n : Nat} : (d.endWindow n).Canon := by
  unfold Dev.endWindow
  split
  · exact h.setClu.freeBud
  · exact h

theorem Dev.Canon.clearPipe {d : Dev} (h : d.Canon) {c : Chan} : (d.clearPipe c).Canon :=
  h.foldl (fun _ _ ht => ht.endWindow.setClu.testDue)

theorem Dev.Canon.discardBlocks {d : Dev} (h : d.Canon) {p first count : Nat} : (d.discardBlocks p first count).Canon :=
  h.clear.foldl (fun _ _ ht => .ite ht.dropPage ht.setValid.setPage)

theorem Dev.Canon.clearResidue {d : Dev} (h : d.Canon) {k : Nat} {c : Chan} : (d.clearResidue k c).Canon := by
  unfold Dev.clearResidue
  refine .ite ?_ h
  split
  · exact h.discardBlocks
  · exact h

theorem Dev.Canon.residueGone {d : Dev} (h : d.Canon) {k : Nat} : (d.residueGone k).Canon := by
  unfold Dev.residueGone
  split
  · exact h.clearResidue
  · exact h

theorem Dev.Canon.dropFetch {d : Dev} (h : d.Canon) {k : Nat} : (d.dropFetch k).Canon :=
  h.same

theorem Dev.Canon.haltBody {d : Dev} (h : d.Canon) {k : Nat} {cause : Option Nat} {status detail : Nat} : (d.haltBody k cause status detail).Canon := by
  unfold Dev.haltBody
  split
  · exact h
  · exact .ite h ((((((((h.foldl (fun _ _ ht => ht.breakLock)).setChan).dropFetch).foldl (fun _ _ ht =>
        ht.completeDsc)).clearPipe).clearResidue).inc).modChan)

theorem Dev.Canon.cqeWritten {d : Dev} (h : d.Canon) {k : Nat} : (d.cqeWritten k).Canon := by
  unfold Dev.cqeWritten
  split
  · exact h
  · exact (Dev.Canon.ite h.setChan.postChan h.setChan).logChan

theorem Dev.Canon.cqeLost {d : Dev} (h : d.Canon) {k : Nat} : (d.cqeLost k).Canon :=
  h.modChan

theorem Dev.Canon.cqeFailed {d : Dev} (h : d.Canon) {k : Nat} : (d.cqeFailed k).Canon :=
  h.cqeLost.haltBody

theorem Dev.Canon.cqeTaken {d : Dev} (h : d.Canon) {k : Nat} : (d.cqeTaken k).Canon :=
  .ite h.same.cqeWritten (.ite h.same.cqeFailed h)

theorem Dev.Canon.cqSend {d : Dev} (h : d.Canon) {k : Nat} {c : Chan} {x : Cqe} : (d.cqSend k c x).Canon := by
  unfold Dev.cqSend
  refine .ite h.cqeLost ?_
  split
  · exact h.emit.cqeWritten
  · split
    · exact h.modChan.newTag.emit
    · exact h.cqeFailed
  · exact h.modChan.deviceWrite.cqeTaken

theorem Dev.Canon.cqSendN {d : Dev} (h : d.Canon) {n k : Nat} : (Dev.cqSendN n d k).Canon := by
  induction n generalizing d with
  | zero => exact h
  | succ n ih =>
    unfold Dev.cqSendN
    split
    · exact h
    · split
      · exact .ite h (ih h.cqSend)
      · exact h

theorem Dev.Canon.fetchRead {d : Dev} (h : d.Canon) {k : Nat} {c : Chan} : (d.fetchRead k c).Canon := by
  unfold Dev.fetchRead
  refine .ite h ?_
  split
  · exact h.newTag.emit
  · dsimp only
    split
    · exact h.newTag.emit
    · exact h
  · exact h

theorem Dev.Canon.fetchOn {d : Dev} (h : d.Canon) {k : Nat} : (d.fetchOn k).Canon := by
  unfold Dev.fetchOn
  split
  · exact h.fetchRead
  · exact h

theorem Dev.Canon.freeChan {d : Dev} (h : d.Canon) {k : Nat} : (d.freeChan k).Canon := by
  unfold Dev.freeChan
  split
  · exact h
  · extract_lets d1 d2 sp _ d3 d4 d5
    have reset : d2.Canon := (Dev.Canon.ite h.logState h).foldl fun _ _ ht => ht.setClu
    have freed : d3.Canon := reset.same
    have bound : d4.Canon := by
      unfold d4
      split
      · exact freed.adminBadHandle
      · exact freed
    have restarted : d5.Canon := by
      unfold d5
      split
      · exact bound.adminBadHandle
      · exact bound
    exact restarted.foldl fun _ _ ht => .ite ht.adminOk ht.adminBadHandle

theorem Dev.Canon.cqIdle {d : Dev} (h : d.Canon) {k : Nat} : (d.cqIdle k).Canon := by
  unfold Dev.cqIdle
  split
  · exact h
  · refine .ite h (.ite ?_ ?_)
    · refine .freeChan (.foldl ?_ (fun _ _ ht => ht.adminOk))
      refine .modChan ?_
      split
      · exact h.setChan.postChan.logChan
      · exact h
    · refine .foldl ?_ (fun _ _ ht => ht.adminOk)
      refine .modChan ?_
      split
      · exact h.setChan.postChan.logChan
      · exact h

theorem Dev.Canon.cqPump {d : Dev} (h : d.Canon) {k : Nat} : (d.cqPump k).Canon := by
  unfold Dev.cqPump
  split
  · exact h
  · exact h.cqSendN.cqIdle.startChan.fetchOn

theorem Dev.Canon.haltChan {d : Dev} (h : d.Canon) {k : Nat} {cause : Option Nat} {status detail : Nat} : (d.haltChan k cause status detail).Canon :=
  h.haltBody.cqPump

theorem Dev.Canon.failHalt {d : Dev} (h : d.Canon) {k seq status detail : Nat} : (d.failHalt k seq status detail).Canon :=
  h.modDsc.haltChan

theorem Dev.Canon.haltAll {d : Dev} (h : d.Canon) {status : Nat} {p : Nat → Chan → Bool} : (d.haltAll status p).Canon :=
  h.foldl (fun _ _ ht => ht.haltChan)

theorem Dev.Canon.destroyChan {d : Dev} (h : d.Canon) {k : Nat} {a : Adm} : (d.destroyChan k a).Canon :=
  .ite h.modChan h.haltBody.residueGone.modChan.cqPump

theorem Dev.Canon.killChan {d : Dev} (h : d.Canon) {k : Nat} : (d.killChan k).Canon := by
  unfold Dev.killChan
  split
  · exact h
  · exact .ite h.residueGone.freeChan ((((((((h.foldl (fun _ _ ht => ht.breakLock)).setChan).dropFetch).foldl (fun _ _ ht =>
        ht.dscSignal.inc)).clearPipe).clearResidue).inc).freeChan)

theorem Dev.Canon.fenceAdd {d : Dev} (h : d.Canon) {p cause : Nat} : (d.fenceAdd p cause).Canon :=
  .ite h.setFence (.ite (h.setFence.inc.losePer.dropLocks.haltAll.foldl (fun _ _ ht => .ite ht.aer ht)) h.setFence.inc.losePer.dropLocks.haltAll)

/-! ## Channels -/

theorem Dev.Canon.placePipe {d : Dev} (h : d.Canon) {k recipe : Nat} {stages : List (List Nat)} : (d.placePipe k recipe stages).Canon := by
  unfold Dev.placePipe
  refine .foldl h (fun _ _ ht => ?_)
  refine .foldl ht (fun _ _ ht1 => ?_)
  split
  · exact ht1
  · exact ht1.setClu

theorem Dev.Canon.chCreateDo {d : Dev} (h : d.Canon) {a : Adm} {a' : ChArgs} : (d.chCreateDo a a').Canon := by
  unfold Dev.chCreateDo
  dsimp only
  split
  · exact h.adminRefuse
  · exact h.same.placePipe.logChan.adminOk

theorem Dev.Canon.execChCreate {s : State} (h : s.dev.Canon) {a : Adm} {a' : ChArgs} : Dev.CanonNext (execChCreate a a' s) :=
  (Dev.Canon.ite h (h.admin (fun _ _ ht => ht.admTry (fun _ ht1 => ht1.chCreateDo)))).next

theorem Dev.Canon.onChan {d : Dev} (h : d.Canon) {a : Adm} {handle : Nat} {run : Dev → Nat → Chan → Dev} (hrun : ∀ t y z, t.Canon → (run t y z).Canon) :
    (d.onChan a handle run).Canon := by
  unfold Dev.onChan
  split
  · exact h.adminBadHandle
  · split
    · exact h.adminBadHandle
    · exact hrun _ _ _ h

theorem Dev.Canon.onLive {d : Dev} (h : d.Canon) {a : Adm} {handle : Nat} {run : Dev → Nat → Chan → Dev} (hrun : ∀ t y z, t.Canon → (run t y z).Canon) :
    (d.onLive a handle run).Canon :=
  h.onChan (fun _ _ _ ht => .ite ht.adminRefuse (hrun _ _ _ ht))

theorem Dev.Canon.resetChan {d : Dev} (h : d.Canon) {k : Nat} {a : Adm} : (d.resetChan k a).Canon :=
  h.haltBody.residueGone.modChan.cqPump

theorem Dev.Canon.chRestartDo {d : Dev} (h : d.Canon) {a : Adm} {k : Nat} {c : Chan} {rewind : Bool} : (d.chRestartDo a k c rewind).Canon :=
  h.setChan.placePipe.logChan.adminOk.fetchOn

theorem Dev.Canon.chRestart {d : Dev} (h : d.Canon) {a : Adm} {flags k : Nat} {c : Chan} : (d.chRestart a flags k c).Canon :=
  h.admTry (fun _ ht => .ite ht.setChan ht.chRestartDo)

theorem Dev.Canon.lateRestarts {d : Dev} (h : d.Canon) : d.lateRestarts.Canon := by
  unfold Dev.lateRestarts
  refine .foldl h (fun _ _ ht => ?_)
  split
  · split
    · split
      · exact ht.setChan.adminDone
      · exact .ite ht ht.chRestartDo
    · exact ht
  · exact ht

theorem Dev.Canon.takeWrote {d : Dev} (h : d.Canon) : d.takeWrote.Canon := by
  unfold Dev.takeWrote
  refine .foldl h.same (fun _ _ ht => ?_)
  split
  · split
    · exact (Dev.Canon.ite ht.cqeWritten ht.cqeFailed).cqPump
    · exact ht
  · exact .ite ht ht.inc
  · exact ht
  · exact .ite ht.adminOk ht.adminRefuse

theorem Dev.Canon.settleN {d : Dev} (h : d.Canon) {n : Nat} : (Dev.settleN n d).Canon := by
  induction n generalizing d with
  | zero => exact h
  | succ n ih => exact .ite h.settleMem (ih h.settleMem.takeWrote)

theorem Dev.Canon.settle {d : Dev} (h : d.Canon) : d.settle.Canon :=
  h.settleN.lateRestarts

theorem Dev.Canon.execChDestroy {s : State} (h : s.dev.Canon) {a : Adm} {handle : Nat} : Dev.CanonNext (execChDestroy a handle s) :=
  (h.admin (fun _ _ ht => ht.onChan (fun _ _ _ ht1 => ht1.destroyChan.settle))).next

theorem Dev.Canon.execChReset {s : State} (h : s.dev.Canon) {a : Adm} {handle : Nat} : Dev.CanonNext (execChReset a handle s) :=
  (Dev.Canon.ite h (h.admin (fun _ _ ht => ht.onLive (fun _ _ _ ht1 => ht1.resetChan.settle)))).next

theorem Dev.Canon.execChRestart {s : State} (h : s.dev.Canon) {a : Adm} {handle flags : Nat} : Dev.CanonNext (execChRestart a handle flags s) :=
  (Dev.Canon.ite h (h.admin (fun _ _ ht => ht.onLive (fun _ _ _ ht1 => ht1.chRestart)))).next

theorem Dev.Canon.bindPort {d : Dev} (h : d.Canon) {a : Adm} {k port : Nat} : (d.bindPort a k port).Canon :=
  h.modChan.logChan.adminOk.fetchOn

theorem Dev.Canon.chModifyDo {d : Dev} (h : d.Canon) {a : Adm} {k : Nat} {c : Chan} {cls policy mask port : Nat} :
    (d.chModifyDo a k c cls policy mask port).Canon :=
  .ite h.setChan.logChan.adminOk (.ite h.setChan.bindPort h.setChan.setChan)

theorem Dev.Canon.execChModify {s : State} (h : s.dev.Canon) {a : Adm} {handle cls policy mask port : Nat} :
    Dev.CanonNext (execChModify a handle cls policy mask port s) :=
  (Dev.Canon.ite h (h.admin (fun _ _ ht => ht.onLive (fun _ _ _ ht1 => ht1.admTry (fun _ ht2 => ht2.chModifyDo))))).next

theorem Dev.Canon.portBind {d : Dev} (h : d.Canon) {k : Nat} : (d.portBind k).Canon := by
  unfold Dev.portBind
  split
  · split
    · exact .ite h.bindPort h
    · exact h
  · exact h

theorem Dev.Canon.execChModifyPortBind {s : State} (h : s.dev.Canon) {handle : Nat} : Dev.CanonNext (execChModifyPortBind handle s) :=
  h.portBind.next

theorem Dev.Canon.execChQuery {s : State} (h : s.dev.Canon) {a : Adm} {handle : Nat} : Dev.CanonNext (execChQuery a handle s) :=
  (Dev.Canon.ite h (h.admin (fun _ _ ht => ht.onLive (fun _ _ _ ht1 => ht1.adminOk)))).next

theorem Dev.Canon.syncAllocDo {d : Dev} (h : d.Canon) {a : Adm} {loc init addr ep : Nat} : (d.syncAllocDo a loc init addr ep).Canon := by
  unfold Dev.syncAllocDo
  dsimp only
  split
  · exact h.adminRefuse
  · exact h.same.adminOk

theorem Dev.Canon.execSyncAlloc {s : State} (h : s.dev.Canon) {a : Adm} {loc init addr ep : Nat} : Dev.CanonNext (execSyncAlloc a loc init addr ep s) :=
  (h.admin (fun _ _ ht => ht.admTry (fun _ ht1 => ht1.syncAllocDo))).next

theorem Dev.Canon.onSync {d : Dev} (h : d.Canon) {a : Adm} {handle : Nat} {run : Dev → Nat → SyncObj → Dev} (hrun : ∀ t y z, t.Canon →
    (run t y z).Canon) :
    (d.onSync a handle run).Canon := by
  unfold Dev.onSync
  split
  · exact h.adminBadHandle
  · split
    · exact h.adminBadHandle
    · exact hrun _ _ _ h

theorem Dev.Canon.syncFreeDo {d : Dev} (h : d.Canon) {a : Adm} {k : Nat} : (d.syncFreeDo a k).Canon :=
  h.same.adminOk

theorem Dev.Canon.execSyncFree {s : State} (h : s.dev.Canon) {a : Adm} {handle : Nat} : Dev.CanonNext (execSyncFree a handle s) :=
  (h.admin (fun _ _ ht => ht.onSync (fun _ _ _ ht1 => .ite ht1.adminRefuse ht1.syncFreeDo))).next

theorem Dev.Canon.execSyncSignal {s : State} (h : s.dev.Canon) {a : Adm} {handle addend : Nat} : Dev.CanonNext (execSyncSignal a handle addend s) :=
  (h.admin (fun _ _ ht => ht.onSync (fun _ _ _ ht1 => ht1.signalObj.adminOk.settle))).next

theorem Dev.Canon.execSyncQuery {s : State} (h : s.dev.Canon) {a : Adm} {handle : Nat} : Dev.CanonNext (execSyncQuery a handle s) :=
  (h.admin (fun _ _ ht => ht.onSync (fun _ _ _ ht1 => ht1.adminOk))).next

theorem Dev.Canon.execSyncArm {s : State} (h : s.dev.Canon) {a : Adm} {handle threshold : Nat} : Dev.CanonNext (execSyncArm a handle threshold s) :=
  (h.admin (fun _ _ ht => ht.onSync (fun _ _ _ ht1 => ht1.same.syncReached.adminOk))).next

/-! ## Access -/

theorem ChAcc.Canon.next {a : ChAcc} (h : a.Canon) {f : Dev → List Byte → Nat → ChAcc} (step : ∀ t bs n, t.Canon → (f t bs n).Canon) :
    (a.next f).Canon := by
  cases a with
  | done => exact step _ _ _ h
  | wait => exact h
  | fail => exact h

theorem Dev.Canon.promoteAll {d : Dev} (h : d.Canon) {cls : Nat} {ks : List Nat} : (d.promoteAll cls ks).Canon :=
  h.foldl (fun _ _ ht => ht.promote)

theorem Dev.Canon.tgtRead {d : Dev} (h : d.Canon) {t : Tgt} {len cls who : Nat} {own : Lock → Bool} : (d.tgtRead t len cls who own).Canon := by
  unfold Dev.tgtRead
  refine ChAcc.Canon.ite h (ChAcc.Canon.ite h.promoteAll ?_)
  refine ChAcc.Canon.ite h (ChAcc.Canon.ite h ?_)
  refine ChAcc.Canon.ite h.noteHeld ?_
  split
  · rename_i e
    exact .of_some e (.ite h.readyLines .none)
  · exact .ite h (.ite h.thFetch (.ite h.thFetch h.thFetch.chargePieces.grantPages.touchPieces.pmapLookup.countOverruns))

theorem Dev.Canon.chRead {d : Dev} (h : d.Canon) {p off len cls who : Nat} {own : optParam (Lock → Bool) noLock} :
    (d.chRead p off len cls who own).Canon := by
  unfold Dev.chRead
  split
  · exact h
  · exact .ite h (.ite h h.tgtRead)

theorem Dev.Canon.tgtStore {d : Dev} (h : d.Canon) {t : Tgt} {m : List (Option Byte)} {cls : Nat} {who : Option (Nat × Nat)} :
    (d.tgtStore t m cls who).Canon := by
  unfold Dev.tgtStore
  extract_lets ps ks way
  split
  · exact h
  · rename_i e
    extract_lets d2 d3 d4 _
    have stored : d2.Canon := (Dev.Canon.of_some e h.framesFor).viewWrite.grantPages.touchPieces.pmapLookup
    have cleared : d4.Canon := (h.thPut stored.mirrorNote).foldl fun _ _ ht => .ite ht.dirDel.dirLog ht
    exact Dev.Canon.ite cleared.same cleared

theorem Dev.Canon.tgtWrite {d : Dev} (h : d.Canon) {t : Tgt} {m : List (Option Byte)} {cls : Nat} {who : Option (Nat × Nat)} {own : Lock → Bool} :
    (d.tgtWrite t m cls who own).Canon := by
  unfold Dev.tgtWrite
  refine ChAcc.Canon.ite h (ChAcc.Canon.ite h ?_)
  refine ChAcc.Canon.ite h.promoteAll (ChAcc.Canon.ite h ?_)
  refine ChAcc.Canon.ite h.noteHeld (ChAcc.Canon.ite h ?_)
  split
  · rename_i e
    exact .of_some e h.readyLines
  · exact .ite h h.tgtStore

theorem Dev.Canon.chWrite {d : Dev} (h : d.Canon) {p off : Nat} {m : List (Option Byte)} {cls : Nat} {who : Option (Nat × Nat)} {own : optParam
    (Lock → Bool) noLock} :
    (d.chWrite p off m cls who own).Canon := by
  unfold Dev.chWrite
  split
  · exact .ite h (.ite h (.ite h h.tgtWrite))
  · exact h

theorem ChAcc.Canon.buffer {a : ChAcc} (h : a.Canon) {write : Bool} : (a.buffer write).Canon := by
  cases a with
  | fail => exact .ite h h
  | wait => exact h
  | done => exact h

theorem Dev.Canon.countTimeout {d : Dev} (h : d.Canon) {t : OutTag} : (d.countTimeout t).Canon := by
  unfold Dev.countTimeout
  split
  · exact .ite h.inc h.inc.aer
  · exact h.inc

theorem Dev.Canon.readLost {d : Dev} (h : d.Canon) {t : OutTag} : (d.readLost t).Canon :=
  h.same.countTimeout

theorem Dev.Canon.bufRead {d : Dev} (h : d.Canon) {k : Nat} {c : Chan} {cls loc ep addr len : Nat} {r : Resp} :
    (d.bufRead k c cls loc ep addr len r).Canon := by
  unfold Dev.bufRead
  extract_lets f taken
  have answered : ∀ t : Dev, t.Canon → (taken t).Canon := by
    intro t ht
    unfold taken
    split
    · exact .ite ht ht
    · exact ht.readLost
    · exact Dev.Canon.ite ht.aer ht
    · exact ht
  split
  · exact .ite h (answered _ h.same.emit)
  · refine .ite h ?_
    split
    · exact h
    · exact answered _ (h.foldl fun _ _ ht => ht.same.emit)
  · exact .buffer h.chRead
  · exact h

theorem Dev.Canon.bufWrite {d : Dev} (h : d.Canon) {k : Nat} {c : Chan} {cls loc ep addr : Nat} {bs : List Byte} {seq : Nat} :
    (d.bufWrite k c cls loc ep addr bs seq).Canon := by
  unfold Dev.bufWrite
  split
  · exact .ite h h.emit
  · refine ChAcc.Canon.ite h ?_
    split
    · exact h
    · exact h.foldl (fun _ _ ht => ht.newTag.emit)
  · exact .buffer h.chWrite
  · exact h

/-! ## Queues -/

theorem Dev.Canon.barPut {d : Dev} (h : d.Canon) {f : FnId} {off : Nat} {run : Dev → Dev} (hrun : ∀ t, t.Canon → (run t).Canon) :
    (d.barPut f off run).Canon :=
  .ite h (.ite (hrun _ h) h.aer)

theorem Dev.Canon.barWrite {d : Dev} (h : d.Canon) {f : FnId} {run : Dev → Dev} (hrun : ∀ t, t.Canon → (run t).Canon) : (d.barWrite f run).Canon :=
  h.barPut (fun _ ht => hrun _ ht)

theorem Dev.Canon.aqEnable {d : Dev} (h : d.Canon) {f : FnId} {v : Nat} : (d.aqEnable f v).Canon :=
  .ite h.setFn h.setFn.dropAdmRead

theorem Dev.Canon.execAqEnable {s : State} (h : s.dev.Canon) {fn : FnId} {v : Nat} : Dev.CanonNext (execAqEnable fn v s) :=
  (h.barWrite (fun _ ht => ht.aqEnable)).next

theorem Dev.Canon.execAsqTail {s : State} (h : s.dev.Canon) {fn : FnId} {v : QWrite} : Dev.CanonNext (execAsqTail fn v s) :=
  (h.barWrite (fun _ ht => .ite ht (.ite ht.inc ht.setFn.admRead.admAnswer))).next

theorem Dev.Canon.execAcqHead {s : State} (h : s.dev.Canon) {fn : FnId} {v : QWrite} : Dev.CanonNext (execAcqHead fn v s) :=
  (h.barWrite (fun _ ht => .ite ht (.ite ht.inc ht.setFn.admRead.admAnswer))).next

theorem Dev.Canon.execUnknownAdminOpcode {s : State} (h : s.dev.Canon) {a : Adm} {_opcode : Nat} : Dev.CanonNext (execUnknownAdminOpcode a _opcode s) :=
  (h.admin (fun _ _ ht => ht.adminRefuse)).next

theorem Dev.Canon.execEqEnable {s : State} (h : s.dev.Canon) {fn : FnId} {v : Nat} : Dev.CanonNext (execEqEnable fn v s) :=
  (h.barWrite (fun _ ht => .ite ht.setFn.pumpEv ht)).next

theorem Dev.Canon.execEqAck {s : State} (h : s.dev.Canon) {fn : FnId} {v : Nat} : Dev.CanonNext (execEqAck fn v s) :=
  (h.barWrite (fun _ ht => .ite ht (.ite ht.inc ht.setFn.pumpEv))).next

theorem Dev.Canon.execEventHeldWrite {s : State} (h : s.dev.Canon) {fn : FnId} : Dev.CanonNext (execEventHeldWrite fn s) :=
  h.pumpEv.next

theorem Dev.Canon.bellChan {d : Dev} (h : d.Canon) {k : Nat} {sq cq : Bool} {word : Nat} : (d.bellChan k sq cq word).Canon := by
  unfold Dev.bellChan
  split
  · exact h.inc
  · exact .ite h.inc h.setChan.fetchRead

theorem Dev.Canon.execChannelDoorbell {s : State} (h : s.dev.Canon) {fn : FnId} {idx part word : Nat} :
    Dev.CanonNext (execChannelDoorbell fn idx part word s) :=
  (h.barWrite (fun _ ht => .ite ht.inc ht.bellChan)).next

theorem Dev.Canon.execDoorbell {s : State} (h : s.dev.Canon) {port dst handle word : Nat} : Dev.CanonNext (execDoorbell port dst handle word s) := by
  unfold Machine.execDoorbell
  refine .next (.ite h ?_)
  refine .ite h.inc ?_
  split
  · exact h.inc
  · split
    · exact h.inc
    · exact h.bellChan

theorem Dev.Canon.pushFetched {d : Dev} (h : d.Canon) {k : Nat} {c : Chan} {x : Dsc} : (d.pushFetched k c x).Canon := by
  unfold Dev.pushFetched
  refine .ite h ?_
  split
  · exact .ite h h.promoteAll
  · exact h

theorem Dev.Canon.takeDsc {d : Dev} (h : d.Canon) {k : Nat} {c : Chan} {bs : List Byte} : (d.takeDsc k c bs).Canon :=
  ((((Dev.Canon.ite h.inc h).setChan).pushFetched).startChan).fetchRead

theorem Dev.Canon.fetchDsc {d : Dev} (h : d.Canon) {k : Nat} {c : Chan} {r : Resp} : (d.fetchDsc k c r).Canon := by
  unfold Dev.fetchDsc
  refine .ite h (.ite ?_ ?_)
  · split
    · rename_i e
      exact .of_waits e h.chRead
    · rename_i e
      exact ((Dev.Canon.of_fails e h.chRead).haltChan).settle
    · rename_i e
      exact ((Dev.Canon.of_ends e h.chRead).thForget).takeDsc
  · split
    · exact ((h.freeTags.foldl (fun _ _ ht => ht.readLost)).haltChan).settle
    · exact .ite h.freeTags.takeDsc h.freeTags.haltChan.settle
    · exact h.freeTags.aer.haltChan.settle
    · exact h.freeTags.haltChan.settle

theorem Dev.Canon.execDescriptorFetch {s : State} (h : s.dev.Canon) {handle : Nat} {r : Resp} : Dev.CanonNext (execDescriptorFetch handle r s) := by
  unfold Machine.execDescriptorFetch
  refine .next ?_
  split
  · exact h.fetchDsc
  · exact h

theorem Dev.Canon.finishDsc {d : Dev} (h : d.Canon) {k : Nat} {c : Chan} {x : Dsc} {ok : Bool} : (d.finishDsc k c x ok).Canon :=
  .ite (.ite h.haltChan h.haltChan) (.ite h.completeDsc.cqPump h.completeDsc.cqeFailed.cqPump)

theorem Dev.Canon.execDescriptorComplete {s : State} (h : s.dev.Canon) {handle : Nat} {ok' : Bool} :
    Dev.CanonNext (execDescriptorComplete handle ok' s) := by
  unfold Machine.execDescriptorComplete
  refine .next ?_
  split
  · split
    · exact .ite h.finishDsc.settle h
    · exact h
  · exact h

theorem Dev.Canon.endDsc {d : Dev} (h : d.Canon) {k seq status detail result : Nat} : (d.endDsc k seq status detail result).Canon :=
  h.modDsc

theorem Dev.Canon.execNopDescriptor {s : State} (h : s.dev.Canon) {handle : Nat} : Dev.CanonNext (execNopDescriptor handle s) := by
  unfold Machine.execNopDescriptor
  refine .next ?_
  split
  · split
    · exact h.endDsc
    · exact h
  · exact h

end Sys2Proof.Machine
end

section
/-! The canonical form of the stored bytes is kept by the functions of Objects, Loads, Cluster, Stage. -/
-- Elaborating a thousand short theorems each in a thread of its own costs the memory of the threads.
set_option Elab.async false
namespace Sys2Proof.Machine

/-! ## Objects -/

theorem Dev.Canon.objCreateDo {d : Dev} (h : d.Canon) {a : Adm} {p obj n off k desc : Nat} : (d.objCreateDo a p obj n off k desc).Canon :=
  h.setObj.adminOk

theorem Dev.Canon.refloor {d : Dev} (h : d.Canon) {p : Nat} {o : Obj} {fl : Tier} : (d.refloor p o fl).Canon :=
  h.foldl (fun _ _ ht => ht.setPage)

theorem Dev.Canon.objPlaceDo {d : Dev} (h : d.Canon) {a : Adm} {p obj desc : Nat} : (d.objPlaceDo a p obj desc).Canon := by
  unfold Dev.objPlaceDo
  split
  · exact h.adminRefuse
  · exact ((Dev.Canon.ite h.setObj h.setObj.refloor).restartPlaces).finishPlaces

theorem Dev.Canon.objDiscardDo {d : Dev} (h : d.Canon) {a : Adm} {p obj first count : Nat} : (d.objDiscardDo a p obj first count).Canon := by
  unfold Dev.objDiscardDo
  split
  · exact h.adminRefuse
  · exact .ite h.discardBlocks.mirrorNote.upd h.discardBlocks.mirrorNote.adminOk

theorem Dev.Canon.ublWrite {d : Dev} (h : d.Canon) {p ep addr cls : Nat} {bs : List Byte} : (d.ublWrite p ep addr cls bs).Canon :=
  h.foldl (fun _ _ ht => ht.same.emit)

theorem Dev.Canon.objQueryDo {d : Dev} (h : d.Canon) {a : Adm} {obj loc count first ep addr : Nat} :
    (d.objQueryDo a obj loc count first ep addr).Canon := by
  unfold Dev.objQueryDo
  split
  · exact h.adminRefuse
  · split
    · exact (Dev.Canon.ite h.emit h).adminOk
    · exact h.ublWrite.adminOk
    · exact h.deviceWrite.settle

theorem Dev.Canon.revokeOver {d : Dev} (h : d.Canon) {p ext n : Nat} : (d.revokeOver p ext n).Canon :=
  h.foldl (fun _ _ ht => ht.startRevoke)

theorem Dev.Canon.addClear {d : Dev} (h : d.Canon) {kind : ClrKind} {a : Option Adm} {x : Nat × Nat} : (Dev.addClear kind a d x).Canon := by
  unfold Dev.addClear
  split
  · exact h
  · exact .ite h (.ite h.same.revokeOver h.same)

theorem Dev.Canon.objDestroyDo {d : Dev} (h : d.Canon) {a : Adm} {p obj : Nat} : (d.objDestroyDo a p obj).Canon :=
  ((h.foldl (fun _ _ ht => ht.addClear)).addClear).settle

theorem Dev.Canon.setKind {d : Dev} (h : d.Canon) {p n : Nat} {o : Obj} {kind fmt : Nat} : (d.setKind p n o kind fmt).Canon :=
  h.setObj

theorem Dev.Canon.viewSetDo {d : Dev} (h : d.Canon) {a : Adm} {p obj kind fmt : Nat} : (d.viewSetDo a p obj kind fmt).Canon := by
  unfold Dev.viewSetDo
  split
  · exact h.adminRefuse
  · exact .ite (((Dev.Canon.ite h h.stopThMoves).setKind).adminOk) (((Dev.Canon.ite h h.stopThMoves).setObj).viewDrain)

theorem Dev.Canon.viewDrained {d : Dev} (h : d.Canon) {p obj : Nat} : (d.viewDrained p obj).Canon := by
  unfold Dev.viewDrained
  split
  · exact h
  · split
    · exact h
    · exact .ite h h.setKind.adminOk

theorem Dev.Canon.viewCreateDo {d : Dev} (h : d.Canon) {a : Adm} {p win kind fmt v off backing stoch : Nat} :
    (d.viewCreateDo a p win kind fmt v off backing stoch).Canon :=
  (Dev.Canon.ite h.setObj.modObj h.setObj).adminOk

theorem Dev.Canon.startSeals {d : Dev} (h : d.Canon) : d.startSeals.Canon :=
  h.foldl (fun _ _ ht => .ite ht.modObj ht)

theorem Dev.Canon.sealDo {d : Dev} (h : d.Canon) {a : Adm} {p obj base fmt mode sectors : Nat} : (d.sealDo a p obj base fmt mode sectors).Canon :=
  h.modObj.upd.startSeals

theorem Dev.Canon.sealChunk {d : Dev} (h : d.Canon) {p cls : Nat} {c : Codes} {ch : Nat} : (Dev.sealChunk p cls c d ch).Canon := by
  unfold Dev.sealChunk
  split
  · exact ((h.chargeTier.foldl (fun _ _ ht => ht.setMeta)).setValid).chargeTier
  · exact ((h.chargeTier.put.foldl (fun _ _ ht => ht.setMeta)).setValid).chargeTier

theorem Dev.Canon.sealChunks {d : Dev} (h : d.Canon) {p : Nat} {o : Obj} {codes : List (Nat × Codes)} {chs : List Nat} :
    (d.sealChunks p o codes chs).Canon :=
  h.foldl (fun _ _ ht => ht.sealChunk)

theorem Dev.Canon.sealPoisoned {d : Dev} (h : d.Canon) {p obj : Nat} {o : Obj} {x : Seal} : (d.sealPoisoned p obj o x).Canon :=
  (((((Dev.Canon.ite h.sealChunks h).drawn).setObj).adminDone).startSeals).settle

theorem Dev.Canon.sealDone {d : Dev} (h : d.Canon) {p obj : Nat} : (d.sealDone p obj).Canon := by
  unfold Dev.sealDone
  split
  · exact h
  · split
    · exact h
    · exact .ite h (.ite h.noteHeld (.ite h.sealPoisoned h.sealChunks.setObj.adminOk.startSeals.settle))

theorem Dev.Canon.withdrawDo {d : Dev} (h : d.Canon) {a : Adm} {p obj : Nat} : (d.withdrawDo a p obj).Canon :=
  ((h.foldl (fun _ _ ht => ht.addClear)).addClear).settle

theorem Dev.Canon.importDo {d : Dev} (h : d.Canon) {a : Adm} {p al owner acc oobj off : Nat} : (d.importDo a p al owner acc oobj off).Canon := by
  unfold Dev.importDo
  split
  · exact h.adminRefuse
  · exact h.setObj.adminOk

theorem Dev.Canon.staleDo {d : Dev} (h : d.Canon) {a : Adm} {p count off : Nat} : (d.staleDo a p count off).Canon :=
  (h.foldl (fun _ _ ht => ht.dirDel.dirLog)).adminOk

theorem Dev.Canon.cmdDo {d : Dev} (h : d.Canon) {a : Adm} {p : Nat} {y : ObjCmd} : (d.cmdDo a p y).Canon := by
  unfold Dev.cmdDo
  split
  · exact h.objCreateDo
  · exact h.objPlaceDo
  · exact h.objDestroyDo
  · exact h.viewSetDo
  · exact h.viewCreateDo
  · exact h.sealDo
  · exact h.modObj.adminOk
  · exact h.withdrawDo
  · exact h.importDo
  · exact h.staleDo

theorem Dev.Canon.cmdGo {d : Dev} (h : d.Canon) {a : Adm} {p : Nat} {c : ObjCmd} : (d.cmdGo a p c).Canon :=
  .ite h.logSend.upd h.cmdDo

theorem Dev.Canon.objAdmin {d : Dev} (h : d.Canon) {a : Adm} {served : Bool} {c : ObjCmd} : (d.objAdmin a served c).Canon :=
  .ite h (h.admin (fun _ _ ht => .ite ht.adminFenced (ht.admTry (fun _ ht1 => ht1.cmdGo))))

theorem Dev.Canon.execObjCreate {s : State} (h : s.dev.Canon) {a : Adm} {obj n off k desc : Nat} : Dev.CanonNext (execObjCreate a obj n off k desc s) :=
  h.objAdmin.next

theorem Dev.Canon.execObjPlace {s : State} (h : s.dev.Canon) {a : Adm} {obj desc : Nat} : Dev.CanonNext (execObjPlace a obj desc s) :=
  h.objAdmin.next

theorem Dev.Canon.execObjDiscard {s : State} (h : s.dev.Canon) {a : Adm} {obj first count : Nat} : Dev.CanonNext (execObjDiscard a obj first count s) :=
  (Dev.Canon.ite h (h.admin (fun _ _ ht => .ite ht.adminFenced (ht.admTry (fun _ ht1 => ht1.objDiscardDo))))).next

theorem Dev.Canon.execObjQuery {s : State} (h : s.dev.Canon) {a : Adm} {obj loc count first ep addr : Nat} :
    Dev.CanonNext (execObjQuery a obj loc count first ep addr s) :=
  (Dev.Canon.ite h (h.admin (fun _ _ ht => ht.admTry (fun _ ht1 => ht1.objQueryDo)))).next

theorem Dev.Canon.execObjDestroy {s : State} (h : s.dev.Canon) {a : Adm} {obj : Nat} : Dev.CanonNext (execObjDestroy a obj s) :=
  h.objAdmin.next

theorem Dev.Canon.execViewSet {s : State} (h : s.dev.Canon) {a : Adm} {obj kind fmt : Nat} : Dev.CanonNext (execViewSet a obj kind fmt s) :=
  h.objAdmin.next

theorem Dev.Canon.execViewSetThDrained {s : State} (h : s.dev.Canon) {part obj : Nat} : Dev.CanonNext (execViewSetThDrained part obj s) :=
  h.viewDrained.next

theorem Dev.Canon.execViewCreate {s : State} (h : s.dev.Canon) {a : Adm} {win kind fmt v off backing stoch : Nat} :
    Dev.CanonNext (execViewCreate a win kind fmt v off backing stoch s) :=
  h.objAdmin.next

theorem Dev.Canon.execDeltaSeal {s : State} (h : s.dev.Canon) {a : Adm} {obj base fmt mode sectors : Nat} :
    Dev.CanonNext (execDeltaSeal a obj base fmt mode sectors s) :=
  h.objAdmin.next

theorem Dev.Canon.execSealDone {s : State} (h : s.dev.Canon) {part obj : Nat} : Dev.CanonNext (execSealDone part obj s) :=
  h.sealDone.next

theorem Dev.Canon.execShareExport {s : State} (h : s.dev.Canon) {a : Adm} {obj acc : Nat} : Dev.CanonNext (execShareExport a obj acc s) :=
  h.objAdmin.next

theorem Dev.Canon.execShareWithdraw {s : State} (h : s.dev.Canon) {a : Adm} {obj : Nat} : Dev.CanonNext (execShareWithdraw a obj s) :=
  h.objAdmin.next

theorem Dev.Canon.execShareImport {s : State} (h : s.dev.Canon) {a : Adm} {al owner acc oobj off : Nat} :
    Dev.CanonNext (execShareImport a al owner acc oobj off s) :=
  h.objAdmin.next

theorem Dev.Canon.execAcceptStale {s : State} (h : s.dev.Canon) {a : Adm} {count off : Nat} : Dev.CanonNext (execAcceptStale a count off s) :=
  h.objAdmin.next

theorem Dev.Canon.extentCleared {d : Dev} (h : d.Canon) {p : Nat} : (d.extentCleared p).Canon := by
  unfold Dev.extentCleared
  split
  · exact h.putClear.settle
  · exact h

theorem Dev.Canon.execExtentClearDone {s : State} (h : s.dev.Canon) {part : Nat} : Dev.CanonNext (execExtentClearDone part s) :=
  h.extentCleared.next

theorem Dev.Canon.grantDo {d : Dev} (h : d.Canon) {a : Adm} {slot acc count first : Nat} : (d.grantDo a slot acc count first).Canon :=
  .ite h.same.logState.dcQueue h.same.logState.notice.adminOk

theorem Dev.Canon.execGrant {s : State} (h : s.dev.Canon) {a : Adm} {slot acc count first : Nat} : Dev.CanonNext (execGrant a slot acc count first s) :=
  (h.admin (fun _ _ ht => ht.admTry (fun _ ht1 => ht1.grantDo))).next

theorem Dev.Canon.revokeDo {d : Dev} (h : d.Canon) {a : Adm} {slot count first : Nat} : (d.revokeDo a slot count first).Canon :=
  .ite h.same.startRevoke (.ite h.adminOk h.same)

theorem Dev.Canon.execRevoke {s : State} (h : s.dev.Canon) {a : Adm} {slot count first : Nat} : Dev.CanonNext (execRevoke a slot count first s) :=
  (h.admin (fun _ _ ht => ht.admTry (fun _ ht1 => ht1.revokeDo))).next

theorem Dev.Canon.revokeRecall {d : Dev} (h : d.Canon) {r : Revoke} : (d.revokeRecall r).Canon := by
  unfold Dev.revokeRecall
  exact ((Dev.Canon.ite h.dcQueue h.notice).revokeRecallLines).upd

theorem Dev.Canon.revokeDrained {d : Dev} (h : d.Canon) {op : Nat} : (d.revokeDrained op).Canon := by
  unfold Dev.revokeDrained
  split
  · exact .ite h.revokeRecall.settle h
  · exact h

theorem Dev.Canon.execRevokeDrained {s : State} (h : s.dev.Canon) {op : Nat} : Dev.CanonNext (execRevokeDrained op s) :=
  h.revokeDrained.next

theorem Dev.Canon.releaseExpired {d : Dev} (h : d.Canon) {op : Nat} : (d.releaseExpired op).Canon := by
  unfold Dev.releaseExpired
  split
  · exact .ite h.dcQueue.revokeEnd.settle h
  · exact h

theorem Dev.Canon.execReleaseTimeoutExpiry {s : State} (h : s.dev.Canon) {op : Nat} : Dev.CanonNext (execReleaseTimeoutExpiry op s) :=
  h.releaseExpired.next

/-! ## Loads -/

theorem Dev.Canon.ublUnknown {d : Dev} (h : d.Canon) {port src dst off tag pool : Nat} {nonPosted : Bool} :
    (d.ublUnknown port src dst off tag pool nonPosted).Canon :=
  .ite h.inc.emit h.inc

theorem Dev.Canon.hostLine {d : Dev} (h : d.Canon) {kind : HKind} {feat : Nat} {q : HReq} {mask : Nat} {data : List Byte} {med : Med} :
    (d.hostLine kind feat q mask data med).Canon :=
  .ite h (.ite h.ublUnknown (.ite h (.ite h h.request.settle)))

theorem Dev.Canon.execRdShared {s : State} (h : s.dev.Canon) {q : HReq} {med : Med} : Dev.CanonNext (execRdShared q med s) :=
  h.hostLine.next

theorem Dev.Canon.execRdOwn {s : State} (h : s.dev.Canon) {q : HReq} {med : Med} : Dev.CanonNext (execRdOwn q med s) :=
  h.hostLine.next

theorem Dev.Canon.execRdUncached {s : State} (h : s.dev.Canon) {q : HReq} {med : Med} : Dev.CanonNext (execRdUncached q med s) :=
  h.hostLine.next

theorem Dev.Canon.execWrUncached {s : State} (h : s.dev.Canon) {q : HReq} {mask : BitVec 64} {data : List Byte} {med : Med} :
    Dev.CanonNext (execWrUncached q mask data med s) :=
  h.hostLine.next

theorem Dev.Canon.execWrBack {s : State} (h : s.dev.Canon) {q : HReq} {data : List Byte} : Dev.CanonNext (execWrBack q data s) :=
  h.hostLine.next

theorem Dev.Canon.execEvict {s : State} (h : s.dev.Canon) {q : HReq} : Dev.CanonNext (execEvict q s) :=
  h.hostLine.next

theorem Dev.Canon.execUblUnknownOpcode {s : State} (h : s.dev.Canon) {port src dst tag _opcode : Nat} {nonPosted : Bool} :
    Dev.CanonNext (execUblUnknownOpcode port src dst tag _opcode nonPosted s) :=
  (Dev.Canon.ite h.ublUnknown (.ite h.inc h)).next

theorem Dev.Canon.recallReply {d : Dev} (h : d.Canon) {port tag : Nat} {data : Option (List Byte)} : (d.recallReply port tag data).Canon := by
  unfold Dev.recallReply
  split
  · refine .settle ?_
    split
    · exact h.recallAnswered
    · exact h.request
  · exact .ite h.same.inc h

theorem Dev.Canon.execRecallAck {s : State} (h : s.dev.Canon) {port tag : Nat} : Dev.CanonNext (execRecallAck port tag s) :=
  h.recallReply.next

theorem Dev.Canon.execRecallData {s : State} (h : s.dev.Canon) {port tag : Nat} {data : List Byte} : Dev.CanonNext (execRecallData port tag data s) :=
  h.recallReply.next

theorem Dev.Canon.recallExpired {d : Dev} (h : d.Canon) {tag : Nat} : (d.recallExpired tag).Canon := by
  unfold Dev.recallExpired
  split
  · exact h
  · refine .ite h (.ite h.inc.hostLost.settle ?_)
    split
    · exact (Dev.Canon.ite h.inc.orphan h.inc.recallAnswered).settle
    · exact h.inc.recallAnswered.settle

theorem Dev.Canon.execRecallTimeoutExpiry {s : State} (h : s.dev.Canon) {tag : Nat} : Dev.CanonNext (execRecallTimeoutExpiry tag s) :=
  h.recallExpired.next

theorem Dev.Canon.execBiconflict {s : State} (h : s.dev.Canon) {port tag : Nat} {_reqFirst : Bool} :
    Dev.CanonNext (execBiconflict port tag _reqFirst s) :=
  (Dev.Canon.ite h.emit h).next

theorem Dev.Canon.bar2One {d : Dev} (h : d.Canon) {kind : HKind} {f : FnId} {off tag len : Nat} {data : List Byte} {poisoned : Bool} {med : Med} :
    (d.bar2One kind f off tag len data poisoned med).Canon :=
  .ite (((Dev.Canon.ite h.aer h).request).settle) h.refuseBar

theorem Dev.Canon.bar2 {d : Dev} (h : d.Canon) {kind : HKind} {f : FnId} {off tag len : Nat} {data : List Byte} {poisoned : Bool} {med : Med} :
    (d.bar2 kind f off tag len data poisoned med).Canon :=
  .ite (.ite h.emit h) (.ite h (.ite h.bar2One h.bar2One.bar2One))

theorem Dev.Canon.execBar2Read {s : State} (h : s.dev.Canon) {fn : FnId} {off len tag : Nat} {med : Med} :
    Dev.CanonNext (execBar2Read fn off len tag med s) :=
  h.bar2.next

theorem Dev.Canon.execBar2Write {s : State} (h : s.dev.Canon) {fn : FnId} {off : Nat} {data : List Byte} {poisoned : Bool} {med : Med} :
    Dev.CanonNext (execBar2Write fn off data poisoned med s) :=
  h.bar2.next

theorem Dev.Canon.dropTag {d : Dev} (h : d.Canon) {tag : Nat} : (d.dropTag tag).Canon :=
  h.same

theorem Dev.Canon.thFill {d : Dev} (h : d.Canon) {l : Nat} {data : List Byte} : (d.thFill l data).Canon :=
  .ite h.setBytes h

theorem Dev.Canon.thPoison {d : Dev} (h : d.Canon) {k : Nat} : (d.thPoison k).Canon :=
  .ite (h.foldl (fun _ _ ht => ht.poisonBlock)) h

theorem Dev.Canon.thAnswer {d : Dev} (h : d.Canon) {status l : Nat} {data : List Byte} : (d.thAnswer status l data).Canon :=
  .ite h.thPoison h.thFill

theorem Dev.Canon.useFailed {d : Dev} (h : d.Canon) {u : TagUse} : (d.useFailed u).Canon := by
  unfold Dev.useFailed
  split
  · exact h.cqeFailed.cqPump.settle
  · exact h.haltChan.settle
  · exact h.haltChan.settle
  · exact h
  · exact h.inc
  · exact h.admFailed
  · exact h.setFn
  · exact (Dev.Canon.ite h h.lenderLost).settle
  · exact (Dev.Canon.ite h h.lenderLost).settle
  · exact (Dev.Canon.ite h h.lenderLost).settle
  · split
    · exact .ite h.haltChan.settle h
    · exact h

theorem Dev.Canon.dataAnswer {d : Dev} (h : d.Canon) {t : OutTag} {status : Nat} {data : List Byte} : (d.dataAnswer t status data).Canon := by
  unfold Dev.dataAnswer
  split
  · split
    · dsimp only
      split
      · exact h.dropTag.fetchDsc
      · exact h.dropTag
    · dsimp only
      split
      · exact h.dropTag.fetchDsc
      · exact h.dropTag
  · exact .ite h.dropTag.thAnswer.upd.settle h.dropTag.useFailed
  · refine .ite ?_ h.dropTag.useFailed
    refine .settle ?_
    split
    · exact h.dropTag.thAnswer
    · exact h.dropTag
  · exact .ite h.dropTag h.dropTag.useFailed
  · exact h.dropTag

theorem Dev.Canon.execRespData {s : State} (h : s.dev.Canon) {port tag status : Nat} {data : List Byte} :
    Dev.CanonNext (execRespData port tag status data s) := by
  unfold Machine.execRespData
  refine .next ?_
  split
  · exact .ite h.dataAnswer h
  · exact h

theorem Dev.Canon.wroteLine {d : Dev} (h : d.Canon) {u : TagUse} : (d.wroteLine u).Canon := by
  unfold Dev.wroteLine
  split
  · exact h.settle
  · exact h.cqeWritten.cqPump.settle
  · exact h

theorem Dev.Canon.execResp {s : State} (h : s.dev.Canon) {port tag status : Nat} : Dev.CanonNext (execResp port tag status s) := by
  unfold Machine.execResp
  refine .next ?_
  split
  · exact .ite h (.ite h.dropTag.useFailed h.dropTag.wroteLine)
  · exact h

theorem Dev.Canon.execLateCompletion {s : State} (h : s.dev.Canon) {tag : Nat} : Dev.CanonNext (execLateCompletion tag s) := by
  unfold Machine.execLateCompletion
  refine .next ?_
  split
  · split
    · exact .ite h.dropTag.inc h.dropTag.inc.aer
    · exact h.dropTag.inc
  · exact h

theorem Dev.Canon.execTagQuarantineExpiry {s : State} (h : s.dev.Canon) {tag : Nat} : Dev.CanonNext (execTagQuarantineExpiry tag s) :=
  h.same.next

theorem Dev.Canon.lockFails {d : Dev} (h : d.Canon) {l : Lock} {next : LockSt} : (d.lockFails l next).Canon := by
  unfold Dev.lockFails
  refine .ite ((h.breakLock.upd.foldl (fun _ _ ht => ht.answerWrite)).settle) ?_
  split
  · exact h.breakLock.settle
  · refine .settle ?_
    split
    · exact h.failHalt
    · exact h.haltChan

theorem Dev.Canon.execLockTimeoutExpiry {s : State} (h : s.dev.Canon) {lock : Nat} : Dev.CanonNext (execLockTimeoutExpiry lock s) := by
  unfold Machine.execLockTimeoutExpiry
  refine .next ?_
  split
  · exact h.lockFails
  · exact h

/-! ## Cluster -/

theorem Dev.Canon.modClu {d : Dev} (h : d.Canon) {c : Nat} {f : Clu → Clu} : (d.modClu c f).Canon :=
  h.setClu

theorem Dev.Canon.moveStage {d : Dev} (h : d.Canon) {c b : Nat} {st : ClSt} : (d.moveStage c b st).Canon := by
  unfold Dev.moveStage
  dsimp only
  split
  · exact h.modClu.setClu.upd
  · exact h.modClu.setClu

theorem Dev.Canon.replaceClu {d : Dev} (h : d.Canon) {c : Nat} : (d.replaceClu c).Canon := by
  unfold Dev.replaceClu
  split
  · exact h
  · split
    · exact h.moveStage
    · exact h.modClu.upd

theorem Dev.Canon.startTests {d : Dev} (h : d.Canon) : d.startTests.Canon :=
  h.foldl (fun _ _ ht => ht.testDue)

theorem Dev.Canon.keepNumber {d : Dev} (h : d.Canon) {c : Nat} : (d.keepNumber c).Canon :=
  h.same

theorem Dev.Canon.retireClu {d : Dev} (h : d.Canon) {c : Nat} : (d.retireClu c).Canon := by
  unfold Dev.retireClu
  refine .ite h (.startTests ?_)
  refine .keepNumber (.replaceClu ?_)
  refine .modClu ?_
  split
  · refine .haltChan (.modClu ?_)
    refine .endWindow ?_
    split
    · exact h.modClu
    · exact h
  · refine .modClu (.endWindow ?_)
    split
    · exact h.modClu
    · exact h

theorem Dev.Canon.cluFail {d : Dev} (h : d.Canon) {c status detail : Nat} : (d.cluFail c status detail).Canon := by
  unfold Dev.cluFail
  dsimp only
  split
  · exact h
  · split
    · exact h
    · split
      · exact h.failHalt
      · exact h.haltChan

theorem Dev.Canon.stageFault {d : Dev} (h : d.Canon) {c code imm : Nat} : (d.stageFault c code imm).Canon := by
  unfold Dev.stageFault
  dsimp only
  split
  · exact h
  · split
    · exact h
    · refine .settle ?_
      split
      · exact h.inc.wr.modDsc.haltChan
      · exact h.inc.wr.haltChan

theorem Dev.Canon.sramRetire {d : Dev} (h : d.Canon) {c : Nat} : (d.sramRetire c).Canon :=
  h.sign.retireClu

theorem Dev.Canon.sramCorrected {d : Dev} (h : d.Canon) {c w : Nat} : (d.sramCorrected c w).Canon :=
  .ite h.inc.sign.modClu (.ite h.inc.sign (.ite h.inc.sign.inc.modClu.sramRetire h.inc.sign.inc.modClu))

theorem Dev.Canon.sramUncorrectable {d : Dev} (h : d.Canon) {c : Nat} : (d.sramUncorrectable c).Canon :=
  ((Dev.Canon.ite h.drawn.inc.sign.modClu.cluFail.sramRetire h.drawn.inc.sign.modClu.cluFail).testDue).settle

theorem Dev.Canon.windowStart {d : Dev} (h : d.Canon) {c b : Nat} : (d.windowStart c b).Canon :=
  h.modClu.modClu

theorem Dev.Canon.execDupWindowStart {s : State} (h : s.dev.Canon) {c : Nat} : Dev.CanonNext (execDupWindowStart c s) := by
  unfold Machine.execDupWindowStart
  refine .next ?_
  split
  · exact .ite h.drawn.windowStart h
  · exact h

theorem Dev.Canon.windowClean {d : Dev} (h : d.Canon) {c b : Nat} : (d.windowClean c b).Canon :=
  h.inc.modClu.freeBud

theorem Dev.Canon.windowMismatch {d : Dev} (h : d.Canon) {c b : Nat} : (d.windowMismatch c b).Canon := by
  unfold Dev.windowMismatch
  refine .settle (.testDue ?_)
  split
  · exact h.inc.sign.modClu.modClu.haltChan
  · exact h.inc.sign.modClu.modClu

theorem Dev.Canon.iftDue {d : Dev} (h : d.Canon) {c : Nat} : (d.iftDue c).Canon :=
  .ite h h.modClu.startTests

theorem Dev.Canon.execIftDue {s : State} (h : s.dev.Canon) {c : Nat} : Dev.CanonNext (execIftDue c s) :=
  h.iftDue.next

theorem Dev.Canon.execIftDeferExpiry {s : State} (h : s.dev.Canon) {c : Nat} : Dev.CanonNext (execIftDeferExpiry c s) :=
  (Dev.Canon.ite h.modClu h).next

theorem Dev.Canon.iftPass {d : Dev} (h : d.Canon) {c : Nat} : (d.iftPass c).Canon :=
  h.keepNumber.modClu

theorem Dev.Canon.iftFail {d : Dev} (h : d.Canon) {c : Nat} : (d.iftFail c).Canon :=
  h.inc.sign.retireClu

theorem Dev.Canon.iftDone {d : Dev} (h : d.Canon) {c : Nat} {pass : Bool} : (d.iftDone c pass).Canon :=
  .ite h (((Dev.Canon.ite h.inc.iftPass h.inc.iftFail).startTests).settle)

theorem Dev.Canon.execIftDone {s : State} (h : s.dev.Canon) {c : Nat} {pass : Bool} : Dev.CanonNext (execIftDone c pass s) :=
  h.iftDone.next

/-! ## Stage -/

theorem SRes.Canon.orStop {l : List (Option SRes)} {r : SRes} (hl : ∀ o ∈ l, ∀ x, o = some x → x.Canon) (hr : r.Canon) : (orStop l r).Canon := by
  unfold Sys2Proof.Machine.orStop
  split
  · rename_i x _ e
    have mem : x ∈ l.filterMap id := by
      rw [e]
      exact List.mem_cons_self
    obtain ⟨o, ho, eq⟩ := List.mem_filterMap.mp mem
    exact hl o ho x eq
  · exact hr

theorem SRes.Canon.stopOne {o : Option SRes} {r : SRes} (ho : ∀ x, o = some x → x.Canon) (hr : r.Canon) : (Sys2Proof.Machine.orStop [o] r).Canon :=
  SRes.Canon.orStop (List.forall_mem_singleton.mpr ho) hr

theorem SRes.Canon.stopAny {l : List Nat} {f : Nat → Option SRes} {r : SRes} (hf : ∀ g x, f g = some x → x.Canon) (hr : r.Canon) :
    (Sys2Proof.Machine.orStop (l.map f) r).Canon :=
  SRes.Canon.orStop (List.forall_mem_map.mpr fun g _ => hf g) hr

theorem Clu.rdStop_canon {u : Clu} {a n align : Nat} (x : SRes) (e : u.rdStop a n align = some x) : x.Canon := by
  unfold Clu.rdStop at e
  split at e
  · cases e
    trivial
  · split at e
    · cases e
      trivial
    · cases e

theorem Clu.wrStop_canon {u : Clu} {a n align : Nat} (x : SRes) (e : u.wrStop a n align = some x) : x.Canon := by
  unfold Clu.wrStop at e
  split at e
  · cases e
    trivial
  · split at e
    · cases e
      trivial
    · cases e

theorem Dev.Canon.take {d : Dev} (h : d.Canon) {c : Nat} {x : SRes} (hx : x.Canon) : (d.take c x).Canon := by
  cases x with
  | wait => exact h
  | fault => exact h.stageFault
  | go => exact h.setClu
  | jump => exact h.setClu
  | dev => exact Dev.Canon.modClu hx
  | stop => exact hx

theorem Dev.Canon.stage {d : Dev} (h : d.Canon) {c : Nat} {run : Clu → SRes} (hrun : ∀ x, (run x).Canon) : (d.stage c run).Canon := by
  unfold Dev.stage
  refine .ite h ?_
  split
  · exact h.stageFault
  · exact h.take (hrun _)

theorem Dev.Canon.stageRd {d : Dev} (h : d.Canon) {c : Nat} {ecc : Ecc} {word : Clu → Nat} {run : Clu → SRes} (hrun : ∀ x, (run x).Canon) :
    (d.stageRd c ecc word run).Canon := by
  unfold Dev.stageRd
  split
  · exact h.stage (fun _ => hrun _)
  · exact .ite (h.sramCorrected.stage (fun _ => hrun _)) (h.stage (fun _ => hrun _))
  · exact .ite h.sramUncorrectable (h.stage (fun _ => hrun _))

theorem Dev.Canon.stageChan {d : Dev} (_ : d.Canon) {u : Clu} {run : Nat → Chan → SRes} (hrun : ∀ x y, (run x y).Canon) :
    (d.stageChan u run).Canon := by
  unfold Dev.stageChan
  split
  · split
    · exact hrun _ _
    · exact trivial
  · exact trivial

end Sys2Proof.Machine
end

section
/-! The canonical form of the stored bytes is kept by the functions of StageArray, StageVector, Attention, StageStream. -/
-- Elaborating a thousand short theorems each in a thread of its own costs the memory of the threads.
set_option Elab.async false
namespace Sys2Proof.Machine

/-! ## StageArray -/

theorem SRes.Canon.arrLoad {fmtB : Nat} {rs1 rs2 : Fin 32} {u : Clu} : (arrLoad fmtB rs1 rs2 u).Canon :=
  .ite trivial (SRes.Canon.stopAny (fun _ => Clu.rdStop_canon) trivial)

theorem SRes.Canon.arrMma {fa fb : Nat} {rs1 rs2 : Fin 32} {n t0 : Nat} {u : Clu} : (arrMma fa fb rs1 rs2 n t0 u).Canon :=
  .ite trivial (.ite trivial (SRes.Canon.stopAny (fun _ => Clu.rdStop_canon) trivial))

theorem SRes.Canon.arrDrain {fa : Nat} {rs1 rs2 : Fin 32} {n t0 : Nat} {u : Clu} : (arrDrain fa rs1 rs2 n t0 u).Canon := by
  unfold Sys2Proof.Machine.arrDrain
  dsimp only
  split
  · trivial
  · exact .ite trivial (SRes.Canon.stopAny (fun _ => Clu.wrStop_canon) trivial)

theorem Dev.Canon.arrZero {n t0 : Nat} {u : Clu} : (arrZero n t0 u).Canon :=
  .ite trivial trivial

theorem SRes.Canon.arrLoadAcc {rs1 rs2 : Fin 32} {n t0 : Nat} {u : Clu} : (arrLoadAcc rs1 rs2 n t0 u).Canon :=
  .ite trivial (SRes.Canon.stopAny (fun _ => Clu.rdStop_canon) trivial)

theorem Dev.Canon.residueMasked {d : Dev} (h : d.Canon) {c : Nat} : (d.residueMasked c).Canon :=
  h.inc.sign

theorem Dev.Canon.residueBud {d : Dev} (h : d.Canon) {c b : Nat} : (d.residueBud c b).Canon := by
  unfold Dev.residueBud
  dsimp only
  split
  · exact h.inc.sign.retireClu.drawn.windowStart
  · exact h.inc.sign.retireClu

theorem Dev.Canon.residue {d : Dev} (h : d.Canon) {c : Nat} {res : Residue} {run : Clu → SRes} {ecc : Ecc} {rs1 : Fin 32} (hrun : ∀ x, (run x).Canon) :
    (d.residue c res run ecc rs1).Canon := by
  unfold Dev.residue
  refine .ite ?_ (h.stageRd (fun _ => hrun _))
  split
  · exact h.stageRd (fun _ => hrun _)
  · exact h.residueMasked.stageRd (fun _ => hrun _)
  · exact h.inc.sign.retireClu.settle
  · split
    · exact h.residueMasked.stageRd (fun _ => hrun _)
    · exact h.stageRd (fun _ => hrun _)
  · split
    · exact (h.residueBud.stageRd (fun _ => hrun _)).settle
    · exact h.stageRd (fun _ => hrun _)

theorem Dev.Canon.execTlds {s : State} (h : s.dev.Canon) {c fmtB : Nat} {rs1 rs2 : Fin 32} {ecc : Ecc} :
    Dev.CanonNext (execTlds c fmtB rs1 rs2 ecc s) :=
  (h.stageRd (fun _ => SRes.Canon.arrLoad)).next

theorem Dev.Canon.execTmma {s : State} (h : s.dev.Canon) {c fmtA fmtB : Nat} {rs1 rs2 : Fin 32} {n t0 : Nat} {res : Residue} {ecc : Ecc} :
    Dev.CanonNext (execTmma c fmtA fmtB rs1 rs2 n t0 res ecc s) :=
  (h.residue (fun _ => SRes.Canon.arrMma)).next

theorem Dev.Canon.execTdrain {s : State} (h : s.dev.Canon) {c fmtA : Nat} {rs1 rs2 : Fin 32} {n t0 : Nat} :
    Dev.CanonNext (execTdrain c fmtA rs1 rs2 n t0 s) :=
  (h.stage (fun _ => SRes.Canon.arrDrain)).next

theorem Dev.Canon.execTzero {s : State} (h : s.dev.Canon) {c n t0 : Nat} : Dev.CanonNext (execTzero c n t0 s) :=
  (h.stage (fun _ => Dev.Canon.arrZero)).next

theorem Dev.Canon.execTlda {s : State} (h : s.dev.Canon) {c : Nat} {rs1 rs2 : Fin 32} {n t0 : Nat} {ecc : Ecc} :
    Dev.CanonNext (execTlda c rs1 rs2 n t0 ecc s) :=
  (h.stageRd (fun _ => SRes.Canon.arrLoadAcc)).next

/-! ## StageVector -/

theorem Dev.Canon.vec1 {f : W32 → W32} {vd va : Fin 32} {u : Clu} : (vec1 f vd va u).Canon :=
  trivial

theorem Dev.Canon.vec2 {f : W32 → W32 → W32} {vd va vb : Fin 32} {u : Clu} : (vec2 f vd va vb u).Canon :=
  trivial

theorem Dev.Canon.vec3 {f : W32 → W32 → W32 → W32} {vd va vb vc : Fin 32} {u : Clu} : (vec3 f vd va vb vc u).Canon :=
  trivial

theorem Dev.Canon.vecRed {f : W32 → W32 → W32} {vd va : Fin 32} {u : Clu} : (vecRed f vd va u).Canon :=
  trivial

theorem Dev.Canon.vecIn {vd va : Fin 32} {code : Nat} {u : Clu} : (vecIn vd va code u).Canon :=
  .ite trivial trivial

theorem Dev.Canon.vecOut {vd va : Fin 32} {code : Nat} {u : Clu} : (vecOut vd va code u).Canon :=
  .ite trivial trivial

theorem Dev.Canon.vecEnc {vd va : Fin 32} {code : Nat} {u : Clu} : (vecEnc vd va code u).Canon :=
  .ite trivial trivial

theorem Dev.Canon.vecDec {vd va : Fin 32} {code : Nat} {u : Clu} : (vecDec vd va code u).Canon :=
  .ite trivial trivial

theorem SRes.Canon.vecLd {v : Fin 32} {a n : Nat} {u : Clu} : (vecLd v a n u).Canon :=
  .ite trivial (SRes.Canon.stopOne Clu.rdStop_canon trivial)

theorem SRes.Canon.vecSt {v : Fin 32} {a n : Nat} {u : Clu} : (vecSt v a n u).Canon :=
  .ite trivial (SRes.Canon.stopOne Clu.wrStop_canon trivial)

theorem Dev.Canon.vecBcast {v rs1 : Fin 32} {u : Clu} : (vecBcast v rs1 u).Canon :=
  trivial

theorem Dev.Canon.vecExt {rd va rs2 : Fin 32} {u : Clu} : (vecExt rd va rs2 u).Canon :=
  trivial

theorem Dev.Canon.execVadd {s : State} (h : s.dev.Canon) {c : Nat} {vd va vb : Fin 32} : Dev.CanonNext (execVadd c vd va vb s) :=
  (h.stage (fun _ => Dev.Canon.vec2)).next

theorem Dev.Canon.execVsub {s : State} (h : s.dev.Canon) {c : Nat} {vd va vb : Fin 32} : Dev.CanonNext (execVsub c vd va vb s) :=
  (h.stage (fun _ => Dev.Canon.vec2)).next

theorem Dev.Canon.execVmul {s : State} (h : s.dev.Canon) {c : Nat} {vd va vb : Fin 32} : Dev.CanonNext (execVmul c vd va vb s) :=
  (h.stage (fun _ => Dev.Canon.vec2)).next

theorem Dev.Canon.execVmin {s : State} (h : s.dev.Canon) {c : Nat} {vd va vb : Fin 32} : Dev.CanonNext (execVmin c vd va vb s) :=
  (h.stage (fun _ => Dev.Canon.vec2)).next

theorem Dev.Canon.execVmax {s : State} (h : s.dev.Canon) {c : Nat} {vd va vb : Fin 32} : Dev.CanonNext (execVmax c vd va vb s) :=
  (h.stage (fun _ => Dev.Canon.vec2)).next

theorem Dev.Canon.execVcmpeq {s : State} (h : s.dev.Canon) {c : Nat} {vd va vb : Fin 32} : Dev.CanonNext (execVcmpeq c vd va vb s) :=
  (h.stage (fun _ => Dev.Canon.vec2)).next

theorem Dev.Canon.execVcmplt {s : State} (h : s.dev.Canon) {c : Nat} {vd va vb : Fin 32} : Dev.CanonNext (execVcmplt c vd va vb s) :=
  (h.stage (fun _ => Dev.Canon.vec2)).next

theorem Dev.Canon.execVcmple {s : State} (h : s.dev.Canon) {c : Nat} {vd va vb : Fin 32} : Dev.CanonNext (execVcmple c vd va vb s) :=
  (h.stage (fun _ => Dev.Canon.vec2)).next

theorem Dev.Canon.execVand {s : State} (h : s.dev.Canon) {c : Nat} {vd va vb : Fin 32} : Dev.CanonNext (execVand c vd va vb s) :=
  (h.stage (fun _ => Dev.Canon.vec2)).next

theorem Dev.Canon.execVor {s : State} (h : s.dev.Canon) {c : Nat} {vd va vb : Fin 32} : Dev.CanonNext (execVor c vd va vb s) :=
  (h.stage (fun _ => Dev.Canon.vec2)).next

theorem Dev.Canon.execVxor {s : State} (h : s.dev.Canon) {c : Nat} {vd va vb : Fin 32} : Dev.CanonNext (execVxor c vd va vb s) :=
  (h.stage (fun _ => Dev.Canon.vec2)).next

theorem Dev.Canon.execViadd {s : State} (h : s.dev.Canon) {c : Nat} {vd va vb : Fin 32} : Dev.CanonNext (execViadd c vd va vb s) :=
  (h.stage (fun _ => Dev.Canon.vec2)).next

theorem Dev.Canon.execVishl {s : State} (h : s.dev.Canon) {c : Nat} {vd va vb : Fin 32} : Dev.CanonNext (execVishl c vd va vb s) :=
  (h.stage (fun _ => Dev.Canon.vec2)).next

theorem Dev.Canon.execVisra {s : State} (h : s.dev.Canon) {c : Nat} {vd va vb : Fin 32} : Dev.CanonNext (execVisra c vd va vb s) :=
  (h.stage (fun _ => Dev.Canon.vec2)).next

theorem Dev.Canon.execVfma {s : State} (h : s.dev.Canon) {c : Nat} {vd va vb vc : Fin 32} : Dev.CanonNext (execVfma c vd va vb vc s) :=
  (h.stage (fun _ => Dev.Canon.vec3)).next

theorem Dev.Canon.execVsel {s : State} (h : s.dev.Canon) {c : Nat} {vd va vb vc : Fin 32} : Dev.CanonNext (execVsel c vd va vb vc s) :=
  (h.stage (fun _ => Dev.Canon.vec3)).next

theorem Dev.Canon.execVabs {s : State} (h : s.dev.Canon) {c : Nat} {vd va : Fin 32} : Dev.CanonNext (execVabs c vd va s) :=
  (h.stage (fun _ => Dev.Canon.vec1)).next

theorem Dev.Canon.execVneg {s : State} (h : s.dev.Canon) {c : Nat} {vd va : Fin 32} : Dev.CanonNext (execVneg c vd va s) :=
  (h.stage (fun _ => Dev.Canon.vec1)).next

theorem Dev.Canon.execVrcp {s : State} (h : s.dev.Canon) {c : Nat} {vd va : Fin 32} : Dev.CanonNext (execVrcp c vd va s) :=
  (h.stage (fun _ => Dev.Canon.vec1)).next

theorem Dev.Canon.execVrsqrt {s : State} (h : s.dev.Canon) {c : Nat} {vd va : Fin 32} : Dev.CanonNext (execVrsqrt c vd va s) :=
  (h.stage (fun _ => Dev.Canon.vec1)).next

theorem Dev.Canon.execVsqrt {s : State} (h : s.dev.Canon) {c : Nat} {vd va : Fin 32} : Dev.CanonNext (execVsqrt c vd va s) :=
  (h.stage (fun _ => Dev.Canon.vec1)).next

theorem Dev.Canon.execVexp2 {s : State} (h : s.dev.Canon) {c : Nat} {vd va : Fin 32} : Dev.CanonNext (execVexp2 c vd va s) :=
  (h.stage (fun _ => Dev.Canon.vec1)).next

theorem Dev.Canon.execVlog2 {s : State} (h : s.dev.Canon) {c : Nat} {vd va : Fin 32} : Dev.CanonNext (execVlog2 c vd va s) :=
  (h.stage (fun _ => Dev.Canon.vec1)).next

theorem Dev.Canon.execVexp {s : State} (h : s.dev.Canon) {c : Nat} {vd va : Fin 32} : Dev.CanonNext (execVexp c vd va s) :=
  (h.stage (fun _ => Dev.Canon.vec1)).next

theorem Dev.Canon.execVlog {s : State} (h : s.dev.Canon) {c : Nat} {vd va : Fin 32} : Dev.CanonNext (execVlog c vd va s) :=
  (h.stage (fun _ => Dev.Canon.vec1)).next

theorem Dev.Canon.execVtanh {s : State} (h : s.dev.Canon) {c : Nat} {vd va : Fin 32} : Dev.CanonNext (execVtanh c vd va s) :=
  (h.stage (fun _ => Dev.Canon.vec1)).next

theorem Dev.Canon.execVredadd {s : State} (h : s.dev.Canon) {c : Nat} {vd va : Fin 32} : Dev.CanonNext (execVredadd c vd va s) :=
  (h.stage (fun _ => Dev.Canon.vecRed)).next

theorem Dev.Canon.execVredmax {s : State} (h : s.dev.Canon) {c : Nat} {vd va : Fin 32} : Dev.CanonNext (execVredmax c vd va s) :=
  (h.stage (fun _ => Dev.Canon.vecRed)).next

theorem Dev.Canon.execVcvtin {s : State} (h : s.dev.Canon) {c : Nat} {vd va : Fin 32} {code : Nat} : Dev.CanonNext (execVcvtin c vd va code s) :=
  (h.stage (fun _ => Dev.Canon.vecIn)).next

theorem Dev.Canon.execVcvtout {s : State} (h : s.dev.Canon) {c : Nat} {vd va : Fin 32} {code : Nat} : Dev.CanonNext (execVcvtout c vd va code s) :=
  (h.stage (fun _ => Dev.Canon.vecOut)).next

theorem Dev.Canon.execVmxenc {s : State} (h : s.dev.Canon) {c : Nat} {vd va : Fin 32} {code : Nat} : Dev.CanonNext (execVmxenc c vd va code s) :=
  (h.stage (fun _ => Dev.Canon.vecEnc)).next

theorem Dev.Canon.execVmxdec {s : State} (h : s.dev.Canon) {c : Nat} {vd va : Fin 32} {code : Nat} : Dev.CanonNext (execVmxdec c vd va code s) :=
  (h.stage (fun _ => Dev.Canon.vecDec)).next

theorem Dev.Canon.execVld {s : State} (h : s.dev.Canon) {c : Nat} {v rs1 : Fin 32} {ecc : Ecc} : Dev.CanonNext (execVld c v rs1 ecc s) :=
  (h.stageRd (fun _ => SRes.Canon.vecLd)).next

theorem Dev.Canon.execVst {s : State} (h : s.dev.Canon) {c : Nat} {v rs1 : Fin 32} : Dev.CanonNext (execVst c v rs1 s) :=
  (h.stage (fun _ => SRes.Canon.vecSt)).next

theorem Dev.Canon.execVldn {s : State} (h : s.dev.Canon) {c : Nat} {v rs1 rs2 : Fin 32} {ecc : Ecc} : Dev.CanonNext (execVldn c v rs1 rs2 ecc s) :=
  (h.stageRd (fun _ => SRes.Canon.vecLd)).next

theorem Dev.Canon.execVstn {s : State} (h : s.dev.Canon) {c : Nat} {v rs1 rs2 : Fin 32} : Dev.CanonNext (execVstn c v rs1 rs2 s) :=
  (h.stage (fun _ => SRes.Canon.vecSt)).next

theorem Dev.Canon.execVbcast {s : State} (h : s.dev.Canon) {c : Nat} {v rs1 : Fin 32} : Dev.CanonNext (execVbcast c v rs1 s) :=
  (h.stage (fun _ => Dev.Canon.vecBcast)).next

theorem Dev.Canon.execVext {s : State} (h : s.dev.Canon) {c : Nat} {rd va rs2 : Fin 32} : Dev.CanonNext (execVext c rd va rs2 s) :=
  (h.stage (fun _ => Dev.Canon.vecExt)).next

/-! ## Attention -/

theorem Dev.Canon.recEnd {d : Dev} (h : d.Canon) {k : Nat} {x : Dsc} {st dt result : Nat} : (d.recEnd k x st dt result).Canon :=
  h.endDsc.settle

theorem Dev.Canon.overrunNoted {d : Dev} (_ : d.Canon) {k : Nat} {x : Dsc} {d1 : Dev} (h1 : d1.Canon) : (d.overrunNoted k x d1).Canon :=
  .ite h1.modDsc h1

theorem Dev.Canon.onRecipe {d : Dev} (h : d.Canon) {handle : Nat} {recipes : List Nat} {op : Nat} {rsv : Dsc → Bool} {run : Dev → Nat → Chan → Dsc → Dev}
    (hrun : ∀ t y z u, t.Canon → (run t y z u).Canon) :
    (d.onRecipe handle recipes op rsv run).Canon := by
  unfold Dev.onRecipe
  split
  · refine .ite h ?_
    split
    · exact .ite h.recEnd (h.overrunNoted (hrun _ _ _ _ h))
    · exact h
  · exact h

theorem ChAcc.Canon.endAcc {a : ChAcc} (h : a.Canon) {k : Nat} {x : Dsc} {result : Nat} {f : Dev → List Byte → Nat → Dev}
    (step : ∀ t bs n, t.Canon → (f t bs n).Canon) : (Dev.endAcc k x result a f).Canon := by
  cases a with
  | wait => exact h
  | fail => exact Dev.Canon.recEnd h
  | done => exact step _ _ _ h

theorem Dev.Canon.firstWait {l : List ChAcc} (h : ∀ a ∈ l, a.Canon) : Dev.CanonOf (firstWait l) := by
  induction l with
  | nil => exact .none
  | cons a l ih =>
    have rest := ih fun b hb => h b (List.mem_cons_of_mem _ hb)
    cases a with
    | wait d => exact Dev.Canon.opt (h _ List.mem_cons_self)
    | fail => exact rest
    | done => exact rest

theorem Dev.Canon.waits {a : ChAcc} (h : a.Canon) : Dev.CanonOf (Sys2Proof.Machine.firstWait [a]) :=
  firstWait (List.forall_mem_singleton.mpr h)

theorem Dev.Canon.waits_pair {a b : ChAcc} (ha : a.Canon) (hb : b.Canon) : Dev.CanonOf (Sys2Proof.Machine.firstWait [a, b]) :=
  firstWait (List.forall_mem_cons.mpr ⟨ha, List.forall_mem_singleton.mpr hb⟩)

theorem Dev.Canon.appendStore {d : Dev} (h : d.Canon) {k : Nat} {c : Chan} {x : Dsc} {src : List Byte} : (d.appendStore k c x src).Canon := by
  unfold Dev.appendStore
  dsimp only
  split
  · rename_i e
    exact Dev.Canon.of_some e (Dev.Canon.waits_pair h.chWrite h.chWrite)
  · exact .next h.chWrite fun _ _ _ ht => ht.chWrite

theorem Dev.Canon.append {d : Dev} (h : d.Canon) {r : Resp} {k : Nat} {c : Chan} {x : Dsc} : (d.append r k c x).Canon := by
  unfold Dev.append
  refine .ite h.recEnd ?_
  split
  · exact h.recEnd
  · exact ChAcc.Canon.endAcc (.next h.bufRead (fun _ _ _ ht => ht.appendStore)) (fun _ _ _ ht => ht.recEnd)

theorem Dev.Canon.execAppend {s : State} (h : s.dev.Canon) {handle : Nat} {r : Resp} : Dev.CanonNext (execAppend handle r s) :=
  (h.onRecipe (fun _ _ _ _ ht => ht.append)).next

theorem Dev.Canon.outWaits {d : Dev} (h : d.Canon) {k : Nat} {x : Dsc} {loc addr n : Nat} : Dev.CanonOf (d.outWaits k x loc addr n) :=
  .ite (.waits h.chWrite) .none

theorem Dev.Canon.emitOut {d : Dev} (h : d.Canon) {k : Nat} {c : Chan} {x : Dsc} {loc addr : Nat} {bs : List Byte} {bad result : Nat} {r : Resp} :
    (d.emitOut k c x loc addr bs bad result r).Canon :=
  .ite h.recEnd (ChAcc.Canon.endAcc h.bufWrite (fun _ _ _ ht => .ite ht.recEnd ht.recEnd))

theorem Dev.Canon.kvRead {d : Dev} (h : d.Canon) {k args : Nat} {x : Dsc} {t0 n : Nat} : (d.kvRead k args x t0 n).Canon := by
  refine .ite h ?_
  split
  · rename_i e
    exact Dev.Canon.of_some e (Dev.Canon.waits_pair h.chRead h.chRead)
  · exact .next h.chRead fun _ _ _ ht => ht.chRead

theorem Dev.Canon.decode {d : Dev} (h : d.Canon) {r : Resp} {k : Nat} {c : Chan} {x : Dsc} : (d.decode r k c x).Canon := by
  unfold Dev.decode
  refine .ite h.recEnd ?_
  split
  · exact h.recEnd
  · split
    · rename_i e
      exact .of_some e h.outWaits
    · exact ChAcc.Canon.endAcc (.next h.kvRead (fun _ _ _ ht => ht.bufRead)) (fun _ _ _ ht => ht.same.emitOut)

theorem Dev.Canon.execDecode {s : State} (h : s.dev.Canon) {handle : Nat} {r : Resp} : Dev.CanonNext (execDecode handle r s) :=
  (h.onRecipe (fun _ _ _ _ ht => ht.decode)).next

theorem Dev.Canon.prefill {d : Dev} (h : d.Canon) {r : Resp} {k : Nat} {c : Chan} {x : Dsc} : (d.prefill r k c x).Canon := by
  unfold Dev.prefill
  refine .ite h.recEnd ?_
  split
  · exact h.recEnd
  · split
    · rename_i e
      exact .of_some e h.outWaits
    · exact ChAcc.Canon.endAcc (.next h.kvRead (fun _ _ _ ht => ht.bufRead)) (fun _ _ _ ht => ht.same.emitOut)

theorem Dev.Canon.execPrefill {s : State} (h : s.dev.Canon) {handle : Nat} {r : Resp} : Dev.CanonNext (execPrefill handle r s) :=
  (h.onRecipe (fun _ _ _ _ ht => ht.prefill)).next

theorem Dev.Canon.readSets {d : Dev} (h : d.Canon) {k : Nat} {c : Chan} {x : Dsc} {n : Nat} {r : Resp} {i : Nat} : (Dev.readSets d k c x n r i).Canon := by
  induction i with
  | zero => exact h
  | succ i ih => exact .next ih fun _ _ _ ht => .next ht.bufRead fun u _ _ hu => hu

theorem Dev.Canon.merge {d : Dev} (h : d.Canon) {r : Resp} {k : Nat} {c : Chan} {x : Dsc} : (d.merge r k c x).Canon := by
  refine .ite h.recEnd ?_
  split
  · rename_i e
    exact .of_some e h.outWaits
  · exact ChAcc.Canon.endAcc h.readSets (fun _ _ _ ht => ht.same.emitOut)

theorem Dev.Canon.execMerge {s : State} (h : s.dev.Canon) {handle : Nat} {r : Resp} : Dev.CanonNext (execMerge handle r s) :=
  (h.onRecipe (fun _ _ _ _ ht => ht.merge)).next

/-! ## StageStream -/

theorem Dev.Canon.beatAcc {d : Dev} (h : d.Canon) {c k : Nat} {ch : Chan} {o : StreamOp} {a n : Nat} : (d.beatAcc c k ch o a n).Canon :=
  .ite h.chWrite (.next h.chRead (fun _ _ _ ht => ht.chWrite))

theorem Dev.Canon.streamSent {d : Dev} (h : d.Canon) {c : Nat} {o : StreamOp} {n : Nat} : (d.streamSent c o n).Canon :=
  h.modClu

theorem Dev.Canon.streamFirst {d : Dev} (h : d.Canon) {c k : Nat} {ch : Chan} {o : StreamOp} : (d.streamFirst c k ch o).Canon := by
  unfold Dev.streamFirst
  refine .ite h ?_
  split
  · split
    · rename_i e1
      exact ((Dev.Canon.of_ends e1 h.beatAcc).upd).streamSent
    · exact h
  · exact h

theorem Dev.Canon.streamUnlock {d : Dev} (h : d.Canon) {c : Nat} {o : StreamOp} : (d.streamUnlock c o).Canon :=
  h.foldl (fun _ _ ht => ht.putLock)

theorem Dev.Canon.streamBroken {d : Dev} (h : d.Canon) {c k : Nat} {ch : Chan} {o : StreamOp} {a : Nat} : (d.streamBroken c k ch o a).Canon := by
  unfold Dev.streamBroken
  dsimp only
  split
  · refine .breakLock ?_
    split
    · rename_i e
      exact .ite (.of_ends e (.ite h h.beatAcc)) ((Dev.Canon.of_ends e (.ite h h.beatAcc)).poisonBlks)
    · exact h
  · refine .inc ?_
    split
    · rename_i e
      exact .ite (.of_ends e (.ite h h.beatAcc)) ((Dev.Canon.of_ends e (.ite h h.beatAcc)).poisonBlks)
    · exact h

theorem Dev.Canon.streamPieces {d : Dev} (h : d.Canon) {c k : Nat} {ch : Chan} {o : StreamOp} {n a : Nat} : (Dev.streamPieces c k ch o n a d).Canon := by
  induction n generalizing d a with
  | zero => exact h
  | succ n ih =>
    refine .ite h ?_
    split
    · rename_i e
      exact ih (Dev.Canon.of_ends e h.beatAcc).streamUnlock.streamSent
    · rename_i e
      exact Dev.Canon.of_waits e h.beatAcc
    · rename_i e
      exact .ite (Dev.Canon.of_fails e h.beatAcc).streamBroken (Dev.Canon.of_fails e h.beatAcc)

theorem Dev.Canon.streamSend {d : Dev} (h : d.Canon) {c k : Nat} {ch : Chan} {o : StreamOp} : (d.streamSend c k ch o).Canon := by
  unfold Dev.streamSend
  split
  · exact h.newTag.emit
  · exact h.emit
  · refine .foldl h (fun _ _ ht => ?_)
    split
    · exact ht
    · exact ht.newTag.emit
  · exact h

theorem Dev.Canon.streamIssue {d : Dev} (h : d.Canon) {c kind space : Nat} {rs1 rs2 rs3 : Fin 32} {u : Clu} :
    (d.streamIssue c kind space rs1 rs2 rs3 u).Canon := by
  unfold Dev.streamIssue
  refine .ite trivial (.ite trivial (SRes.Canon.stopOne ?_ (h.stageChan fun _ _ => .ite trivial ?_)))
  · split
    · exact Clu.wrStop_canon
    · exact Clu.rdStop_canon
  · exact Dev.Canon.ite h.setClu (.ite h.setClu.streamFirst h.setClu.streamSend)

theorem Dev.Canon.execSld {s : State} (h : s.dev.Canon) {c space : Nat} {rs1 rs2 rs3 : Fin 32} : Dev.CanonNext (execSld c space rs1 rs2 rs3 s) :=
  (h.stage (fun _ => h.streamIssue)).next

theorem Dev.Canon.streamStore {d : Dev} (h : d.Canon) {c kind space : Nat} {rs1 rs2 rs3 : Fin 32} {ecc : Ecc} :
    (d.streamStore c kind space rs1 rs2 rs3 ecc).Canon := by
  unfold Dev.streamStore
  extract_lets word acts
  have issued : ∀ {t : Dev}, t.Canon → (t.stage c (t.streamIssue c kind space rs1 rs2 rs3)).Canon := fun ht => ht.stage fun _ => ht.streamIssue
  split
  · exact issued h
  · exact .ite (issued h.sramCorrected) (issued h)
  · exact .ite h.sramUncorrectable (issued h)

theorem Dev.Canon.execSst {s : State} (h : s.dev.Canon) {c space : Nat} {rs1 rs2 rs3 : Fin 32} {ecc : Ecc} :
    Dev.CanonNext (execSst c space rs1 rs2 rs3 ecc s) :=
  h.streamStore.next

theorem Dev.Canon.execSacc {s : State} (h : s.dev.Canon) {c space : Nat} {rs1 rs2 rs3 : Fin 32} {ecc : Ecc} :
    Dev.CanonNext (execSacc c space rs1 rs2 rs3 ecc s) :=
  h.streamStore.next

theorem Dev.Canon.streamDone {d : Dev} (h : d.Canon) {c : Nat} {o : StreamOp} {bs : List Byte} : (d.streamDone c o bs).Canon :=
  h.streamUnlock.freeTags.modClu

theorem Dev.Canon.streamFail {d : Dev} (h : d.Canon) {c k : Nat} {o : StreamOp} {st dt : Nat} : (d.streamFail c k o st dt).Canon := by
  unfold Dev.streamFail
  refine .ite ?_ ?_
  · refine .streamDone ?_
    split
    · exact h.modDsc
    · exact h
  · refine .ite ?_ h.haltChan
    split
    · exact h.failHalt
    · exact h.cluFail

theorem Dev.Canon.streamMem {d : Dev} (h : d.Canon) {c k : Nat} {ch : Chan} {o : StreamOp} : (d.streamMem c k ch o).Canon :=
  .ite h.chRead h.streamPieces

theorem Dev.Canon.streamHost {d : Dev} (h : d.Canon) {o : StreamOp} {r : Resp} : (streamHost d o r).Canon := by
  unfold Machine.streamHost
  split
  · exact .ite h h
  · exact h

theorem Dev.Canon.streamEnd {d : Dev} (h : d.Canon) {c k : Nat} {ch : Chan} {o : StreamOp} {r : Resp} : (d.streamEnd c k ch o r).Canon := by
  unfold Dev.streamEnd
  have moved : (if o.space == 0 then d.streamMem c k ch o else Machine.streamHost d o r).Canon := .ite h.streamMem h.streamHost
  refine .ite h.streamDone ?_
  split
  · rename_i e
    exact .of_waits e moved
  · rename_i e
    exact (Dev.Canon.of_fails e moved).streamFail.settle
  · rename_i e
    have taken := Dev.Canon.of_ends e moved
    refine .settle (.streamDone ?_)
    split
    · exact .ite taken taken.modDsc
    · exact taken

theorem Dev.Canon.execStreamComplete {s : State} (h : s.dev.Canon) {c op : Nat} {r : Resp} : Dev.CanonNext (execStreamComplete c op r s) := by
  unfold Machine.execStreamComplete
  refine .next ?_
  split
  · split
    · exact .ite h.streamEnd h
    · exact h
  · exact h

theorem SRes.Canon.queuePop {stage : Nat} {r1 : Fin 32} {u : Clu} : (queuePop stage r1 u).Canon := by
  unfold Machine.queuePop
  refine SRes.Canon.ite trivial ?_
  split <;> exact trivial

theorem SRes.Canon.queueRel {stage : Nat} {u : Clu} : (queueRel stage u).Canon := by
  unfold Machine.queueRel
  split
  · exact trivial
  · exact .ite trivial trivial

theorem Dev.Canon.queueCnt {stage : Nat} {r1 : Fin 32} {u : Clu} : (queueCnt stage r1 u).Canon :=
  trivial

theorem Dev.Canon.queueSend {d : Dev} (h : d.Canon) {c dst : Nat} {r1 r2 r3 : Fin 32} {u : Clu} : (d.queueSend c dst r1 r2 r3 u).Canon :=
  h.stageChan fun _ _ => .ite trivial (.ite trivial (SRes.Canon.stopOne Clu.rdStop_canon (.ite trivial
    ((h.setClu.foldl fun _ _ ht => ht.modClu : Dev.Canon _)))))

theorem Dev.Canon.execQpop {s : State} (h : s.dev.Canon) {c stage : Nat} {r1 : Fin 32} : Dev.CanonNext (execQpop c stage r1 s) :=
  (h.stage (fun _ => SRes.Canon.queuePop)).next

theorem Dev.Canon.execQrel {s : State} (h : s.dev.Canon) {c stage : Nat} : Dev.CanonNext (execQrel c stage s) :=
  (h.stage (fun _ => SRes.Canon.queueRel)).next

theorem Dev.Canon.execQcnt {s : State} (h : s.dev.Canon) {c stage : Nat} {r1 : Fin 32} : Dev.CanonNext (execQcnt c stage r1 s) :=
  (h.stage (fun _ => Dev.Canon.queueCnt)).next

theorem Dev.Canon.queueSendEcc {d : Dev} (h : d.Canon) {c dst : Nat} {r1 r2 r3 : Fin 32} {ecc : Ecc} : (d.queueSendEcc c dst r1 r2 r3 ecc).Canon := by
  unfold Dev.queueSendEcc
  extract_lets acts
  have sent : ∀ {t : Dev}, t.Canon → (t.stage c (t.queueSend c dst r1 r2 r3)).Canon := fun ht => ht.stage fun _ => ht.queueSend
  split
  · exact sent h
  · exact .ite (sent h.sramCorrected) (sent h)
  · exact .ite h.sramUncorrectable (sent h)

theorem Dev.Canon.execQsend {s : State} (h : s.dev.Canon) {c stage : Nat} {r1 r2 r3 : Fin 32} {ecc : Ecc} :
    Dev.CanonNext (execQsend c stage r1 r2 r3 ecc s) :=
  h.queueSendEcc.next

theorem Dev.Canon.dscNext {d : Dev} (h : d.Canon) {r1 : Fin 32} {u : Clu} : (d.dscNext r1 u).Canon := by
  refine SRes.Canon.ite trivial (SRes.Canon.stopOne Clu.wrStop_canon (h.stageChan fun _ _ => ?_))
  split
  · exact .ite trivial trivial
  · trivial

theorem Dev.Canon.dscPass {d : Dev} (h : d.Canon) {c : Nat} {u : Clu} : (d.dscPass c u).Canon := by
  refine h.stageChan fun _ _ => ?_
  split
  · trivial
  · exact .ite trivial (.ite trivial h.modDsc.setClu)

theorem Dev.Canon.dscFinish {d : Dev} (h : d.Canon) {k s n : Nat} : (d.dscFinish k s n).Canon := by
  unfold Dev.dscFinish
  split
  · exact .ite h h.endDsc
  · exact h

theorem Dev.Canon.dscDone {d : Dev} (h : d.Canon) {c : Nat} {r1 r2 : Fin 32} {u : Clu} : (d.dscDone c r1 r2 u).Canon := by
  refine h.stageChan fun _ _ => ?_
  split
  · trivial
  · exact .ite trivial (.ite trivial (.ite trivial h.modDsc.setClu.dscFinish))

theorem Dev.Canon.dscStat {d : Dev} (h : d.Canon) {r1 : Fin 32} {u : Clu} : (d.dscStat r1 u).Canon :=
  h.stageChan (fun _ _ => trivial)

theorem Dev.Canon.execDnext {s : State} (h : s.dev.Canon) {c : Nat} {r1 : Fin 32} : Dev.CanonNext (execDnext c r1 s) :=
  (h.stage (fun _ => h.dscNext)).next

theorem Dev.Canon.execDpass {s : State} (h : s.dev.Canon) {c : Nat} : Dev.CanonNext (execDpass c s) :=
  (h.stage (fun _ => h.dscPass)).next

theorem Dev.Canon.execDdone {s : State} (h : s.dev.Canon) {c : Nat} {r1 r2 : Fin 32} : Dev.CanonNext (execDdone c r1 r2 s) :=
  (h.stage (fun _ => h.dscDone)).next

theorem Dev.Canon.execDstat {s : State} (h : s.dev.Canon) {c : Nat} {r1 : Fin 32} : Dev.CanonNext (execDstat c r1 s) :=
  (h.stage (fun _ => h.dscStat)).next

theorem Dev.Canon.stageSignal {d : Dev} (h : d.Canon) {r1 r2 : Fin 32} {u : Clu} : (d.stageSignal r1 r2 u).Canon := by
  refine h.stageChan fun _ _ => ?_
  split
  · trivial
  · exact .ite trivial h.signalObj

theorem Dev.Canon.stageWait {d : Dev} (h : d.Canon) {r1 r2 : Fin 32} {u : Clu} : (d.stageWait r1 r2 u).Canon := by
  refine h.stageChan fun _ _ => ?_
  split
  · trivial
  · exact .ite trivial trivial

theorem Dev.Canon.stageArgs {d : Dev} (h : d.Canon) {r1 : Fin 32} {u : Clu} : (d.stageArgs r1 u).Canon :=
  SRes.Canon.stopOne Clu.wrStop_canon (h.stageChan fun _ _ => trivial)

theorem Dev.Canon.stageId {d : Dev} (h : d.Canon) {c : Nat} {r1 : Fin 32} {imm : BitVec 14} {u : Clu} : (d.stageId c r1 imm u).Canon :=
  h.stageChan (fun _ _ => .ite trivial (.ite h.drawn.setClu trivial))

theorem Dev.Canon.execSsig {s : State} (h : s.dev.Canon) {c : Nat} {r1 r2 : Fin 32} : Dev.CanonNext (execSsig c r1 r2 s) :=
  (h.stage (fun _ => h.stageSignal)).next

theorem Dev.Canon.execSwait {s : State} (h : s.dev.Canon) {c : Nat} {r1 r2 : Fin 32} : Dev.CanonNext (execSwait c r1 r2 s) :=
  (h.stage (fun _ => h.stageWait)).next

theorem Dev.Canon.execCargs {s : State} (h : s.dev.Canon) {c : Nat} {r1 : Fin 32} : Dev.CanonNext (execCargs c r1 s) :=
  (h.stage (fun _ => h.stageArgs)).next

theorem Dev.Canon.execIdRead {s : State} (h : s.dev.Canon) {c : Nat} {r1 : Fin 32} {imm : BitVec 14} : Dev.CanonNext (execIdRead c r1 imm s) :=
  (h.stage (fun _ => h.stageId)).next

theorem Dev.Canon.execNop {s : State} (h : s.dev.Canon) {c : Nat} : Dev.CanonNext (execNop c s) :=
  (h.stage (run := .go) fun _ => trivial).next

theorem Dev.Canon.windowStep {d : Dev} (h : d.Canon) {c b : Nat} {dup : DupCheck} : (d.windowStep c b dup).Canon :=
  .ite h.windowMismatch (.ite h.windowClean.startTests h.modClu)

theorem Dev.Canon.stepOn {d : Dev} (h : d.Canon) {c : Nat} {dup : DupCheck} {u : Clu} : (d.stepOn c dup u).Canon := by
  unfold Dev.stepOn
  split
  · exact h.setClu.windowStep
  · exact h.setClu

theorem Dev.Canon.execStep {s : State} (h : s.dev.Canon) {c : Nat} {dup : DupCheck} : Dev.CanonNext (execStep c dup s) := by
  unfold Machine.execStep
  refine .next (.ite h ?_)
  split
  · exact h.stageFault
  · exact .ite h.stageFault (.ite (.ite h h.inc.modClu) h.stepOn)

theorem Dev.Canon.takeOver {d : Dev} (h : d.Canon) {c b : Nat} {v : Clu} : (d.takeOver c b v).Canon :=
  h.endWindow.moveStage.modClu.modClu.inc

theorem Dev.Canon.boundary {d : Dev} (h : d.Canon) {c a n : Nat} {u : Clu} : (d.boundary c a n u).Canon := by
  unfold Dev.boundary
  refine SRes.Canon.ite ?_ (.ite h.endWindow.setClu.inc trivial)
  split
  · exact h.drawn.takeOver
  · exact trivial

theorem Dev.Canon.stageBnd {d : Dev} (h : d.Canon) {c : Nat} {r1 r2 : Fin 32} {u : Clu} : (d.stageBnd c r1 r2 u).Canon :=
  .ite trivial (.ite trivial (.ite trivial h.boundary))

theorem Dev.Canon.execBnd {s : State} (h : s.dev.Canon) {c : Nat} {r1 r2 : Fin 32} : Dev.CanonNext (execBnd c r1 r2 s) :=
  (h.stage (fun _ => h.stageBnd)).next

theorem Dev.Canon.execSfence {s : State} (h : s.dev.Canon) {c : Nat} {imm : BitVec 14} : Dev.CanonNext (execSfence c imm s) :=
  (h.stage (run := fun u => if u.streams.length ≤ imm.toNat then .go u else .wait) fun _ => .ite trivial trivial).next

theorem Dev.Canon.execFault {s : State} (h : s.dev.Canon) {c : Nat} {imm : BitVec 14} : Dev.CanonNext (execFault c imm s) :=
  (h.stage (run := fun _ => .fault 0x0C imm.toNat) fun _ => trivial).next

end Sys2Proof.Machine
end

section
/-! The canonical form of the stored bytes is kept by the functions of Recipes, Od, Bandwidth, Placement, Programs, Partition. -/
-- Elaborating a thousand short theorems each in a thread of its own costs the memory of the threads.
set_option Elab.async false
namespace Sys2Proof.Machine

/-! ## Recipes -/

theorem Dev.Canon.pushEnd {d : Dev} (h : d.Canon) {k : Nat} {x : Dsc} {st dt : Nat} : (d.pushEnd k x st dt).Canon :=
  h.recEnd

theorem Dev.Canon.pushSource {d : Dev} (h : d.Canon) {k : Nat} {w : Win} {args : Nat} {x : Dsc} : (d.pushSource k w args x).Canon := by
  unfold Dev.pushSource
  refine ChAcc.Canon.ite h ?_
  split
  · exact h.tgtRead
  · exact .ite h h.tgtRead
  · exact h.tgtRead

theorem Dev.Canon.pushGo {d : Dev} (h : d.Canon) {r : Resp} {k : Nat} {c : Chan} {x : Dsc} {w : Win} : (d.pushGo r k c x w).Canon := by
  refine .ite h.pushEnd ?_
  split
  · rename_i waits
    exact .of_some waits h.outWaits
  · split
    · rename_i read
      exact .of_waits read h.pushSource
    · rename_i read
      exact (Dev.Canon.of_fails read h.pushSource).pushEnd
    · rename_i read
      have source := Dev.Canon.of_ends read h.pushSource
      split
      · rename_i written
        exact .of_waits written (.ite source source.bufWrite)
      · rename_i written
        exact (Dev.Canon.of_fails written (.ite source source.bufWrite)).pushEnd
      · rename_i written
        exact (Dev.Canon.of_ends written (.ite source source.bufWrite)).add.recEnd

theorem Dev.Canon.push {d : Dev} (h : d.Canon) {r : Resp} {k : Nat} {c : Chan} {x : Dsc} : (d.push r k c x).Canon := by
  unfold Dev.push
  split
  · exact h.pushEnd
  · split
    · exact h.pushEnd
    · exact .ite h.promoteAll.pushGo h.promoteAll

theorem Dev.Canon.execPush {s : State} (h : s.dev.Canon) {handle : Nat} {r : Resp} : Dev.CanonNext (execPush handle r s) :=
  (h.onRecipe (fun _ _ _ _ ht => ht.push)).next

theorem Dev.Canon.execPushDecision {s : State} (h : s.dev.Canon) {handle : Nat} {late : Bool} : Dev.CanonNext (execPushDecision handle late s) := by
  unfold Machine.execPushDecision
  refine .next (.onRecipe h (fun _ _ _ _ ht => ?_))
  split
  · exact ht
  · exact .ite ht ht.modDsc

theorem Dev.Canon.prefetch {d : Dev} (h : d.Canon) {k : Nat} {c : Chan} {x : Dsc} : (d.prefetch k c x).Canon := by
  unfold Dev.prefetch
  split
  · exact h.recEnd
  · split
    · exact h.recEnd
    · exact .ite h.promoteAll.modDsc h.promoteAll.recEnd

theorem Dev.Canon.execPrefetch {s : State} (h : s.dev.Canon) {handle : Nat} : Dev.CanonNext (execPrefetch handle s) :=
  (h.onRecipe (fun _ _ _ _ ht => ht.prefetch)).next

theorem Dev.Canon.accumulate {d : Dev} (h : d.Canon) {r : Resp} {k : Nat} {c : Chan} {x : Dsc} : (d.accumulate r k c x).Canon := by
  unfold Dev.accumulate
  dsimp only
  split
  · exact h.recEnd
  · split
    · rename_i e
      exact Dev.Canon.of_some e (Dev.Canon.waits_pair h.chRead h.chWrite)
    · refine ChAcc.Canon.endAcc (.next h.bufRead fun _ _ _ ht => .next ht.chRead fun _ _ _ hu => hu.chWrite) fun _ _ _ ht => .ite ht.recEnd ?_
      split
      · exact ht.signalObj.recEnd
      · exact ht.inc.recEnd

theorem Dev.Canon.execAccumulate {s : State} (h : s.dev.Canon) {handle : Nat} {r : Resp} : Dev.CanonNext (execAccumulate handle r s) :=
  (h.onRecipe (fun _ _ _ _ ht => ht.accumulate)).next

theorem Dev.Canon.readoutClear {d : Dev} (h : d.Canon) {p : Nat} {o : Obj} {rel n k seq : Nat} : (d.readoutClear p o rel n k seq).Canon :=
  .ite h.discardBlocks.mirrorNote.upd h.discardBlocks.mirrorNote

theorem ChAcc.Canon.waitsOf {l : List ChAcc} (h : ∀ a ∈ l, a.Canon) {u : Dev} (e : Sys2Proof.Machine.firstWait l = some u) :
    u.Canon := Dev.Canon.firstWait h u e

theorem Dev.Canon.ended {d : Dev} (h : d.Canon) {bs : List Byte} {n : Nat} : (ChAcc.done d bs n).Canon := h

theorem Dev.Canon.readout {d : Dev} (h : d.Canon) {r : Resp} {k : Nat} {c : Chan} {x : Dsc} : (d.readout r k c x).Canon := by
  unfold Dev.readout
  dsimp only
  split
  · exact h.recEnd
  · exact h
  · refine .ite h.recEnd (.ite h.recEnd (.ite h ?_))
    split
    · rename_i e
      refine ChAcc.Canon.waitsOf (List.forall_mem_append.mpr ⟨List.forall_mem_append.mpr ⟨List.forall_mem_singleton.mpr h.chRead, ?_⟩, ?_⟩) e
      · split
        · exact List.forall_mem_cons.mpr ⟨h.chRead, List.forall_mem_singleton.mpr h.chWrite⟩
        · exact List.forall_mem_nil _
      · split
        · exact List.forall_mem_singleton.mpr h.chWrite
        · exact List.forall_mem_nil _
    · exact ChAcc.Canon.endAcc (.next h.chRead fun _ _ _ ht => .next (.ite ht.chRead ht.ended) fun _ _ _ hu => .next hu.bufWrite fun _ _ _ hv => .ite
          hv.chWrite hv.ended)
        fun _ _ _ ht => (Dev.Canon.ite ht.readoutClear ht).recEnd

theorem Dev.Canon.execReadout {s : State} (h : s.dev.Canon) {handle : Nat} {r : Resp} : Dev.CanonNext (execReadout handle r s) :=
  (h.onRecipe (fun _ _ _ _ ht => ht.readout)).next

theorem Dev.Canon.gatherItems {d : Dev} (h : d.Canon) {k : Nat} {c : Chan} {x : Dsc} {idx : List Byte} {left i : Nat} :
    (Dev.gatherItems k c x idx left i d).Canon := by
  induction left generalizing d i with
  | zero => exact h.recEnd
  | succ left ih =>
    unfold Dev.gatherItems
    dsimp only
    split
    · rename_i u e
      refine (Dev.Canon.firstWait (fun a ha => ?_) u e).modDsc
      obtain ha | ha := List.mem_append.mp ha
      · obtain rfl := List.mem_singleton.mp ha
        exact h.chRead
      · split at ha
        · obtain rfl := List.mem_singleton.mp ha
          exact h.chWrite
        · cases ha
    · split
      · rename_i e
        exact (Dev.Canon.of_waits e h.chRead).modDsc
      · rename_i e
        exact (Dev.Canon.of_fails e h.chRead).recEnd
      · rename_i e
        have read := Dev.Canon.of_ends e h.chRead
        split
        · rename_i e'
          exact (Dev.Canon.of_waits e' read.bufWrite).modDsc
        · rename_i e'
          exact (Dev.Canon.of_fails e' read.bufWrite).recEnd
        · rename_i e'
          exact ih (Dev.Canon.of_ends e' read.bufWrite)

theorem Dev.Canon.gather {d : Dev} (h : d.Canon) {r : Resp} {k : Nat} {c : Chan} {x : Dsc} : (d.gather r k c x).Canon := by
  unfold Dev.gather
  exact .ite h.recEnd (.ite h.recEnd (ChAcc.Canon.endAcc h.bufRead (fun _ _ _ ht => ht.gatherItems)))

theorem Dev.Canon.execGather {s : State} (h : s.dev.Canon) {handle : Nat} {r : Resp} : Dev.CanonNext (execGather handle r s) :=
  (h.onRecipe (fun _ _ _ _ ht => ht.gather)).next

/-! ## Od -/

theorem Dev.Canon.answered {r : Dev × Nat} (hr : r.1.Canon) : (Dev.answered r).Canon :=
  .ite hr hr.result

theorem Dev.Canon.entryWrite {d : Dev} (h : d.Canon) {r : Role} {idx sub len v : Nat} {f : Dev → Dev × Nat} (hf : ∀ t, t.Canon → (f t).1.Canon) :
    (d.entryWrite r idx sub len v f).Canon := by
  unfold Dev.entryWrite
  refine .ite h ?_
  split
  · exact h.result
  · exact .answered (hf _ h)

theorem Dev.Canon.scalarWrite {d : Dev} (h : d.Canon) {r : Role} {idx sub v : Nat} {f : Dev → Dev × Nat} (hf : ∀ t, t.Canon → (f t).1.Canon) :
    (d.scalarWrite r idx sub v f).Canon :=
  h.entryWrite (fun _ ht => hf _ ht)

theorem Dev.Canon.refused {d : Dev} (h : d.Canon) : d.refused.1.Canon :=
  h

theorem Dev.Canon.outOfRange {d : Dev} (h : d.Canon) : d.outOfRange.1.Canon :=
  h

theorem Dev.Canon.store {d : Dev} (h : d.Canon) {k v : Nat} : (d.store k v).1.Canon :=
  h.wr

theorem Dev.Canon.unless {d : Dev} (h : d.Canon) {bad : Bool} {f : Dev → Dev} (hf : ∀ t, t.Canon → (f t).Canon) : (d.unless bad f).1.Canon :=
  .ite_fst h.refused (hf _ h)

/-! ## Bandwidth -/

theorem Dev.Canon.postFactor {d : Dev} (h : d.Canon) {r n : Nat} : (Dev.postFactor r d n).Canon :=
  .ite h.post h

theorem Dev.Canon.factorChanged {d : Dev} (h : d.Canon) {r : Nat} : (d.factorChanged r).Canon :=
  h.wr.inc.foldl (fun _ _ ht => ht.postFactor)

theorem Dev.Canon.refillMeter {d : Dev} (h : d.Canon) {r num den c : Nat} : (Dev.refillMeter r num den d c).Canon :=
  h.same

theorem Dev.Canon.refillRes {d : Dev} (h : d.Canon) {r : Nat} : (d.refillRes r).Canon :=
  .ite (h.wr.upd.foldl (fun _ _ ht => ht.refillMeter)) ((h.wr.upd.foldl (fun _ _ ht => ht.refillMeter)).factorChanged)

theorem Dev.Canon.refillAll {d : Dev} (h : d.Canon) : d.refillAll.Canon := by
  unfold Dev.refillAll
  extract_lets d1
  have refilled : d1.Canon := h.foldl fun _ _ ht => ht.refillRes
  exact refilled.same

theorem Dev.Canon.execRefill {s : State} (h : s.dev.Canon) : Dev.CanonNext (execRefill s) :=
  (Dev.Canon.ite h.refillAll.settle h).next

theorem Dev.Canon.wBudget {d : Dev} (h : d.Canon) {r c v : Nat} : (d.wBudget r c v).1.Canon :=
  h.unless (fun _ ht => ht.wr)

theorem Dev.Canon.execBudgetWrite {s : State} (h : s.dev.Canon) {role : Role} {res cls v : Nat} : Dev.CanonNext (execBudgetWrite role res cls v s) :=
  (h.scalarWrite (fun _ ht => ht.wBudget)).next

theorem Dev.Canon.wCap {d : Dev} (h : d.Canon) {r c v : Nat} : (d.wCap r c v).1.Canon :=
  h.unless (fun _ ht => ht.wr)

theorem Dev.Canon.execCapWrite {s : State} (h : s.dev.Canon) {role : Role} {res cls v : Nat} : Dev.CanonNext (execCapWrite role res cls v s) :=
  (h.scalarWrite (fun _ ht => ht.wCap)).next

theorem Dev.Canon.wQ0Reserve {d : Dev} (h : d.Canon) {v : Nat} : (d.wQ0Reserve v).1.Canon :=
  h.unless (fun _ ht => ht.wr)

theorem Dev.Canon.execQ0ReservePct {s : State} (h : s.dev.Canon) {role : Role} {v : Nat} : Dev.CanonNext (execQ0ReservePct role v s) :=
  (h.scalarWrite (fun _ ht => ht.wQ0Reserve)).next

theorem Dev.Canon.wClassPartitions {d : Dev} (h : d.Canon) {c mask : Nat} : (d.wClassPartitions c mask).1.Canon :=
  h.unless (fun _ ht => ht.wr)

theorem Dev.Canon.execClassPartitions {s : State} (h : s.dev.Canon) {role : Role} {cls mask : Nat} :
    Dev.CanonNext (execClassPartitions role cls mask s) :=
  (h.scalarWrite (fun _ ht => ht.wClassPartitions)).next

theorem Dev.Canon.wLsClass {d : Dev} (h : d.Canon) {n : Nat} {migration : Bool} {v : Nat} : (d.wLsClass n migration v).1.Canon :=
  h.unless (fun _ ht => ht.wr)

theorem Dev.Canon.execLsClass {s : State} (h : s.dev.Canon) {role : Role} {part : Nat} {migration : Bool} {v : Nat} :
    Dev.CanonNext (execLsClass role part migration v s) :=
  (h.scalarWrite (fun _ ht => ht.wLsClass)).next

theorem Dev.Canon.wShadow {d : Dev} (h : d.Canon) {g c rank : Nat} : (d.wShadow g c rank).1.Canon :=
  .ite_fst h.commitMeets.refused h.commitMeets.store

theorem Dev.Canon.execShadow {s : State} (h : s.dev.Canon) {role : Role} {group cls rank : Nat} : Dev.CanonNext (execShadow role group cls rank s) :=
  (h.scalarWrite (fun _ ht => ht.wShadow)).next

theorem Dev.Canon.wArbCommit {d : Dev} (h : d.Canon) {mask : Nat} : (d.wArbCommit mask).1.Canon :=
  .ite_fst h.commitMeets.refused h.commitMeets.store

theorem Dev.Canon.execArbCommit {s : State} (h : s.dev.Canon) {role : Role} {mask : Nat} : Dev.CanonNext (execArbCommit role mask s) :=
  (h.scalarWrite (fun _ ht => ht.wArbCommit)).next

/-! ## Placement -/

theorem Dev.Canon.epochEnd {d : Dev} (h : d.Canon) : d.epochEnd.Canon :=
  h.same

theorem Dev.Canon.execEpochEnd {s : State} (h : s.dev.Canon) : Dev.CanonNext (execEpochEnd s) :=
  (Dev.Canon.ite h.epochEnd h).next

theorem Dev.Canon.moveRange {d : Dev} (h : d.Canon) {o : Obj} {t : Tier} {cls : Nat} {l : List (Nat × Page)} {n : Nat} :
    (Dev.moveRange o t cls l d n).1.Canon := by
  induction l generalizing d n with
  | nil => exact h
  | cons e l ih =>
    refine .ite_fst (ih h) ?_
    split
    · rename_i u e
      exact ih (h.acceptMove u e)
    · exact h

theorem Dev.Canon.takeMoves {d : Dev} (h : d.Canon) {p : Nat} {o : Obj} {cls : Nat} {l : List Move} {n : Nat} : (Dev.takeMoves p o cls l d n).1.Canon := by
  induction l generalizing d n with
  | nil => exact h
  | cons m l ih => exact .ite_fst (ih h) (.ite_fst (ih h.moveRange) h.moveRange)

theorem Dev.Canon.placeOut {d : Dev} (h : d.Canon) {p n : Nat} {o : Obj} {ms : List Move} : (d.placeOut p n o ms).Canon :=
  h.modObj.takeMoves.add

theorem Dev.Canon.placeStopped {d : Dev} (h : d.Canon) {p n : Nat} : (d.placeStopped p n).Canon :=
  h.inc.modObj

theorem Dev.Canon.invoke {d : Dev} (h : d.Canon) {p n : Nat} {out : List Byte} : (d.invoke p n out).Canon := by
  unfold Dev.invoke
  split
  · exact h
  · refine .ite h (.ite h.placeOut.afterMoves.settle ?_)
    split
    · exact h.placeStopped
    · exact h.same.modObj.placeOut.afterMoves.settle

theorem Dev.Canon.execPlacementInvocation {s : State} (h : s.dev.Canon) {part obj : Nat} {out : List Byte} :
    Dev.CanonNext (execPlacementInvocation part obj out s) :=
  (Dev.Canon.ite h.invoke h).next

theorem Dev.Canon.copyRead {d : Dev} (h : d.Canon) {k : Nat} {m : Mig} {med : Med} : (d.copyRead k m med).Canon := by
  unfold Dev.copyRead
  refine .ite h ?_
  dsimp only
  split
  · exact h.drawn
  · exact .ite (h.drawn.medRead.foldl (fun _ _ ht => ht.poisonBlock)) h.drawn.medRead

theorem Dev.Canon.copyDone {d : Dev} (h : d.Canon) {k : Nat} {med : Med} : (d.copyDone k med).Canon := by
  unfold Dev.copyDone
  split
  · exact h
  · exact .ite h (.ite h.noteHeld (.ite h.copyRead h.copyRead.switchPage.afterMoves.settle))

theorem Dev.Canon.execMigrationCopyDone {s : State} (h : s.dev.Canon) {part page : Nat} {med : Med} :
    Dev.CanonNext (execMigrationCopyDone part page med s) :=
  (Dev.Canon.ite h.copyDone h).next

theorem Dev.Canon.execT3ProgramDone {s : State} (h : s.dev.Canon) : Dev.CanonNext (execT3ProgramDone s) :=
  (Dev.Canon.ite h.same.flashWear.afterMoves.settle h).next

theorem Dev.Canon.upkeep {d : Dev} (h : d.Canon) {b : Nat} : (d.upkeep b).Canon :=
  .ite h.flashWear h

theorem Dev.Canon.execReadDisturbRelocate {s : State} (h : s.dev.Canon) {bay _blk : Nat} : Dev.CanonNext (execReadDisturbRelocate bay _blk s) :=
  h.upkeep.next

theorem Dev.Canon.execRetentionRefresh {s : State} (h : s.dev.Canon) {bay _blk : Nat} : Dev.CanonNext (execRetentionRefresh bay _blk s) :=
  h.upkeep.next

theorem Dev.Canon.execWearLevel {s : State} (h : s.dev.Canon) {bay : Nat} : Dev.CanonNext (execWearLevel bay s) :=
  h.upkeep.next

theorem Dev.Canon.retireFlash {d : Dev} (h : d.Canon) {b blk wear : Nat} : (d.retireFlash b blk wear).Canon :=
  h.same.wr.flashWear

theorem Dev.Canon.execFlashBlockRetire {s : State} (h : s.dev.Canon) {bay blk wear : Nat} : Dev.CanonNext (execFlashBlockRetire bay blk wear s) :=
  (Dev.Canon.ite h.retireFlash h).next

theorem Dev.Canon.wReservation {d : Dev} (h : d.Canon) {t : Tier} {p v : Nat} : (d.wReservation t p v).1.Canon :=
  h.unless (fun _ ht => ht.wr)

theorem Dev.Canon.execTierReservationWrite {s : State} (h : s.dev.Canon) {role : Role} {tier part v : Nat} :
    Dev.CanonNext (execTierReservationWrite role tier part v s) :=
  (h.scalarWrite (fun _ ht => ht.wReservation)).next

theorem Dev.Canon.lendSet {d : Dev} (h : d.Canon) {i v : Nat} : (d.lendSet i v).Canon :=
  .ite h.wr.stopLendMoves.afterMoves.settle (.ite ((((h.wr.stopLendMoves.foldl (fun _ _ ht => ht.losePage)).wr).afterMoves).settle) h.wr)

theorem Dev.Canon.wLend {d : Dev} (h : d.Canon) {i v : Nat} : (d.wLend i v).1.Canon :=
  .ite_fst h.outOfRange (h.unless (fun _ ht => ht.lendSet))

theorem Dev.Canon.execLend {s : State} (h : s.dev.Canon) {role : Role} {i v : Nat} : Dev.CanonNext (execLend role i v s) :=
  (h.entryWrite (fun _ ht => ht.wLend)).next

theorem Dev.Canon.wProgramImage {d : Dev} (h : d.Canon) {slot : Nat} {img : List Byte} : (d.wProgramImage slot img).1.Canon :=
  h.measured h.same

theorem Dev.Canon.execProgramImage {s : State} (h : s.dev.Canon) {role : Role} {slot : Nat} {img : List Byte} :
    Dev.CanonNext (execProgramImage role slot img s) :=
  (h.entryWrite (fun _ ht => ht.wProgramImage)).next

theorem Dev.Canon.wSharedEnable {d : Dev} (h : d.Canon) {v : Nat} : (d.wSharedEnable v).1.Canon :=
  .ite_fst (.ite_fst h (h.unless (fun _ ht => ht.same.afterMoves))) (h.unless (fun _ ht => ht.same))

theorem Dev.Canon.execSharedEnable {s : State} (h : s.dev.Canon) {role : Role} {v : Nat} : Dev.CanonNext (execSharedEnable role v s) :=
  (h.scalarWrite (fun _ ht => ht.wSharedEnable)).next

theorem Dev.Canon.wHostSlot {d : Dev} (h : d.Canon) {i w : Nat} : (d.wHostSlot i w).1.Canon :=
  h.unless (fun _ ht => .ite ht.hostLost.settle (.ite ht.wr.logState.hostLost.settle ht.wr.logState))

theorem Dev.Canon.execHostSlot {s : State} (h : s.dev.Canon) {role : Role} {i v : Nat} : Dev.CanonNext (execHostSlot role i v s) :=
  (h.entryWrite (fun _ ht => ht.wHostSlot)).next

theorem Dev.Canon.wQuota {d : Dev} (h : d.Canon) {sync : Bool} {p v : Nat} : (d.wQuota sync p v).1.Canon :=
  h.unless (fun _ ht => ht.wr)

theorem Dev.Canon.execChQuota {s : State} (h : s.dev.Canon) {role : Role} {sync : Bool} {part v : Nat} :
    Dev.CanonNext (execChQuota role sync part v s) :=
  (h.scalarWrite (fun _ ht => ht.wQuota)).next

/-! ## Programs -/

theorem Dev.Canon.loadEnd {d : Dev} (h : d.Canon) {res : Nat} {f : Dev → Dev} (hf : ∀ t, t.Canon → (f t).Canon) : (d.loadEnd res f).1.Canon :=
  .ite_fst (hf _ h.wr) h.wr

theorem Dev.Canon.wProgram {d : Dev} (h : d.Canon) {slot : Nat} {img : List Byte} : (d.wProgram slot img).1.Canon :=
  h.measured (h.loadEnd (fun _ ht => ht.same))

theorem Dev.Canon.execProgram {s : State} (h : s.dev.Canon) {role : Role} {slot : Nat} {img : List Byte} :
    Dev.CanonNext (execProgram role slot img s) :=
  (h.entryWrite (fun _ ht => ht.wProgram)).next

theorem Dev.Canon.wPipeline {d : Dev} (h : d.Canon) {slot : Nat} {img : List Byte} : (d.wPipeline slot img).1.Canon :=
  h.measured (h.loadEnd (fun _ ht => ht.same))

theorem Dev.Canon.execPipeline {s : State} (h : s.dev.Canon) {role : Role} {slot : Nat} {img : List Byte} :
    Dev.CanonNext (execPipeline role slot img s) :=
  (h.entryWrite (fun _ ht => ht.wPipeline)).next

theorem Dev.Canon.wClusterRetire {d : Dev} (h : d.Canon) {c : Nat} : (d.wClusterRetire c).1.Canon := by
  unfold Dev.wClusterRetire
  dsimp only
  exact h.retireClu.settle

theorem Dev.Canon.execClusterRetire {s : State} (h : s.dev.Canon) {role : Role} {c : Nat} : Dev.CanonNext (execClusterRetire role c s) :=
  (h.scalarWrite (fun _ ht => ht.wClusterRetire)).next

theorem Dev.Canon.clusterReset {d : Dev} (h : d.Canon) {l : Nat} : (d.clusterReset l).Canon := by
  unfold Dev.clusterReset
  refine .settle ?_
  split
  · refine .modClu ?_
    split
    · exact h.haltChan
    · exact h
  · split
    · exact h.haltChan
    · exact h

theorem Dev.Canon.wClusterReset {d : Dev} (h : d.Canon) {role : Role} {l : Nat} : (d.wClusterReset role l).1.Canon :=
  h.unless (fun _ ht => ht.clusterReset)

theorem Dev.Canon.execClusterReset {s : State} (h : s.dev.Canon) {role : Role} {part l : Nat} : Dev.CanonNext (execClusterReset role part l s) :=
  (h.scalarWrite (fun _ ht => ht.wClusterReset)).next

/-! ## Partition -/

theorem Dev.Canon.freeSyncs {d : Dev} (h : d.Canon) {p : Nat} : (d.freeSyncs p).Canon :=
  .ite h h.same

theorem Dev.Canon.freeChans {d : Dev} (h : d.Canon) {p : Nat} : (d.freeChans p).Canon :=
  h.foldl (fun _ _ ht => ht.freeChan)

theorem Dev.Canon.resetAliases {d : Dev} (h : d.Canon) {p : Nat} : (d.resetAliases p).Canon :=
  (h.foldl (fun _ _ ht => ht.removeObj)).foldl (fun _ _ ht => ht.addClear)

theorem Dev.Canon.startReset {d : Dev} (h : d.Canon) {p : Nat} : (d.startReset p).Canon := by
  unfold Dev.startReset
  extract_lets d1 d2 mm
  have freed : d2.Canon := h.fenceAdd.losePer.wr.freeChans.freeSyncs.resetAliases
  clear_value d2
  have clearing : Dev.Canon { d2 with mm := { d2.mm with clearing := d2.mm.clearing ++ [Clear.mk .reset p 65536 0 262144 false 0 none] } } :=
      freed.same
  exact clearing.settle

theorem Dev.Canon.wReset {d : Dev} (h : d.Canon) {p : Nat} : (d.wReset p).1.Canon :=
  h.unless (fun _ ht => .ite ht ht.startReset)

theorem Dev.Canon.execReset {s : State} (h : s.dev.Canon) {role : Role} {part v : Nat} : Dev.CanonNext (execReset role part v s) :=
  (h.scalarWrite (fun _ ht => ht.wReset)).next

theorem Dev.Canon.wEnable {d : Dev} (h : d.Canon) {p v : Nat} : (d.wEnable p v).1.Canon :=
  .ite_fst (.ite_fst h (.ite_fst h.refused (.ite_fst h.same h.wr.drawKey))) (.ite_fst h.refused (.ite_fst (.ite h.wr.upd h.wr.startReset) h))

theorem Dev.Canon.execEnable {s : State} (h : s.dev.Canon) {role : Role} {part v : Nat} : Dev.CanonNext (execEnable role part v s) :=
  (h.scalarWrite (fun _ ht => ht.wEnable)).next

theorem Dev.Canon.wFence {d : Dev} (h : d.Canon) {p v : Nat} : (d.wFence p v).1.Canon := by
  unfold Dev.wFence
  dsimp only
  exact (Dev.Canon.ite h.fenceAdd h.setFence).settle

theorem Dev.Canon.execFence {s : State} (h : s.dev.Canon) {role : Role} {part v : Nat} : Dev.CanonNext (execFence role part v s) :=
  (h.scalarWrite (fun _ ht => ht.wFence)).next

theorem Dev.Canon.busOff {d : Dev} (h : d.Canon) {f : FnId} : (d.busOff f).Canon :=
  h.dropAdmRead.haltAll.settle

theorem Dev.Canon.busOn {d : Dev} (h : d.Canon) {f : FnId} : (d.busOn f).Canon :=
  h.pumpEv.admRead

theorem Dev.Canon.cfgChange {d : Dev} (h : d.Canon) {f : FnId} {g : Fn → Fn} : (d.cfgChange f g).Canon :=
  (Dev.Canon.ite h.setFn.busOff (.ite h.setFn.busOn h.setFn)).updWire

theorem Dev.Canon.execMemorySpaceEnable {s : State} (h : s.dev.Canon) {fn : FnId} {b : Bool} : Dev.CanonNext (execMemorySpaceEnable fn b s) :=
  (Dev.Canon.ite h.cfgChange h).next

theorem Dev.Canon.execBusMasterEnable {s : State} (h : s.dev.Canon) {fn : FnId} {b : Bool} : Dev.CanonNext (execBusMasterEnable fn b s) :=
  (Dev.Canon.ite h.cfgChange h).next

theorem Dev.Canon.execInterruptDisable {s : State} (h : s.dev.Canon) {fn : FnId} {b : Bool} : Dev.CanonNext (execInterruptDisable fn b s) :=
  (Dev.Canon.ite h.cfgChange h).next

theorem Dev.Canon.execPowerState {s : State} (h : s.dev.Canon) {fn : FnId} {v : Nat} : Dev.CanonNext (execPowerState fn v s) :=
  (Dev.Canon.ite h.cfgChange h).next

theorem Dev.Canon.startFlr {d : Dev} (h : d.Canon) {why : Nat} {f : FnId} : (Dev.startFlr why d f).Canon :=
  ((((Dev.Canon.ite ((Dev.Canon.ite h.setFn.emit h).setFn) (((Dev.Canon.ite h.setFn.emit h).setFn).foldl (fun _ _ ht => ht.post))).foldl (fun _ _ ht
      => ht.killChan)).upd).dropLocks).settle

theorem Dev.Canon.execInitiateFlr {s : State} (h : s.dev.Canon) {fn : FnId} : Dev.CanonNext (execInitiateFlr fn s) :=
  (Dev.Canon.ite h.startFlr h).next

theorem Dev.Canon.flrDone {d : Dev} (h : d.Canon) {f : FnId} : (d.flrDone f).Canon :=
  .ite h (.ite h.setFn h.setFn.inc.post.updWire)

theorem Dev.Canon.execFunctionResetDone {s : State} (h : s.dev.Canon) {fn : FnId} : Dev.CanonNext (execFunctionResetDone fn s) :=
  h.flrDone.next

theorem Dev.Canon.timeOut {d : Dev} (h : d.Canon) {t : OutTag} : (d.timeOut t).Canon :=
  .ite h.dropTag.countTimeout h.same.countTimeout.useFailed

theorem Dev.Canon.execCompletionTimeout {s : State} (h : s.dev.Canon) {tag : Nat} : Dev.CanonNext (execCompletionTimeout tag s) := by
  unfold Machine.execCompletionTimeout
  refine .next ?_
  split
  · exact h.timeOut
  · exact h

end Sys2Proof.Machine
end

section
/-! The canonical form of the stored bytes is kept by the functions of Links, Bays, Errors. -/
-- Elaborating a thousand short theorems each in a thread of its own costs the memory of the threads.
set_option Elab.async false
namespace Sys2Proof.Machine

/-! ## Links -/

theorem Dev.Canon.startTraining {d : Dev} (h : d.Canon) {p : Nat} : (d.startTraining p).Canon :=
  .ite h (.ite h.setPort h.setPort.emit)

theorem Dev.Canon.fixOne {d : Dev} (h : d.Canon) {port n : Nat} : (Dev.fixOne port d n).Canon :=
  .ite h.wr.setFn (.ite (h.wr.setFn.foldl (fun _ _ ht => ht.post)) h.wr)

theorem Dev.Canon.fixPort {d : Dev} (h : d.Canon) {port : Nat} : (d.fixPort port).Canon := by
  unfold Dev.fixPort
  exact ((h.foldl (fun _ _ ht => ht.fixOne)).setPort).losePer

theorem Dev.Canon.resetPort {d : Dev} (h : d.Canon) {port why : Nat} : (d.resetPort port why).Canon :=
  (h.foldl (fun _ _ ht => ht.startFlr)).fixPort

theorem Dev.Canon.loseLenders {d : Dev} (h : d.Canon) : d.loseLenders.Canon :=
  h.foldl (fun _ _ ht => .ite ht.lenderLost ht)

theorem Dev.Canon.afterRoutes {d : Dev} (h : d.Canon) : d.afterRoutes.Canon :=
  h.loseUnrouted.loseLenders.settle

theorem Dev.Canon.linkDrop {d : Dev} (h : d.Canon) {p : Nat} : (d.linkDrop p).Canon :=
  (Dev.Canon.ite h.inc.setPort.resetPort h.inc.setPort).afterRoutes

theorem Dev.Canon.dlDown {d : Dev} (h : d.Canon) {p : Nat} : (d.dlDown p).Canon :=
  .ite h.linkDrop.startTraining h

theorem Dev.Canon.execDlDown {s : State} (h : s.dev.Canon) {port : Nat} : Dev.CanonNext (execDlDown port s) :=
  h.dlDown.next

theorem Dev.Canon.hotReset {d : Dev} (h : d.Canon) {p : Nat} : (d.hotReset p).Canon :=
  .ite h (.ite h.resetPort.settle.linkDrop.startTraining h.resetPort.settle.startTraining)

theorem Dev.Canon.execHotReset {s : State} (h : s.dev.Canon) {port : Nat} : Dev.CanonNext (execHotReset port s) :=
  h.hotReset.next

theorem Dev.Canon.retrainPort {d : Dev} (h : d.Canon) {p : Nat} : (d.retrainPort p).Canon :=
  .ite h.linkDrop.startTraining h.startTraining

theorem Dev.Canon.wRetrain {d : Dev} (h : d.Canon) {p v : Nat} : (d.wRetrain p v).1.Canon :=
  .ite h.retrainPort h

theorem Dev.Canon.execRetrain {s : State} (h : s.dev.Canon) {role : Role} {port v : Nat} : Dev.CanonNext (execRetrain role port v s) :=
  (h.scalarWrite (fun _ ht => ht.wRetrain)).next

theorem Dev.Canon.updBypass {d : Dev} (h : d.Canon) : d.updBypass.Canon :=
  .ite h (.ite (((h.wr.emit.foldl (fun _ _ ht => ht.setPort)).startTraining).startTraining) (h.wr.emit.foldl (fun _ _ ht => (Dev.Canon.ite ht.inc
      ht).setPort)))

theorem Dev.Canon.wBypassForce {d : Dev} (h : d.Canon) {v : Nat} : (d.wBypassForce v).1.Canon :=
  h.wr.updBypass

theorem Dev.Canon.execBypassForce {s : State} (h : s.dev.Canon) {role : Role} {v : Nat} : Dev.CanonNext (execBypassForce role v s) :=
  (h.scalarWrite (fun _ ht => ht.wBypassForce)).next

theorem Dev.Canon.execRingRetryExpiry {s : State} (h : s.dev.Canon) : Dev.CanonNext (execRingRetryExpiry s) :=
  (Dev.Canon.ite h.wr.updBypass h).next

theorem Dev.Canon.trained {d : Dev} (h : d.Canon) {p : Nat} {t : Training} : (d.trained p t).Canon :=
  h.setPort

theorem Dev.Canon.countDeclined {d : Dev} (h : d.Canon) {p : Nat} {m : PMode} : (d.countDeclined p m).Canon :=
  .ite (.ite ((Dev.Canon.ite h.inc h).inc) (.ite h.inc h)) h

theorem Dev.Canon.trainFailed {d : Dev} (h : d.Canon) {p : Nat} : (d.trainFailed p).Canon :=
  .ite (.ite h.linkDrop.startTraining h.inc) (.ite (((((Dev.Canon.ite h.linkDrop.startTraining h.inc).setPort).drawn).wr).updBypass) (((Dev.Canon.ite
      h.linkDrop.startTraining h.inc).setPort).drawn))

theorem Dev.Canon.trainingDone {d : Dev} (h : d.Canon) {p : Nat} {t : Training} : (d.trainingDone p t).Canon :=
  .ite h (.ite h.trainFailed (.ite h.countDeclined.trainFailed ((Dev.Canon.ite h.countDeclined.trained.afterRoutes
      h.countDeclined.trained.ringUp.afterRoutes).foldl (fun _ _ ht => .ite ht.pumpEv ht))))

theorem Dev.Canon.execLinkTrainingDone {s : State} (h : s.dev.Canon) {port : Nat} {t : Training} : Dev.CanonNext (execLinkTrainingDone port t s) :=
  h.trainingDone.next

theorem Dev.Canon.execFlitCrcError {s : State} (h : s.dev.Canon) {port : Nat} : Dev.CanonNext (execFlitCrcError port s) :=
  (Dev.Canon.ite h (.ite h.inc.aer h.inc)).next

theorem Dev.Canon.cxlMb {d : Dev} (h : d.Canon) {port cmd : Nat} {run : Dev → Dev × Nat × List Byte} (hrun : ∀ t, t.Canon → (run t).1.Canon) :
    (d.cxlMb port cmd run).Canon :=
  .ite h (.emit (hrun _ h))

theorem Dev.Canon.cxlRelease {d : Dev} (h : d.Canon) {port ext count : Nat} : (d.cxlRelease port ext count).Canon := by
  unfold Dev.cxlRelease
  refine .foldl h (fun _ _ ht => ?_)
  refine .ite ?_ ht
  split
  · exact ht.revokeEnd
  · exact ht.same
  · exact ht

theorem Dev.Canon.execCxlReleaseDynamicCapacity {s : State} (h : s.dev.Canon) {port ext count : Nat} :
    Dev.CanonNext (execCxlReleaseDynamicCapacity port ext count s) :=
  (h.cxlMb (run := fun d => ((d.cxlRelease port ext count).settle, 0, [])) fun _ ht => (ht.cxlRelease.settle : Dev.Canon _)).next

theorem Dev.Canon.execCxlAddDynamicCapacityResponse {s : State} (h : s.dev.Canon) {port : Nat} {accepted : Bool} :
    Dev.CanonNext (execCxlAddDynamicCapacityResponse port accepted s) :=
  (h.cxlMb (fun _ ht => .ite ht ht.inc)).next

theorem Dev.Canon.dcRefill {d : Dev} (h : d.Canon) {port n : Nat} : (Dev.dcRefill port n d).Canon := by
  induction n generalizing d with
  | zero => exact h
  | succ n ih =>
    unfold Dev.dcRefill
    dsimp only
    split
    · exact .ite (ih (h.setPort.foldl fun _ _ ht => ht.adminOk)) h
    · exact h

theorem Dev.Canon.execIdentifyMemoryDevice {s : State} (h : s.dev.Canon) {port : Nat} : Dev.CanonNext (execIdentifyMemoryDevice port s) :=
  (h.cxlMb (fun _ ht => ht)).next

theorem Dev.Canon.execGetSupportedLogs {s : State} (h : s.dev.Canon) {port : Nat} : Dev.CanonNext (execGetSupportedLogs port s) :=
  (h.cxlMb (fun _ ht => ht)).next

theorem Dev.Canon.execGetLog {s : State} (h : s.dev.Canon) {port off len : Nat} : Dev.CanonNext (execGetLog port off len s) :=
  (h.cxlMb (fun _ ht => .ite_fst ht ht)).next

theorem Dev.Canon.execGetEventRecords {s : State} (h : s.dev.Canon) {port log : Nat} : Dev.CanonNext (execGetEventRecords port log s) :=
  (h.cxlMb (fun _ ht => .ite_fst ht (.ite_fst ht ht))).next

theorem Dev.Canon.dcClear {d : Dev} (h : d.Canon) {port : Nat} {all : Bool} {handles : List Nat} : (d.dcClear port all handles).1.Canon :=
  .ite_fst h h.setPort.dcRefill

theorem Dev.Canon.execClearEventRecords {s : State} (h : s.dev.Canon) {port log : Nat} {all : Bool} {handles : List Nat} :
    Dev.CanonNext (execClearEventRecords port log all handles s) :=
  (h.cxlMb (fun _ ht => .ite_fst ht (.ite_fst ht.dcClear (.ite_fst ht ht)))).next

theorem Dev.Canon.execGetEventInterruptPolicy {s : State} (h : s.dev.Canon) {port : Nat} : Dev.CanonNext (execGetEventInterruptPolicy port s) :=
  (h.cxlMb (fun _ ht => ht)).next

theorem Dev.Canon.execSetEventInterruptPolicy {s : State} (h : s.dev.Canon) {port : Nat} {policy : List Nat} :
    Dev.CanonNext (execSetEventInterruptPolicy port policy s) :=
  (h.cxlMb (fun _ ht => ht)).next

theorem Dev.Canon.execGetPoisonList {s : State} (h : s.dev.Canon) {port addr len : Nat} : Dev.CanonNext (execGetPoisonList port addr len s) := by
  unfold Machine.execGetPoisonList
  refine .next (.cxlMb h (fun _ ht => ?_))
  split <;> exact ht

theorem Dev.Canon.execGetDynamicCapacityConfiguration {s : State} (h : s.dev.Canon) {port : Nat} :
    Dev.CanonNext (execGetDynamicCapacityConfiguration port s) :=
  (h.cxlMb (fun _ ht => ht)).next

theorem Dev.Canon.execGetDynamicCapacityExtentList {s : State} (h : s.dev.Canon) {port first count : Nat} :
    Dev.CanonNext (execGetDynamicCapacityExtentList port first count s) :=
  (h.cxlMb (fun _ ht => ht)).next

theorem Dev.Canon.execGlobalPersistentFlush {s : State} (h : s.dev.Canon) {port phase : Nat} : Dev.CanonNext (execGlobalPersistentFlush port phase s) :=
  (Dev.Canon.ite h.emit h).next

/-! ## Bays -/

theorem Dev.Canon.baySignal {d : Dev} (h : d.Canon) {b bitNo enable : Nat} : (d.baySignal b bitNo enable).Canon :=
  .ite h.setBay.notify h.setBay

theorem Dev.Canon.setPresence {d : Dev} (h : d.Canon) {b : Nat} {v : Bool} : (d.setPresence b v).Canon :=
  .ite h h.setBay.baySignal

theorem Dev.Canon.setReady {d : Dev} (h : d.Canon) {b : Nat} {v : Bool} : (d.setReady b v).Canon :=
  .ite h h.setBay.baySignal

theorem Dev.Canon.modBay {d : Dev} (h : d.Canon) {b : Nat} {f : Bay → Bay} : (d.modBay b f).Canon :=
  h.setBay

theorem Dev.Canon.secondLoss {d : Dev} (h : d.Canon) : d.secondLoss.Canon :=
  (h.same.foldl (fun _ _ ht => ht.losePage)).add

theorem Dev.Canon.loseCodewords {d : Dev} (h : d.Canon) {b : Nat} : (d.loseCodewords b).Canon :=
  .ite h (.ite h.modBay.secondLoss.settle h.modBay)

theorem Dev.Canon.powerDown {d : Dev} (h : d.Canon) {b : Nat} : (d.powerDown b).Canon :=
  h.loseCodewords.modBay.setReady

theorem Dev.Canon.loseCartridge {d : Dev} (h : d.Canon) {b : Nat} : (d.loseCartridge b).Canon :=
  h.inc.sign.loseCodewords.modBay.setReady

theorem Dev.Canon.press {d : Dev} (h : d.Canon) {b : Nat} : (d.press b).Canon :=
  .ite h.baySignal.setBay (.ite h.baySignal (.ite h.baySignal.setBay.inc (.ite h.baySignal.setBay h.baySignal)))

theorem Dev.Canon.execAttnButtonPress {s : State} (h : s.dev.Canon) {bay : Nat} : Dev.CanonNext (execAttnButtonPress bay s) :=
  h.press.next

theorem Dev.Canon.execBayQuiesceTimer {s : State} (h : s.dev.Canon) {bay : Nat} : Dev.CanonNext (execBayQuiesceTimer bay s) :=
  (Dev.Canon.ite h.powerDown.modBay h).next

theorem Dev.Canon.noteWear {d : Dev} (h : d.Canon) {b : Nat} : (d.noteWear b).Canon :=
  h.same

theorem Dev.Canon.takeWear {d : Dev} (h : d.Canon) {b : Nat} : (d.takeWear b).Canon := by
  unfold Dev.takeWear
  split
  · exact h.wr
  · exact h.wr.drawn

theorem Dev.Canon.execCartridgeRemoved {s : State} (h : s.dev.Canon) {bay : Nat} : Dev.CanonNext (execCartridgeRemoved bay s) :=
  (Dev.Canon.ite h.noteWear.setBay.setPresence h).next

theorem Dev.Canon.execCartridgeSurpriseRemoval {s : State} (h : s.dev.Canon) {bay : Nat} {present : Bool} :
    Dev.CanonNext (execCartridgeSurpriseRemoval bay present s) :=
  (Dev.Canon.ite (.ite h.loseCartridge h.loseCartridge.noteWear.modBay.setPresence) h).next

theorem Dev.Canon.execPowerFault {s : State} (h : s.dev.Canon) {bay : Nat} : Dev.CanonNext (execPowerFault bay s) :=
  (Dev.Canon.ite h.baySignal.loseCartridge h).next

theorem Dev.Canon.execCartridgeInserted {s : State} (h : s.dev.Canon) {bay : Nat} {serial fw : List Byte} :
    Dev.CanonNext (execCartridgeInserted bay serial fw s) :=
  (Dev.Canon.ite h h.setBay.takeWear.inc.setPresence).next

theorem Dev.Canon.execCartridgeSettleTimer {s : State} (h : s.dev.Canon) {bay : Nat} : Dev.CanonNext (execCartridgeSettleTimer bay s) :=
  (Dev.Canon.ite h (.ite h.setBay (.ite h.setBay h.setBay))).next

theorem Dev.Canon.checkDone {d : Dev} (h : d.Canon) {b : Nat} {qualified : Bool} : (d.checkDone b qualified).Canon :=
  .ite h (.ite h.drawn.modBay.setReady h.modBay)

theorem Dev.Canon.execCartridgeCheckDone {s : State} (h : s.dev.Canon) {bay : Nat} {qualified : Bool} :
    Dev.CanonNext (execCartridgeCheckDone bay qualified s) :=
  h.checkDone.next

theorem Dev.Canon.chargeRebuild {d : Dev} (h : d.Canon) : d.chargeRebuild.Canon :=
  h.chargeTier.chargeTier

theorem Dev.Canon.execRebuildDone {s : State} (h : s.dev.Canon) {bay : Nat} : Dev.CanonNext (execRebuildDone bay s) :=
  (Dev.Canon.ite h.chargeRebuild.modBay h).next

theorem Dev.Canon.wBayCtrl {d : Dev} (h : d.Canon) {b v : Nat} : (d.wBayCtrl b v).1.Canon :=
  .ite_fst h.outOfRange (.ite_fst h.refused (.ite_fst (.ite h.setBay.powerDown h.setBay) (.ite_fst h.setBay.modBay h.setBay)))

theorem Dev.Canon.execBayCtrl {s : State} (h : s.dev.Canon) {w : Writer} {bay v : Nat} : Dev.CanonNext (execBayCtrl w bay v s) := by
  unfold Machine.execBayCtrl
  refine .next ?_
  split
  · exact h.scalarWrite (fun _ ht => ht.wBayCtrl)
  · exact .ite h.wBayCtrl h

/-! ## Errors -/

theorem Dev.Canon.parity {d : Dev} (h : d.Canon) {masked : Bool} {x : Sig} : (d.parity masked x).Canon :=
  (Dev.Canon.ite h.inc.inc h.inc).sign

theorem Dev.Canon.remark {d : Dev} (h : d.Canon) {n : Nat} : (d.remark n).Canon :=
  .ite h.same h

theorem Dev.Canon.parityHostRead {d : Dev} (h : d.Canon) {q : HReq} {masked : Bool} : (d.parityHostRead q masked).Canon := by
  unfold Dev.parityHostRead
  refine .ite h ?_
  split
  · dsimp only
    split
    · rename_i e
      exact (Dev.Canon.of_done e h.parity.serve).settle
    · exact h
  · dsimp only
    split
    · rename_i e
      exact ((Dev.Canon.of_done e h.parity.serve).remark).settle
    · exact h

theorem Dev.Canon.poisonRun {d : Dev} (h : d.Canon) {p off len : Nat} : (d.poisonRun p off len).Canon := by
  unfold Dev.poisonRun
  split
  · exact h
  · refine .ite h ?_
    dsimp only
    split
    · exact h
    · rename_i e
      exact (Dev.Canon.of_some e h.framesFor).foldl (fun _ _ ht => ht.poisonBlks)

theorem Dev.Canon.parityHostWrite {d : Dev} (h : d.Canon) {q : HReq} : (d.parityHostWrite q).Canon := by
  unfold Dev.parityHostWrite
  refine .ite h ?_
  dsimp only
  split
  · rename_i e
    refine .ite ?_ ((Dev.Canon.of_done e h.parity.serve).settle)
    split
    · exact (((Dev.Canon.of_done e h.parity.serve).poisonRun).remark).settle
    · exact (Dev.Canon.of_done e h.parity.serve).settle
  · exact h

theorem Dev.Canon.parityBar2 {d : Dev} (h : d.Canon) {f : FnId} {off len : Nat} : (d.parityBar2 f off len).Canon :=
  .ite h.parity.request.settle h.parity.refuseBar

theorem Dev.Canon.parityBar2Read {d : Dev} (h : d.Canon) {f : FnId} {tag off len : Nat} {masked : Bool} :
    (d.parityBar2Read f tag off len masked).Canon := by
  unfold Dev.parityBar2Read
  refine .ite h ?_
  split
  · dsimp only
    split
    · rename_i e
      exact (Dev.Canon.of_done e h.parity.serve).settle
    · exact h
  · dsimp only
    split
    · rename_i e
      exact ((Dev.Canon.of_done e h.parity.serve).remark).settle
    · exact h

theorem Dev.Canon.parityBar2Header {d : Dev} (h : d.Canon) {f : FnId} {tag : Nat} {nonPosted : Bool} : (d.parityBar2Header f tag nonPosted).Canon :=
  .ite h (.ite h.parity.aer.emit h.parity.aer)

theorem Dev.Canon.parityHeader {d : Dev} (h : d.Canon) {q : HReq} {nonPosted : Bool} : (d.parityHeader q nonPosted).Canon :=
  .ite h (.ite h.parity.aer (.ite h.parity.aer.emit h.parity.aer.emit))

theorem Dev.Canon.parityStream {d : Dev} (h : d.Canon) {c op : Nat} {write masked : Bool} : (d.parityStream c op write masked).Canon := by
  unfold Dev.parityStream
  split
  · exact h
  · exact .ite h (.ite h.parity (((Dev.Canon.ite h.parity.poisonRun h.parity).streamFail).settle))

theorem Dev.Canon.parityRecipe {d : Dev} (h : d.Canon) {a : Nat} {masked : Bool} : (d.parityRecipe a masked).Canon := by
  unfold Dev.parityRecipe
  split
  · split
    · exact .ite h.parity h.parity.failHalt.settle
    · exact h
  · exact h

theorem Dev.Canon.parityError {d : Dev} (h : d.Canon) {y : Beat} : (d.parityError y).Canon := by
  unfold Dev.parityError
  split
  · exact h.parityHostRead
  · exact h.parityStream
  · exact h.parityStream
  · exact h.parityHostWrite
  · exact h.parityBar2
  · exact h.parityHeader
  · exact h.parityBar2Read
  · exact h.parityRecipe
  · exact h.parityBar2Header
  · split
    · exact h.parity.dropTag.useFailed
    · exact h
  · split
    · exact h.parity.lockFails
    · exact h
  · exact .ite h.parity.ringSend h

theorem Dev.Canon.execDatapathParityError {s : State} (h : s.dev.Canon) {beat : Beat} : Dev.CanonNext (execDatapathParityError beat s) :=
  h.parityError.next

theorem Dev.Canon.toss {d : Dev} (h : d.Canon) : d.toss.2.Canon :=
  h.drawn

theorem Dev.Canon.refetch {d : Dev} (h : d.Canon) {p : Nat} {o : Obj} {k : Nat} : (d.refetch p o k).Canon := by
  unfold Dev.refetch
  dsimp only
  split
  · exact h.losePage
  · exact h.abortMig.setPage.tookFrame.setPage.foldl (fun _ _ ht => ht.repairAsk)

theorem Dev.Canon.loseFrameOf {d : Dev} (h : d.Canon) {k : Nat} : (d.loseFrameOf k).Canon := by
  unfold Dev.loseFrameOf
  split
  · exact .ite h.refetch h.losePage
  · exact h.losePage

theorem Dev.Canon.contain {d : Dev} (h : d.Canon) {p : Nat} : (d.contain p).Canon :=
  .ite h.fenceAdd.settle h

theorem Dev.Canon.losePageEntry {d : Dev} (h : d.Canon) {k : Nat} : (d.losePageEntry k).Canon :=
  h.losePage.sign.post

theorem Dev.Canon.loseDirEntry {d : Dev} (h : d.Canon) {k : Nat} : (d.loseDirEntry k).Canon := by
  unfold Dev.loseDirEntry
  split
  · exact h
  · exact h.sign.recallLine.settle

theorem Dev.Canon.loseChanCtx {d : Dev} (h : d.Canon) {k : Nat} : (d.loseChanCtx k).Canon :=
  h.sign.haltChan.settle

theorem Dev.Canon.loseSync {d : Dev} (h : d.Canon) {k : Nat} : (d.loseSync k).Canon :=
  (h.sign.upd.foldl (fun _ _ ht => ht.haltChan)).settle

theorem Dev.Canon.tossed {d : Dev} (h : d.Canon) {f : Dev → Nat → Dev} {k : Nat} (hf : ∀ t y, t.Canon → (f t y).Canon) : (Dev.tossed f d k).Canon :=
  .ite (hf _ _ h.toss) h.toss

theorem Dev.Canon.loseMetadata {d : Dev} (h : d.Canon) {u : MemUnit} : (d.loseMetadata u).Canon := by
  unfold Dev.loseMetadata
  split
  · exact h.foldl (fun _ _ ht => ht.tossed (fun _ _ ht1 => ht1.loseDirEntry))
  · exact (((h.foldl (fun _ _ ht => ht.tossed (fun _ _ ht1 => ht1.losePageEntry))).foldl (fun _ _ ht => ht.tossed (fun _ _ ht1 =>
        ht1.loseChanCtx))).foldl (fun _ _ ht => ht.tossed (fun _ _ ht1 => ht1.loseSync))).foldl (fun _ _ ht => ht.tossed (fun _ _ ht1 =>
        ht1.sign.contain))

theorem Dev.Canon.markLost {d : Dev} (h : d.Canon) {y : MemUnit} : (d.markLost y).Canon := by
  unfold Dev.markLost
  split <;> exact h.same

theorem Dev.Canon.moveShare {d : Dev} (h : d.Canon) {c : Nat} : (d.moveShare c).Canon := by
  unfold Dev.moveShare
  exact .ite h h.same

theorem Dev.Canon.abortOnto {d : Dev} (h : d.Canon) {u : MemUnit} {e : Nat × Mig} : (Dev.abortOnto u d e).Canon :=
  .ite h.abortMig h

theorem Dev.Canon.loseUnit {d : Dev} (h : d.Canon) {u : MemUnit} : (d.loseUnit u).Canon := by
  unfold Dev.loseUnit
  refine .ite h (.settle ?_)
  refine .afterMoves (.restartShares ?_)
  refine .foldl ?_ (fun _ _ ht => .ite ht.post ht)
  split
  · exact (((h.markLost.sign.foldl (fun _ _ ht => ht.abortOnto)).foldl (fun _ _ ht => ht.loseFrameOf)).loseMetadata).moveShare
  · exact ((h.markLost.sign.foldl (fun _ _ ht => ht.abortOnto)).foldl (fun _ _ ht => ht.loseFrameOf)).loseMetadata

theorem Dev.Canon.execRefreshFailure {s : State} (h : s.dev.Canon) {u : MemUnit} : Dev.CanonNext (execRefreshFailure u s) :=
  (Dev.Canon.ite h.loseUnit h).next

theorem Dev.Canon.cluMismatch {d : Dev} (h : d.Canon) {c : Nat} : (d.cluMismatch c).Canon := by
  unfold Dev.cluMismatch
  refine .ite h (.settle ?_)
  refine .modClu (.keepNumber ?_)
  refine .replaceClu (.modClu ?_)
  split
  · refine .haltChan (.endWindow ?_)
    split
    · exact h.sign.modClu
    · exact h.sign
  · refine .endWindow ?_
    split
    · exact h.sign.modClu
    · exact h.sign

theorem Dev.Canon.memMismatch {d : Dev} (h : d.Canon) {u : MemUnit} {partly : List (Nat × Nat)} : (d.memMismatch u partly).Canon :=
  .ite (((h.sign.foldl (fun _ _ ht => .ite ht.poisonBlks ht)).toss).loseUnit) (((h.sign.foldl (fun _ _ ht => .ite ht.poisonBlks ht)).toss).upd)

theorem Dev.Canon.mismatch {d : Dev} (h : d.Canon) {y : LockUnit} : (d.mismatch y).Canon := by
  unfold Dev.mismatch
  split
  · exact h.cluMismatch
  · exact h.memMismatch
  · exact h.sign
  · exact .ite h.sign.placeStopped h.sign
  · exact .ite h.sign h.sign.loseCartridge

theorem Dev.Canon.execLockstepMismatch {s : State} (h : s.dev.Canon) {u : LockUnit} : Dev.CanonNext (execLockstepMismatch u s) :=
  (Dev.Canon.ite h.inc.mismatch h).next

theorem Dev.Canon.execLarkspurWatchdogExpiry {s : State} (h : s.dev.Canon) : Dev.CanonNext (execLarkspurWatchdogExpiry s) :=
  (Dev.Canon.ite h h.same.updBypass).next

theorem Dev.Canon.execLarkspurRestartDone {s : State} (h : s.dev.Canon) : Dev.CanonNext (execLarkspurRestartDone s) :=
  (Dev.Canon.ite h.same.updBypass h).next

theorem Dev.Canon.scrubCharge {d : Dev} (h : d.Canon) {p blk : Nat} : (d.scrubCharge p blk).Canon :=
  h.toss.chargeTier

theorem Dev.Canon.scrubBlock {d : Dev} (h : d.Canon) {p blk : Nat} {med : Med} : (d.scrubBlock p blk med).Canon :=
  .ite h (.ite h.scrubCharge.medRead.post h.scrubCharge.medRead)

theorem Dev.Canon.scrubMeta {d : Dev} (h : d.Canon) {t p : Nat} {x : ScrubT} {med : Med} {lost : Dev → Dev} (hlost : ∀ t, t.Canon → (lost t).Canon) :
    (d.scrubMeta t p x med lost).Canon := by
  unfold Dev.scrubMeta
  split
  · exact h
  · extract_lets
    exact .ite (h.same.sign.dramRow.noteWord.inc.sign) h.same.sign.dramRow.noteWord
  · exact hlost _ h.same

theorem Dev.Canon.scrub {d : Dev} (h : d.Canon) {t : ScrubT} {med : Med} : (d.scrub t med).Canon := by
  unfold Dev.scrub
  split
  · exact h.scrubBlock.settle
  · exact .ite (h.scrubMeta (fun _ ht => ht.losePageEntry.settle)) h
  · exact .ite (h.scrubMeta (fun _ ht => ht.sign.contain)) h
  · exact .ite (h.scrubMeta (fun _ ht => ht.loseDirEntry)) h
  · split
    · exact h.scrubMeta (fun _ ht => ht.loseChanCtx)
    · exact h
  · split
    · exact h.scrubMeta (fun _ ht => ht.loseSync)
    · exact h
  · exact .ite (h.scrubMeta (fun _ ht => ht.sign.contain)) h

theorem Dev.Canon.execScrubRead {s : State} (h : s.dev.Canon) {t : ScrubT} {med : Med} : Dev.CanonNext (execScrubRead t med s) :=
  (Dev.Canon.ite h.scrub h).next

theorem Dev.Canon.deadheadPut {d : Dev} (h : d.Canon) {e : Nat} : (d.deadheadPut e).Canon :=
  h.same.restartRetires.finishDeadhead

theorem Dev.Canon.wDeadheadAdd {d : Dev} (h : d.Canon) {e : Nat} : (d.wDeadheadAdd e).1.Canon :=
  .ite_fst h.wr.deadheadPut h.wr

theorem Dev.Canon.execDeadheadAdd {s : State} (h : s.dev.Canon) {role : Role} {entry : Nat} : Dev.CanonNext (execDeadheadAdd role entry s) :=
  (h.entryWrite (fun _ ht => ht.wDeadheadAdd)).next

theorem Dev.Canon.wRecommendDismiss {d : Dev} (h : d.Canon) {e : Nat} : (d.wRecommendDismiss e).1.Canon :=
  h.same

theorem Dev.Canon.execRecommendDismiss {s : State} (h : s.dev.Canon) {role : Role} {entry : Nat} : Dev.CanonNext (execRecommendDismiss role entry s) :=
  (h.entryWrite (fun _ ht => ht.wRecommendDismiss)).next

end Sys2Proof.Machine
end

section
/-! The canonical form of the stored bytes is kept by the functions of Pair, Startup. -/
-- Elaborating a thousand short theorems each in a thread of its own costs the memory of the threads.
set_option Elab.async false
namespace Sys2Proof.Machine

/-! ## Pair -/

theorem Dev.Canon.pairPost {d : Dev} (h : d.Canon) {e : Ev} : (d.pairPost e).Canon :=
  h.foldl (fun _ _ ht => ht.post)

theorem Dev.Canon.pairTo {d : Dev} (h : d.Canon) {st : PairSt} : (d.pairTo st).Canon :=
  .ite h h.same.notify

theorem Dev.Canon.pairEvent {d : Dev} (h : d.Canon) {typ : Nat} : (d.pairEvent typ).Canon :=
  h.pairPost

theorem Dev.Canon.allDirty {d : Dev} (h : d.Canon) : d.allDirty.Canon :=
  h.same

theorem Dev.Canon.unformed {d : Dev} (h : d.Canon) : d.unformed.Canon := by
  unfold Dev.unformed
  exact h.allDirty.upd

theorem Dev.Canon.unackedDirty {d : Dev} (h : d.Canon) : d.unackedDirty.Canon :=
  h.foldl (fun _ _ ht => ht.markDirty)

theorem Dev.Canon.endHold {d : Dev} (h : d.Canon) {ok : Bool} {a : MirHold} : (Dev.endHold ok d a).Canon := by
  unfold Dev.endHold
  split
  · split
    · split
      · split
        · exact h.answerWrite.adminOk
        · exact h.answerWrite
      · split
        · exact h.answerWrite.adminOk
        · exact h.answerWrite
    · split
      · split
        · exact h.refuse.haltChan.adminFenced
        · exact h.refuse.haltChan
      · split
        · exact h.refuse.adminFenced
        · exact h.refuse
  · split
    · split
      · split
        · exact h.adminOk
        · exact h
      · split
        · exact h.haltChan.adminFenced
        · exact h.haltChan
    · split
      · exact .ite h.adminOk h.adminFenced
      · exact h

theorem Dev.Canon.endHolds {d : Dev} (h : d.Canon) {ok : Bool} {p : Nat → Bool} : (d.endHolds ok p).Canon :=
  h.same.foldl (fun _ _ ht => ht.endHold)

theorem Dev.Canon.runCmd {d : Dev} (h : d.Canon) {c : MirCmd} : (d.runCmd c).Canon :=
  h.admTry (fun _ ht => ht.cmdDo)

theorem Dev.Canon.endCmds {d : Dev} (h : d.Canon) {p : Nat → Bool} {f : Dev → MirCmd → Dev} (hf : ∀ t y, t.Canon → (f t y).Canon) :
    (d.endCmds p f).Canon :=
  h.same.foldl (fun _ _ ht => hf _ _ ht)

theorem Dev.Canon.dropLog {d : Dev} (h : d.Canon) : d.dropLog.Canon :=
  h.same

theorem Dev.Canon.goAlone {d : Dev} (h : d.Canon) : d.goAlone.Canon :=
  h.unackedDirty.dropLog.endHolds.endCmds (fun _ _ ht => ht.runCmd)

theorem Dev.Canon.heldDirty {d : Dev} (h : d.Canon) {x : Held} : (d.heldDirty x).Canon := by
  unfold Dev.heldDirty
  split
  · split
    · exact h.markDirty
    · exact h
  · exact h

theorem Dev.Canon.failHeld {d : Dev} (h : d.Canon) : d.failHeld.1.Canon :=
  ((h.unackedDirty.dropLog.endHolds.foldl (fun _ _ ht => ht.heldDirty.refuse)).upd).endCmds (fun _ _ ht => ht.adminFenced)

theorem Dev.Canon.wModuleId {d : Dev} (h : d.Canon) {partner : Bool} {v : Nat} : (d.wModuleId partner v).1.Canon :=
  .ite_fst h.outOfRange (h.unless (fun _ ht => ht.wr))

theorem Dev.Canon.execModuleId {s : State} (h : s.dev.Canon) {role : Role} {partner : Bool} {v : Nat} : Dev.CanonNext (execModuleId role partner v s) :=
  (h.scalarWrite (fun _ ht => ht.wModuleId)).next

theorem Dev.Canon.wPairRole {d : Dev} (h : d.Canon) {p : Nat} {partner : Bool} {v : Nat} : (d.wPairRole p partner v).1.Canon :=
  .ite_fst h.outOfRange (h.unless (fun _ ht => ht.wr.settle))

theorem Dev.Canon.execPairRole {s : State} (h : s.dev.Canon) {role : Role} {part : Nat} {partner : Bool} {v : Nat} :
    Dev.CanonNext (execPairRole role part partner v s) :=
  (h.scalarWrite (fun _ ht => ht.wPairRole)).next

theorem Dev.Canon.wMirrorRange {d : Dev} (h : d.Canon) {i v : Nat} : (d.wMirrorRange i v).1.Canon :=
  .ite_fst h.outOfRange (h.unless (fun _ ht => ht.wr))

theorem Dev.Canon.execMirrorRange {s : State} (h : s.dev.Canon) {role : Role} {i v : Nat} : Dev.CanonNext (execMirrorRange role i v s) :=
  (h.entryWrite (fun _ ht => ht.wMirrorRange)).next

theorem Dev.Canon.pairStart {d : Dev} (h : d.Canon) : d.pairStart.Canon :=
  h.wr.wr.unformed.pairTo

theorem Dev.Canon.pairStop {d : Dev} (h : d.Canon) : d.pairStop.Canon :=
  h.wr.wr.wr.goAlone.upd.pairTo.settle

theorem Dev.Canon.wPairEnable {d : Dev} (h : d.Canon) {v : Nat} : (d.wPairEnable v).1.Canon :=
  .ite_fst (h.unless (fun _ ht => .ite ht ht.pairStart)) (.ite h.pairStop h)

theorem Dev.Canon.execPairEnable {s : State} (h : s.dev.Canon) {role : Role} {v : Nat} : Dev.CanonNext (execPairEnable role v s) :=
  (h.scalarWrite (fun _ ht => ht.wPairEnable)).next

theorem Dev.Canon.installSlot {d : Dev} (h : d.Canon) {q : Nat} {e : Nat × Nat} : (Dev.installSlot q d e).Canon :=
  .ite h.wr h

theorem Dev.Canon.installDir {d : Dev} (h : d.Canon) {q : Nat} {e : Nat × DirE} : (Dev.installDir q d e).Canon := by
  unfold Dev.installDir
  dsimp only
  split
  · exact h.nextOrd.dirPut.orphan
  · exact h.nextOrd.dirPut.orphan
  · exact .ite h.nextOrd.dirPut h.nextOrd.dirPut.orphan
  · exact h.nextOrd.dirPut

theorem Dev.Canon.installChan {d : Dev} (h : d.Canon) {q : Nat} {e : Nat × ChanCtx} : (Dev.installChan q d e).Canon :=
  .ite h ((h.same.foldl (fun _ _ ht => ht.completeDsc)).cqPump)

theorem Dev.Canon.installPart {d : Dev} (h : d.Canon) {q former : Nat} : (Dev.installPart q former d).Canon := by
  unfold Dev.installPart
  extract_lets mine d1 gs _ d2 d3 cs d4 made _ d5
  have slots : d1.Canon := h.foldl fun _ _ ht => ht.installSlot
  have dirs : d3.Canon := (slots.same : d2.Canon).foldl fun _ _ ht => ht.installDir
  have chans : d4.Canon := dirs.foldl fun _ _ ht => ht.installChan
  exact (chans.same : d5.Canon).post

theorem Dev.Canon.takeover {d : Dev} (h : d.Canon) : d.takeover.Canon :=
  (((h.foldl (fun _ _ ht => ht.wr)).upd).foldl (fun _ _ ht => ht.installPart)).inc

theorem Dev.Canon.unfence {d : Dev} (h : d.Canon) : d.unfence.Canon :=
  .ite h.pairTo h.pairTo

theorem Dev.Canon.leaseState {d : Dev} (h : d.Canon) : d.leaseState.Canon := by
  unfold Dev.leaseState
  split
  · exact h.unfence
  · exact .ite h.goAlone.pairTo h
  · exact .ite h h.pairTo
  · exact h

theorem Dev.Canon.wLeaseRenew {d : Dev} (h : d.Canon) {v : Nat} : (d.wLeaseRenew v).1.Canon :=
  h.unless (fun _ ht => .ite ht.same.wr.leaseState.settle (.ite ht.same.wr.inc.leaseState.settle (.ite ht.same.wr
      ht.same.wr.takeover.leaseState.settle)))

theorem Dev.Canon.execLeaseRenew {s : State} (h : s.dev.Canon) {role : Role} {v : Nat} : Dev.CanonNext (execLeaseRenew role v s) :=
  (h.entryWrite (fun _ ht => ht.wLeaseRenew)).next

theorem Dev.Canon.pairFence {d : Dev} (h : d.Canon) : d.pairFence.Canon :=
  (((Dev.Canon.ite_fst h.failHeld h).pairTo).pairPost).settle

theorem Dev.Canon.execLeaseExpiry {s : State} (h : s.dev.Canon) : Dev.CanonNext (execLeaseExpiry s) :=
  (Dev.Canon.ite h (.ite h.same h.same.pairFence)).next

theorem Dev.Canon.hear {d : Dev} (h : d.Canon) {src : Nat} : (d.hear src).Canon :=
  .ite h h.same.wr

theorem Dev.Canon.forward {d : Dev} (h : d.Canon) {port : Nat} {f : RingHdr} : (d.forward port f).Canon :=
  .ite h h.inc.emit

theorem Dev.Canon.rxTake {d : Dev} (h : d.Canon) {port : Nat} : (d.rxTake port).Canon :=
  .ite h.same h.same

theorem Dev.Canon.ringIn {d : Dev} (h : d.Canon) {port : Nat} {f : RingHdr} {run : Dev → Dev} (hrun : ∀ t, t.Canon → (run t).Canon) :
    (d.ringIn port f run).Canon :=
  .ite h (.ite ((Dev.Canon.ite h.hear h).forward) (.ite ((Dev.Canon.ite h.hear h).inc) (.ite (.ite h.hear h) (.ite ((Dev.Canon.ite h.hear
      h).ringSend) (hrun _ ((Dev.Canon.ite h.hear h).rxTake))))))

theorem Dev.Canon.execRingFrameForward {s : State} (h : s.dev.Canon) {port : Nat} {f : RingHdr} : Dev.CanonNext (execRingFrameForward port f s) :=
  (Dev.Canon.ite h (.ite ((Dev.Canon.ite h.hear h).inc) ((Dev.Canon.ite h.hear h).forward))).next

theorem Dev.Canon.resend {d : Dev} (h : d.Canon) {port : Nat} {p : TxFrame → Bool} : (d.resend port p).Canon :=
  h.foldl (fun _ _ ht => ht.inc.emit)

theorem Dev.Canon.execNack {s : State} (h : s.dev.Canon) {port : Nat} {f : RingHdr} {seq : Nat} : Dev.CanonNext (execNack port f seq s) :=
  (h.ringIn (fun _ ht => ht.resend)).next

theorem Dev.Canon.fixWay {d : Dev} (h : d.Canon) : d.fixWay.Canon :=
  .ite h.relog h

theorem Dev.Canon.heartbeatTick {d : Dev} (h : d.Canon) : d.heartbeatTick.Canon :=
  h.same.fixWay.foldl (fun _ _ ht => .ite ht.ringOut ht)

theorem Dev.Canon.execHeartbeatTimer {s : State} (h : s.dev.Canon) : Dev.CanonNext (execHeartbeatTimer s) :=
  h.heartbeatTick.next

theorem Dev.Canon.execPartnerSilent {s : State} (h : s.dev.Canon) : Dev.CanonNext (execPartnerSilent s) :=
  (Dev.Canon.ite h.same.add.pairTo.pairEvent.settle h.same).next

theorem Dev.Canon.noteHb {d : Dev} (h : d.Canon) {port : Nat} {hb : HbBody} : (d.noteHb port hb).Canon :=
  (Dev.Canon.ite h.same h.same.wr).fixWay

theorem Dev.Canon.sendKeys {d : Dev} (h : d.Canon) : d.sendKeys.Canon :=
  h.foldl (fun _ _ ht => ht.logState)

theorem Dev.Canon.join {d : Dev} (h : d.Canon) {hb : HbBody} : (d.join hb).Canon :=
  .ite h.same.wr.pairTo.sendKeys h

theorem Dev.Canon.partnerFresh {d : Dev} (h : d.Canon) : d.partnerFresh.Canon :=
  h.goAlone.unformed.pairTo

theorem Dev.Canon.takeCommit {d : Dev} (h : d.Canon) {hb : HbBody} : (d.takeCommit hb).Canon :=
  .ite h.wr.upd h

theorem Dev.Canon.hbState {d : Dev} (h : d.Canon) {hb : HbBody} : (d.hbState hb).Canon := by
  unfold Dev.hbState
  split
  · exact h
  · exact .ite h.unformed h
  · exact h.join
  · exact .ite h.unformed h.join
  · exact .ite h.partnerFresh (.ite h.resend.pairTo.pairEvent h.resend.pairTo.join)
  · exact .ite h.partnerFresh h
  · exact .ite h.partnerFresh h.takeCommit

theorem Dev.Canon.execHeartbeat {s : State} (h : s.dev.Canon) {port : Nat} {f : RingHdr} {hb : HbBody} : Dev.CanonNext (execHeartbeat port f hb s) :=
  (h.ringIn (fun _ ht => ht.noteHb.hbState.settle)).next

theorem Dev.Canon.logWrite {d : Dev} (h : d.Canon) {q off : Nat} {m : List (Option Byte)} : (d.logWrite q off m).Canon := by
  unfold Dev.logWrite
  split
  · rename_i e
    exact .of_ends e h.chWrite
  · exact trivial
  · rename_i e
    exact .of_fails e h.chWrite

theorem Dev.Canon.logCommand {d : Dev} (h : d.Canon) {q : Nat} {c : ObjCmd} : (d.logCommand q c).Canon := by
  unfold Dev.logCommand
  refine LogOut.Canon.ite trivial ?_
  split
  · exact h
  · exact h.cmdDo

theorem Dev.Canon.logGrant {d : Dev} (h : d.Canon) {q slot first count : Nat} {rw draining : Bool} :
    (d.logGrant q slot first count rw draining).Canon :=
  h.same

theorem Dev.Canon.logDir {d : Dev} (h : d.Canon) {q line st vec window : Nat} {coarse : Bool} : (d.logDir q line st vec window coarse).Canon := by
  unfold Dev.logDir
  split <;> exact h.same

theorem Dev.Canon.logCtx {d : Dev} (h : d.Canon) {q : Nat} {x : ChanCtx} : (d.logCtx q x).Canon :=
  h.same

theorem Dev.Canon.logApply {d : Dev} (h : d.Canon) {r : LogRec} : (d.logApply r).Canon := by
  unfold Dev.logApply
  split
  · exact h
  · split
    · exact h.logWrite
    · exact h.logWrite
    · exact h.poisonBlks
    · exact .ite trivial h.discardBlocks
    · exact h.logCommand
    · exact h.logDir
    · exact h.logCtx
    · exact h.logGrant
    · exact h.same
    · exact h.same
    · exact h.wr.installPart.inc

theorem Dev.Canon.logAll {d : Dev} (h : d.Canon) {l : List LogRec} {no : Option (Nat × Nat)} {x : Dev × Option (Nat × Nat)}
    (e : Dev.logAll l no d = some x) : x.1.Canon := by
  induction l generalizing d no with
  | nil =>
    cases e
    exact h
  | cons r l ih =>
    unfold Dev.logAll at e
    split at e
    · rename_i applied
      exact ih (Dev.Canon.of_applied applied h.logApply) e
    · rename_i applied
      exact ih (Dev.Canon.of_refused applied h.logApply) e
    · cases e

theorem Dev.Canon.logIn {d0 d : Dev} (h0 : d0.Canon) (h : d.Canon) {f : RingHdr} {recs : List LogRec} : (d0.logIn f recs d).Canon := by
  refine .ite h ?_
  split
  · rename_i e
    exact (h.logAll e).ringSend.settle
  · exact h0.promoteAll

theorem Dev.Canon.execLog {s : State} (h : s.dev.Canon) {port : Nat} {f : RingHdr} {recs : List LogRec} : Dev.CanonNext (execLog port f recs s) :=
  (h.ringIn (fun _ ht => h.logIn ht)).next

theorem Dev.Canon.dropMirrored {d : Dev} (h : d.Canon) {p : Nat} : (d.dropMirrored p).Canon :=
  h.foldl (fun _ _ ht => ht.killChan)

theorem Dev.Canon.finishHand {d : Dev} (h : d.Canon) : d.finishHand.Canon := by
  unfold Dev.finishHand
  split
  · exact h
  · exact .ite h h.dropMirrored.logSend.upd.wr.settle

theorem Dev.Canon.logAck {d : Dev} (h : d.Canon) {upTo status detail : Nat} : (d.logAck upTo status detail).Canon := by
  unfold Dev.logAck
  extract_lets port covered ids last _ d1 d2 d3 d3w _ d4
  have ended : d3.Canon := (h.same : d1.Canon).endHolds.endCmds fun _ _ ht => .ite ht.adminDone ht.runCmd
  have written : d3w.Canon := ended.wr
  have switched : d4.Canon := .ite written.same ended
  exact switched.finishHand.settle

theorem Dev.Canon.execLogAck {s : State} (h : s.dev.Canon) {port : Nat} {f : RingHdr} {upTo status detail : Nat} :
    Dev.CanonNext (execLogAck port f upTo status detail s) :=
  (h.ringIn (fun _ ht => ht.logAck)).next

theorem Dev.Canon.wHandover {d : Dev} (h : d.Canon) {p : Nat} : (d.wHandover p).1.Canon :=
  .ite_fst h.outOfRange (h.unless (fun _ ht => ht.same.finishHand))

theorem Dev.Canon.execHandover {s : State} (h : s.dev.Canon) {role : Role} {part : Nat} : Dev.CanonNext (execHandover role part s) :=
  (h.scalarWrite (fun _ ht => ht.wHandover)).next

theorem Dev.Canon.wMirrorFormatCommit {d : Dev} (h : d.Canon) {v : Nat} : (d.wMirrorFormatCommit v).1.Canon :=
  .ite_fst (h.unless (fun _ ht => ht.wr.upd)) (.ite_fst (h.unless (fun _ ht => ht.wr)) h.outOfRange)

theorem Dev.Canon.execMirrorFormatCommit {s : State} (h : s.dev.Canon) {role : Role} {v : Nat} : Dev.CanonNext (execMirrorFormatCommit role v s) :=
  (h.scalarWrite (fun _ ht => ht.wMirrorFormatCommit)).next

theorem Dev.Canon.repairAnswer {d : Dev} (h : d.Canon) {part blk : Nat} : (d.repairAnswer part blk).Canon := by
  unfold Dev.repairAnswer
  split
  · exact h.readCharge.ringSend
  · exact h.readCharge.ringSend
  · exact h.ringSend

theorem Dev.Canon.execRepairRead {s : State} (h : s.dev.Canon) {port : Nat} {f : RingHdr} {part blk : Nat} :
    Dev.CanonNext (execRepairRead port f part blk s) :=
  (h.ringIn (fun _ ht => ht.repairAnswer)).next

theorem Dev.Canon.repaired {d : Dev} (h : d.Canon) {p blk : Nat} {r : Resp} : (d.repaired p blk r).Canon := by
  unfold Dev.repaired
  refine .ite h ?_
  split
  · exact h.same.setBytes.chargeTier.inc.sign.post.settle
  · exact h.same.uncorrected.settle

theorem Dev.Canon.execRepairData {s : State} (h : s.dev.Canon) {port : Nat} {f : RingHdr} {part blk : Nat} {r : Resp} :
    Dev.CanonNext (execRepairData port f part blk r s) :=
  (h.ringIn (fun _ ht => ht.repaired)).next

theorem Dev.Canon.resyncBlocks {d : Dev} (h : d.Canon) {q page : Nat} {l : List Nat} {data : List Byte} :
    Dev.CanonOf (Dev.resyncBlocks q page l data d) := by
  induction l generalizing d data with
  | nil => exact h.opt
  | cons i l ih =>
    unfold Dev.resyncBlocks
    split
    · exact .none
    · rename_i e
      exact ih (Dev.Canon.of_applied e h.logWrite)
    · rename_i e
      exact ih (Dev.Canon.of_refused e h.logWrite)

theorem Dev.Canon.resyncIn {d : Dev} (h : d.Canon) {part page valid poison : Nat} {data : List Byte} {d1 : Dev} (h1 : d1.Canon) :
    (d.resyncIn part page valid poison data d1).Canon := by
  unfold Dev.resyncIn
  split
  · exact h1
  · refine .ite h1 (.ite h ?_)
    split
    · exact h.promoteAll
    · rename_i e
      exact ((Dev.Canon.ite ((Dev.Canon.of_some e h1.resyncBlocks).setValid) (.of_some e h1.resyncBlocks)).poisonBlks).settle

theorem Dev.Canon.execResync {s : State} (h : s.dev.Canon) {port : Nat} {f : RingHdr} {part page valid poison : Nat} {data : List Byte} :
    Dev.CanonNext (execResync port f part page valid poison data s) :=
  (h.ringIn (fun _ ht => h.resyncIn ht)).next

theorem Dev.Canon.sendPage {d : Dev} (h : d.Canon) {k : Nat} : (d.sendPage k).Canon :=
  h.chargeTier.ringSend

theorem Dev.Canon.resyncDone {d : Dev} (h : d.Canon) : d.resyncDone.Canon :=
  h.pairTo.pairEvent.pairPost.settle

theorem Dev.Canon.resyncStep {d : Dev} (h : d.Canon) : d.resyncStep.Canon := by
  unfold Dev.resyncStep
  split
  · exact h.same.resyncDone
  · exact .ite h (.ite ((Dev.Canon.ite h.same.sendPage h.same).resyncDone) (.ite h.same.sendPage h.same))

theorem Dev.Canon.execResyncSend {s : State} (h : s.dev.Canon) : Dev.CanonNext (execResyncSend s) :=
  (Dev.Canon.ite h.resyncStep h).next

/-! ## Startup -/

theorem Dev.Canon.askerAnswer {d : Dev} (h : d.Canon) {p code : Nat} {y : Asker} : (d.askerAnswer p code y).Canon := by
  unfold Dev.askerAnswer
  split
  · exact h.result
  · exact h.setFn.emit
  · exact h.same.emit

theorem Dev.Canon.dropKeyWaits {d : Dev} (h : d.Canon) {p : Nat → Bool} : (d.dropKeyWaits p).Canon :=
  h.same.foldl (fun _ _ ht => ht.askerAnswer)

theorem Dev.Canon.setModule {d : Dev} (h : d.Canon) {v : Nat} : (d.setModule v).Canon :=
  .ite h h.same.notify

theorem Dev.Canon.moduleReset {d : Dev} (_ : d.Canon) : d.moduleReset.Canon := rfl

theorem Dev.Canon.setImgSlot {d : Dev} (h : d.Canon) {n : Nat} {x : Slot} : (d.setImgSlot n x).Canon :=
  h.same

theorem Dev.Canon.slotTo {d : Dev} (h : d.Canon) {n : Nat} {st : SlotSt} : (d.slotTo n st).Canon :=
  h.setImgSlot

theorem Dev.Canon.chooseSlot {d : Dev} (h : d.Canon) : d.chooseSlot.1.Canon := by
  unfold Dev.chooseSlot
  refine .ite_fst ?_ ?_
  · split
    · exact h.slotTo
    · exact h
  · split
    · exact h.slotTo
    · exact h

theorem Dev.Canon.course {d : Dev} (h : d.Canon) : d.course.1.Canon :=
  .ite_fst h (.ite_fst h (.ite_fst h.chooseSlot (.ite_fst h.chooseSlot.wr h.chooseSlot)))

theorem Dev.Canon.runImage {d : Dev} (h : d.Canon) {img : Option (Nat × Nat)} : (d.runImage img).Canon :=
  .ite h h.same

theorem Dev.Canon.beginStart {d : Dev} (h : d.Canon) : d.beginStart.Canon := by
  unfold Dev.beginStart
  extract_lets d0 d1 derate c d2 d3 _ _ d4 _ d5
  have cleared : d0.Canon := by
    unfold d0
    split
    · exact h.setImgSlot
    · exact h
  have chosen : c.1.Canon := cleared.moduleReset.wr.wr.wr.course
  have counted : d3.Canon := by
    unfold d3
    split
    · exact chosen.wr.inc.inc.runImage
    · exact chosen.wr.inc.runImage
  have drawn : d4.Canon := counted.drawn.same
  have started : d5.Canon := (drawn.same : Dev.Canon { d4 with su := { d4.su with meas6 := d4.configMeasure } }).setModule
  exact .ite started.emit started

theorem Dev.Canon.startFail {d : Dev} (h : d.Canon) {reason : Nat} : (d.startFail reason).Canon := by
  unfold Dev.startFail
  exact ((Dev.Canon.ite h.wr (.ite h.wr.slotTo (.ite (.ite h.wr.slotTo.wr h.wr.slotTo) h.wr))).moduleReset).upd

theorem Dev.Canon.perstOn {d : Dev} (h : d.Canon) : d.perstOn.Canon :=
  ((Dev.Canon.ite (.ite h.dec.slotTo h.dec) h).upd).moduleReset

theorem Dev.Canon.execPerstAssert {s : State} (h : s.dev.Canon) : Dev.CanonNext (execPerstAssert s) :=
  (Dev.Canon.ite h h.perstOn).next

theorem Dev.Canon.execPerstDeassert {s : State} (h : s.dev.Canon) : Dev.CanonNext (execPerstDeassert s) :=
  (Dev.Canon.ite h (.ite h.same.beginStart h.same)).next

theorem Dev.Canon.execStartTimeout {s : State} (h : s.dev.Canon) : Dev.CanonNext (execStartTimeout s) :=
  (Dev.Canon.ite h.startFail h).next

theorem Dev.Canon.execStageWatchdog {s : State} (h : s.dev.Canon) : Dev.CanonNext (execStageWatchdog s) :=
  (Dev.Canon.ite h.startFail h).next

theorem Dev.Canon.execStartRetryTimer {s : State} (h : s.dev.Canon) : Dev.CanonNext (execStartRetryTimer s) :=
  (Dev.Canon.ite h.beginStart h).next

theorem Dev.Canon.wRestart {d : Dev} (h : d.Canon) {v : Nat} : (d.wRestart v).1.Canon :=
  .ite_fst (h.unless (fun _ ht => ht.beginStart)) h

theorem Dev.Canon.execRestart {s : State} (h : s.dev.Canon) {role : Role} {v : Nat} : Dev.CanonNext (execRestart role v s) :=
  (h.scalarWrite (fun _ ht => ht.wRestart)).next

theorem Dev.Canon.wStartFailCount {d : Dev} (h : d.Canon) {v : Nat} : (d.wStartFailCount v).1.Canon :=
  .ite_fst h.store h.outOfRange

theorem Dev.Canon.execStartFailCount {s : State} (h : s.dev.Canon) {role : Role} {v : Nat} : Dev.CanonNext (execStartFailCount role v s) :=
  (h.scalarWrite (fun _ ht => ht.wStartFailCount)).next

theorem Dev.Canon.stagePackage {d : Dev} (h : d.Canon) {bad : List Nat} : (d.stagePackage bad).Canon :=
  ((h.foldl (fun _ _ ht => ht.setClu)).upd).foldl (fun _ _ ht => ht.setClu)

theorem Dev.Canon.stageBay {d : Dev} (h : d.Canon) {b : Nat} : (d.stageBay b).Canon :=
  .ite h h.drawn.modBay.setReady

theorem Dev.Canon.stageServices {d : Dev} (h : d.Canon) : d.stageServices.Canon :=
  h.same.finishDeadhead

theorem Dev.Canon.stageOperational {d : Dev} (h : d.Canon) : d.stageOperational.Canon :=
  ((Dev.Canon.ite h.wr.wr.drawn.slotTo.wr h.wr.wr.drawn).upd).setModule

theorem Dev.Canon.stageDone {d : Dev} (h : d.Canon) {bad : List Nat} : (d.stageDone bad).Canon := by
  have up : ∀ t : Dev, t.Canon → Dev.Canon { t with su := { t.su with stage := t.su.stage + 1 } } := fun _ ht => ht.same
  unfold Dev.stageDone
  extract_lets _ _ d1
  split
  · have powered : d1.Canon := (h.same : Dev.Canon { d with su := { d.su with mains := true } }).emit
    have opened : Dev.Canon { d1 with su := { d1.su with stage := 0, romOpen := true, idKey := 0 } } := powered.same
    exact .ite opened.setModule.startTraining (up _ powered)
  · exact Dev.Canon.foldl h.same fun _ _ ht => ht.startTraining
  · exact up _ h.stagePackage
  · exact up _ (h.foldl fun _ _ ht => ht.stageBay)
  · exact (up _ h.stageServices).updBypass
  · exact h.stageOperational
  · exact h

theorem Dev.Canon.execStartStageDone {s : State} (h : s.dev.Canon) {r : StageResult} : Dev.CanonNext (execStartStageDone r s) := by
  unfold Machine.execStartStageDone
  refine .next (.ite h ?_)
  split
  · exact h.stageDone
  · exact h.startFail

theorem Dev.Canon.railsDown {d : Dev} (h : d.Canon) : d.railsDown.Canon := by
  unfold Dev.railsDown
  refine .ite h ?_
  extract_lets cut trial _ d1 d2 d3
  have off : d1.Canon := h.same
  have reset : d3.Canon := (Dev.Canon.ite off.emit off : d2.Canon).moduleReset
  exact reset.same

theorem Dev.Canon.execInputUndervoltage {s : State} (h : s.dev.Canon) : Dev.CanonNext (execInputUndervoltage s) :=
  h.railsDown.next

theorem Dev.Canon.execPllLockLoss {s : State} (h : s.dev.Canon) : Dev.CanonNext (execPllLockLoss s) :=
  h.railsDown.next

theorem Dev.Canon.execStandbyPowerLoss {s : State} (h : s.dev.Canon) : Dev.CanonNext (execStandbyPowerLoss s) :=
  (Dev.Canon.ite h.railsDown h.railsDown.moduleReset.upd).next

theorem Dev.Canon.netApply {d : Dev} (h : d.Canon) : d.netApply.Canon :=
  h.same

theorem Dev.Canon.execStandbyPowerRestored {s : State} (h : s.dev.Canon) : Dev.CanonNext (execStandbyPowerRestored s) :=
  (Dev.Canon.ite h h.same.netApply).next

end Sys2Proof.Machine
end

section
/-! The canonical form of the stored bytes is kept by the functions of Images, Power, Dict, Enwary, Mailbox, Mctp, Registers. -/
-- Elaborating a thousand short theorems each in a thread of its own costs the memory of the threads.
set_option Elab.async false
namespace Sys2Proof.Machine

/-! ## Images -/

theorem Dev.Canon.updRefuse {d : Dev} (h : d.Canon) {code : Nat} : (d.updRefuse code).1.Canon :=
  h.wr

theorem Dev.Canon.eraseSlot {d : Dev} (h : d.Canon) {n len : Nat} : (d.eraseSlot n len).Canon := by
  unfold Dev.eraseSlot
  exact h.setImgSlot.upd

theorem Dev.Canon.wUpdateBegin {d : Dev} (h : d.Canon) {len : Nat} : (d.wUpdateBegin len).1.Canon :=
  .ite_fst h.outOfRange (.ite_fst h.updRefuse h.eraseSlot.wr)

theorem Dev.Canon.execUpdateBegin {s : State} (h : s.dev.Canon) {role : Role} {len : Nat} : Dev.CanonNext (execUpdateBegin role len s) :=
  (h.scalarWrite (fun _ ht => ht.wUpdateBegin)).next

theorem Dev.Canon.execUpdateEraseDone {s : State} (h : s.dev.Canon) : Dev.CanonNext (execUpdateEraseDone s) := by
  unfold Machine.execUpdateEraseDone
  refine .next ?_
  split
  · exact .ite h h.wr.upd
  · exact h

theorem Dev.Canon.imgWrite {d : Dev} (h : d.Canon) {off : Nat} {bs : List Byte} : (d.imgWrite off bs).1.Canon := by
  unfold Dev.imgWrite
  split
  · exact h
  · exact .ite_fst h (.ite_fst h h.setImgSlot.upd)

theorem Dev.Canon.wUpdateData {d : Dev} (h : d.Canon) {bs : List Byte} : (d.wUpdateData bs).1.Canon :=
  .ite_fst h.imgWrite.wr h.updRefuse

theorem Dev.Canon.execUpdateData {s : State} (h : s.dev.Canon) {role : Role} {data : List Byte} : Dev.CanonNext (execUpdateData role data s) :=
  (h.entryWrite (fun _ ht => ht.wUpdateData)).next

theorem Dev.Canon.imgCommit {d : Dev} (h : d.Canon) : d.imgCommit.1.Canon := by
  unfold Dev.imgCommit
  split
  · exact h
  · refine .ite_fst h (.ite_fst h ?_)
    extract_lets v d1
    have stored : d1.Canon := h.setImgSlot.wr
    dsimp only
    exact Dev.Canon.postAll stored.same

theorem Dev.Canon.wUpdateCommit {d : Dev} (h : d.Canon) {v : Nat} : (d.wUpdateCommit v).1.Canon :=
  .ite_fst h (.ite_fst h.imgCommit.wr.wr h.updRefuse)

theorem Dev.Canon.execUpdateCommit {s : State} (h : s.dev.Canon) {role : Role} {v : Nat} : Dev.CanonNext (execUpdateCommit role v s) :=
  (h.scalarWrite (fun _ ht => ht.wUpdateCommit)).next

theorem Dev.Canon.wImageConfirm {d : Dev} (h : d.Canon) {v : Nat} : (d.wImageConfirm v).1.Canon :=
  h.unless (fun _ ht => ht.slotTo.wr)

theorem Dev.Canon.execImageConfirm {s : State} (h : s.dev.Canon) {role : Role} {v : Nat} : Dev.CanonNext (execImageConfirm role v s) :=
  (h.scalarWrite (fun _ ht => ht.wImageConfirm)).next

theorem Dev.Canon.wMinSvn {d : Dev} (h : d.Canon) {v : Nat} : (d.wMinSvn v).1.Canon :=
  h.unless (fun _ ht => ht.wr.upd)

theorem Dev.Canon.execMinSvn {s : State} (h : s.dev.Canon) {role : Role} {v : Nat} : Dev.CanonNext (execMinSvn role v s) :=
  (h.scalarWrite (fun _ ht => ht.wMinSvn)).next

theorem Dev.Canon.recovery {d : Dev} (h : d.Canon) {cmd : Nat} {f : Dev → Dev × Nat} (hf : ∀ t, t.Canon → (f t).1.Canon) : (d.recovery cmd f).Canon :=
  .ite h (Dev.Canon.upd (d := (f { d with su := { d.su with rcmd := cmd } }).1) (hf _ h.same) rfl)

theorem Dev.Canon.recBegin {d : Dev} (h : d.Canon) : d.recBegin.1.Canon :=
  .ite_fst h (.ite_fst h h.eraseSlot.upd)

theorem Dev.Canon.recWrite {d : Dev} (h : d.Canon) : d.recWrite.1.Canon :=
  .ite_fst h h.imgWrite

theorem Dev.Canon.execRecoveryBegin {s : State} (h : s.dev.Canon) : Dev.CanonNext (execRecoveryBegin s) :=
  (h.recovery (fun _ ht => ht.recBegin)).next

theorem Dev.Canon.execRecoveryWrite {s : State} (h : s.dev.Canon) : Dev.CanonNext (execRecoveryWrite s) :=
  (h.recovery (fun _ ht => ht.recWrite)).next

theorem Dev.Canon.execRecoveryCommit {s : State} (h : s.dev.Canon) : Dev.CanonNext (execRecoveryCommit s) :=
  (h.recovery (fun _ ht => ht.imgCommit)).next

theorem Dev.Canon.execRecoveryRestart {s : State} (h : s.dev.Canon) : Dev.CanonNext (execRecoveryRestart s) :=
  (h.recovery (fun _ ht => ht.same)).next

theorem Dev.Canon.execRecoveryRestartTimer {s : State} (h : s.dev.Canon) : Dev.CanonNext (execRecoveryRestartTimer s) :=
  (Dev.Canon.ite h.beginStart h).next

theorem Dev.Canon.execClearFails {s : State} (h : s.dev.Canon) : Dev.CanonNext (execClearFails s) :=
  (h.recovery (fun _ ht => ht.wr)).next

theorem Dev.Canon.endSessions {d : Dev} (h : d.Canon) {p : Session → Bool} : (d.endSessions p).Canon :=
  h.same

theorem Dev.Canon.wCredSlot {d : Dev} (h : d.Canon) {n : Nat} {bs : List Byte} : (d.wCredSlot n bs).1.Canon :=
  .ite_fst h.outOfRange h.same.endSessions

theorem Dev.Canon.execCredSlot {s : State} (h : s.dev.Canon) {role : Role} {n : Nat} {data : List Byte} : Dev.CanonNext (execCredSlot role n data s) :=
  (h.entryWrite (fun _ ht => ht.wCredSlot)).next

theorem Dev.Canon.wPairPeer {d : Dev} (h : d.Canon) {bs : List Byte} : (d.wPairPeer bs).1.Canon :=
  h.unless (fun _ ht => ht.wr.upd)

theorem Dev.Canon.execPairPeer {s : State} (h : s.dev.Canon) {role : Role} {data : List Byte} : Dev.CanonNext (execPairPeer role data s) :=
  (h.entryWrite (fun _ ht => ht.wPairPeer)).next

theorem Dev.Canon.execEntropyHealthFailure {s : State} (h : s.dev.Canon) : Dev.CanonNext (execEntropyHealthFailure s) :=
  (Dev.Canon.ite h.inc.upd h).next

theorem Dev.Canon.execKeyDrawTimeout {s : State} (h : s.dev.Canon) {part : Nat} : Dev.CanonNext (execKeyDrawTimeout part s) :=
  h.dropKeyWaits.next

/-! ## Power -/

theorem Dev.Canon.updThrottle {d : Dev} (h : d.Canon) : d.updThrottle.Canon :=
  .ite h.wr.inc h.wr

theorem Dev.Canon.wThrottleForce {d : Dev} (h : d.Canon) {v : Nat} : (d.wThrottleForce v).1.Canon :=
  .ite_fst h.outOfRange h.wr.updThrottle

theorem Dev.Canon.execThrottleForce {s : State} (h : s.dev.Canon) {role : Role} {v : Nat} : Dev.CanonNext (execThrottleForce role v s) :=
  (h.scalarWrite (fun _ ht => ht.wThrottleForce)).next

theorem Dev.Canon.powerWindow {d : Dev} (h : d.Canon) {watts : Nat} : (d.powerWindow watts).Canon :=
  h.same.updThrottle

theorem Dev.Canon.execPowerWindow {s : State} (h : s.dev.Canon) {watts : Nat} : Dev.CanonNext (execPowerWindow watts s) :=
  (Dev.Canon.ite h.powerWindow h).next

theorem Dev.Canon.sensorEvent {d : Dev} (h : d.Canon) {i st reading : Nat} : (d.sensorEvent i st reading).Canon := by
  unfold Dev.sensorEvent
  refine .notify ?_
  split
  · exact h.emit
  · exact h

theorem Dev.Canon.thermPin {d : Dev} (h : d.Canon) {before : Bool} : (d.thermPin before).Canon :=
  .ite h h.emit

theorem Dev.Canon.sensorReads {d : Dev} (h : d.Canon) {i : Nat} {v : SensorVal} : (d.sensorReads i v).Canon :=
  (Dev.Canon.ite ((((Dev.Canon.ite h.same h.same.sensorEvent.drawn).updThrottle).railsDown).wr) ((Dev.Canon.ite h.same
      h.same.sensorEvent.drawn).updThrottle)).thermPin

theorem Dev.Canon.execSensorThreshold {s : State} (h : s.dev.Canon) {sensor : Nat} {v : SensorVal} : Dev.CanonNext (execSensorThreshold sensor v s) :=
  (Dev.Canon.ite h.sensorReads h).next

/-! ## Dict -/

theorem Dev.Canon.readMeets {d : Dev} (h : d.Canon) {idx : Nat} : (d.readMeets idx).Canon :=
  .ite h.commitMeets h

theorem Dev.Canon.readDone {d : Dev} (h : d.Canon) : d.readDone.Canon :=
  h.drawn.drawn.drawn

theorem Dev.Canon.rwcWrite {d : Dev} (h : d.Canon) {idx sub v : Nat} : (d.rwcWrite idx sub v).Canon :=
  .ite h.setBay h.wr

theorem Dev.Canon.writePart {d : Dev} (h : d.Canon) {role : Role} {p sub v : Nat} : (d.writePart role p sub v).1.Canon := by
  unfold Dev.writePart
  split
  · exact h.wEnable
  · exact h.unless (fun _ ht => ht.wr)
  · exact h.unless (fun _ ht => ht.wr)
  · exact .ite_fst h.outOfRange h.wr
  · exact h.wFence
  · exact h.wReset
  · exact h.wClusterReset
  · exact h.store

theorem Dev.Canon.writeStart {d : Dev} (h : d.Canon) {k idx sub v : Nat} {bs : List Byte} : (d.writeStart k idx sub v bs).1.Canon :=
  .ite_fst (.ite h.wr.upd h.wr) (.ite_fst h.wStartFailCount (.ite_fst h.wImageConfirm (.ite_fst h.wRestart (.ite_fst h.wUpdateBegin (.ite_fst
      h.wUpdateData (.ite_fst h.wUpdateCommit (.ite_fst h.wMinSvn (.ite_fst h.wPairPeer (.ite_fst h.wCredSlot h.store)))))))))

theorem Dev.Canon.wGrantQuota {d : Dev} (h : d.Canon) {p v : Nat} : (d.wGrantQuota p v).1.Canon :=
  h.unless (fun _ ht => ht.wr)

theorem Dev.Canon.wRoute {d : Dev} (h : d.Canon) {k v : Nat} : (d.wRoute k v).1.Canon := by
  unfold Dev.wRoute
  refine .ite_fst h.outOfRange ?_
  dsimp only
  exact h.wr.afterRoutes

theorem Dev.Canon.writeMemory {d : Dev} (h : d.Canon) {k idx sub v : Nat} {bs : List Byte} : (d.writeMemory k idx sub v bs).1.Canon :=
  .ite_fst h.wQ0Reserve (.ite_fst h.wClassPartitions (.ite_fst h.wBudget (.ite_fst h.wCap (.ite_fst h.wLsClass (.ite_fst h.wArbCommit (.ite_fst
      h.wShadow (.ite_fst h.wReservation (.ite_fst h.wLend (.ite_fst h.wProgramImage (.ite_fst h.wLsClass (.ite_fst h.drawn (.ite_fst h.wSharedEnable
      (.ite_fst h.wGrantQuota (.ite_fst h.wRoute (.ite_fst h.wHostSlot h.store)))))))))))))))

theorem Dev.Canon.writeCompute {d : Dev} (h : d.Canon) {k idx sub v : Nat} {bs : List Byte} : (d.writeCompute k idx sub v bs).1.Canon :=
  .ite_fst h.wClusterRetire (.ite_fst h.wProgram (.ite_fst h.wPipeline (.ite_fst h.wQuota (.ite_fst h.wQuota (.ite_fst h.wDeadheadAdd (.ite_fst
      (.ite_fst h.store h.outOfRange) (.ite_fst h.wRecommendDismiss (.ite_fst h.wModuleId (.ite_fst h.wModuleId (.ite_fst h.wPairEnable (.ite_fst
      h.wLeaseRenew (.ite_fst h.wMirrorFormatCommit (.ite_fst h.wHandover (.ite_fst h.wPairRole (.ite_fst h.wPairRole (.ite_fst h.wMirrorRange
      h.store))))))))))))))))

theorem Dev.Canon.writeModule {d : Dev} (h : d.Canon) {k idx sub v : Nat} : (d.writeModule k idx sub v).1.Canon :=
  .ite_fst h.wBypassForce (.ite_fst (.ite_fst h.store h.outOfRange) (.ite_fst (.ite_fst h.outOfRange h.store) (.ite_fst (.ite_fst h.store
      h.outOfRange) (.ite_fst h.wRetrain (.ite_fst h.wBayCtrl (.ite_fst h.wThrottleForce h.store))))))

theorem Dev.Canon.odWrite {d : Dev} (h : d.Canon) {role : Role} {idx sub : Nat} {bs : List Byte} : (d.odWrite role idx sub bs).1.Canon :=
  .ite_fst h.rwcWrite (.ite_fst h.writeStart (.ite_fst h.writePart (.ite_fst h.writeMemory (.ite_fst h.writeCompute h.writeModule))))

theorem Dev.Canon.odTry {d : Dev} (h : d.Canon) {role : Role} {me : Option Nat} {idx sub : Nat} {bs : List Byte} :
    (d.odTry role me idx sub bs).1.Canon := by
  unfold Dev.odTry
  split
  · exact h
  · exact h.odWrite

/-! ## Enwary -/

theorem Dev.Canon.setSession {d : Dev} (h : d.Canon) {n : Nat} {f : Session → Session} : (d.setSession n f).Canon :=
  h.same

theorem Dev.Canon.openSession {d : Dev} (h : d.Canon) {t : Transport} {roleReq slot : Nat} : (d.openSession t roleReq slot).Canon :=
  .ite h.emit (.ite h.emit h.drawn.upd.emit)

theorem Dev.Canon.execEnwaryOpen {s : State} (h : s.dev.Canon) {t : Transport} {roleReq slot : Nat} : Dev.CanonNext (execEnwaryOpen t roleReq slot s) :=
  (Dev.Canon.ite h.openSession h).next

theorem Dev.Canon.authFail {d : Dev} (h : d.Canon) {n : Nat} : (d.authFail n).Canon :=
  h.endSessions.inc

theorem Dev.Canon.authSession {d : Dev} (h : d.Canon) {x : Session} {proof : Nat} : (d.authSession x proof).Canon :=
  .ite h.setSession.emit h.authFail.emit

theorem Dev.Canon.execAuth {s : State} (h : s.dev.Canon) {sess proof : Nat} : Dev.CanonNext (execAuth sess proof s) := by
  unfold Machine.execAuth
  refine .next ?_
  dsimp only
  split
  · exact .ite h (.ite h.emit h.authSession)
  · exact .ite h.emit h

theorem Dev.Canon.execAuthTimeout {s : State} (h : s.dev.Canon) {sess : Nat} : Dev.CanonNext (execAuthTimeout sess s) := by
  unfold Machine.execAuthTimeout
  refine .next ?_
  split
  · exact .ite h h.authFail
  · exact h

theorem Dev.Canon.answer {d : Dev} (h : d.Canon) {m : MsgHdr} {a : Answer} : (d.answer m a).Canon :=
  h.setSession.emit

theorem Dev.Canon.withSession {d : Dev} (h : d.Canon) {m : MsgHdr} {f : Session → Dev} (hf : ∀ x, (f x).Canon) : (d.withSession m f).Canon := by
  unfold Dev.withSession
  split
  · exact .ite h.emit h
  · exact .ite h (.ite h.emit (.ite h.inc (hf _)))

theorem Dev.Canon.asked {d : Dev} (h : d.Canon) {m : MsgHdr} {run : Session → Dev} (hrun : ∀ x, (run x).Canon) : (d.asked m run).Canon :=
  h.withSession (fun _ => .ite h.inc (.ite (hrun _) (.ite h.emit h.inc)))

theorem Dev.Canon.execClose {s : State} (h : s.dev.Canon) {m : MsgHdr} : Dev.CanonNext (execClose m s) :=
  (h.asked (fun _ => h.answer.endSessions)).next

theorem Dev.Canon.execKeepalive {s : State} (h : s.dev.Canon) {m : MsgHdr} : Dev.CanonNext (execKeepalive m s) :=
  (h.asked (fun _ => h.answer)).next

theorem Dev.Canon.refuseOp {d : Dev} (h : d.Canon) {m : MsgHdr} {code idx sub : Nat} : (d.refuseOp m code idx sub).Canon :=
  h.answer

theorem Dev.Canon.readEntry {d : Dev} (h : d.Canon) {m : MsgHdr} {x : Session} {idx sub off len : Nat} : (d.readEntry m x idx sub off len).Canon := by
  unfold Dev.readEntry
  refine .ite h.readMeets.readDone.setSession.answer ?_
  split
  · exact .ite h.answer h.refuseOp
  · exact h.refuseOp

theorem Dev.Canon.execEnwaryRead {s : State} (h : s.dev.Canon) {m : MsgHdr} {idx sub off len : Nat} :
    Dev.CanonNext (execEnwaryRead m idx sub off len s) := by
  unfold Machine.execEnwaryRead
  refine .next (.asked h (fun _ => ?_))
  refine .ite h.refuseOp ?_
  split
  · exact h.refuseOp
  · exact .ite h.refuseOp h.readEntry

theorem Dev.Canon.execReadClear {s : State} (h : s.dev.Canon) {m : MsgHdr} {idx sub : Nat} : Dev.CanonNext (execReadClear m idx sub s) := by
  unfold Machine.execReadClear
  refine .next (.asked h (fun _ => ?_))
  split
  · exact h.refuseOp
  · exact .ite h.refuseOp h.rwcWrite.answer

theorem Dev.Canon.execDescribe {s : State} (h : s.dev.Canon) {m : MsgHdr} {idx sub : Nat} : Dev.CanonNext (execDescribe m idx sub s) := by
  unfold Machine.execDescribe
  refine .next (.asked h (fun _ => ?_))
  split
  · exact h.refuseOp
  · exact h.answer

theorem Dev.Canon.execEnumerate {s : State} (h : s.dev.Canon) {m : MsgHdr} {first : Nat} : Dev.CanonNext (execEnumerate m first s) :=
  (h.asked (fun _ => h.answer)).next

theorem Dev.Canon.askedBy {d : Dev} (h : d.Canon) {a : Asker} : (d.askedBy a).Canon :=
  h.same

theorem Dev.Canon.writeEntry {d : Dev} (h : d.Canon) {m : MsgHdr} {x : Session} {idx sub : Nat} {bs a : List Byte} :
    (d.writeEntry m x idx sub bs a).Canon :=
  .ite h.odTry.askedBy.setSession h.odTry.answer

theorem Dev.Canon.execEnwaryWrite {s : State} (h : s.dev.Canon) {m : MsgHdr} {idx sub : Nat} {data : List Byte} :
    Dev.CanonNext (execEnwaryWrite m idx sub data s) :=
  (h.asked (fun _ => .ite h.refuseOp (.ite h.refuseOp h.writeEntry))).next

theorem Dev.Canon.dropSeg {d : Dev} (h : d.Canon) {n : Nat} : (d.dropSeg n).Canon :=
  h.setSession

theorem Dev.Canon.execSegBegin {s : State} (h : s.dev.Canon) {m : MsgHdr} {idx sub total : Nat} : Dev.CanonNext (execSegBegin m idx sub total s) := by
  unfold Machine.execSegBegin
  refine .next (.asked h (fun _ => ?_))
  split
  · exact h.refuseOp
  · exact h.setSession.answer

theorem Dev.Canon.execSegData {s : State} (h : s.dev.Canon) {m : MsgHdr} {off : Nat} {data : List Byte} : Dev.CanonNext (execSegData m off data s) := by
  unfold Machine.execSegData
  refine .next (.asked h (fun _ => ?_))
  split
  · exact h.refuseOp
  · exact .ite h.refuseOp (.ite h.dropSeg.refuseOp h.setSession.answer)

theorem Dev.Canon.execSegEnd {s : State} (h : s.dev.Canon) {m : MsgHdr} {_crc : Nat} : Dev.CanonNext (execSegEnd m _crc s) := by
  unfold Machine.execSegEnd
  refine .next (.asked h (fun _ => ?_))
  split
  · exact h.refuseOp
  · exact .ite h.dropSeg.refuseOp h.dropSeg.writeEntry

theorem Dev.Canon.execSegmentTimeout {s : State} (h : s.dev.Canon) {sess : Nat} : Dev.CanonNext (execSegmentTimeout sess s) :=
  h.setSession.next

theorem Dev.Canon.execSubscribe {s : State} (h : s.dev.Canon) {m : MsgHdr} {mask : Nat} : Dev.CanonNext (execSubscribe m mask s) :=
  (h.asked (fun _ => h.setSession.answer)).next

theorem Dev.Canon.execNotifyAck {s : State} (h : s.dev.Canon) {m : MsgHdr} {seq : Nat} : Dev.CanonNext (execNotifyAck m seq s) :=
  (h.withSession (fun _ => h.setSession)).next

theorem Dev.Canon.execNotifyResend {s : State} (h : s.dev.Canon) {sess : Nat} : Dev.CanonNext (execNotifyResend sess s) := by
  unfold Machine.execNotifyResend
  refine .next ?_
  split
  · exact .ite h h.setSession.emits
  · exact h

theorem Dev.Canon.execSessionIdleExpiry {s : State} (h : s.dev.Canon) {sess : Nat} : Dev.CanonNext (execSessionIdleExpiry sess s) :=
  h.endSessions.next

theorem Dev.Canon.execNetworkConfigApply {s : State} (h : s.dev.Canon) : Dev.CanonNext (execNetworkConfigApply s) :=
  (Dev.Canon.ite h.netApply.endSessions h).next

/-! ## Mailbox -/

theorem Dev.Canon.mbEnd {d : Dev} (h : d.Canon) {f : FnId} {op idx sub code : Nat} {g : Mbox → Mbox} : (d.mbEnd f op idx sub code g).Canon :=
  h.setFn.emit

theorem Dev.Canon.mbOp {d : Dev} (h : d.Canon) {f : FnId} {run : Dev → Dev} (hrun : ∀ t, t.Canon → (run t).Canon) : (d.mbOp f run).Canon :=
  h.barPut (fun _ ht => .ite (hrun _ ht) ht)

theorem Dev.Canon.mbReadRun {d : Dev} (h : d.Canon) {f : FnId} {idx sub : Nat} : (d.mbReadRun f idx sub).Canon := by
  unfold Dev.mbReadRun
  refine .ite h.mbEnd ?_
  split
  · exact h.mbEnd
  · split
    · exact h.mbEnd
    · exact h.readMeets.readDone.mbEnd

theorem Dev.Canon.execMbRead {s : State} (h : s.dev.Canon) {fn : FnId} {idx sub : Nat} : Dev.CanonNext (execMbRead fn idx sub s) :=
  (h.mbOp (fun _ ht => ht.mbReadRun)).next

theorem Dev.Canon.mbWriteRun {d : Dev} (h : d.Canon) {f : FnId} {idx sub : Nat} {bs : List Byte} : (d.mbWriteRun f idx sub bs).Canon := by
  unfold Dev.mbWriteRun
  refine .ite h.mbEnd ?_
  split
  · exact h.mbEnd
  · exact .ite h.odTry.askedBy (.ite h.odTry.mbEnd h.odTry.mbEnd)

theorem Dev.Canon.execMbWrite {s : State} (h : s.dev.Canon) {fn : FnId} {idx sub : Nat} {data : List Byte} :
    Dev.CanonNext (execMbWrite fn idx sub data s) :=
  (h.mbOp (fun _ ht => ht.mbWriteRun)).next

theorem Dev.Canon.mbClearRun {d : Dev} (h : d.Canon) {f : FnId} {idx sub : Nat} : (d.mbClearRun f idx sub).Canon := by
  unfold Dev.mbClearRun
  split
  · exact h.mbEnd
  · split
    · exact h.mbEnd
    · exact h.rwcWrite.mbEnd

theorem Dev.Canon.execMbReadClear {s : State} (h : s.dev.Canon) {fn : FnId} {idx sub : Nat} : Dev.CanonNext (execMbReadClear fn idx sub s) :=
  (h.mbOp (fun _ ht => ht.mbClearRun)).next

theorem Dev.Canon.mbDescribeRun {d : Dev} (h : d.Canon) {f : FnId} {idx sub : Nat} : (d.mbDescribeRun f idx sub).Canon := by
  unfold Dev.mbDescribeRun
  split
  · exact h.mbEnd
  · split <;> exact h.mbEnd

theorem Dev.Canon.execMbDescribe {s : State} (h : s.dev.Canon) {fn : FnId} {idx sub : Nat} : Dev.CanonNext (execMbDescribe fn idx sub s) :=
  (h.mbOp (fun _ ht => ht.mbDescribeRun)).next

/-! ## Mctp -/

theorem Dev.Canon.mctp {d : Dev} (h : d.Canon) {typ cmd code : Nat} {payload : List Byte} : (d.mctp typ cmd code payload).Canon :=
  h.emit

theorem Dev.Canon.whenServed {d : Dev} (h : d.Canon) {f : Dev → Dev} (hf : ∀ t, t.Canon → (f t).Canon) : (d.whenServed f).Canon :=
  .ite (hf _ h) h

theorem Dev.Canon.execEntdaa {s : State} (h : s.dev.Canon) {addr : Nat} : Dev.CanonNext (execEntdaa addr s) :=
  (h.whenServed (fun _ ht => ht.same)).next

theorem Dev.Canon.setEid {d : Dev} (h : d.Canon) {eid : Nat} : (d.setEid eid).Canon :=
  .ite h.wr h.wr.endSessions

theorem Dev.Canon.execSetEndpointId {s : State} (h : s.dev.Canon) {op eid : Nat} : Dev.CanonNext (execSetEndpointId op eid s) :=
  (h.whenServed (fun _ ht => .ite ht.setEid.mctp ht.mctp)).next

theorem Dev.Canon.execGetEndpointId {s : State} (h : s.dev.Canon) : Dev.CanonNext (execGetEndpointId s) :=
  (h.whenServed (fun _ ht => ht.mctp)).next

theorem Dev.Canon.execGetEndpointUuid {s : State} (h : s.dev.Canon) : Dev.CanonNext (execGetEndpointUuid s) :=
  (h.whenServed (fun _ ht => ht.mctp)).next

theorem Dev.Canon.execGetMctpVersionSupport {s : State} (h : s.dev.Canon) {msgType : Nat} : Dev.CanonNext (execGetMctpVersionSupport msgType s) :=
  (h.whenServed (fun _ ht => .ite ht.mctp (.ite ht.mctp ht.mctp))).next

theorem Dev.Canon.execGetMessageTypeSupport {s : State} (h : s.dev.Canon) : Dev.CanonNext (execGetMessageTypeSupport s) :=
  (h.whenServed (fun _ ht => ht.mctp)).next

theorem Dev.Canon.execGetVendorDefinedMessageSupport {s : State} (h : s.dev.Canon) {sel : Nat} :
    Dev.CanonNext (execGetVendorDefinedMessageSupport sel s) :=
  (h.whenServed (fun _ ht => .ite ht.mctp ht.mctp)).next

theorem Dev.Canon.execGetTid {s : State} (h : s.dev.Canon) : Dev.CanonNext (execGetTid s) :=
  (h.whenServed (fun _ ht => ht.mctp)).next

theorem Dev.Canon.execSetTid {s : State} (h : s.dev.Canon) {tid : Nat} : Dev.CanonNext (execSetTid tid s) :=
  (h.whenServed (fun _ ht => .ite ht.same.mctp ht.mctp)).next

theorem Dev.Canon.execGetPldmVersion {s : State} (h : s.dev.Canon) {typ : Nat} : Dev.CanonNext (execGetPldmVersion typ s) :=
  (h.whenServed (fun _ ht => .ite ht.mctp ht.mctp)).next

theorem Dev.Canon.execGetPldmTypes {s : State} (h : s.dev.Canon) : Dev.CanonNext (execGetPldmTypes s) :=
  (h.whenServed (fun _ ht => ht.mctp)).next

theorem Dev.Canon.execGetPldmCommands {s : State} (h : s.dev.Canon) {typ : Nat} : Dev.CanonNext (execGetPldmCommands typ s) := by
  unfold Machine.execGetPldmCommands
  refine .next (.whenServed h (fun _ ht => ?_))
  split <;> exact ht.mctp

theorem Dev.Canon.execGetPdrRepositoryInfo {s : State} (h : s.dev.Canon) : Dev.CanonNext (execGetPdrRepositoryInfo s) :=
  (h.whenServed (fun _ ht => ht.mctp)).next

theorem Dev.Canon.execGetPdr {s : State} (h : s.dev.Canon) {record : Nat} : Dev.CanonNext (execGetPdr record s) :=
  (h.whenServed (fun _ ht => .ite ht.mctp ht.mctp)).next

theorem Dev.Canon.execGetSensorReading {s : State} (h : s.dev.Canon) {sensor : Nat} : Dev.CanonNext (execGetSensorReading sensor s) :=
  (h.whenServed (fun _ ht => .ite ht.mctp ht.drawn.mctp)).next

theorem Dev.Canon.execGetSensorThresholds {s : State} (h : s.dev.Canon) {sensor : Nat} : Dev.CanonNext (execGetSensorThresholds sensor s) :=
  (h.whenServed (fun _ ht => .ite ht.mctp ht.mctp)).next

theorem Dev.Canon.execSetEventReceiver {s : State} (h : s.dev.Canon) {enableMode eid : Nat} : Dev.CanonNext (execSetEventReceiver enableMode eid s) :=
  (h.whenServed (fun _ ht => .ite ht.same.mctp (.ite ht.mctp (.ite ht.mctp ht.same.mctp)))).next

theorem Dev.Canon.spdmAt {d : Dev} (h : d.Canon) {need cmd : Nat} {f : Dev → Dev} (hf : ∀ t, t.Canon → (f t).Canon) : (d.spdmAt need cmd f).Canon :=
  h.whenServed (fun _ ht => .ite (hf _ ht) ht.mctp)

theorem Dev.Canon.spdmTo {d : Dev} (h : d.Canon) {n : Nat} : (d.spdmTo n).Canon :=
  h.same

theorem Dev.Canon.execGetVersion {s : State} (h : s.dev.Canon) : Dev.CanonNext (execGetVersion s) :=
  (h.spdmAt (fun _ ht => ht.spdmTo.mctp)).next

theorem Dev.Canon.execGetCapabilities {s : State} (h : s.dev.Canon) : Dev.CanonNext (execGetCapabilities s) :=
  (h.spdmAt (fun _ ht => ht.spdmTo.mctp)).next

theorem Dev.Canon.execNegotiateAlgorithms {s : State} (h : s.dev.Canon) {asym hash : Nat} : Dev.CanonNext (execNegotiateAlgorithms asym hash s) :=
  (h.spdmAt (fun _ ht => .ite ht.spdmTo.mctp ht.mctp)).next

theorem Dev.Canon.execGetDigests {s : State} (h : s.dev.Canon) : Dev.CanonNext (execGetDigests s) :=
  (h.spdmAt (fun _ ht => ht.mctp)).next

theorem Dev.Canon.execGetCertificate {s : State} (h : s.dev.Canon) {slot off len : Nat} : Dev.CanonNext (execGetCertificate slot off len s) :=
  (h.spdmAt (fun _ ht => .ite ht.mctp ht.mctp)).next

theorem Dev.Canon.execSpdmChallenge {s : State} (h : s.dev.Canon) {slot nonce : Nat} : Dev.CanonNext (execSpdmChallenge slot nonce s) :=
  (h.spdmAt (fun _ ht => .ite ht.mctp ht.drawn.mctp)).next

theorem Dev.Canon.execGetMeasurements {s : State} (h : s.dev.Canon) {op : Nat} {sign : Bool} {nonce : Nat} :
    Dev.CanonNext (execGetMeasurements op sign nonce s) :=
  (h.spdmAt (fun _ ht => .ite ht.mctp ht.drawn.mctp)).next

/-! ## Registers -/

theorem Dev.Canon.bar0Regs {d : Dev} (h : d.Canon) {f : FnId} {off : Nat} {bs : List Byte} : (d.bar0Regs f off bs).Canon :=
  .ite h (.ite h.setFn (.ite (.ite h.setFn h) (.ite h.setFn h)))

theorem Dev.Canon.cfgBays {d : Dev} (h : d.Canon) {f : FnId} {off : Nat} {bs : List Byte} : (d.cfgBays f off bs).Canon := by
  unfold Dev.cfgBays
  refine .ite ?_ h
  refine .foldl h (fun _ _ ht => ?_)
  split
  · exact ht.rwcWrite
  · exact ht

theorem Dev.Canon.cfgRegs {d : Dev} (h : d.Canon) {f : FnId} {off : Nat} {bs : List Byte} : (d.cfgRegs f off bs).Canon :=
  .ite h h.cfgChange.pumpEv.cfgBays

theorem Dev.Canon.romRegs {d : Dev} (h : d.Canon) {off : Nat} {bs : List Byte} : (d.romRegs off bs).Canon :=
  .ite h.same h

theorem Dev.Canon.registerWrite {d : Dev} (h : d.Canon) {t : RegTarget} {bs : List Byte} : (d.registerWrite t bs).Canon := by
  unfold Dev.registerWrite
  split
  · exact h.entryWrite (fun _ ht => ht.odWrite)
  · exact h.barPut (fun _ ht => ht.bar0Regs)
  · exact .ite h.cfgRegs h
  · exact h.romRegs

theorem Dev.Canon.execRegisterWrite {s : State} (h : s.dev.Canon) {t : RegTarget} {data : List Byte} : Dev.CanonNext (execRegisterWrite t data s) :=
  h.registerWrite.next

end Sys2Proof.Machine
end

section
/-! The canonical form of the stored bytes is kept by the functions of StageScalar. -/
-- Elaborating a thousand short theorems each in a thread of its own costs the memory of the threads.
set_option Elab.async false
namespace Sys2Proof.Machine

/-! ## StageScalar -/

theorem Dev.Canon.scReg {f : W64 → W64 → W64} {rd rs1 rs2 : Fin 32} {u : Clu} : (scReg f rd rs1 rs2 u).Canon :=
  trivial

theorem Dev.Canon.scImm {f : W64 → W64 → W64} {rd rs1 : Fin 32} {imm : BitVec 14} {u : Clu} : (scImm f rd rs1 imm u).Canon :=
  trivial

theorem SRes.Canon.scLoad {n : Nat} {rd rs1 : Fin 32} {imm : BitVec 14} {u : Clu} : (scLoad n rd rs1 imm u).Canon :=
  SRes.Canon.stopOne Clu.rdStop_canon trivial

theorem SRes.Canon.scStore {n : Nat} {rd rs1 : Fin 32} {imm : BitVec 14} {u : Clu} : (scStore n rd rs1 imm u).Canon :=
  SRes.Canon.stopOne Clu.wrStop_canon trivial

theorem Dev.Canon.branch {p : W64 → W64 → Bool} {rs1 rs2 : Fin 32} {off : BitVec 15} {u : Clu} : (branch p rs1 rs2 off u).Canon :=
  .ite trivial trivial

theorem Dev.Canon.scJ {link : Fin 32} {off : BitVec 15} {u : Clu} : (scJ link off u).Canon :=
  trivial

theorem Dev.Canon.scJr {rs1 link : Fin 32} {u : Clu} : (scJr rs1 link u).Canon :=
  .ite trivial trivial

theorem Dev.Canon.scLiq {rd : Fin 32} {q : Fin 4} {imm : BitVec 16} {u : Clu} : (scLiq rd q imm u).Canon :=
  trivial

theorem Dev.Canon.execAdd {s : State} (h : s.dev.Canon) {c : Nat} {rd rs1 rs2 : Fin 32} : Dev.CanonNext (execAdd c rd rs1 rs2 s) :=
  (h.stage (fun _ => Dev.Canon.scReg)).next

theorem Dev.Canon.execSub {s : State} (h : s.dev.Canon) {c : Nat} {rd rs1 rs2 : Fin 32} : Dev.CanonNext (execSub c rd rs1 rs2 s) :=
  (h.stage (fun _ => Dev.Canon.scReg)).next

theorem Dev.Canon.execAnd {s : State} (h : s.dev.Canon) {c : Nat} {rd rs1 rs2 : Fin 32} : Dev.CanonNext (execAnd c rd rs1 rs2 s) :=
  (h.stage (fun _ => Dev.Canon.scReg)).next

theorem Dev.Canon.execOr {s : State} (h : s.dev.Canon) {c : Nat} {rd rs1 rs2 : Fin 32} : Dev.CanonNext (execOr c rd rs1 rs2 s) :=
  (h.stage (fun _ => Dev.Canon.scReg)).next

theorem Dev.Canon.execXor {s : State} (h : s.dev.Canon) {c : Nat} {rd rs1 rs2 : Fin 32} : Dev.CanonNext (execXor c rd rs1 rs2 s) :=
  (h.stage (fun _ => Dev.Canon.scReg)).next

theorem Dev.Canon.execSll {s : State} (h : s.dev.Canon) {c : Nat} {rd rs1 rs2 : Fin 32} : Dev.CanonNext (execSll c rd rs1 rs2 s) :=
  (h.stage (fun _ => Dev.Canon.scReg)).next

theorem Dev.Canon.execSrl {s : State} (h : s.dev.Canon) {c : Nat} {rd rs1 rs2 : Fin 32} : Dev.CanonNext (execSrl c rd rs1 rs2 s) :=
  (h.stage (fun _ => Dev.Canon.scReg)).next

theorem Dev.Canon.execSra {s : State} (h : s.dev.Canon) {c : Nat} {rd rs1 rs2 : Fin 32} : Dev.CanonNext (execSra c rd rs1 rs2 s) :=
  (h.stage (fun _ => Dev.Canon.scReg)).next

theorem Dev.Canon.execSlt {s : State} (h : s.dev.Canon) {c : Nat} {rd rs1 rs2 : Fin 32} : Dev.CanonNext (execSlt c rd rs1 rs2 s) :=
  (h.stage (fun _ => Dev.Canon.scReg)).next

theorem Dev.Canon.execSltu {s : State} (h : s.dev.Canon) {c : Nat} {rd rs1 rs2 : Fin 32} : Dev.CanonNext (execSltu c rd rs1 rs2 s) :=
  (h.stage (fun _ => Dev.Canon.scReg)).next

theorem Dev.Canon.execMul {s : State} (h : s.dev.Canon) {c : Nat} {rd rs1 rs2 : Fin 32} : Dev.CanonNext (execMul c rd rs1 rs2 s) :=
  (h.stage (fun _ => Dev.Canon.scReg)).next

theorem Dev.Canon.execMulhu {s : State} (h : s.dev.Canon) {c : Nat} {rd rs1 rs2 : Fin 32} : Dev.CanonNext (execMulhu c rd rs1 rs2 s) :=
  (h.stage (fun _ => Dev.Canon.scReg)).next

theorem Dev.Canon.execMin {s : State} (h : s.dev.Canon) {c : Nat} {rd rs1 rs2 : Fin 32} : Dev.CanonNext (execMin c rd rs1 rs2 s) :=
  (h.stage (fun _ => Dev.Canon.scReg)).next

theorem Dev.Canon.execMax {s : State} (h : s.dev.Canon) {c : Nat} {rd rs1 rs2 : Fin 32} : Dev.CanonNext (execMax c rd rs1 rs2 s) :=
  (h.stage (fun _ => Dev.Canon.scReg)).next

theorem Dev.Canon.execAddi {s : State} (h : s.dev.Canon) {c : Nat} {rd rs1 : Fin 32} {imm : BitVec 14} : Dev.CanonNext (execAddi c rd rs1 imm s) :=
  (h.stage (fun _ => Dev.Canon.scImm)).next

theorem Dev.Canon.execAndi {s : State} (h : s.dev.Canon) {c : Nat} {rd rs1 : Fin 32} {imm : BitVec 14} : Dev.CanonNext (execAndi c rd rs1 imm s) :=
  (h.stage (fun _ => Dev.Canon.scImm)).next

theorem Dev.Canon.execOri {s : State} (h : s.dev.Canon) {c : Nat} {rd rs1 : Fin 32} {imm : BitVec 14} : Dev.CanonNext (execOri c rd rs1 imm s) :=
  (h.stage (fun _ => Dev.Canon.scImm)).next

theorem Dev.Canon.execXori {s : State} (h : s.dev.Canon) {c : Nat} {rd rs1 : Fin 32} {imm : BitVec 14} : Dev.CanonNext (execXori c rd rs1 imm s) :=
  (h.stage (fun _ => Dev.Canon.scImm)).next

theorem Dev.Canon.execSlli {s : State} (h : s.dev.Canon) {c : Nat} {rd rs1 : Fin 32} {imm : BitVec 14} : Dev.CanonNext (execSlli c rd rs1 imm s) :=
  (h.stage (fun _ => Dev.Canon.scImm)).next

theorem Dev.Canon.execSrli {s : State} (h : s.dev.Canon) {c : Nat} {rd rs1 : Fin 32} {imm : BitVec 14} : Dev.CanonNext (execSrli c rd rs1 imm s) :=
  (h.stage (fun _ => Dev.Canon.scImm)).next

theorem Dev.Canon.execSrai {s : State} (h : s.dev.Canon) {c : Nat} {rd rs1 : Fin 32} {imm : BitVec 14} : Dev.CanonNext (execSrai c rd rs1 imm s) :=
  (h.stage (fun _ => Dev.Canon.scImm)).next

theorem Dev.Canon.execSlti {s : State} (h : s.dev.Canon) {c : Nat} {rd rs1 : Fin 32} {imm : BitVec 14} : Dev.CanonNext (execSlti c rd rs1 imm s) :=
  (h.stage (fun _ => Dev.Canon.scImm)).next

theorem Dev.Canon.execLw32 {s : State} (h : s.dev.Canon) {c : Nat} {rd rs1 : Fin 32} {imm : BitVec 14} {ecc : Ecc} :
    Dev.CanonNext (execLw32 c rd rs1 imm ecc s) :=
  (h.stageRd (fun _ => SRes.Canon.scLoad)).next

theorem Dev.Canon.execLd64 {s : State} (h : s.dev.Canon) {c : Nat} {rd rs1 : Fin 32} {imm : BitVec 14} {ecc : Ecc} :
    Dev.CanonNext (execLd64 c rd rs1 imm ecc s) :=
  (h.stageRd (fun _ => SRes.Canon.scLoad)).next

theorem Dev.Canon.execSw32 {s : State} (h : s.dev.Canon) {c : Nat} {rd rs1 : Fin 32} {imm : BitVec 14} : Dev.CanonNext (execSw32 c rd rs1 imm s) :=
  (h.stage (fun _ => SRes.Canon.scStore)).next

theorem Dev.Canon.execSd64 {s : State} (h : s.dev.Canon) {c : Nat} {rd rs1 : Fin 32} {imm : BitVec 14} : Dev.CanonNext (execSd64 c rd rs1 imm s) :=
  (h.stage (fun _ => SRes.Canon.scStore)).next

theorem Dev.Canon.execBeq {s : State} (h : s.dev.Canon) {c : Nat} {rs1 rs2 : Fin 32} {off : BitVec 15} : Dev.CanonNext (execBeq c rs1 rs2 off s) :=
  (h.stage (fun _ => Dev.Canon.branch)).next

theorem Dev.Canon.execBne {s : State} (h : s.dev.Canon) {c : Nat} {rs1 rs2 : Fin 32} {off : BitVec 15} : Dev.CanonNext (execBne c rs1 rs2 off s) :=
  (h.stage (fun _ => Dev.Canon.branch)).next

theorem Dev.Canon.execBlt {s : State} (h : s.dev.Canon) {c : Nat} {rs1 rs2 : Fin 32} {off : BitVec 15} : Dev.CanonNext (execBlt c rs1 rs2 off s) :=
  (h.stage (fun _ => Dev.Canon.branch)).next

theorem Dev.Canon.execBge {s : State} (h : s.dev.Canon) {c : Nat} {rs1 rs2 : Fin 32} {off : BitVec 15} : Dev.CanonNext (execBge c rs1 rs2 off s) :=
  (h.stage (fun _ => Dev.Canon.branch)).next

theorem Dev.Canon.execBltu {s : State} (h : s.dev.Canon) {c : Nat} {rs1 rs2 : Fin 32} {off : BitVec 15} : Dev.CanonNext (execBltu c rs1 rs2 off s) :=
  (h.stage (fun _ => Dev.Canon.branch)).next

theorem Dev.Canon.execBgeu {s : State} (h : s.dev.Canon) {c : Nat} {rs1 rs2 : Fin 32} {off : BitVec 15} : Dev.CanonNext (execBgeu c rs1 rs2 off s) :=
  (h.stage (fun _ => Dev.Canon.branch)).next

theorem Dev.Canon.execJ {s : State} (h : s.dev.Canon) {c : Nat} {link : Fin 32} {off : BitVec 15} : Dev.CanonNext (execJ c link off s) :=
  (h.stage (fun _ => Dev.Canon.scJ)).next

theorem Dev.Canon.execJr {s : State} (h : s.dev.Canon) {c : Nat} {rs1 link : Fin 32} : Dev.CanonNext (execJr c rs1 link s) :=
  (h.stage (fun _ => Dev.Canon.scJr)).next

theorem Dev.Canon.execLiq {s : State} (h : s.dev.Canon) {c : Nat} {rd : Fin 32} {q : Fin 4} {imm : BitVec 16} : Dev.CanonNext (execLiq c rd q imm s) :=
  (h.stage (fun _ => Dev.Canon.scLiq)).next

end Sys2Proof.Machine
end

section
/-! The canonical form of the stored bytes is kept by every command, and so by every step. -/
-- Elaborating a thousand short theorems each in a thread of its own costs the memory of the threads.
set_option Elab.async false
namespace Sys2Proof.Machine

theorem exec_canon {s : State} (h : s.dev.Canon) (i : Instr) : Dev.CanonNext (exec i s) := by
  cases i with
  | chCreate => exact h.execChCreate
  | chDestroy => exact h.execChDestroy
  | chReset => exact h.execChReset
  | chRestart => exact h.execChRestart
  | chModify => exact h.execChModify
  | chModifyPortBind => exact h.execChModifyPortBind
  | chQuery => exact h.execChQuery
  | syncAlloc => exact h.execSyncAlloc
  | syncFree => exact h.execSyncFree
  | syncSignal => exact h.execSyncSignal
  | syncQuery => exact h.execSyncQuery
  | syncArm => exact h.execSyncArm
  | objCreate => exact h.execObjCreate
  | objPlace => exact h.execObjPlace
  | objDiscard => exact h.execObjDiscard
  | objQuery => exact h.execObjQuery
  | objDestroy => exact h.execObjDestroy
  | viewSet => exact h.execViewSet
  | viewSetThDrained => exact h.execViewSetThDrained
  | viewCreate => exact h.execViewCreate
  | deltaSeal => exact h.execDeltaSeal
  | sealDone => exact h.execSealDone
  | shareExport => exact h.execShareExport
  | shareWithdraw => exact h.execShareWithdraw
  | shareImport => exact h.execShareImport
  | grant => exact h.execGrant
  | revoke => exact h.execRevoke
  | revokeDrained => exact h.execRevokeDrained
  | releaseTimeoutExpiry => exact h.execReleaseTimeoutExpiry
  | acceptStale => exact h.execAcceptStale
  | unknownAdminOpcode _ opcode => exact h.execUnknownAdminOpcode (_opcode := opcode)
  | aqEnable => exact h.execAqEnable
  | asqTail => exact h.execAsqTail
  | acqHead => exact h.execAcqHead
  | channelDoorbell => exact h.execChannelDoorbell
  | doorbell => exact h.execDoorbell
  | descriptorFetch => exact h.execDescriptorFetch
  | descriptorComplete => exact h.execDescriptorComplete
  | nopDescriptor => exact h.execNopDescriptor
  | append => exact h.execAppend
  | decode => exact h.execDecode
  | prefill => exact h.execPrefill
  | merge => exact h.execMerge
  | push => exact h.execPush
  | pushDecision => exact h.execPushDecision
  | prefetch => exact h.execPrefetch
  | accumulate => exact h.execAccumulate
  | readout => exact h.execReadout
  | gather => exact h.execGather
  | add => exact h.execAdd
  | sub => exact h.execSub
  | and => exact h.execAnd
  | or => exact h.execOr
  | xor => exact h.execXor
  | sll => exact h.execSll
  | srl => exact h.execSrl
  | sra => exact h.execSra
  | slt => exact h.execSlt
  | sltu => exact h.execSltu
  | mul => exact h.execMul
  | mulhu => exact h.execMulhu
  | min => exact h.execMin
  | max => exact h.execMax
  | addi => exact h.execAddi
  | andi => exact h.execAndi
  | ori => exact h.execOri
  | xori => exact h.execXori
  | slli => exact h.execSlli
  | srli => exact h.execSrli
  | srai => exact h.execSrai
  | slti => exact h.execSlti
  | lw32 => exact h.execLw32
  | ld64 => exact h.execLd64
  | sw32 => exact h.execSw32
  | sd64 => exact h.execSd64
  | beq => exact h.execBeq
  | bne => exact h.execBne
  | blt => exact h.execBlt
  | bge => exact h.execBge
  | bltu => exact h.execBltu
  | bgeu => exact h.execBgeu
  | j => exact h.execJ
  | jr => exact h.execJr
  | liq => exact h.execLiq
  | tlds => exact h.execTlds
  | tmma => exact h.execTmma
  | tdrain => exact h.execTdrain
  | tzero => exact h.execTzero
  | tlda => exact h.execTlda
  | vadd => exact h.execVadd
  | vsub => exact h.execVsub
  | vmul => exact h.execVmul
  | vfma => exact h.execVfma
  | vmin => exact h.execVmin
  | vmax => exact h.execVmax
  | vabs => exact h.execVabs
  | vneg => exact h.execVneg
  | vcmpeq => exact h.execVcmpeq
  | vcmplt => exact h.execVcmplt
  | vcmple => exact h.execVcmple
  | vsel => exact h.execVsel
  | vand => exact h.execVand
  | vor => exact h.execVor
  | vxor => exact h.execVxor
  | viadd => exact h.execViadd
  | vishl => exact h.execVishl
  | visra => exact h.execVisra
  | vrcp => exact h.execVrcp
  | vrsqrt => exact h.execVrsqrt
  | vsqrt => exact h.execVsqrt
  | vexp2 => exact h.execVexp2
  | vlog2 => exact h.execVlog2
  | vexp => exact h.execVexp
  | vlog => exact h.execVlog
  | vtanh => exact h.execVtanh
  | vredadd => exact h.execVredadd
  | vredmax => exact h.execVredmax
  | vcvtin => exact h.execVcvtin
  | vcvtout => exact h.execVcvtout
  | vmxenc => exact h.execVmxenc
  | vmxdec => exact h.execVmxdec
  | vld => exact h.execVld
  | vst => exact h.execVst
  | vldn => exact h.execVldn
  | vstn => exact h.execVstn
  | vbcast => exact h.execVbcast
  | vext => exact h.execVext
  | sld => exact h.execSld
  | sst => exact h.execSst
  | sacc => exact h.execSacc
  | streamComplete => exact h.execStreamComplete
  | qpop => exact h.execQpop
  | qrel => exact h.execQrel
  | qsend => exact h.execQsend
  | qcnt => exact h.execQcnt
  | dnext => exact h.execDnext
  | dpass => exact h.execDpass
  | ddone => exact h.execDdone
  | dstat => exact h.execDstat
  | ssig => exact h.execSsig
  | swait => exact h.execSwait
  | cargs => exact h.execCargs
  | idRead => exact h.execIdRead
  | nop => exact h.execNop
  | step => exact h.execStep
  | bnd => exact h.execBnd
  | sfence => exact h.execSfence
  | fault => exact h.execFault
  | rdShared => exact h.execRdShared
  | rdOwn => exact h.execRdOwn
  | rdUncached => exact h.execRdUncached
  | wrUncached => exact h.execWrUncached
  | wrBack => exact h.execWrBack
  | evict => exact h.execEvict
  | recallAck => exact h.execRecallAck
  | recallData => exact h.execRecallData
  | recallTimeoutExpiry => exact h.execRecallTimeoutExpiry
  | biconflict _ _ reqFirst => exact h.execBiconflict (_reqFirst := reqFirst)
  | respData => exact h.execRespData
  | resp => exact h.execResp
  | ublUnknownOpcode _ _ _ _ opcode => exact h.execUblUnknownOpcode (_opcode := opcode)
  | bar2Read => exact h.execBar2Read
  | bar2Write => exact h.execBar2Write
  | datapathParityError => exact h.execDatapathParityError
  | lockTimeoutExpiry => exact h.execLockTimeoutExpiry
  | completionTimeout => exact h.execCompletionTimeout
  | lateCompletion => exact h.execLateCompletion
  | tagQuarantineExpiry => exact h.execTagQuarantineExpiry
  | refill => exact h.execRefill
  | arbCommit => exact h.execArbCommit
  | shadow => exact h.execShadow
  | budgetWrite => exact h.execBudgetWrite
  | capWrite => exact h.execCapWrite
  | q0ReservePct => exact h.execQ0ReservePct
  | classPartitions => exact h.execClassPartitions
  | lsClass => exact h.execLsClass
  | epochEnd => exact h.execEpochEnd
  | placementInvocation => exact h.execPlacementInvocation
  | migrationCopyDone => exact h.execMigrationCopyDone
  | t3ProgramDone => exact h.execT3ProgramDone
  | readDisturbRelocate _ blk => exact h.execReadDisturbRelocate (_blk := blk)
  | retentionRefresh _ blk => exact h.execRetentionRefresh (_blk := blk)
  | wearLevel => exact h.execWearLevel
  | flashBlockRetire => exact h.execFlashBlockRetire
  | tierReservationWrite => exact h.execTierReservationWrite
  | lend => exact h.execLend
  | sharedEnable => exact h.execSharedEnable
  | hostSlot => exact h.execHostSlot
  | chQuota => exact h.execChQuota
  | programImage => exact h.execProgramImage
  | program => exact h.execProgram
  | pipeline => exact h.execPipeline
  | clusterRetire => exact h.execClusterRetire
  | clusterReset => exact h.execClusterReset
  | enable => exact h.execEnable
  | fence => exact h.execFence
  | reset => exact h.execReset
  | eqEnable => exact h.execEqEnable
  | eqAck => exact h.execEqAck
  | eventHeldWrite => exact h.execEventHeldWrite
  | memorySpaceEnable => exact h.execMemorySpaceEnable
  | busMasterEnable => exact h.execBusMasterEnable
  | interruptDisable => exact h.execInterruptDisable
  | powerState => exact h.execPowerState
  | initiateFlr => exact h.execInitiateFlr
  | functionResetDone => exact h.execFunctionResetDone
  | hotReset => exact h.execHotReset
  | dlDown => exact h.execDlDown
  | linkTrainingDone => exact h.execLinkTrainingDone
  | retrain => exact h.execRetrain
  | bypassForce => exact h.execBypassForce
  | ringRetryExpiry => exact h.execRingRetryExpiry
  | cxlReleaseDynamicCapacity => exact h.execCxlReleaseDynamicCapacity
  | cxlAddDynamicCapacityResponse => exact h.execCxlAddDynamicCapacityResponse
  | identifyMemoryDevice => exact h.execIdentifyMemoryDevice
  | getSupportedLogs => exact h.execGetSupportedLogs
  | getLog => exact h.execGetLog
  | getEventRecords => exact h.execGetEventRecords
  | clearEventRecords => exact h.execClearEventRecords
  | getEventInterruptPolicy => exact h.execGetEventInterruptPolicy
  | setEventInterruptPolicy => exact h.execSetEventInterruptPolicy
  | getPoisonList => exact h.execGetPoisonList
  | getDynamicCapacityConfiguration => exact h.execGetDynamicCapacityConfiguration
  | getDynamicCapacityExtentList => exact h.execGetDynamicCapacityExtentList
  | globalPersistentFlush => exact h.execGlobalPersistentFlush
  | attnButtonPress => exact h.execAttnButtonPress
  | bayQuiesceTimer => exact h.execBayQuiesceTimer
  | bayCtrl => exact h.execBayCtrl
  | cartridgeRemoved => exact h.execCartridgeRemoved
  | cartridgeSurpriseRemoval => exact h.execCartridgeSurpriseRemoval
  | powerFault => exact h.execPowerFault
  | cartridgeInserted => exact h.execCartridgeInserted
  | cartridgeSettleTimer => exact h.execCartridgeSettleTimer
  | cartridgeCheckDone => exact h.execCartridgeCheckDone
  | rebuildDone => exact h.execRebuildDone
  | lockstepMismatch => exact h.execLockstepMismatch
  | larkspurWatchdogExpiry => exact h.execLarkspurWatchdogExpiry
  | scrubRead => exact h.execScrubRead
  | deadheadAdd => exact h.execDeadheadAdd
  | recommendDismiss => exact h.execRecommendDismiss
  | dupWindowStart => exact h.execDupWindowStart
  | iftDue => exact h.execIftDue
  | iftDeferExpiry => exact h.execIftDeferExpiry
  | iftDone => exact h.execIftDone
  | moduleId => exact h.execModuleId
  | pairRole => exact h.execPairRole
  | mirrorRange => exact h.execMirrorRange
  | pairEnable => exact h.execPairEnable
  | leaseRenew => exact h.execLeaseRenew
  | leaseExpiry => exact h.execLeaseExpiry
  | partnerSilent => exact h.execPartnerSilent
  | heartbeatTimer => exact h.execHeartbeatTimer
  | heartbeat => exact h.execHeartbeat
  | log => exact h.execLog
  | logAck => exact h.execLogAck
  | nack => exact h.execNack
  | repairRead => exact h.execRepairRead
  | repairData => exact h.execRepairData
  | resync => exact h.execResync
  | resyncSend => exact h.execResyncSend
  | ringFrameForward => exact h.execRingFrameForward
  | handover => exact h.execHandover
  | mirrorFormatCommit => exact h.execMirrorFormatCommit
  | enwaryOpen => exact h.execEnwaryOpen
  | auth => exact h.execAuth
  | authTimeout => exact h.execAuthTimeout
  | close => exact h.execClose
  | keepalive => exact h.execKeepalive
  | enwaryRead => exact h.execEnwaryRead
  | enwaryWrite => exact h.execEnwaryWrite
  | readClear => exact h.execReadClear
  | describe => exact h.execDescribe
  | enumerate => exact h.execEnumerate
  | segBegin => exact h.execSegBegin
  | segData => exact h.execSegData
  | segEnd _ crc => exact h.execSegEnd (_crc := crc)
  | segmentTimeout => exact h.execSegmentTimeout
  | subscribe => exact h.execSubscribe
  | notifyAck => exact h.execNotifyAck
  | notifyResend => exact h.execNotifyResend
  | sessionIdleExpiry => exact h.execSessionIdleExpiry
  | networkConfigApply => exact h.execNetworkConfigApply
  | mbRead => exact h.execMbRead
  | mbWrite => exact h.execMbWrite
  | mbReadClear => exact h.execMbReadClear
  | mbDescribe => exact h.execMbDescribe
  | entdaa => exact h.execEntdaa
  | setEndpointId => exact h.execSetEndpointId
  | getEndpointId => exact h.execGetEndpointId
  | getEndpointUuid => exact h.execGetEndpointUuid
  | getMctpVersionSupport => exact h.execGetMctpVersionSupport
  | getMessageTypeSupport => exact h.execGetMessageTypeSupport
  | getVendorDefinedMessageSupport => exact h.execGetVendorDefinedMessageSupport
  | getTid => exact h.execGetTid
  | setTid => exact h.execSetTid
  | getPldmVersion => exact h.execGetPldmVersion
  | getPldmTypes => exact h.execGetPldmTypes
  | getPldmCommands => exact h.execGetPldmCommands
  | getPdrRepositoryInfo => exact h.execGetPdrRepositoryInfo
  | getPdr => exact h.execGetPdr
  | getSensorReading => exact h.execGetSensorReading
  | getSensorThresholds => exact h.execGetSensorThresholds
  | setEventReceiver => exact h.execSetEventReceiver
  | getVersion => exact h.execGetVersion
  | getCapabilities => exact h.execGetCapabilities
  | negotiateAlgorithms => exact h.execNegotiateAlgorithms
  | getDigests => exact h.execGetDigests
  | getCertificate => exact h.execGetCertificate
  | spdmChallenge => exact h.execSpdmChallenge
  | getMeasurements => exact h.execGetMeasurements
  | perstAssert => exact h.execPerstAssert
  | perstDeassert => exact h.execPerstDeassert
  | startStageDone => exact h.execStartStageDone
  | startTimeout => exact h.execStartTimeout
  | stageWatchdog => exact h.execStageWatchdog
  | startRetryTimer => exact h.execStartRetryTimer
  | restart => exact h.execRestart
  | startFailCount => exact h.execStartFailCount
  | updateBegin => exact h.execUpdateBegin
  | updateEraseDone => exact h.execUpdateEraseDone
  | updateData => exact h.execUpdateData
  | updateCommit => exact h.execUpdateCommit
  | imageConfirm => exact h.execImageConfirm
  | minSvn => exact h.execMinSvn
  | recoveryBegin => exact h.execRecoveryBegin
  | recoveryWrite => exact h.execRecoveryWrite
  | recoveryCommit => exact h.execRecoveryCommit
  | recoveryRestart => exact h.execRecoveryRestart
  | recoveryRestartTimer => exact h.execRecoveryRestartTimer
  | clearFails => exact h.execClearFails
  | credSlot => exact h.execCredSlot
  | pairPeer => exact h.execPairPeer
  | inputUndervoltage => exact h.execInputUndervoltage
  | pllLockLoss => exact h.execPllLockLoss
  | standbyPowerLoss => exact h.execStandbyPowerLoss
  | powerWindow => exact h.execPowerWindow
  | throttleForce => exact h.execThrottleForce
  | sensorThreshold => exact h.execSensorThreshold
  | registerWrite => exact h.execRegisterWrite
  | flitCrcError => exact h.execFlitCrcError
  | standbyPowerRestored => exact h.execStandbyPowerRestored
  | larkspurRestartDone => exact h.execLarkspurRestartDone
  | refreshFailure => exact h.execRefreshFailure
  | extentClearDone => exact h.execExtentClearDone
  | entropyHealthFailure => exact h.execEntropyHealthFailure
  | keyDrawTimeout => exact h.execKeyDrawTimeout

theorem step_canon {s : State} (h : s.dev.Canon) : Dev.CanonNext (step s) := by
  cases hp : s.pending with
  | nil =>
    unfold step
    rw [hp]
    rintro _ ⟨⟩
    exact h.commitDone
  | cons i rest =>
    unfold step
    rw [hp]
    exact exec_canon (s := { s with pending := rest }) h i

/-- Settles O11, by one lemma for each function of the model that a step reaches: each keeps the canonical form, because it leaves
the stored bytes alone, writes or clears them by `cellsPut` or `cellsClear`, or is built of functions that keep it. -/
theorem memoryCanonicalKept : Obligations.MemoryCanonicalKept := by
  intro s t canonical next
  exact step_canon (s := s) canonical t next

end Sys2Proof.Machine
end
